-- ==== Sys2Proof/Word.lean ====
section
/-! DEFINITION. The plain words of the model: bytes, register words and the sparse tables that hold per-index state. -/

namespace Sys2Proof

/-- A byte of a structure, of a message or of head DRAM. -/
abbrev Byte := BitVec 8

/-- A register word. A 32-bit register uses the low half (R7). -/
abbrev Word := BitVec 64

/-- A run of bytes in the order in which they lie or travel. -/
abbrev Bytes := List Byte

/-- Sparse data by key: entries in strictly rising key order, none equal to what an unlisted key reads as.
The default is given where a table is read or written, so a table that lists nothing is the state after reset. -/
abbrev Tab (α : Type) := List (Nat × α)

/-- An internal status word (R10): bits 15:8 hold the class, bits 7:0 the code. Zero means success. -/
abbrev Status := Nat

end Sys2Proof
end

