-- ==== Sys2Proof/Machine/State/Faults.lean ====
section
/-! DEFINITION. Channels, their error windows, the scrap list and the event log (R375 to R387). -/

namespace Sys2Proof.Machine

/-- A channel: its KIND and INDEX of Table 17.1 (R375). -/
structure Chan where
  kind : Nat
  index : Nat
deriving DecidableEq, Repr

/-- A channel's key in the tables of this model: the KIND and INDEX of a scrap-list entry side by side. -/
def Chan.key (c : Chan) : Nat := c.kind * 2 ^ 24 + c.index

/-- A channel's error window (R376). -/
structure Window where
  opened : Bool := false
  start : Nat := 0
  count : Nat := 0
deriving DecidableEq, Repr

/-- An entry of the scrap list (Table 17.2). -/
structure ScrapEntry where
  kind : Nat
  index : Nat
  cause : Nat
  errors : Nat
  status : Status
  time : Nat
  quality : Nat
  clear : Bool
  lapse : Bool
  seq : Nat
deriving DecidableEq, Repr

/-- What an event record reports. The spec gives no EVENT numbers (Table 17.4), so the model names the events. [DESIGN CHOICE: notes/assumptions/5.md] -/
inductive EventName
  | channelError | retry | transientCleared | channelRetired | noSibling | scrapFull | lineRate | scrapLost
  | modeChange | formeRejected | laneReplaced | classShort | reservedIgnored | formePending | labRefused
  | guardHold | guardResume | unprotEnter | unprotExit | bellowsFault | galleyLost | vaultUnusable
  | galleySize | joinMismatch | bindFail | versionFail | memberMissing | moduleFault | moduleRefused | moduleAdmitted | linkSlow
  | thermal | timeQuality | timeSource | refChange | retentionFail | bankAbort | activationMismatch | activationWait | fellBack | confirmed
  | filterFull | collision | auditDone | sortSuspect | checkRepair | pageRepair | tagScan | lostStripe | lostExtent | mended | capacity
  | keyWarn | keyMissing | tagFail | replication | sessionBroken | takeoverDone | bundleLost | bundleUp | strikeDone | wearMove | updateRefused
deriving DecidableEq, Repr

/-- An event record (Table 17.4), its EVENT code as a name. -/
structure EventRec where
  time : Nat
  quality : Nat
  severity : Nat
  source : Nat
  event : EventName
  status : Status
  seq : Nat
  kind : Nat
  index : Nat
  args : List Nat
deriving DecidableEq, Repr

/-- A fault that a lane or another channel has been found to have, as it is reported to the steward that decides on it (R16): the channel and the status, the tag of the job it spoiled, that job's last checkpoint in bytes of its segment taken in, and the line with its steward's domain. -/
structure FaultReport where
  chan : Chan
  status : Status
  job : Option Nat := none
  checkpoint : Nat := 0
  line : Option Nat := none
  steward : Nat := 0
deriving DecidableEq, Repr

/-- Faults as a whole. `scrap` is the working copy, by slot; `vaultA` and `vaultB` the durable copies; `writing` entries not yet durable; `out` every channel out of service, `atSeal` the vault channels that failed during a dump, `unacked` the alarms not yet acknowledged over PLDM with the time each was last sent (R426), `reported` the errors that blocks have found and that await their classification; `scrapLost` that neither vault copy could be read, and `partnerCopy` what the partner has sent back of the list since (R383). [DESIGN CHOICE: notes/assumptions/30.md] -/
structure Faults where
  windows : Tab Window := []
  scrap : Tab ScrapEntry := []
  vaultA : Option (Tab ScrapEntry) := some []
  vaultB : Option (Tab ScrapEntry) := some []
  partnerCopy : Tab ScrapEntry := []
  writing : List Nat := []
  scrapSeq : Nat := 0
  out : List Chan := []
  atSeal : List (Chan × Status) := []
  log : Tab EventRec := []
  eventSeq : Nat := 0
  unacked : Tab Nat := []
  reported : List FaultReport := []
  scrapLost : Bool := false
deriving DecidableEq, Repr

end Sys2Proof.Machine
end

