-- ==== Sys2Proof/Machine/State/Matrix.lean ====
section
/-! DEFINITION. State of Matrix: halves, filters, index, grain tables, pins (R181 to R202). -/

namespace Sys2Proof.Machine

/-- STATE of a grain-table entry (Table 9.3). Deferred-pending is a grain allocated in a half that is Loading or Borrowed and not yet placed (R194). -/
inductive GrainState
  | free | inFlight | live | deferred | deferredPending | isAlias | lost
deriving DecidableEq, Repr

/-- A grain-table entry (Table 9.2), with its fingerprint record (R187). `placer` is the head that places it (R194), `pins` its pins as (head, piece stamp) pairs (R190). `wide` is the 64-bit count while OVF is set (R189). -/
structure Grain where
  state : GrainState := .free
  gen : Nat := 0
  nextFree : Nat := 0
  sheet : Nat := 0
  offset : Nat := 0
  units : Nat := 0
  aliasOf : Nat := 0
  fpalg : Nat := 0
  ovf : Bool := false
  noindex : Bool := false
  refcnt : Nat := 0
  wide : Nat := 0
  fp : Option Bytes := none
  realm : Nat := 0
  placer : Option Nat := none
  pins : List (Nat × Nat) := []
deriving DecidableEq, Repr

/-- An index entry (Table 9.5). -/
structure IndexEntry where
  fp : Bytes
  gid : Nat
  realm : Nat
  fpalg : Nat
deriving DecidableEq, Repr

/-- An index bucket chain: the entries and the journal sequence of the last change applied (R193). -/
structure Bucket where
  entries : List IndexEntry := []
  seq : Nat := 0
deriving DecidableEq, Repr

/-- State of a half at this head, as MTX_HALF codes it. -/
inductive HalfState
  | partner | loading | loaded | borrowed | returning
deriving DecidableEq, Repr

/-- State of a half as a number. -/
def HalfState.code : HalfState → Nat
  | .partner => 0 | .loading => 1 | .loaded => 2 | .borrowed => 3 | .returning => 4

/-- One half at this head. The filter is the multiset of (home slot, remainder) pairs that it holds (R191); `deferred` lists the deferred ranges (R199), `removal` the removal queue (R195), `peerHolds` that the partner still holds the half while this head loads it (R201), `freed` the grains whose Free record is durable and that are not yet in the free chain (R188), `deltas` says that the partner is sent each change of the half while it loads it (R201). -/
structure Half where
  state : HalfState := .partner
  grains : Tab Grain := []
  buckets : Tab Bucket := []
  filter : List (Nat × Nat) := []
  slots : Nat := 0
  closed : Bool := false
  high : Bool := false
  hwm : Nat := 0
  freeHead : Nat := 0
  freeTail : Nat := 0
  deferred : List (Nat × Nat) := []
  removal : List IndexEntry := []
  freed : List Nat := []
  peerHolds : Bool := false
  deltas : Bool := false
  loadPct : Nat := 0
deriving DecidableEq, Repr

/-- A query to the partner that has not been answered (R198): its request fields (Table 9.6), the piece it serves by descriptor and descriptor generation with the grain index there, and whether a credit let it go out. -/
structure Query where
  op : Nat
  tag : Nat
  fp : Bytes := []
  realm : Nat := 0
  fpalg : Nat := 0
  units : Nat := 0
  gid : Nat := 0
  addr : Nat := 0
  old : Nat := 0
  piece : Option (Nat × Nat) := none
  index : Nat := 0
  sent : Bool := false
deriving DecidableEq, Repr

/-- Matrix as a whole; `placing` lists grains whose sort is on flash and whose address is not yet durably recorded (R196), with true once it is. -/
structure Matrix where
  half0 : Half := {}
  half1 : Half := {}
  outstanding : List Query := []
  nextTag : Nat := 0
  placing : List (Nat × Bool) := []
  partnerSlots : Nat := 0
deriving DecidableEq, Repr

end Sys2Proof.Machine
end

