-- ==== Sys2Proof/Machine/State/Temper.lean ====
section
/-! DEFINITION. State of Temper: key records, the key tiers, nonce counters and jobs (R225 to R248). -/

namespace Sys2Proof.Machine

/-- STATE of a key record (Table 11.3); a Free record is not listed. -/
inductive KeyState
  | installing | current | live | sweeping | destroying
deriving DecidableEq, Repr

/-- STATE as a number (Table 11.3). -/
def KeyState.code : KeyState → Nat
  | .installing => 1 | .current => 2 | .live => 3 | .sweeping => 4 | .destroying => 5

/-- A key record (Table 11.3). `tier` says that the wrapped tier of this head holds it (R228), `second` is the second copy of WRAPPED when it differs from the first (R229). -/
structure KeyRec where
  state : KeyState
  imported : Bool := false
  epoch0 : Nat := 0
  epoch1 : Nat := 0
  len : Nat := 32
  wrapped : Bytes := []
  second : Option Bytes := none
  tier : Bool := true
deriving DecidableEq, Repr

/-- A counter of this head for a key (R235): the next value, the journalled mark, the mark that is being journalled, and whether an epoch waits to become durable. -/
structure NonceCtr where
  next : Nat := 0
  hwm : Nat := 0
  journalling : Option Nat := none
  epochWait : Option Nat := none
  marked : Bool := false
  warned : Bool := false
  exhausted : Bool := false
deriving DecidableEq, Repr

/-- A Temper job: its descriptor's fields (Table 11.7), its text, its auxiliary record, the counter value drawn when it started, and whether it has started: a pair that has taken a job may still wait for its key or its counter value. -/
structure CipherJob where
  tag : Nat
  line : Nat
  mode : Nat
  dec : Bool
  cls : Nat
  srcLen : Nat
  key : Nat
  tweak : Nat
  aadLen : Nat
  src : Bytes
  aux : Bytes
  counter : Nat := 0
  started : Bool := false
  dst : Nat := 0
  desc : Bytes := []
deriving DecidableEq, Repr

/-- What a Temper job wrote back: STATUS, OUT_LEN, NONCE_CTR, its output, which goes to DST, its auxiliary record, which goes to TWEAK_AUX, and its descriptor with the fields written back (Table 11.7). -/
structure CipherResult where
  tag : Nat
  status : Nat
  outLen : Nat := 0
  counter : Nat := 0
  out : Bytes := []
  aux : Bytes := []
  dst : Nat := 0
  desc : Bytes := []
deriving DecidableEq, Repr

/-- Temper as a whole. `keys` and `counters` are keyed by handle, `stores` list a cluster's unwrapped keys and `slots` a pair's expanded keys, the most recently used first; `queued` holds jobs by cluster in order of arrival, `running` by pair, `held` the jobs that a steward holds after 0x0602 or 0x0603; `sweep` is the data generation being swept (R231), and `backMarks` the marks of this head that the partner sent back (R236). -/
structure Temper where
  keys : Tab KeyRec := []
  counters : Tab NonceCtr := []
  stores : Tab (List Nat) := []
  slots : Tab (List Nat) := []
  queued : List (Nat × CipherJob) := []
  running : Tab CipherJob := []
  held : List (Nat × CipherJob) := []
  results : List CipherResult := []
  sweep : Option Nat := none
  backMarks : List (Nat × Nat × Nat) := []
deriving DecidableEq, Repr

end Sys2Proof.Machine
end

