-- ==== Sys2Proof/Machine/State/Volume.lean ====
section
/-! DEFINITION. Volumes and their maps (Table 13.6, R288), with what Stereotype adds for families, snapshots and clones. -/

namespace Sys2Proof.Machine

/-- STATE of a volume record (Table 13.6). -/
inductive VolState
  | free | live | deleting
deriving DecidableEq, Repr

/-- What a grain index maps to: a grain ID, 0 for ZERO, and the application tag of its extent (R288). [DEDUCED: notes/assumptions/28.md] -/
structure Cell where
  gid : Nat := 0
  tag : Nat := 0
deriving DecidableEq, Repr

/-- A volume record (Table 13.6) with its map by grain index; an index that is not listed reads as ZERO with tag 0 (R288). `pages` names the leaf pages in key order, each as its lowest grain index and its identity, which volumes of one family share (R325, R326). `family`, `stamp` and `parent`, the volume whose roots it took (R325), serve Stereotype; `walk` is how many pages a deletion walk has passed (R330); `fwdId` and `fwdHead` stand in the VOLUME record of a forwarded create (R68). `nums` gives the logical page of each node by its level and lowest key (as level times 2^40 plus the key), and `dirRoot` and `dirDepth` are the node object's root and depth (R285). [DEDUCED: notes/assumptions/28.md] -/
structure Volume where
  nsid : Nat := 0
  realm : Nat := 0
  cls : Nat := 0
  state : VolState := .free
  holder : Nat := 0
  lbaf : Nat := 0
  piType : Nat := 0
  ext : Bool := false
  piFirst : Bool := true
  guard64 : Bool := false
  lbas : Nat := 0
  map : Tab Cell := []
  family : Nat := 0
  parent : Nat := 0
  snapshot : Bool := false
  stamp : Nat := 0
  walk : Nat := 0
  fwdId : Nat := 0
  fwdHead : Nat := 0
  pages : List (Nat × Nat) := []
  nums : Tab Nat := []
  dirRoot : Nat := 0
  dirDepth : Nat := 0
deriving DecidableEq, Repr

/-- A lost extent (R305): the namespace and LBAs, the cause code of Table 13.17, when it was listed, the stamp below which no version serves it (R106), and whether the log had room for it. -/
structure LostExtent where
  nsid : Nat
  slba : Nat
  nlb : Nat
  cause : Nat
  time : Nat
  stamp : Nat
  listed : Bool
deriving DecidableEq, Repr

/-- Bytes of data per logical block of a format code (Table 6.3). -/
def lbafData (f : Nat) : Nat := if f ≤ 2 then 512 else 4096

/-- Bytes of metadata per logical block of a format code (Table 6.3). -/
def lbafMeta (f : Nat) : Nat := match f % 3 with | 0 => 0 | 1 => 8 | _ => 16

end Sys2Proof.Machine
end

