-- ==== Sys2Proof/Machine/State/Media.lean ====
section
/-! DEFINITION. State of Hearth: plates, sheets, stripes being packed and in flight, the map journal, what flash holds, descaling, audit and health (R249 to R305). -/

namespace Sys2Proof.Machine

/-- STATE of a plate record (Table 13.1). -/
inductive PlateState
  | free | member | toErase | retired | galleyLog | anchor
deriving DecidableEq, Repr

/-- STATE of a plate record as a number. -/
def PlateState.code : PlateState → Nat
  | .free => 0 | .member => 1 | .toErase => 2 | .retired => 3 | .galleyLog => 4 | .anchor => 5

/-- A plate record (Table 13.1). Plates are keyed module × 2^25 + plate. -/
structure Plate where
  state : PlateState := .free
  erases : Nat := 0
  sheet : Nat := 0
deriving DecidableEq, Repr

/-- STATE of a sheet (Table 13.3). -/
inductive SheetState
  | free | opened | closed | toErase
deriving DecidableEq, Repr

/-- STATE of a sheet as a number. -/
def SheetState.code : SheetState → Nat
  | .free => 0 | .opened => 1 | .closed => 2 | .toErase => 3

/-- What an open sheet serves (R280). The second map sheet receives key copy B (R285). -/
inductive Role
  | refine | descale | map | mapB | reshape | relocate
deriving DecidableEq, Repr

/-- A record of a sort list (R283). -/
structure SortRec where
  gid : Nat
  offset : Nat
  units : Nat
deriving DecidableEq, Repr

/-- The fields of a sort that its header carries beside its grain ID and epoch, and its cipher area (Tables 7.3 and 7.4). -/
structure SortBody where
  volume : Nat
  hint : Nat
  realm : Nat
  length : Nat
  lbaf : Nat
  trailerLen : Nat
  piType : Nat
  comp : Bool
  defer : Bool
  repaired : Bool
  keyGen : Nat
  cipher : Bytes
deriving DecidableEq, Repr

/-- Why a sort or page is packed: a sort's first placement, a move of its grain away from an address (Table 9.7), the mend of a lost grain (R272), its encryption under a new key (R231), or the writing of a metadata page (R282). -/
inductive PackFor
  | place
  | move (old : Nat)
  | mend (old : Nat)
  | sweep (old : Nat)
  | page
deriving DecidableEq, Repr

/-- A metadata page (R284): its header fields and its body. SEQ's place in the stripe's epoch is filled when the stripe is written. -/
structure Page where
  type : Nat
  level : Nat
  object : Nat
  head : Nat
  number : Nat
  seq : Nat
  body : Bytes
deriving DecidableEq, Repr

/-- A live metadata page and its address. `tree` tells the trees of one object code apart: the volume whose directory names the page for code 4, the half for codes 5 to 8, and 0 otherwise (R285). -/
structure PageSlot where
  tree : Nat
  page : Page
  addr : Nat
deriving DecidableEq, Repr

/-- What is packed into a stripe: a sort, or a metadata page (R282). -/
inductive PackBody
  | sort (b : SortBody)
  | page (p : Page)
deriving DecidableEq, Repr

/-- A sort or page packed into a stripe; a page has no grain. -/
structure Packed where
  gid : Nat
  offset : Nat
  units : Nat
  why : PackFor
  body : PackBody
deriving DecidableEq, Repr

/-- The open stripe of a sheet (R282): its number, its epoch (R253), the units filled, and when its first sort was packed. -/
structure OpenStripe where
  stripe : Nat
  epoch : Nat
  fill : Nat
  firstAt : Nat
  sorts : List Packed
deriving DecidableEq, Repr

/-- A sheet-table entry (Table 13.2), with its sort list, the role and the stripe it has open, the members that are missing (R264) with the spares they are rebuilt onto (R265), when its MOVE records were made (R299), the next stripe to open, and the SEQ of its To erase record. -/
structure Sheet where
  state : SheetState := .free
  isMap : Bool := false
  head : Nat := 0
  cls : Nat := 0
  width : Nat := 0
  plateLog2 : Nat := 0
  descale : Bool := false
  writePoint : Nat := 0
  live : Nat := 0
  dead : Nat := 0
  opened : Nat := 0
  closed : Nat := 0
  sorts : List SortRec := []
  members : List (Nat × Nat) := []
  role : Role := .refine
  cur : Option OpenStripe := none
  missing : List Nat := []
  spares : List (Nat × (Nat × Nat)) := []
  movedAt : Nat := 0
  next : Nat := 0
  eraseSeq : Nat := 0
deriving DecidableEq, Repr

/-- How far the writing of a stripe has come (R260): it waits at step 2 for a place or for its OPEN record, its stripe job is out, its chunks are sent. -/
inductive FlightPhase
  | waitSlot | waitOpen | parity | sent | closeWritten
deriving DecidableEq, Repr

/-- A stripe between its close and the end of its CLOSE record (R260, Table 12.5); `spoiled` lists the members whose WRITE timed out and left a chunk that does not agree (R312, Table 12.6). -/
structure Flight where
  sheet : Nat
  stripe : Nat
  epoch : Nat
  width : Nat
  head : Nat
  phase : FlightPhase
  sorts : List Packed
  confirmed : List Nat
  seq : Nat
  spoiled : List Nat := []
deriving DecidableEq, Repr

/-- STATE of a lost-stripe entry (Table 12.8); a Free entry is not listed. -/
inductive LostState
  | mending | lost | mended
deriving DecidableEq, Repr

/-- A lost-stripe entry (Table 12.8); `grains` names its grains that are not yet mended, whose number is LEFT. -/
structure LostStripe where
  sheet : Nat
  stripe : Nat
  missing : List Nat
  state : LostState
  head : Nat
  count : Nat
  found : Nat
  grains : List Nat
deriving DecidableEq, Repr

/-- A map-journal record (Table 13.9). An address stands as SHEET × 2^32 + OFFSET. -/
inductive JRec
  | extent (volume g n tag : Nat) (zero remove : Bool) (gid : Nat)
  | alloc (gid freeHead : Nat)
  | place (gid addr units : Nat) (state : GrainState) (fpalg : Nat) (noindex : Bool)
  | move (gid old new units : Nat)
  | ref (gid : Nat) (delta : Int)
  | free (gid : Nat)
  | aliasTo (gid target count : Nat)
  | indexIns (fp : Bytes) (gid realm fpalg : Nat)
  | indexDel (fp : Bytes) (gid realm fpalg : Nat)
  | ovf (gid count : Nat)
  | sheetOpen (id : Nat) (isMap : Bool) (cls width log2 : Nat) (members : List (Nat × Nat))
  | sheet (id : Nat) (state : SheetState) (member : Option (Nat × (Nat × Nat))) (head : Nat)
  | plate (module plate : Nat) (rec : Plate)
  | lost (entry : Nat) (e : Option LostStripe)
  | key (slot : Nat) (rec : Option KeyRec)
  | volume (num : Nat) (v : Volume) (fwdId fwdHead : Nat)
  | ckpt (seq seqEnd anchor pos : Nat)
deriving DecidableEq, Repr

/-- What waits for a batch to become durable. -/
inductive After
  | applied (desc : Nat)
  | placed (gid : Nat)
  | freed (gid : Nat)
  | moved (sheet : Nat)
  | transit
  | answer (chan tag gid result : Nat)
  | finish (slot : Nat)
  | family (fwd : Option Nat) (volume : Nat)
deriving DecidableEq, Repr

/-- A batch of records (R290): the SEQ of its END record, its records, and what waits for it. `off` is its offset in the control area (Table 6.2); `sent` says that it went to the partner, `held` that RING_ACK covers it there (R349), `inLog` that it went out to the galley log (R129). -/
structure Batch where
  seq : Nat
  recs : List JRec
  after : List After := []
  off : Nat := 0
  sent : Bool := false
  held : Bool := false
  inLog : Bool := false
deriving DecidableEq, Repr

/-- What the metadata objects on flash hold (Table 13.5), as the latest checkpoints of both heads name them; `slots` are the pages that this head's checkpoint reaches, with their addresses. -/
structure Image where
  vols : Tab Volume := []
  grains0 : Tab Grain := []
  grains1 : Tab Grain := []
  buckets0 : Tab Bucket := []
  buckets1 : Tab Bucket := []
  chain0 : Nat × Nat := (0, 0)
  chain1 : Nat × Nat := (0, 0)
  hwm0 : Nat := 0
  hwm1 : Nat := 0
  sheets : Tab Sheet := []
  plates : Tab Plate := []
  lostStripes : Tab LostStripe := []
  keys : Tab KeyRec := []
  slots : List PageSlot := []
deriving DecidableEq, Repr

/-- A checkpoint's own fields (Table 13.10); `roots` lists (object code, root address, depth). -/
structure Ckpt where
  seq : Nat := 0
  seqEnd : Nat := 0
  stampHwm : Nat := 0
  epochMark : Nat := 0
  pairEpoch : Nat := 0
  hwm0 : Nat := 0
  hwm1 : Nat := 0
  roots : List (Nat × Nat × Nat) := []
  opens : List (Nat × Nat) := []
  lostTotal : Nat := 0
  freed : Nat := 0
  copied : Nat := 0
  takeovers : Nat := 0
deriving DecidableEq, Repr

/-- The map journal (R125, R290 to R294): the last SEQ given out, batches not yet durable, durable batches that no checkpoint covers, the ring's next unit, units gathered and the time of the last flush, the SEQ_END of the flush that runs, and whether another is due. `ckpt` is the durable checkpoint, `ckptAt` when it became so, and `image` what its pages hold. Of the flush that runs, `next` is what its pages hold, `sent` its checkpoint once that is written, and `acks` the anchor modules that have confirmed it. -/
structure Journal where
  seq : Nat := 0
  waiting : List Batch := []
  ring : List Batch := []
  pos : Nat := 0
  gathered : Nat := 0
  lastFlush : Nat := 0
  flush : Option Nat := none
  due : Bool := false
  ckpt : Ckpt := {}
  ckptAt : Nat := 0
  image : Image := {}
  next : Image := {}
  sent : Option Ckpt := none
  acks : List Nat := []
deriving DecidableEq, Repr

/-- Work at the front of the descaling queue (Table 13.12): a stripe (R270) or a sheet with a spoiled position (R262). -/
structure FrontItem where
  sheet : Nat
  stripe : Option Nat
deriving DecidableEq, Repr

/-- The sheet being descaled (R299): its rank, and the old address and grain of each copy made. -/
structure Descale where
  sheet : Nat
  rank : Nat
  copies : List (Nat × Nat × Nat)
  movesOut : Bool
deriving DecidableEq, Repr

/-- Health of a module, or of the array (Table 13.17): error counters by class, lifetime bins, the last days' bins, and bytes written. -/
structure Health where
  errors : Tab Nat := []
  life : Tab Nat := []
  days : List (Tab Nat) := []
  day : Nat := 0
  written : Nat := 0
deriving DecidableEq, Repr

/-- Hearth as a whole. `pages` are the live metadata pages (R284, R285). `anchors` are the two anchor plates as (module, plate), `anchorPos` their next free position in 4 KiB units, and `anchorOld` the plates that a new pair replaces and that it is not yet named beside; `freedIds` holds sheet IDs with the SEQ that freed them; `audit` holds the grains whose count reached 0 during an audit; `userC` is U and `spareC` S_0, both in hundredths of a byte. -/
structure Hearth where
  sheets : Tab Sheet := []
  plates : Tab Plate := []
  flights : List Flight := []
  inflightSeq : Nat := 0
  epoch : Nat := 0
  epochMark : Nat := 0
  journal : Journal := {}
  anchors : List (Nat × Nat) := []
  pages : List PageSlot := []
  anchorGen : Nat := 0
  anchorPos : Nat := 0
  anchorOld : Option (List (Nat × Nat)) := none
  freedIds : List (Nat × Nat) := []
  audit : Option (List Nat) := none
  descale : Option Descale := none
  front : List FrontItem := []
  wear : Option Nat := none
  lastWear : Nat := 0
  clearances : List Nat := []
  owed : List Nat := []
  userC : Nat := 0
  spareC : Int := 0
  spareLow : Bool := false
  health : Tab Health := []
  array : Health := {}
  nextPage : Nat := 1
  copiedUnits : Nat := 0
deriving DecidableEq, Repr

end Sys2Proof.Machine
end

