-- ==== Sys2Proof/Machine/State/Imposition.lean ====
section
/-! DEFINITION. State of Imposition: jobs, rebuild, lost stripes and reshape (R249 to R277). -/

namespace Sys2Proof.Machine

/-- What an Imposition job serves: a submitted descriptor, the parity of a stripe that Hearth closed (R149), the rebuild of a stripe (R265), or the reconstruction of a grain's sort, for a read or for a repair (R258). -/
inductive ImpFor
  | submitted
  | stripe (sheet stripe : Nat)
  | rebuild (sheet stripe : Nat)
  | recon (gid : Nat) (repair : Bool)
deriving DecidableEq, Repr

/-- An Imposition job: its descriptor's fields (Table 12.4) and the descriptor itself, the bytes of its sources in role order over the range it covers, and what it serves. -/
structure ImpJob where
  tag : Nat
  line : Nat
  op : Nat
  cls : Nat
  width : Nat
  missX : Nat
  missY : Nat
  two : Bool
  off : Nat
  len : Nat
  src : List Bytes
  desc : Bytes := []
  use : ImpFor := .submitted
deriving DecidableEq, Repr

/-- What an Imposition job wrote back: its outputs with the addresses they went to, and the descriptor with STATUS, DONE and the CRCs. -/
structure ImpResult where
  tag : Nat
  status : Status
  outA : Bytes := []
  outB : Bytes := []
  crcA : Nat := 0
  crcB : Nat := 0
  desc : Bytes := []
  dstA : Nat := 0
  dstB : Nat := 0
deriving DecidableEq, Repr

/-- A grain's sort that is being reconstructed (R258): its address and units, whether for a repair, which takes its own chunks as missing too (R165), and its bytes once the job has ended. -/
structure Recon where
  addr : Nat
  units : Nat
  repair : Bool
  out : Option Bytes := none
deriving DecidableEq, Repr

/-- The rebuild in progress (R265, R269): the sheet it has reached, and the next stripe. -/
structure Rebuild where
  sheet : Nat
  stripe : Nat
deriving DecidableEq, Repr

/-- A reshape (R274, R275): its list and boundary, the boundary written to the list's map sheet, whether the sheet at the boundary is in transit and the copies made of it, the class and widths of a width change, whether Takeover holds it, whether it is the partner's, adopted in Takeover (Table 12.10), and whether its transit restarts (R276). -/
structure Reshape where
  list : List Nat
  boundary : Nat := 0
  written : Nat := 0
  copies : List (Nat × Nat × Nat) := []
  movesOut : Bool := false
  migration : Bool
  cls : Nat := 0
  oldD : Nat := 0
  newD : Nat := 0
  paused : Bool := false
  held : Bool := false
  moveSeq : Nat := 0
  peers : Bool := false
  again : Bool := false
deriving DecidableEq, Repr

/-- A read that waits for the mend of a grain (R272): its task slot, the grain, and since when. -/
structure MendWait where
  slot : Nat
  gid : Nat
  since : Nat
deriving DecidableEq, Repr

/-- Imposition as a whole: `running` by unit, `queued` jobs in order of arrival, the lost-stripe table by entry number. `recon` lists the sorts that are being reconstructed by grain. After a takeover there may be two reshapes, whose lists alternate (Table 12.10): `reshape` is the one whose turn it is and `peerReshape` the other. -/
structure Imposition where
  running : Tab ImpJob := []
  queued : List ImpJob := []
  results : List ImpResult := []
  rebuild : Option Rebuild := none
  relocating : List Nat := []
  lostStripes : Tab LostStripe := []
  recon : Tab Recon := []
  waits : List MendWait := []
  reshape : Option Reshape := none
  peerReshape : Option Reshape := none
deriving DecidableEq, Repr

end Sys2Proof.Machine
end

