-- ==== Sys2Proof/Machine/State/Stereotype.lean ====
section
/-! DEFINITION. State of Stereotype: commands on volume families and replication sessions (R323 to R341). -/

namespace Sys2Proof.Machine

/-- STATE of a session (STE_SESS_STATUS). -/
inductive SessState
  | free | connecting | keying | idle | delta | catchingUp | inSync | broken | held
deriving DecidableEq, Repr

/-- STATE of a session as a number. -/
def SessState.code : SessState → Nat
  | .free => 0 | .connecting => 1 | .keying => 2 | .idle => 3 | .delta => 4 | .catchingUp => 5 | .inSync => 6 | .broken => 7 | .held => 8

/-- An entry of an EXTENTS record (Table 15.6): grain index, count, application tag, and the ZERO, REMOVE and DATA flags. -/
structure ExtEntry where
  g : Nat
  n : Nat
  tag : Nat
  zero : Bool
  remove : Bool
  data : Bool
deriving DecidableEq, Repr

/-- A delta in progress (R335): its ID, the base snapshots here and at the peer, the new snapshot, the ranges still to send, and the segment in progress with the bodies its digest covers; `bytes` counts the bodies of its GRAINS records. At a target `ready` holds the number of a segment whose digest matched, and `pieces` its pieces. -/
structure Delta where
  id : Nat
  base : Nat
  peerBase : Nat
  new : Nat
  left : List ExtEntry := []
  segment : Nat := 0
  exts : List ExtEntry := []
  digests : List Bytes := []
  have_ : List Bool := []
  grains : List (Nat × Bool × Bytes) := []
  bodies : Bytes := []
  bytes : Nat := 0
  pieces : List Nat := []
  ready : Option Nat := none
deriving DecidableEq, Repr

/-- What a synchronous source owes its target (R338): the WRITE records of the command of a stamp, or a sync mark with its ID and snapshot. `seq` is the SEQ of its last record once that has left, and `sentAt` when. -/
structure SyncOut where
  stamp : Nat
  pieces : List Nat := []
  mark : Option (Nat × Nat) := none
  seq : Nat := 0
  sentAt : Nat := 0
deriving DecidableEq, Repr

/-- A record that waits to be sealed (R334): its TYPE, its body, and the stamp whose last record it is, or 0. -/
structure ReplOut where
  type : Nat
  body : Bytes
  stamp : Nat := 0
deriving DecidableEq, Repr

/-- A replication session (Table 15.4, R340). `base` is the base pair, `indexVol` the volume that holds the realm's replica index (R336), `segment` the last acknowledged segment, `out` what a synchronous source owes and no WRITE_ACK covers, `outq` the records that wait to be sealed, `parts` the records of a WRITE whose END has not arrived, `marks` the sync marks out, `myKey` the ephemeral scalar, `started` that DELTA_BEGIN of the delta in progress has gone out, `switching` that the switch snapshot has been stamped, `link` that the connection is up, `keyed` that its records are sealed. [DEDUCED: notes/assumptions/51.md] -/
structure Session where
  state : SessState := .free
  sync : Bool := false
  isTarget : Bool := false
  strict : Bool := false
  volume : Nat := 0
  realm : Nat := 0
  indexGib : Nat := 0
  indexVol : Nat := 0
  lport : Nat := 0
  timeoutMs : Nat := 0
  id : Nat := 0
  peerAddr : Nat := 0
  peerId : Bytes := []
  version : Nat := 0
  link : Bool := false
  keyed : Bool := false
  myNonce : Bytes := []
  myKey : Bytes := []
  peerNonce : Bytes := []
  seqOut : Nat := 0
  seqIn : Nat := 0
  segment : Nat := 0
  base : Nat × Nat := (0, 0)
  delta : Option Delta := none
  nextDelta : Nat := 0
  started : Bool := false
  switching : Bool := false
  switchStamp : Nat := 0
  out : List SyncOut := []
  outq : List ReplOut := []
  parts : List Bytes := []
  marks : List (Nat × Nat) := []
  lastMark : Nat := 0
  sent : Nat := 0
  saved : Nat := 0
deriving DecidableEq, Repr

/-- Who asked for a snapshot: STE_CMD here, STE_CMD at the partner by the FWD_ID of its request, a target that answers with DELTA_ACK of an ID, a source that runs a delta to it, or a source's sync mark. -/
inductive SnapFor
  | cmd
  | partner (fwd : Nat)
  | ack (sess id : Nat)
  | deltaTo (sess : Nat)
  | mark (sess id : Nat)
deriving DecidableEq, Repr

/-- A snapshot being taken (Table 15.3): its own volume, the volume it is of, that volume's namespace, its stamp, the SEQ_END its flush must reach, and the SEQ of its VOLUME record. -/
structure SnapWait where
  volume : Nat
  source : Nat
  nsid : Nat
  stamp : Nat
  seqEnd : Option Nat := none
  record : Option Nat := none
  why : SnapFor
deriving DecidableEq, Repr

/-- A MEND_REQ out on a session (R341): its request ID, the peer's volume, the grains asked for as (grain index, grain ID), and whether it is the second asking. -/
structure MendReq where
  sess : Nat
  id : Nat
  peer : Nat
  grains : List (Nat × Nat)
  again : Bool
deriving DecidableEq, Repr

/-- The records of a session that guard holds (R136). -/
inductive GuardedKind
  | write | segmentEnd | syncMark | deltaEnd
deriving DecidableEq, Repr

/-- A record of a session that arrived in guard and stamps something: its session, its SEQ and its body. -/
structure GuardedRec where
  kind : GuardedKind
  session : Nat
  seq : Nat
  body : Bytes
deriving DecidableEq, Repr

/-- Stereotype as a whole. `index` holds the replica index of each realm by its key realm × 2^40 + bucket, and `indexBuckets` the bucket count of each realm; `waiting` is the family command that waits for a move to end (R327), `opening` the session that CMD 4 waits for, `peerSessions` the mirrored state of the partner's sessions (R340). -/
structure Stereotype where
  sessions : Tab Session := []
  snaps : List SnapWait := []
  walks : List Nat := []
  index : Tab Bucket := []
  indexBuckets : Tab Nat := []
  mends : List MendReq := []
  nextReq : Nat := 0
  peerSessions : Tab Session := []
  waiting : Option Nat := none
  opening : Option Nat := none
  guarded : List GuardedRec := []
deriving DecidableEq, Repr

end Sys2Proof.Machine
end

