-- ==== Sys2Proof/Syntax/Types.lean ====
section
/-! DEFINITION. The plain data that commands carry: host commands, packets and the answers of devices outside the head. -/

namespace Sys2Proof.Machine

/-- The commands of Table 3.5 and the admin commands that the head serves (R67), with the Identify that reports what R57 and R71 name. The two halves of a fused pair are two commands (R84). -/
inductive Opcode
  | read | write | writeZeroes | deallocate | flush | compare | verify | fusedCompare | fusedWrite
  | createCq | createSq | deleteSq | deleteCq | nsCreate | nsDelete | nsAttach | nsDetach | getLogPage | keepAlive
  | setArbitration | resRegister | resAcquire | resRelease | resReport | fwDownload | fwCommit | updateCompare | identify | other
deriving DecidableEq, Repr

/-- The NVMe features that the head does not support (Table 3.6). -/
inductive Feature
  | zonedNamespaces | keyValue | guard32 | storageTag | directives | copy | sanitize | formatSubsystem
  | hostMemoryBuffer | controllerMemoryBuffer | persistentMemoryRegion | bootPartitions | managementInterface | inBandAuthentication
deriving DecidableEq, Repr

/-- The PI fields of a command (R70): PRACT, the three PRCHK bits, and the expected tags. -/
structure PiArgs where
  pract : Bool := false
  guard : Bool := false
  app : Bool := false
  refTag : Bool := false
  appTag : Nat := 0
  appMask : Nat := 0
  refVal : Nat := 0
deriving DecidableEq, Repr

/-- A command as it stands in its submission entry: identifier, opcode, namespace, the LBA ranges (first LBA, count), the bytes its data descriptor describes, its PI fields, and whether its data travels in the capsule. `host` names the sending host for reservations (R72), `capData` is the in-capsule data and `metaBuf` the separate metadata buffer; `sgls` counts its SGL descriptors and `keyed` says that each is a keyed data block (Table 3.2); `uses` names a feature of Table 3.6 that it asks for, and `badField` says that a field holds a value that Table 3.5 does not cover (R67). -/
structure HostCmd where
  cid : Nat
  op : Opcode
  nsid : Nat
  ranges : List (Nat × Nat) := []
  descLen : Nat := 0
  pi : PiArgs := {}
  inCapsule : Bool := false
  host : Nat := 0
  capData : Bytes := []
  metaBuf : Bytes := []
  sgls : Nat := 1
  keyed : Bool := true
  uses : Option Feature := none
  badField : Bool := false
deriving DecidableEq, Repr

/-- An MCTP message as the sideband delivers it (R75): the bus it came over, the address it names, its MCTP message type and its PLDM type. -/
structure Mctp where
  i3c : Bool
  addr : Nat
  msgType : Nat
  pldmType : Nat
deriving DecidableEq, Repr

/-- A packet at the management port (R76): the bytes of its longest frame, and its IP version. -/
structure MgmtPkt where
  frame : Nat
  ipv6 : Bool
deriving DecidableEq, Repr

/-- One record of the namespace settings that a create gives (R68, Table 3.8). -/
structure NsArgs where
  lbas : Nat
  blockSize : Nat
  metaSize : Nat
  extended : Bool
  piType : Nat
  piFirst : Bool
  guard64 : Bool
  valid : Bool
  classId : Nat
  realm : Nat
deriving DecidableEq, Repr

/-- What a module's media gave for one command: 0 when nothing went wrong, or a status that only the module knows (0x0301, 0x0302, 0x0304, 0x0305, 0x0306, 0x030B); `dropped` when CMD_CRC failed at the module or no answer comes (R307), and `rsv` what the reserved bits of its completion hold, those of the first word in bits 12:0 (R5). -/
structure MediaResult where
  status : Nat := 0
  dropped : Bool := false
  rsv : Nat := 0
deriving DecidableEq, Repr

/-- A module as it answers IDENTIFY when its link comes up (Table 14.6): `page` says whether its page passes CRC and magic, `reserved` holds the page's reserved bits (R5). -/
structure ModuleInfo where
  serial : Nat
  version : Nat
  prevVersion : Nat := 0
  firmware : Nat := 0
  plateLog2 : Nat
  number : Nat
  plateCount : Nat
  rated : Nat
  page : Bool := true
  reserved : Nat := 0
deriving DecidableEq, Repr

/-- What a READ of a plate is for: nothing further, a grain's sort, or the metadata page at an address (R286). -/
inductive ReadFor
  | plain
  | grain (gid : Nat)
  | page (addr : Nat)
deriving DecidableEq, Repr

end Sys2Proof.Machine
end

