-- ==== Sys2Proof/Machine/State/Stick.lean ====
section
/-! DEFINITION. State of Stick and of the port complex: contexts, task slots, tokens, controllers, connections (R57 to R98). -/

namespace Sys2Proof.Machine

/-- STATE of a queue context (Table 4.1, Table 4.2). -/
inductive CtxState
  | empty | live | draining | retired | faulted
deriving DecidableEq, Repr

/-- STATE as a number. -/
def CtxState.code : CtxState → Nat
  | .empty => 0 | .live => 1 | .draining => 2 | .retired => 3 | .faulted => 4

/-- KIND of a queue context (Table 4.1). -/
inductive CtxKind
  | io | admin | channel
deriving DecidableEq, Repr

/-- TRANSPORT of a queue context (Table 4.1). -/
inductive Transport
  | pcie | roce | tcp | anvil | replication | internal
deriving DecidableEq, Repr

/-- A queue context entry (Table 4.1). `former` is the state before Faulted, `hasSq` and `hasCq` say which queues the context holds now (R77), `unsignalled` counts entries posted since the last MSI-X signal (R96), `movedTo` is the channel that a lost bundle's channel is re-homed to (R83), `cqid` is the completion queue's own ID, `postedAt` when its last completion was posted in the order in which completions become postable (R94). -/
structure Ctx where
  state : CtxState := .empty
  former : CtxState := .empty
  kind : CtxKind := .io
  transport : Transport := .pcie
  arb : Nat := 5
  pc : Bool := false
  ien : Bool := false
  cntlid : Nat := 0
  hqid : Nat := 0
  sqBase : Nat := 0
  cqBase : Nat := 0
  sqSize : Nat := 0
  sqHead : Nat := 0
  sqTail : Nat := 0
  cqHome : Nat := 0
  cqSize : Nat := 0
  cqHead : Nat := 0
  cqTail : Nat := 0
  phase : Bool := true
  vector : Nat := 0
  nextSeq : Nat := 0
  postSeq : Nat := 0
  outstanding : Nat := 0
  cqReserved : Nat := 0
  aggrThr : Nat := 0
  aggrTime : Nat := 0
  port : Nat := 0
  fn : Nat := 0
  xportRef : Nat := 0
  lport : Nat := 0
  tokensOut : Nat := 0
  drainCause : Nat := 0
  drainTime : Nat := 0
  credits : Nat := 0
  peerHead : Nat := 0
  role : Nat := 0
  hasSq : Bool := false
  hasCq : Bool := false
  unsignalled : Nat := 0
  movedTo : Option Nat := none
  cqid : Nat := 0
  postedAt : Nat := 0
deriving DecidableEq, Repr

/-- What a command came to: an internal status (R10), or a status produced directly in NVMe form (R97) with its SCT and SC. `piFail` names the first check that failed: 0 guard, 1 application tag, 2 reference tag (Table 4.5). -/
inductive Result
  | internal (st : Nat)
  | piFail (st which : Nat)
  | nvme (sct sc : Nat)
deriving DecidableEq, Repr

/-- Where a read takes a logical block from (R106): a galley version by descriptor, a grain, the zero grain, or a failure status. -/
inductive Source
  | galley (desc : Nat)
  | grain (id : Nat)
  | zero
  | failed (st : Nat)
deriving DecidableEq, Repr

/-- Where a command stands between fetch and posting (R84 to R94, R100, R102). -/
inductive TaskState
  | fetched
  | held
  | stamped
  | dispatched
  | forwarded (chan : Nat)
  | cancelling (chan : Nat)
  | done (r : Result)
deriving DecidableEq, Repr

/-- A task slot (R84). `data` holds the bytes received by position, `got` how many; `discard` drops the completion when the command ends (Table 4.3), `postAs` is the failure that the forwarding head posts once the RESULT of a cancel arrives (R115), `fwdId` names the forward that brought the command or carries it (R348), `counted` says that PENDING of its namespace counts it (Table 5.1), `waitParts` counts the parts of a split Flush still out (R113), `asked` is a DATA_REQ that this head has yet to answer, as offset, length, tag and generation (R348), `acks` the replication sessions and record sequences that a completion waits for (R338), `doneAt` when it ended in the order in which completions become postable (R94), `late` that it came over an inbound channel behind that channel's MOVE_BEGIN (Table 5.2), `reading` that an RDMA READ for it is out (Table 3.2), `behind` the commands, as context and sequence, that a detach waits for (R93). -/
structure Task where
  ctx : Nat
  seq : Nat
  cmd : HostCmd
  arrival : Nat
  state : TaskState := .fetched
  stamp : Nat := 0
  counted : Bool := false
  token : Option Nat := none
  need : Nat := 0
  data : Bytes := []
  pieces : List Nat := []
  sources : List (Nat × Source) := []
  fusedWith : Option Nat := none
  cntlid : Nat := 0
  discard : Bool := false
  postAs : Option Result := none
  dword0 : Nat := 0
  fwdId : Nat := 0
  waitParts : Nat := 0
  acks : List (Nat × Nat) := []
  asked : Option (Nat × Nat × Nat × Nat) := none
  doneAt : Nat := 0
  late : Bool := false
  reading : Bool := false
  behind : List (Nat × Nat) := []
deriving DecidableEq, Repr

/-- Whether a command has ended. -/
def TaskState.isDone : TaskState → Bool
  | .done _ => true
  | _ => false

/-- A tag of the token table (R62, R88): its generation, the slot that holds it, and the range its data must fill; `again` says that a block failed on the link and was asked for again (R158). -/
structure Token where
  gen : Nat := 0
  slot : Option Nat := none
  conn : Nat := 0
  cccid : Nat := 0
  next : Nat := 0
  stop : Nat := 0
  again : Bool := false
deriving DecidableEq, Repr

/-- What an event of Table 4.3 waits for before it completes at the host. -/
inductive DrainEvent
  | deleteSq (adminSlot : Nat)
  | reset
  | vfDisable
  | association
  | channel
deriving DecidableEq, Repr

/-- An NVMe controller (R57, R63, R65, R87): its features, its attached namespaces, its drain in progress, and the admin queues that its BAR0 registers name. -/
structure Ctrl where
  enabled : Bool := false
  rdy : Bool := false
  port : Nat := 0
  fn : Nat := 0
  fabric : Bool := false
  conn : Nat := 0
  attached : List Nat := []
  burst : Nat := 0
  hpw : Nat := 0
  mpw : Nat := 0
  lpw : Nat := 0
  wrr : Bool := false
  keepAliveMs : Nat := 0
  keepAliveAt : Nat := 0
  draining : Bool := false
  asq : Nat := 0
  asqSize : Nat := 0
  acq : Nat := 0
  acqSize : Nat := 0
deriving DecidableEq, Repr

/-- An NVMe-oF connection or queue pair (R60, R61); `mtu` is the path MTU of a queue pair (Table 3.2), and `stopped` says that the port offload takes in no data on it (R86). -/
structure Conn where
  live : Bool := false
  transport : Transport := .tcp
  lport : Nat := 0
  cntlid : Nat := 0
  ctx : Nat := 0
  hdrDigest : Bool := false
  dataDigest : Bool := false
  mtu : Nat := 0
  stopped : Bool := false
deriving DecidableEq, Repr

/-- A capsule in a spill ring, with its in-capsule data, and whether its data digest passed (R61, R86). -/
structure Spilled where
  cmd : HostCmd
  ok : Bool
deriving DecidableEq, Repr

/-- An Error Information log entry (R97). -/
structure ErrorEntry where
  ctx : Nat
  cid : Nat
  nsid : Nat
  internal : Nat
  sct : Nat
  sc : Nat
deriving DecidableEq, Repr

/-- Reservation state of a namespace (R72): registrations as (host, key), the holder with the reservation type, and whether it persists through power loss (Table 3.5). -/
structure Reservation where
  regs : List (Nat × Nat) := []
  holder : Option Nat := none
  rtype : Nat := 0
  gen : Nat := 0
  ptpl : Bool := false
deriving DecidableEq, Repr

/-- An entry of the Reservation Notification log (Table 3.5): its number, what happened (1 a registration was preempted, 2 the reservation was released, 3 it was preempted), the namespace, and the host it is for. -/
structure ResvNotice where
  num : Nat
  kind : Nat
  nsid : Nat
  host : Nat
deriving DecidableEq, Repr

/-- Stick and the ports. Tags that were never issued stand at the front of the free list from `freshTag` on; `freedTags` follow, oldest first (R88). `cache` lists the cached contexts, least recently used last, and `table` holds the entries written back to DRAM (R79, R80). `turns` holds, by class, the function whose turn it is and the commands left in its Arbitration Burst, `fnServed` the functions that have had their turn, as class × 65,536 + controller, and `rrQueue` the queues (R87). `order` counts commands that end and completions posted, in the order in which completions become postable (R94). `rates` holds the reaction rate of each Ethernet logical port (R60), `vfEnable` the front ports whose SR-IOV VF Enable bit is 1 (R64), `notices` the Reservation Notification log, and `smart` the critical warnings last reported (R67). -/
structure Stick where
  ctxs : Tab Ctx := []
  slots : Tab Task := []
  tokens : Tab Token := []
  freshTag : Nat := 0
  freedTags : List Nat := []
  ctrls : Tab Ctrl := []
  conns : Tab Conn := []
  spill : Tab (List Spilled) := []
  spillReserved : Nat := 0
  cache : List Nat := []
  table : Tab Bytes := []
  turns : Tab (Nat × Nat) := []
  fnServed : List Nat := []
  order : Nat := 0
  rates : Tab Nat := []
  vfEnable : List Nat := []
  notices : List ResvNotice := []
  nextNotice : Nat := 0
  smart : Nat := 0
  errors : List ErrorEntry := []
  drains : Tab DrainEvent := []
  resv : Tab Reservation := []
  rrQueue : List Nat := []
  wfq : Tab Nat := []
  linksDown : Bool := false
  changedNs : List Nat := []
  held : List Nat := []
deriving DecidableEq, Repr

end Sys2Proof.Machine
end

