-- ==== Sys2Proof/Machine/State/Control.lean ====
section
/-! DEFINITION. What a galley control area holds beside descriptors: the two journal rings and the persistent state (Table 6.2, R101, R125, R185, R236, R253, R261). -/

namespace Sys2Proof.Machine

/-- An OPEN record of the stripe-in-flight journal (Table 12.5) with no CLOSE or VOID record. -/
structure OpenRec where
  sheet : Nat
  stripe : Nat
  epoch : Nat
  width : Nat
  head : Nat
deriving DecidableEq, Repr

/-- A control area's rings and persistent state: map-journal batches that no checkpoint covers, OPEN records, the stamp and stripe-epoch marks, the allocation marks and deferred ranges of the halves, reservations, the nonce marks by key handle with the epoch that each was journalled under, sessions, deletion walks as pages passed by volume, the takeover list, the bank list, the rebuild and reshape in progress, and the copies of the scrap list (R382) and of the event log (R385). `head`, `g` and `restoreSeq` stand in the area header: the head index, G in GiB and the dump-set sequence of the last restore. -/
structure Control where
  head : Nat := 0
  g : Nat := 0
  restoreSeq : Nat := 0
  ring : List Batch := []
  opens : List OpenRec := []
  stampHwm : Nat := 0
  epochMark : Nat := 0
  hwm0 : Nat := 0
  hwm1 : Nat := 0
  deferred0 : List (Nat × Nat) := []
  deferred1 : List (Nat × Nat) := []
  resv : Tab Reservation := []
  nonces : Tab (Nat × Nat) := []
  sessions : Tab Session := []
  walks : Tab Nat := []
  taken : List Nat := []
  banked : List Nat := []
  rebuild : Option Rebuild := none
  reshape : Option Reshape := none
  peerReshape : Option Reshape := none
  scrap : Tab ScrapEntry := []
  log : Tab EventRec := []
deriving DecidableEq, Repr

/-- One record that RING carries (Table 16.3): a map-journal batch, a stripe-in-flight record of TYPE 1 to 3, or a piece of persistent state; `scrapBack` is an entry of the receiver's own scrap list that the sender held for it (R383), and `nonceBack` a mark of the receiver's own counters (R236). [DESIGN CHOICE: notes/assumptions/59.md] -/
inductive CtlRec
  | batch (b : Batch)
  | stripe (type : Nat) (r : OpenRec)
  | stampHwm (n : Nat)
  | epochMark (n : Nat)
  | alloc (half : Bool) (n : Nat)
  | deferred (half : Bool) (rs : List (Nat × Nat))
  | resv (nsid : Nat) (r : Reservation)
  | nonce (handle epoch n : Nat)
  | nonceBack (handle epoch n : Nat)
  | session (k : Nat) (e : Session)
  | walk (volume pages : Nat)
  | taken (l : List Nat)
  | banked (l : List Nat)
  | rebuild (r : Option Rebuild)
  | reshape (r : Option Reshape)
  | scrap (slot : Nat) (e : ScrapEntry)
  | scrapBack (slot : Nat) (e : ScrapEntry)
  | event (r : EventRec)
deriving DecidableEq, Repr

/-- Takes one record into a control area's copy. A checkpoint record drops the batches it covers (R292). -/
def Control.take (c : Control) : CtlRec → Control
  | .batch b =>
    let upTo := b.recs.foldl (fun a r => match r with | .ckpt _ e _ _ => max a e | _ => a) 0
    { c with ring := (c.ring ++ [b]).filter fun (x : Batch) => decide (upTo < x.seq) }
  | .stripe t r =>
    let rest := c.opens.filter fun (x : OpenRec) => !(x.sheet = r.sheet ∧ x.stripe = r.stripe)
    { c with opens := if t = 1 then rest ++ [r] else rest }
  | .stampHwm n => { c with stampHwm := max c.stampHwm n }
  | .epochMark n => { c with epochMark := n }
  | .alloc h n => if h then { c with hwm1 := max c.hwm1 n } else { c with hwm0 := max c.hwm0 n }
  | .deferred h rs => if h then { c with deferred1 := rs } else { c with deferred0 := rs }
  | .resv n r => { c with resv := (c.resv.filter fun (e : Nat × Reservation) => e.1 != n) ++ (if r = {} then [] else [(n, r)]) }
  | .nonce h p n => { c with nonces := (c.nonces.filter fun (e : Nat × Nat × Nat) => e.1 != h) ++ [(h, p, n)] }
  | .nonceBack _ _ _ => c
  | .session k e => { c with sessions := (c.sessions.filter fun (x : Nat × Session) => x.1 != k) ++ (if e = {} then [] else [(k, e)]) }
  | .walk v n => { c with walks := (c.walks.filter fun (x : Nat × Nat) => x.1 != v) ++ [(v, n)] }
  | .taken l => { c with taken := l }
  | .banked l => { c with banked := l }
  | .rebuild r => { c with rebuild := r }
  | .reshape r => if r.any (·.peers) then { c with peerReshape := r } else { c with reshape := r }
  | .scrap k e => { c with scrap := (c.scrap.filter fun (x : Nat × ScrapEntry) => x.1 != k) ++ [(k, e)] }
  | .scrapBack _ _ => c
  | .event r => { c with log := (c.log.filter fun (x : Nat × EventRec) => x.1 != r.seq % 65536) ++ [(r.seq % 65536, r)] }

end Sys2Proof.Machine
end

