-- ==== Sys2Proof/Machine/State/Galley.lean ====
section
/-! DEFINITION. State of the galley, of its partner copies, of Bellows, of supply events and of the vault's dump sets (R120 to R146). -/

namespace Sys2Proof.Machine

/-- KIND of a galley descriptor (Table 6.3). -/
inductive PieceKind
  | write | zeroes | deallocate | repeated | cawHalf
deriving DecidableEq, Repr

/-- KIND as a number. -/
def PieceKind.code : PieceKind → Nat
  | .write => 0 | .zeroes => 1 | .deallocate => 2 | .repeated => 3 | .cawHalf => 4

/-- A galley piece: its descriptor (Table 6.3) and the bytes of its slots. `task` is the task slot of its command, `localDone` says that its local DRAM write is complete (R124), `logged` how many galley-log modules confirmed it (R129), `grains` where each of its grains went, `journalled` that its journal records are durable, `tag` the application tag that a Write Zeroes leaves, `verify` the grains whose strict comparison is out (R197), `refs` the REF queries of Table 13.8 step 1 that are out and `drops` the grains that step 3 drops, `applying` that step 1 has begun; `fwd` is the FWD_ID that came with a mirrored piece (R349), and `inLog` says that it went out to the galley log (R129). A piece on an internal channel names its volume itself, the session and SEQ it came with, the list digest of its grain and the Swage block that it came in (R336 to R338). [DEDUCED: notes/assumptions/28.md] -/
structure Piece where
  stamp : Nat
  nsid : Nat
  cls : Nat
  owner : Nat
  kind : PieceKind
  commit : Bool := false
  dataIn : Bool := false
  mirrorAck : Bool := false
  applied : Bool := false
  isForeign : Bool := false
  nlb : Nat
  slba : Nat
  slot : Nat := 0
  slotCnt : Nat := 0
  lbaf : Nat := 0
  digest : Nat := 0
  repeatStamp : Nat := 0
  arrival : Nat := 0
  gen : Nat := 0
  data : Bytes := []
  task : Option Nat := none
  localDone : Bool := false
  logged : Nat := 0
  zeroGrains : List Nat := []
  grains : List (Nat × Nat) := []
  journalled : Bool := false
  tag : Nat := 0
  verify : List Nat := []
  refs : Nat := 0
  volume : Nat := 0
  repl : Option (Nat × Nat) := none
  listFp : Bytes := []
  drops : List Nat := []
  applying : Bool := false
  fwd : Nat := 0
  inLog : Bool := false
  swBlock : Bytes := []
deriving DecidableEq, Repr

/-- An entry of the repeat table (R24): the CRC-64 of a grain, the piece that holds its data by stamp and descriptor with the grain's first LBA there, and when the grain was taken in. -/
structure RepeatEntry where
  crc : Nat
  stamp : Nat
  desc : Nat
  lba : Nat
  time : Nat
deriving DecidableEq, Repr

/-- A dump set in the vault (R138): its record, the completion marks of its phases, and what each phase holds. `chans` are the channels that its stripes run over (R133), and `segPieces` lists the mirror pieces that end in each segment of phase 3, of which the first `segments` are complete. -/
structure DumpSet where
  written : Bool := false
  seq : Nat := 0
  head : Nat := 0
  epoch : Nat := 0
  g : Nat := 0
  gp : Nat := 0
  six : Bool := false
  chans : List Nat := []
  phase1 : Bool := false
  phase2 : Bool := false
  segments : Nat := 0
  sealed : Bool := false
  released : Bool := true
  erased : Bool := true
  own : Tab Piece := []
  mirror : Tab Piece := []
  segPieces : List (List Nat) := []
  ctlOwn : Control := {}
  ctlMirror : Control := {}
deriving DecidableEq, Repr

/-- A dump from its commitment to its seal: which set it writes, whether it is skipped (R139), the phase in progress (4 is the seal), the bytes of each segment still to write, E at the commitment in J, when it was committed, and whether overtemperature caused it (R453). -/
structure Dump where
  setB : Bool
  skipped : Bool
  phase : Nat
  left : List Nat
  atCommit : Nat
  committedAt : Nat
  thermal : Bool
deriving DecidableEq, Repr

/-- A supply event (R135): its start, whether guard has been entered, the window in progress, and whether 0x0901 has been logged (R136). -/
structure SupplyEvent where
  t0 : Nat
  guard : Bool := false
  window : Option Nat := none
  logged : Bool := false
deriving DecidableEq, Repr

/-- Why the head is in unprotected-galley mode (R128): the energy comparisons of Table 6.4 that have failed while it was in the mode, of its own E with E_req and of the partner's with E_cov, and whether a row without a comparison called for it. -/
structure UnprotCause where
  own : Bool := false
  peer : Bool := false
  rule : Bool := false
deriving DecidableEq, Repr

/-- What this head knows of its partner's energy (R127). -/
structure PeerEnergy where
  e : Nat := 0
  req : Nat := 0
  cov : Nat := 0
  seen : Bool := false
deriving DecidableEq, Repr

/-- The galley as a whole. `own` and `mirror` list pieces by descriptor number; `waiting` the pieces without a run of slots, oldest first (R121); `mirrorData` the slots that arrived, by slot number, `calmSince` when the condition behind unprotected-galley mode was last found false (R128), `unprotAtForming` that the mode was entered when Forming ended (R131), `mirroring` that the backlog is being sent in Joining, `missing` own pieces whose descriptor was restored and whose data was not (R141), `lastAnswer` when the pack last answered (R131), `lastRestore` the sequence of the set last restored (Table 6.2), `unneeded` that what was restored was discarded (R144), `wakeDue` the pieces that the check after a wake has still to see, mirror copies marked (R146), and `logPlates` the galley log's pair of plates with its next position and the pairs used before (R129). -/
structure Galley where
  own : Tab Piece := []
  mirror : Tab Piece := []
  gens : Tab Nat := []
  waiting : List Nat := []
  repeats : List RepeatEntry := []
  peer : PeerEnergy := {}
  good : Nat := 0
  pecFails : Nat := 0
  loadCap : Option Nat := none
  unprot : Option UnprotCause := none
  unprotAtForming : Bool := false
  calmSince : Option Nat := none
  mirroring : Bool := false
  lastStatus : Nat := 0
  lastAnswer : Nat := 0
  ckptSince : Bool := false
  supply : Option SupplyEvent := none
  dump : Option Dump := none
  mirrorData : Tab Bytes := []
  setA : DumpSet := {}
  setB : DumpSet := {}
  dumpSeq : Nat := 0
  restored : Option Bool := none
  missing : Tab Piece := []
  restripe : Bool := false
  galleyLost : Bool := false
  lastRestore : Nat := 0
  unneeded : Bool := false
  wakeDue : List (Bool × Nat) := []
  logPlates : List (Nat × Nat) := []
  logPos : Nat := 0
  logOld : List (Nat × Nat) := []
deriving DecidableEq, Repr

end Sys2Proof.Machine
end

