-- ==== Sys2Proof/Machine/State/Anvil.lean ====
section
/-! DEFINITION. State of Anvil: bundles and their flits, Joining and binding, the mirrored control area, takeover, moves and handback, proof strikes (R342 to R374). -/

namespace Sys2Proof.Machine

/-- The fields of HELLO (Table 16.3). `version` is major × 256 + minor. -/
structure HelloInfo where
  version : Nat
  head : Nat
  mode : Nat
  formeId : Nat
  digest : Bytes
  galleyGib : Nat
  filterGib : Nat
  epoch : Nat
  dumpEpoch : Nat
  format : Nat := 0x0100
deriving DecidableEq, Repr

/-- One direction of a bundle (R343, R344): the FSEQ expected next, payload bytes that do not yet make a whole message, how often each unacknowledged flit has been replayed, and when the link came up without an error since. [DESIGN CHOICE: notes/assumptions/60.md] -/
structure Bundle where
  nextIn : Nat := 0
  rest : Bytes := []
  replays : Tab Nat := []
  upAt : Nat := 0
  tryAt : Nat := 0
deriving DecidableEq, Repr

/-- A message as the receiver extracts it (Table 16.2). -/
structure AnvMsg where
  type : Nat
  chan : Nat
  gen : Nat
  tag : Nat
  body : Bytes
deriving DecidableEq, Repr

/-- The steps of Joining that this head has passed (Table 16.5, R424). `offer` is the version HELLO_ACK named; `stalled` the moment R351 stopped the pair. -/
structure JoinState where
  peer : Option HelloInfo := none
  version : Option Nat := none
  checked : Bool := false
  discarded : Bool := false
  stalled : Option Nat := none
  copies : Tab Piece := []
deriving DecidableEq, Repr

/-- A takeover, or a start alone (Tables 16.7 and 16.13): t0, its cause, and whether it is the short form without a replay, or a start alone. -/
structure Takeover where
  t0 : Nat
  cause : Nat
  short : Bool
  alone : Bool
  deep : Bool := false
deriving DecidableEq, Repr

/-- A proof strike in progress at the striking head (Table 16.10): its ID, the steps whose answer is awaited with the time of their request, the failed and skipped steps as bits, the pieces of steps 2 and 3 as descriptor index and generation, the stations whose lane under test fails, and whether step 6 runs. -/
structure Strike where
  id : Nat
  waits : List (Nat × Nat) := []
  failed : Nat := 0
  skipped : Nat := 0
  picks : List (Nat × Nat) := []
  dry : List (Nat × Nat) := []
  kats : List Nat := []
  monthly : Bool := false
deriving DecidableEq, Repr

/-- A handback in progress at the holder (R369): the namespaces still to move. -/
structure Handback where
  left : List Nat
  all : Bool
deriving DecidableEq, Repr

/-- Anvil as a whole. `inbox` holds messages extracted and not yet acted on, `bothDown` since when both bundles are down while ALIVE toggles (R359), `yielded` that 50 ms passed so; `lost` that the partner counts as lost, so that only HELLO and REJOIN are heard (R357); `edgeSeen` that ALIVE_IN has shown an edge since Forming ended; `joinedAt` when Forming last ended; `ctl` the mirrored control area; `taken` the takeover list (R360); `mediaDue` that MEDIA_RETURN is still to be sent; `rejoinWait` that this head waits for RELEASED (R366); `peerStrike` the partner's strike; `katNext` counts strikes for the rotation of step 5, `lastLoad` the last monthly load test, `strikeAt` when the next strike is due; `ringAck` the highest control-area offset that the partner holds, by area (R349). -/
structure Anvil where
  b0 : Bundle := {}
  b1 : Bundle := {}
  inbox : List AnvMsg := []
  bothDown : Option Nat := none
  yielded : Bool := false
  lost : Bool := false
  edgeSeen : Bool := false
  joinedAt : Nat := 0
  join : JoinState := {}
  ctl : Control := {}
  takeover : Option Takeover := none
  taken : List Nat := []
  handback : Option Handback := none
  mediaDue : Bool := false
  rejoinWait : Bool := false
  strike : Option Strike := none
  peerStrike : Option Nat := none
  katNext : Nat := 0
  lastLoad : Nat := 0
  strikeAt : Option Nat := none
  ringAck : Tab Nat := []
deriving DecidableEq, Repr

end Sys2Proof.Machine
end

