-- ==== Sys2Proof/Syntax.lean ====
section
/-! DEFINITION. The commands of the head: one constructor for each row of the opcode table, with the operands that the row's rule gives it and the facts that only the outside world knows. -/

namespace Sys2Proof

open Sys2Proof.Machine in
/-- The commands, in the order of the table. -/
inductive Instr
  /-- STANDBY_SUPPLY_UP (R445): The standby supply comes into range: the always-on domain is released, the ember oscillator starts and the SB_ADDR straps are sampled. -/
  | standbySupplyUp (addr : Nat)
  /-- MAIN_PWR_EN_ASSERT (R445): The 10 ms timer after the standby supply came into range expires and MAIN_PWR_EN is asserted. -/
  | mainPwrEnAssert
  /-- CORE_RESET_RELEASE (R445): PWR_OK and RESET_N have both been high for 1 ms, so the core reset is released and Forming starts at step 1. -/
  | coreResetRelease (warn : Bool)
  /-- PWR_OK_LOW (R445): PWR_OK stays low for 2 µs and the head acts as for a core rail below −10 %. -/
  | pwrOkLow
  /-- RESET_N_LOW (R445): RESET_N stays low for 10 µs and every domain except the always-on domain resets with cause 1, unless a dump is running. -/
  | resetNLow
  /-- PLL_LOCK (R34): The PLLs lock at the CLOCKS frequencies, the bundles start training and the Bellows polling begins. -/
  | pllLock
  /-- DRAM_TRAINING_DONE (R34): DIMMs have been found and trained: the rate code is checked against DIMMs per channel, the MEMORY fit is checked and DRAM is partitioned. -/
  | dramTrainingDone (two : Bool) (bytes : Nat)
  /-- LANE_SELF_TEST_DONE (R46): The Forming lane self-test ends: failing lanes are entered in the scrap list, lines are bound with replacement lanes and LAYOUT references are checked. -/
  | laneSelfTestDone (failing : List (Nat × Nat))
  /-- BACKEND_DISCOVERY_DONE (R47): Back-end root ports are trained and modules found; a class short of d + 2 usable modules raises an alarm. -/
  | backendDiscoveryDone (found : List (ModuleInfo × Nat × Nat))
  /-- GALLEY_RESTORE (R141): The galley is restored from the newest unreleased dump set, and pieces that fail their checks count as missing. -/
  | galleyRestore (formatOk : Bool) (badOwn : List Nat) (badMirror : List Nat) (bothLost : Bool) (flash : Option Image)
  /-- JOURNAL_REPLAY (R294): The newest valid checkpoint is loaded, the map journal ring is replayed from SEQ_END + 1 and the lifetime counters are reloaded. -/
  | journalReplay (flash : Option Image) (bad : List Nat)
  /-- FORMING_END (R367): Forming ends, FOR_MODE reports Joining, the front links train, and a head whose bundle mask is not 0x3 starts alone. -/
  | formingEnd
  /-- RE_FORM_OFFER (R49): A verified replacement forme is offered; the head either starts a re-form of its dynamic sections or keeps the forme pending for the next Forming. -/
  | reFormOffer (raw : Bytes)
  /-- LINE_GROUP_DRAINED (R51): Every line of a re-form group has drained, so the group is rebound and resumes. -/
  | lineGroupDrained (progress : List (Nat × Nat)) (bad : List Nat)
  /-- SUPPLY_EVENT_START (R135): POWER_WARN_N is asserted or the core rail falls below the warning level, and a supply event begins. -/
  | supplyEventStart (warn : Bool)
  /-- SUPPLY_DIP_END (R135): The supply returns to range within 200 µs, and the event is only counted in GLY_BROWN_CNT. -/
  | supplyDipEnd
  /-- GUARD_ENTER (R136): The supply is still out of range at t0 + 200 µs, so the head enters guard, holds new writes and arms the vault. -/
  | guardEnter
  /-- GUARD_WINDOW_START (R135): In guard the supply returns to range and a 10 ms window starts. -/
  | guardWindowStart
  /-- GUARD_WINDOW_BREAK (R135): In guard the supply leaves range during a window, so the window ends, or the dump is committed when this happens at or after t0 + 50.2 ms. -/
  | guardWindowBreak (warn : Bool)
  /-- GUARD_RESUME (R135): A 10 ms in-range window completes, held writes are released and the event is logged. -/
  | guardResume
  /-- DUMP_COMMIT (R137): At t0 + 50.2 ms the dump is committed: ALIVE stops, the ports power down, unpublished pieces are discarded and the dump record is written. -/
  | dumpCommit
  /-- DUMP_PHASE_COMPLETE (R138): A dump phase or phase-3 segment finishes writing and its mark is written; before each further segment the energy left is checked. -/
  | dumpPhaseComplete (spent : Nat)
  /-- DUMP_SEAL (R139): The dump is sealed, and the head resets into Forming or falls to Dark according to POWER_WARN_N. -/
  | dumpSeal (spent : Nat) (warn : Bool) (rstLow : Bool)
  /-- CORE_RAIL_RESET (R135): The core rail stays below −10 % for 2 µs and the head is reset in hardware, leaving any dump unsealed. -/
  | coreRailReset
  /-- THERMAL_WARN (R453): The junction temperature reaches Tmax − 5 °C: THERMAL is set and an alarm is raised. -/
  | thermalWarn (io : Int) (c0 : Int) (c1 : Int)
  /-- THERMAL_THROTTLE (R453): The junction temperature reaches Tmax, and the clocks step down until it is 2 °C below Tmax. -/
  | thermalThrottle (io : Int) (c0 : Int) (c1 : Int)
  /-- THERMAL_PARK (R453): Tmax + 5 °C for 100 ms: the head hands its namespaces over and sends PARK. -/
  | thermalPark (io : Int) (c0 : Int) (c1 : Int)
  /-- THERMAL_DUMP (R453): Tmax + 10 °C for 1 ms commits the dump, and THERMTRIP_N is asserted at the seal. -/
  | thermalDump (io : Int) (c0 : Int) (c1 : Int)
  /-- THERMTRIP (R453): Tmax + 15 °C during a thermal dump asserts THERMTRIP_N at once and the dump ends unsealed. -/
  | thermtrip (io : Int) (c0 : Int) (c1 : Int)
  /-- WAKE_N_LOW (R396): WAKE_N has been low for 1 ms, which wakes a sleeping head or powers up a Dark head. -/
  | wakeNLow (bad : List Nat)
  /-- WAKE_TIMER_EXPIRY (R396): PWR_WAKE_TIMER reaches 0 in Sleep or Deep sleep and the head wakes. -/
  | wakeTimerExpiry (bad : List Nat)
  /-- WAKE_DIGEST_CHECK (R146): The background DIGEST recheck after a wake from Banked finds a mismatching piece and takes the partner copy. -/
  | wakeDigestCheck (mirror : Bool) (d : Nat) (copy : Bytes)
  /-- BANKING_TIMER_EXPIRY (R391): The banking timer expires with host load below the threshold throughout, and the banking conditions are checked. -/
  | bankingTimerExpiry (deep : Bool) (peerQuiet : Bool)
  /-- BANK_REQ_BANKED (R391): A write of 1 to PWR_CTRL.BANK_REQ requests Banked, subject to the conditions of Table 18.2. -/
  | bankReqBanked (peerQuiet : Bool)
  /-- BANK_REQ_DEEP (R391): A write of 2 to PWR_CTRL.BANK_REQ requests Deep-banked. -/
  | bankReqDeep (peerQuiet : Bool)
  /-- BANK_ENTER_COMPLETE (R393): The namespace moves and HANDOFF are done; the state is zeroed, the retention signatures and time snapshot are taken and the domains power down. -/
  | bankEnterComplete
  /-- POWER_OFF_REQ (R400): A write to PWR_CTRL.OFF hands everything over, sends PARK, removes internal power and reports Dark. -/
  | powerOffReq
  /-- WAKE_PARTNER_REQ (R396): A write to PWR_CTRL.WAKE_PARTNER sends a wake request to a Banked partner. -/
  | wakePartnerReq
  /-- HOST_LOAD_SAMPLE (R391): The once-a-second host-load sample updates PWR_LOAD and can trigger a wake request to a Banked partner. -/
  | hostLoadSample (written : Nat) (read : Nat)
  /-- LANE_CLOCK_GATE (R389): A lane has had no job for 2 µs and gates its clock. -/
  | laneClockGate (kind : Nat) (lane : Nat)
  /-- SMITH_CLOCK_GATE (R389): A smith core has had no ready work for 10 µs and gates its clock, pausing the pair watchdog when both cores are gated. -/
  | smithClockGate (core : Nat)
  /-- TIME_SNAPSHOT (R403): At an ember edge, once a second, the time snapshot is written to the ember domain. -/
  | timeSnapshot
  /-- EMBER_CALIBRATION (R402): A window of 32,768 ember ticks completes and TIM_EMBER_PERIOD is updated. -/
  | emberCalibration (ns : Nat)
  /-- TIME_QUALITY_LAPSE (R405): No discipline has arrived for 2 s and time quality drops to holdover. -/
  | timeQualityLapse
  /-- TIM_ADJ_WRITE (R406): An offset written to TIM_ADJ is stepped or slewed under R406. -/
  | timAdjWrite (offset : Int)
  /-- PTP_SYNC (R74): A PTP event message is timestamped at the MAC and feeds the slave servo. -/
  | ptpSync (offset : Int) (locked : Bool) (bound : Nat) (port : Nat)
  /-- PCIE_SQ_DOORBELL (R85): A submission queue doorbell write updates SQ_TAIL and enables fetch. -/
  | pcieSqDoorbell (ctx : Nat) (tail : Nat)
  /-- CQ_HEAD_DOORBELL (R85): A completion queue head doorbell updates CQ_HEAD and frees completion entries. -/
  | cqHeadDoorbell (ctx : Nat) (head : Nat)
  /-- COMMAND_FETCH (R84): Stick fetches a command into a task slot once a completion entry can be reserved, gives it a submission sequence, checks the CID and descriptor length, and hands it to Chase. -/
  | commandFetch (ctx : Nat) (cmds : List HostCmd)
  /-- CONTEXT_FILL (R81): A context cache miss fill completes, and a CTX_CRC failure makes the context Faulted. -/
  | contextFill (ctx : Nat) (entry : Bytes)
  /-- CAPSULE_ARRIVAL (R86): An NVMe-oF command capsule lands in a free task slot, or in the spill ring when none is free. -/
  | capsuleArrival (conn : Nat) (cmds : List HostCmd) (headerOk : Bool) (dataOk : Bool)
  /-- SPILL_RING_FETCH (R86): A task slot becomes free and the oldest spilled capsule is fetched from the spill ring. -/
  | spillRingFetch (ctx : Nat)
  /-- NVMEOF_CONNECT (R86): An NVMe-oF Connect makes a context Live and reserves its spill ring, or fails with Connect Controller Busy. -/
  | nvmeofConnect (conn : Nat) (cntlid : Nat) (hqid : Nat) (qsize : Nat) (admin : Bool) (keepAliveMs : Nat) (roce : Bool) (lport : Nat) (mtu : Nat)
  /-- TCP_ICREQ (R61): An ICReq opens an NVMe/TCP connection and is answered with ICResp. -/
  | tcpIcreq (conn : Nat) (lport : Nat) (hdrDigest : Bool) (dataDigest : Bool) (cpda : Nat)
  /-- H2C_DATA (R90): An H2CData PDU delivers write data, which is checked for staleness, offset and length. -/
  | h2cData (conn : Nat) (ttag : Nat) (cccid : Nat) (offset : Nat) (data : Bytes) (last : Bool) (headerOk : Bool) (dataOk : Bool)
  /-- H2C_TERM_REQ (R61): A host H2CTermReq ends the connection as for a header digest failure. -/
  | h2cTermReq (conn : Nat)
  /-- RDMA_READ_COMPLETE (R60): An RDMA READ of host write data completes into the galley. -/
  | rdmaReadComplete (slot : Nat) (data : Bytes)
  /-- CNP_RECEIVED (R60): A RoCEv2 CNP arrives and the ECN rate reaction applies. -/
  | cnpReceived (conn : Nat)
  /-- LINK_STATE_CHANGE (R58): An Ethernet logical port or front link changes state and the CHG bits are set. -/
  | linkStateChange (front : Bool) (port : Nat) (idx : Nat) (speed : Nat) (width : Nat) (fec : Bool) (up : Bool)
  /-- FUNCTION_LEVEL_RESET (R65): An FLR resets that function's controller and drains it as cause 2. -/
  | functionLevelReset (port : Nat) (fn : Nat)
  /-- FRONT_LINK_LOSS (R65): Loss of the front link, a hot reset or a link disable resets every controller of the port. -/
  | frontLinkLoss (port : Nat)
  /-- CONTROLLER_ENABLE (R82): CC.EN is set and the admin queue context becomes Live. -/
  | controllerEnable (cntlid : Nat) (port : Nat) (fn : Nat) (asq : Nat) (asqSize : Nat) (acq : Nat) (acqSize : Nat)
  /-- CONTROLLER_DISABLE (R92): CC.EN is cleared, which drains the controller as cause 2 with CSTS.RDY at 0 within 10 ms. -/
  | controllerDisable (cntlid : Nat)
  /-- NUMVFS_WRITE (R64): Host software sets NumVFs; a count above the QUEUES limit leaves the VFs disabled. -/
  | numvfsWrite (port : Nat) (n : Nat)
  /-- VF_DISABLE (R64): VFs are disabled and each drains as cause 3 before it disappears. -/
  | vfDisable (port : Nat)
  /-- ASSOCIATION_END (R65): An NVMe-oF association ends by link loss, teardown or keep-alive expiry, and its controller drains as cause 4. -/
  | associationEnd (cntlid : Nat)
  /-- KEEP_ALIVE_EXPIRY (R65): The keep-alive timer of an association expires and the association ends. -/
  | keepAliveExpiry (cntlid : Nat)
  /-- NVME_READ (R106): A Read is stamped, takes a Read lock and resolves each block from galley versions or the volume map. -/
  | nvmeRead (slot : Nat) (copies : List (Nat × Bytes))
  /-- READ_DATA_SENT (R104): The last data byte of a read is sent and its Read lock is freed. -/
  | readDataSent (slot : Nat)
  /-- NVME_WRITE (R105): A Write is stamped, split at atomic boundaries and its data is staged in the galley. -/
  | nvmeWrite (slot : Nat)
  /-- WRITE_ZEROES (R104): A Write Zeroes takes a Write lock and becomes pieces that map to the zero grain. -/
  | writeZeroes (slot : Nat)
  /-- DEALLOCATE (R104): A Dataset Management deallocate takes up to 256 range locks and removes the map ranges. -/
  | deallocate (slot : Nat)
  /-- NVME_FLUSH (R113): A Flush is stamped; one to all namespaces is split between the two heads. -/
  | nvmeFlush (slot : Nat)
  /-- FLUSH_COMPLETE (R113): Every lower-stamped write-mode command of the namespace has been published or discarded, so the Flush completes. -/
  | flushComplete (slot : Nat)
  /-- COMPARE (R70): A Compare checks data, non-PI metadata and PI under PRCHK against the stored version. -/
  | compare (slot : Nat) (buf : Bytes) (copies : List (Nat × Bytes))
  /-- COMPARE_AND_WRITE (R112): A fused pair is stamped once under a CAW lock, compared, and published only when the data is equal. -/
  | compareAndWrite (slot : Nat) (bufC : Bytes) (bufW : Bytes) (copies : List (Nat × Bytes))
  /-- VERIFY (R104): A Verify takes a Read lock and checks the stored data. -/
  | verify (slot : Nat) (copies : List (Nat × Bytes))
  /-- CREATE_IO_CQ (R77): Create I/O Completion Queue takes an Empty home context. -/
  | createIoCq (slot : Nat) (cqid : Nat) (base : Nat) (size : Nat) (vector : Nat) (ien : Bool) (pc : Bool) (aggrThr : Nat) (aggrTime : Nat)
  /-- CREATE_IO_SQ (R77): Create I/O Submission Queue is placed in the home context or in a context of its own. -/
  | createIoSq (slot : Nat) (qid : Nat) (cqid : Nat) (base : Nat) (size : Nat) (prio : Nat) (pc : Bool)
  /-- DELETE_IO_SQ (R92): Delete I/O SQ drains the queue as cause 1. -/
  | deleteIoSq (slot : Nat) (qid : Nat)
  /-- DELETE_IO_CQ (R77): Delete I/O CQ returns a home context with no submission queue to Empty. -/
  | deleteIoCq (slot : Nat) (cqid : Nat)
  /-- NS_CREATE (R68): Namespace Management create makes the receiving or the forwarded-to head the owner and writes the volume record. -/
  | nsCreate (slot : Nat) (a : NsArgs)
  /-- NS_DELETE (R68): Namespace Management delete runs at the owner once every command for the namespace has been posted. -/
  | nsDelete (slot : Nat)
  /-- NS_ATTACH (R93): Namespace Attachment attaches a namespace to a controller. -/
  | nsAttach (slot : Nat) (nsid : Nat) (cntlid : Nat)
  /-- NS_DETACH (R93): Namespace Attachment detaches and completes once earlier commands for the NSID have been posted. -/
  | nsDetach (slot : Nat) (nsid : Nat) (cntlid : Nat)
  /-- GET_LOG_PAGE (R305): Get Log Page returns a supported log, including the Hearth health log 0xC0. -/
  | getLogPage (slot : Nat) (lid : Nat)
  /-- KEEP_ALIVE (R67): A Keep Alive command restarts the association's keep-alive timer. -/
  | keepAlive (slot : Nat)
  /-- SET_FEATURES_ARBITRATION (R87): The Arbitration feature sets the burst and the HPW, MPW and LPW weights. -/
  | setFeaturesArbitration (slot : Nat) (burst : Nat) (hpw : Nat) (mpw : Nat) (lpw : Nat) (wrr : Bool)
  /-- RESERVATION_REGISTER (R72): Reservation Register changes registrations at the owner, mirrored over Anvil. -/
  | reservationRegister (slot : Nat) (action : Nat) (cur : Nat) (new : Nat) (cptpl : Nat) (ignoreKey : Bool)
  /-- RESERVATION_ACQUIRE (R72): Reservation Acquire takes or preempts a reservation at the owner. -/
  | reservationAcquire (slot : Nat) (action : Nat) (rtype : Nat) (cur : Nat) (pre : Nat)
  /-- RESERVATION_RELEASE (R72): Reservation Release releases or clears a reservation. -/
  | reservationRelease (slot : Nat) (action : Nat) (rtype : Nat) (cur : Nat)
  /-- RESERVATION_REPORT (R72): Reservation Report returns the same state at either head. -/
  | reservationReport (slot : Nat)
  /-- UNSUPPORTED_COMMAND (R67): A command using an unsupported feature or field completes with Invalid Command Opcode or Invalid Field in Command and has no effect. -/
  | unsupportedCommand (slot : Nat)
  /-- FW_IMAGE_DOWNLOAD (R412): Firmware Image Download delivers framed blocks under the staging lease. -/
  | fwImageDownload (slot : Nat) (buf : Bytes) (peerLock : Bool)
  /-- FW_COMMIT_STAGE (R73): Firmware Commit action 0 stages the image. -/
  | fwCommitStage (slot : Nat) (peerMoving : Bool) (peerLock : Bool)
  /-- FW_COMMIT_STAGE_ACTIVATE (R73): Firmware Commit action 1 stages the image and activates it at the next reset. -/
  | fwCommitStageActivate (slot : Nat) (peerMoving : Bool) (peerLock : Bool)
  /-- FW_COMMIT_ACTIVATE_SLOT (R73): Firmware Commit action 2 activates the named slot at the next reset. -/
  | fwCommitActivateSlot (slot : Nat) (peerMoving : Bool) (peerLock : Bool)
  /-- FW_COMMIT_ACTIVATE_NOW (R73): Firmware Commit action 3 starts head-by-head activation at once. -/
  | fwCommitActivateNow (slot : Nat) (peerMoving : Bool) (peerLock : Bool)
  /-- UPDATE_COMPARE (R413): Vendor opcode 0xC5 on a relay channel compares a manifest hash with the staged and active hashes. -/
  | updateCompare (slot : Nat)
  /-- TOKEN_ISSUE (R88): A free tag is issued as a ready-to-transfer token to a stamped command that still needs data. -/
  | tokenIssue (slot : Nat)
  /-- COMPLETION_POST (R94): When POST_SEQ reaches a finished command, its completion is posted. -/
  | completionPost (ctx : Nat)
  /-- MSIX_COALESCE_TIMER (R96): The coalescing time expires and the MSI-X vector is signalled. -/
  | msixCoalesceTimer (ctx : Nat)
  /-- DRAIN_COMPLETE (R92): The last posting or discard of a drain is done and the context changes state. -/
  | drainComplete (ctx : Nat)
  /-- FETCH_HOLD_WRITE (R118): STK_CTRL.FETCH_HOLD stops or resumes fetching from classes 1 to 5. -/
  | fetchHoldWrite (v : Bool)
  /-- STK_QCMD_CLOSE_CHANNEL (R92): STK_QCMD 1 starts a cause-5 drain on a packet channel. -/
  | stkQcmdCloseChannel (qid : Nat)
  /-- STK_QCMD_REHOME (R81): STK_QCMD 2 re-homes a Faulted context to a spare. -/
  | stkQcmdRehome (qid : Nat)
  /-- HWM_CLEAR (R8): A write of 1 to the CLEAR bit of STK_SLOTS_HWM or CHS_LOCKS_HWM sets the high-water mark to the current use. -/
  | hwmClear (locks : Bool)
  /-- CHASE_STAMP (R102): Chase acts on the namespace state, stamps a handed-over command, takes its range locks and dispatches it unless it must wait. -/
  | chaseStamp (slot : Nat)
  /-- STAMP_HOLD_WRITE (R8): CHS_CTRL.STAMP_HOLD stops or resumes handover from Stick. -/
  | stampHoldWrite (v : Bool)
  /-- PIECE_DATA_LAND (R121): A piece's data lands in its slot run and streams to the partner mirror. -/
  | pieceDataLand (d : Nat) (buf : Bytes)
  /-- GALLEY_RUN_AVAILABLE (R121): A long enough free slot run appears and the oldest waiting piece takes it. -/
  | galleyRunAvailable
  /-- LOCAL_DRAM_WRITE_COMPLETE (R124): The local DRAM write of a piece completes. -/
  | localDramWriteComplete (d : Nat)
  /-- PIECE_PUBLISH (R105): A write-mode command's pieces become durable under Table 6.4, COMMIT is set and the pieces become visible together. -/
  | piecePublish (d : Nat)
  /-- PIECE_APPLY (R289): A placed, ungated piece is applied to its volume map with REF and EXTENT records. -/
  | pieceApply (d : Nat)
  /-- PIECE_RELEASE (R124): An applied piece whose journal records are durable frees its descriptor and slots. -/
  | pieceRelease (d : Nat)
  /-- STATUS_SEND_TIMER (R127): Every second the head sends STATUS with E, E_req and E_cov to its partner. -/
  | statusSendTimer
  /-- PARTNER_STATUS_TIMEOUT (R127): No STATUS for 3 s makes the partner's E count as 0. -/
  | partnerStatusTimeout
  /-- UNPROT_MODE_EXIT (R128): The cause has been false, with margin, for 60 s and the head leaves unprotected-galley mode. -/
  | unprotModeExit
  /-- GALLEY_LOG_CONFIRM (R129): Both galley-log modules confirm a piece, which is then published. -/
  | galleyLogConfirm (d : Nat) (module2 : Bool)
  /-- FORCE_UNPROT_WRITE (R128): GLY_CTRL.FORCE_UNPROT forces or ends unprotected-galley mode. -/
  | forceUnprotWrite (v : Bool)
  /-- BELLOWS_POLL (R131): Once a second the head reads Bellows ENERGY and STATUS and updates E. -/
  | bellowsPoll (energy : Nat) (status : Nat) (pecOk : Bool)
  /-- BELLOWS_TIMEOUT (R131): The pack has not answered for 3 s, or PEC failed three times, so E is taken as 0. -/
  | bellowsTimeout
  /-- VAULT_SET_ERASE (R134): The blocks of a released dump set are erased for the next dump. -/
  | vaultSetErase (b : Bool)
  /-- VAULT_RESTRIPE_DONE (R133): The background 6+1 rewrite of the vault's reserved area ends. -/
  | vaultRestripeDone
  /-- DUMP_SET_RELEASE (R145): Restored pieces are applied or mirrored and a checkpoint is written, so the release mark of the dump set is written. -/
  | dumpSetRelease (b : Bool)
  /-- GRAIN_JOB_PLACE (R148): A grain job is placed in the least loaded cluster that holds all its grain stages. -/
  | grainJobPlace (job : Nat) (line : Nat) (mask : Nat) (d : Nat) (g : Nat)
  /-- REFINE_DIGEST_MISMATCH (R150): The refine read-out DIGEST does not match, so the partner copy is taken and the piece is refined again. -/
  | refineDigestMismatch (d : Nat) (read : Bytes) (copy : Bytes)
  /-- SORT_REPAIR_DURABLE (R166): A rewritten sort is durable and updates the grain table only if the entry still points at the old address. -/
  | sortRepairDurable (gid : Nat)
  /-- PRF_OPEN (R163): PRF_RSTREAM.OPEN opens a register stream, or leaves it pending behind a station stream, or is refused with ERR. -/
  | prfOpen (check : Nat)
  /-- PRF_CLOSE (R163): PRF_RSTREAM.CLOSE closes the register stream and latches PRF_RRESULT, or withdraws a pending open. -/
  | prfClose
  /-- PRF_CLOSE_OPEN (R163): A write with both OPEN and CLOSE closes and then opens a register stream. -/
  | prfCloseOpen (check : Nat)
  /-- PRF_PENDING_OPEN (R163): The station stream on the selected unit closes and the pending register stream opens. -/
  | prfPendingOpen (u : Nat)
  /-- PRF_RDATA_WRITE (R163): A 1-, 2- or 4-byte write to PRF_RDATA feeds the open register stream. -/
  | prfRdataWrite (width : Nat) (value : Nat)
  /-- PRF_KAT_START (R164): PRF_CTRL.KAT_START runs the known-answer test on the selected unit. -/
  | prfKatStart (pass : Bool)
  /-- PUNCH_JOB_SUBMIT (R170): A Punch descriptor enters a station queue and starts on a free core, or is rejected with 0x0407. -/
  | punchJobSubmit (cluster : Nat) (desc : Bytes) (seg : Bytes) (ref : Bytes) (progress : List (Nat × Nat)) (bad : List Nat)
  /-- PUNCH_JOB_END (R172): A Punch job ends, writing its digest, EQUAL and status. -/
  | punchJobEnd (core : Nat) (progress : List (Nat × Nat)) (bad : List Nat)
  /-- PUNCH_RESUME (R178): A set-aside job resumes on the first free core of its line. -/
  | punchResume (cluster : Nat) (line : Nat) (progress : List (Nat × Nat)) (bad : List Nat)
  /-- PUNCH_PARITY_ERROR (R180): A core parity error is reported as a lane fault. -/
  | punchParityError (core : Nat)
  /-- PUNCH_KAT_START (R180): PUN_CTRL.KAT_START runs the known-answer test on the selected core. -/
  | punchKatStart (pass : Bool)
  /-- MATRIX_LOOKUP (R194): The holder looks up a fingerprint and returns FOUND, NEW, ADOPT, FULL or DEFERRED. -/
  | matrixLookup (d : Nat) (g : Nat)
  /-- MTX_LOOKUP (R198): A LOOKUP query from the partner is handled by R194. -/
  | mtxLookup (chan : Nat) (req : Bytes)
  /-- MTX_PLACE (R196): A PLACE query records the address of an In flight or pending Deferred grain. -/
  | mtxPlace (chan : Nat) (req : Bytes)
  /-- MTX_REF (R188): A REF query adds DELTA to the count and releases pins. -/
  | mtxRef (chan : Nat) (req : Bytes)
  /-- MTX_UNPIN (R190): An UNPIN query releases one pin of a discarded piece. -/
  | mtxUnpin (chan : Nat) (req : Bytes)
  /-- MTX_MOVE (R198): A MOVE query writes the new address only while the entry holds OLD_ADDR. -/
  | mtxMove (chan : Nat) (req : Bytes)
  /-- MTX_FETCH_FP (R198): A FETCH_FP query returns the fingerprint record. -/
  | mtxFetchFp (chan : Nat) (req : Bytes)
  /-- MTX_INDEX_DELTA (R201): An INDEX_DELTA is applied to a loading half when its journal sequence is newer. -/
  | mtxIndexDelta (chan : Nat) (req : Bytes)
  /-- MTX_HANDOFF (R201): A HANDOFF passes a half with its marks, pins, placers and deferred ranges. -/
  | mtxHandoff (chan : Nat) (req : Bytes) (half : Bool) (hwm : Nat) (pins : List (Nat × Nat)) (placers : List (Nat × Nat)) (deferred : List (Nat × Nat))
  /-- MTX_RESPONSE (R198): A query response arrives at the requester. -/
  | mtxResponse (resp : Bytes)
  /-- FREE_CHAIN_APPEND (R188): Once the Free record is durable, the index goes to the back of the free chain. -/
  | freeChainAppend (hb : Bool)
  /-- INDEX_REMOVAL (R195): A background removal takes a freed grain out of the filter and its bucket. -/
  | indexRemoval (hb : Bool)
  /-- GRAIN_PLACED (R196): A sort is durable and its address is recorded, which releases the waiting map changes. -/
  | grainPlaced (g : Nat)
  /-- STRICT_VERIFY (R197): The byte comparison of a FOUND grain ends; on a difference the grain is stored NOINDEX and a collision is counted. -/
  | strictVerify (d : Nat) (g : Nat)
  /-- HALF_LOAD_START (R199): Loading of a half's filter from its buckets starts and the half becomes Loading. -/
  | halfLoadStart (hb : Bool)
  /-- HALF_LOAD_DONE (R199): A half load completes, catch-up starts and any return HANDOFF is sent. -/
  | halfLoadDone (hb : Bool)
  /-- CATCHUP_GRAIN (R200): A deferred grain is fingerprinted and becomes an Alias or Live. -/
  | catchupGrain (hb : Bool)
  /-- SWAGE_GRAIN_COMPRESS (R215): A grain compress job (OP 0) starts on a compress lane. -/
  | swageGrainCompress (cluster : Nat) (desc : Bytes) (src : Bytes)
  /-- SWAGE_GRAIN_EXPAND (R215): A grain expand job (OP 1) starts on an expand lane. -/
  | swageGrainExpand (cluster : Nat) (desc : Bytes) (src : Bytes)
  /-- SWAGE_STREAM_COMPRESS (R218): A stream compress job (OP 2) fills, flushes or ends stream blocks. -/
  | swageStreamCompress (cluster : Nat) (desc : Bytes) (src : Bytes)
  /-- SWAGE_STREAM_EXPAND (R220): A stream expand job (OP 3) decodes whole frames and checks DCRCs. -/
  | swageStreamExpand (cluster : Nat) (desc : Bytes) (src : Bytes)
  /-- SWAGE_JOB_END (R214): A Swage job ends with a status of Table 10.7. -/
  | swageJobEnd (lane : Nat) (checkOk : Bool) (sortOk : Bool)
  /-- SWAGE_KAT_START (R224): SWG_CTRL.KAT_START runs the known-answer test on the selected lane. -/
  | swageKatStart (pass : Bool)
  /-- TEMPER_JOB_SUBMIT (R240): A Temper descriptor is queued, validated and started on a pair, drawing a nonce when it encrypts. -/
  | temperJobSubmit (cluster : Nat) (desc : Bytes) (src : Bytes) (aux : Bytes)
  /-- TEMPER_JOB_END (R247): A Temper job ends after the checking lane's verification. -/
  | temperJobEnd (pair : Nat) (lanesAgree : Bool)
  /-- KEY_UNWRAP (R228): The key unit unwraps a key into a cluster store, or falls to the second copy or to 0x0603. -/
  | keyUnwrap (cluster : Nat) (h : Nat)
  /-- NONCE_HWM_DURABLE (R235): A new nonce high-water mark or epoch becomes durable and further counter values may be issued. -/
  | nonceHwmDurable (h : Nat)
  /-- KEY_CREATE (R230): TMP_KEY_CMD 1 creates a generation, installs it and sends it to the partner, or is refused. -/
  | keyCreate
  /-- KEY_INSTALL_CONFIRM (R230): Both heads hold the new record, which becomes Current while the old generation becomes Live. -/
  | keyInstallConfirm (h : Nat)
  /-- KEY_SWEEP (R231): TMP_KEY_CMD 2 starts re-encrypting the oldest data generation. -/
  | keySweep
  /-- KEY_SWEEP_END (R231): The sweep ends and the old record becomes Free. -/
  | keySweepEnd
  /-- KEY_DESTROY (R232): TMP_KEY_CMD 3 sets a realm's records Destroying, or refuses while a namespace uses the realm. -/
  | keyDestroy
  /-- KEY_DESTROY_ZERO (R232): Within 1 ms of the last job, every tier is zeroed and the records are Free. -/
  | keyDestroyZero (realm : Nat)
  /-- TEMPER_KAT_START (R248): TMP_CTRL.KAT_START runs the known-answer tests on the selected pair. -/
  | temperKatStart (pass : Bool)
  /-- IMPOSITION_JOB_SUBMIT (R256): An Imposition descriptor is validated and queued for generate or reconstruct. -/
  | impositionJobSubmit (desc : Bytes) (src : List Bytes)
  /-- IMPOSITION_JOB_END (R257): An Imposition job ends with its outputs and CRCs. -/
  | impositionJobEnd (u : Nat) (treesAgree : Bool)
  /-- IMP_KAT_START (R259): IMP_CTRL.KAT_START runs the test on the selected unit. -/
  | impKatStart (pass : Bool)
  /-- STRIPE_CLOSE_TIMER (R282): 500 µs after its first sort was packed, a stripe closes. -/
  | stripeCloseTimer (sheet : Nat)
  /-- STRIPE_OPEN_DURABLE (R260): A stripe's OPEN record is durable, so parity is generated and the chunks are sent. -/
  | stripeOpenDurable (sheet : Nat) (stripe : Nat)
  /-- STRIPE_CHUNKS_CONFIRMED (R260): Every module has confirmed its chunk and the CLOSE record is written. -/
  | stripeChunksConfirmed (sheet : Nat) (stripe : Nat)
  /-- MEMBER_MISSING (R264): A member goes missing, so its sheets are queued for rebuild and open sheets close. -/
  | memberMissing (m : Nat)
  /-- REBUILD_STRIPE (R265): The missing chunks of one stripe are reconstructed and written to the spare. -/
  | rebuildStripe
  /-- REBUILD_SHEET_DONE (R265): The last stripe of a sheet is rebuilt and the member table changes in one record. -/
  | rebuildSheetDone
  /-- REBUILD_RELOCATE (R266): With no spare, a sheet's live sorts are relocated to a new sheet. -/
  | rebuildRelocate (id : Nat)
  /-- REBUILD_SHARE_SAMPLE (R267): Every 100 ms the back-end utilisation sets the rebuild share. -/
  | rebuildShareSample (used : Nat)
  /-- MEND_WAIT_TIMEOUT (R272): A read has waited 2 s for a mend and fails with 0x0403. -/
  | mendWaitTimeout (slot : Nat)
  /-- RESHAPE_MIGRATE_CMD (R274): IMP_RESHAPE_CMD 1 starts a migration off the marked modules, or is refused. -/
  | reshapeMigrateCmd
  /-- RESHAPE_SHEET_CHECKPOINT (R275): Every copied stripe of the transit sheet is closed and one batch writes the MOVEs and the boundary. -/
  | reshapeSheetCheckpoint
  /-- RESHAPE_BOUNDARY_WRITE (R275): After 256 sheets and a covering flush, the boundary is written to the list's map sheet. -/
  | reshapeBoundaryWrite
  /-- RESHAPE_PAUSE_WRITE (R276): IMP_CTRL.RESHAPE_PAUSE pauses or resumes the reshape. -/
  | reshapePauseWrite (v : Bool)
  /-- SHEET_OPEN (R251): Hearth chooses d + 2 modules, claims the plates and journals SHEET_OPEN. -/
  | sheetOpen (role : Nat) (cls : Nat) (lost : List (Nat × Nat))
  /-- JOURNAL_BATCH_DURABLE (R125): A map-journal batch becomes durable in both control areas, in one, or in a sheet. -/
  | journalBatchDurable (logged : Bool)
  /-- FLUSH_INTERVAL_TIMER (R125): The flush interval since the last flush expires, or 64 MiB has gathered, and a flush is due. -/
  | flushIntervalTimer
  /-- FLUSH_NOW (R293): HTH_CTRL.FLUSH_NOW starts a flush. -/
  | flushNow
  /-- CHECKPOINT_DURABLE (R294): Both anchors confirm the checkpoint, the CKPT record is written and ring space is freed. -/
  | checkpointDurable
  /-- AUDIT_START (R296): HTH_CTRL.AUDIT_START begins the reference audit. -/
  | auditStart
  /-- AUDIT_END (R296): The audit sets every REFCNT and frees grains whose count is 0. -/
  | auditEnd
  /-- DESCALE_COPY_DONE (R299): The copies of a descaled sheet are closed, the MOVE batch is made durable and the sheet is marked To erase. -/
  | descaleCopyDone
  /-- DESCALE_ERASE (R299): Checkpoint coverage and the partner's clearance allow the plates to be erased and the sheet freed. -/
  | descaleErase (sheet : Nat)
  /-- DESCALE_PAUSE_WRITE (R297): HTH_CTRL.DESCALE_PAUSE pauses ranks 4 and 5. -/
  | descalePauseWrite (v : Bool)
  /-- WEAR_CHECK (R300): The daily comparison of erase counts may queue a wear move. -/
  | wearCheck
  /-- CAP_SET (R301): HTH_CTRL.CAP_SET sets U and S_0. -/
  | capSet
  /-- HEALTH_SAMPLE (R304): Each minute the module temperatures are added to the histograms. -/
  | healthSample
  /-- GMP_IDENTIFY (R311): The module writes its 4,096-byte module page. -/
  | gmpIdentify (m : Nat) (port : Nat) (media : MediaResult)
  /-- GMP_HELLO (R319): HELLO binds a port to a head index and negotiates the version. -/
  | gmpHello (m : Nat) (port : Nat) (version : Nat) (media : MediaResult)
  /-- GMP_HEALTH (R311): HEALTH returns the module temperature and failed plates. -/
  | gmpHealth (m : Nat) (port : Nat) (media : MediaResult)
  /-- GMP_OWNER (R311): OWNER returns a plate's owner epoch and owner. -/
  | gmpOwner (m : Nat) (port : Nat) (plate : Nat) (media : MediaResult)
  /-- GMP_READ (R311): READ moves LENGTH bytes from a plate into the transfer window. -/
  | gmpRead (m : Nat) (port : Nat) (plate : Nat) (offset : Nat) (length : Nat) (what : ReadFor) (media : MediaResult)
  /-- GMP_WRITE (R311): WRITE programs one chunk at a position written once between erases. -/
  | gmpWrite (m : Nat) (port : Nat) (plate : Nat) (offset : Nat) (data : Bytes) (media : MediaResult)
  /-- GMP_ERASE (R311): ERASE erases a plate once earlier commands on it have completed. -/
  | gmpErase (m : Nat) (port : Nat) (plate : Nat) (media : MediaResult)
  /-- GMP_CLAIM (R314): CLAIM raises the plate or seat epoch when EXPECT matches, or answers 0x0308. -/
  | gmpClaim (m : Nat) (port : Nat) (plate : Nat) (expect : Nat) (seat : Bool) (media : MediaResult)
  /-- GMP_FENCE (R316): FENCE fences or releases the other port. -/
  | gmpFence (m : Nat) (port : Nat) (on : Bool) (media : MediaResult)
  /-- GMP_SET_ANCHOR (R311): SET_ANCHOR stores this head's anchor record and module number atomically. -/
  | gmpSetAnchor (m : Nat) (port : Nat) (gen : Nat) (a : Nat) (b : Nat) (number : Option Nat) (media : MediaResult)
  /-- GMP_FW_DOWNLOAD (R311): FW_DOWNLOAD stores bytes of a module image. -/
  | gmpFwDownload (m : Nat) (port : Nat) (offset : Nat) (data : Bytes) (media : MediaResult)
  /-- GMP_FW_ACTIVATE (R322): FW_ACTIVATE activates the downloaded module image. -/
  | gmpFwActivate (m : Nat) (port : Nat) (media : MediaResult)
  /-- GMP_COMPLETION (R308): A module completion is taken from the ring, its tag is freed and its status is acted on. -/
  | gmpCompletion
  /-- GMP_STALE_TRANSFER (R309): A window access or completion with a stale generation is dropped or refused and counted. -/
  | gmpStaleTransfer (m : Nat) (tag : Nat) (gen : Nat)
  /-- GMP_TIMEOUT (R312): A command's limit passes with no completion: the tag is freed and the link takes an error. -/
  | gmpTimeout (tag : Nat)
  /-- MODULE_LINK_UP (R320): A module link trains and admission begins with IDENTIFY and HELLO. -/
  | moduleLinkUp (info : ModuleInfo) (speed : Nat) (lanes : Nat)
  /-- MODULE_ADMIT_CONFIRM (R320): The partner confirms the same serial and the module is admitted and numbered. -/
  | moduleAdmitConfirm (m : Nat) (serial : Nat)
  /-- MODULE_ADMIT_TIMEOUT (R320): Step 4 has not passed within 10 s, so the module is not admitted. -/
  | moduleAdmitTimeout (m : Nat)
  /-- MODULE_REMOVAL (R321): A surprise removal or silent module makes its members missing. -/
  | moduleRemoval (m : Nat)
  /-- MODULE_FENCE_RETRY (R317): Every 1 s a FENCE is retried to a module that answered neither FENCE. -/
  | moduleFenceRetry (m : Nat)
  /-- GMP_MOD_RELEASE (R321): GMP_MOD_CMD 1 releases a module with no members. -/
  | gmpModRelease
  /-- GMP_MOD_ACTIVATE (R322): GMP_MOD_CMD 2 activates a module's firmware once its sheets are closed and its commands drained. -/
  | gmpModActivate
  /-- MODULE_FW_TIMEOUT (R322): A module activation not done within 30 s makes its members missing. -/
  | moduleFwTimeout (m : Nat)
  /-- STE_SNAPSHOT (R328): STE_CMD 1 stamps a snapshot and holds later pieces. -/
  | steSnapshot
  /-- SNAPSHOT_COMPLETE (R328): After the flush, the snapshot's VOLUME record is durable and the hold ends. -/
  | snapshotComplete (volume : Nat)
  /-- STE_CLONE (R329): STE_CMD 2 creates a clone volume from a snapshot. -/
  | steClone
  /-- STE_DELETE (R330): STE_CMD 3 sets a volume Deleting and starts its walk. -/
  | steDelete
  /-- DELETE_WALK_BATCH (R330): The walk records progress and releases unshared pages, freeing the volume at its end. -/
  | deleteWalkBatch (n : Nat)
  /-- DELETE_PAUSE_WRITE (R330): STE_CTRL.DELETE_PAUSE pauses deletion walks. -/
  | deletePauseWrite (v : Bool)
  /-- STE_OPEN_SESSION (R331): STE_CMD 4 opens a replication session from a descriptor. -/
  | steOpenSession (desc : Bytes)
  /-- STE_START_DELTA (R335): STE_CMD 5 starts a delta to snapshot N. -/
  | steStartDelta
  /-- STE_CLOSE_SESSION (R331): STE_CMD 6 closes the selected session. -/
  | steCloseSession
  /-- STE_BREAK_SYNC (R339): STE_CMD 7 breaks a synchronous session and posts held completions. -/
  | steBreakSync
  /-- REPL_HELLO (R332): A signed HELLO offers the version, nonce and ECDH key. -/
  | replHello (k : Nat) (rec : Bytes) (key : Bytes)
  /-- REPL_HELLO_ACK (R332): HELLO_ACK answers with the chosen version and the transfer key is derived. -/
  | replHelloAck (k : Nat) (rec : Bytes) (key : Bytes)
  /-- REPL_KEYS (R332): KEYS imports the wrapped purpose 1, 2 and 5 keys. -/
  | replKeys (k : Nat) (rec : Bytes)
  /-- REPL_DELTA_BEGIN (R335): DELTA_BEGIN makes the target clone its base into W. -/
  | replDeltaBegin (k : Nat) (rec : Bytes)
  /-- REPL_EXTENTS (R335): EXTENTS carries the changed ranges of a segment. -/
  | replExtents (k : Nat) (rec : Bytes)
  /-- REPL_FP_LIST (R336): FP_LIST carries list digests that the target checks against its replica index. -/
  | replFpList (k : Nat) (rec : Bytes)
  /-- REPL_HAVE (R336): HAVE tells the source which grains the target holds. -/
  | replHave (k : Nat) (rec : Bytes)
  /-- REPL_GRAINS (R337): GRAINS payloads are checked and stored through the target's lookup. -/
  | replGrains (k : Nat) (rec : Bytes)
  /-- REPL_SEGMENT_END (R337): SEGMENT_END's digest publishes the segment or asks for it again. -/
  | replSegmentEnd (k : Nat) (rec : Bytes)
  /-- REPL_SEGMENT_ACK (R337): SEGMENT_ACK confirms a segment or triggers a resend. -/
  | replSegmentAck (k : Nat) (rec : Bytes)
  /-- REPL_DELTA_END (R335): DELTA_END makes the target snapshot W. -/
  | replDeltaEnd (k : Nat) (rec : Bytes)
  /-- REPL_DELTA_ACK (R335): DELTA_ACK sets the new base pair. -/
  | replDeltaAck (k : Nat) (rec : Bytes)
  /-- REPL_WRITE (R338): A synchronous WRITE record is stamped and published at the target. -/
  | replWrite (k : Nat) (rec : Bytes)
  /-- REPL_WRITE_ACK (R338): WRITE_ACK releases the held completions it covers. -/
  | replWriteAck (k : Nat) (rec : Bytes)
  /-- REPL_SYNC_MARK (R338): SYNC_MARK makes the target snapshot W after earlier writes. -/
  | replSyncMark (k : Nat) (rec : Bytes)
  /-- SYNC_MARK_TIMER (R338): Every 10 minutes the source sends SYNC_MARK. -/
  | syncMarkTimer (k : Nat)
  /-- REPL_MEND_REQ (R341): MEND_REQ asks the peer for payloads of lost grains. -/
  | replMendReq (k : Nat) (rec : Bytes)
  /-- REPL_MEND_DATA (R341): MEND_DATA payloads that match the fingerprint mend the lost grains. -/
  | replMendData (k : Nat) (rec : Bytes)
  /-- REPL_CLOSE (R331): CLOSE ends a session. -/
  | replClose (k : Nat) (rec : Bytes)
  /-- REPL_ERROR (R334): ERROR closes the connection, and the session resumes later. -/
  | replError (k : Nat) (rec : Bytes)
  /-- SYNC_TIMEOUT (R339): No WRITE_ACK within SYNC_TIMEOUT, so the session breaks or holds by policy. -/
  | syncTimeout (k : Nat)
  /-- REPL_CONNECTION_LOSS (R339): A session connection is lost and the source resumes under R340. -/
  | replConnectionLoss (k : Nat)
  /-- ANV_FLIT_RECEIVE (R344): A flit arrives, is checked by FCRC and FSEQ, and its messages are extracted, or a Nak is sent. -/
  | anvFlitReceive (b : Bool) (flit : Bytes)
  /-- ANV_NAK (R344): A Nak makes the sender replay from the flit after FACK. -/
  | anvNak (b : Bool) (fack : Nat) (last : Nat)
  /-- ANV_LANE_LOCK_LOSS (R344): A lane loses lock for 10 µs, an error of the bundle. -/
  | anvLaneLockLoss (b : Bool)
  /-- ANV_HELLO (R351): An Anvil HELLO offers the version and pair identity for Joining. -/
  | anvHello (h : HelloInfo)
  /-- ANV_HELLO_ACK (R351): HELLO_ACK names the chosen version and Joining checks run. -/
  | anvHelloAck (h : HelloInfo)
  /-- HELLO_RETRY_TIMER (R351): While Joining is stalled, HELLO is sent every second. -/
  | helloRetryTimer
  /-- ANV_STATUS (R127): STATUS delivers the partner's mode, energy figures and time. -/
  | anvStatus (mode : Nat) (flags : Nat) (e : Nat) (ereq : Nat) (ecov : Nat) (time : Nat) (quality : Nat) (unc : Nat)
  /-- ANV_PARK (R358): PARK makes the partner run the short takeover without holding commands when ALIVE stops. -/
  | anvPark
  /-- ANV_REJOIN (R366): REJOIN from a fenced head makes the peer check it, deassert FENCE_OUT and release its fences. -/
  | anvRejoin (h : HelloInfo)
  /-- ANV_RELEASED (R366): RELEASED lets a fenced head continue Forming or Joining. -/
  | anvReleased
  /-- ANV_BIND_OFFER (R424): BIND_OFFER carries the nonce, record flag and device certificate for pair binding. -/
  | anvBindOffer (nonce : Bytes) (has : Bool) (cert : Bytes)
  /-- ANV_BIND_XFER (R424): BIND_XFER delivers PRS wrapped under the static ECDH key. -/
  | anvBindXfer (wrapped : Bytes)
  /-- ANV_BIND_PROOF (R424): BIND_PROOF proves that both heads hold the same pair record. -/
  | anvBindProof (mac : Bytes)
  /-- ANV_MIRROR_DATA (R349): MIRROR_DATA slots are written to the mirror data area. -/
  | anvMirrorData (slot : Nat) (data : Bytes)
  /-- ANV_MIRROR_DESC (R124): MIRROR_DESC is checked against DIGEST; DATA_IN is set and the acknowledgement returned, or a resend is asked. -/
  | anvMirrorDesc (idx : Nat) (desc : Bytes) (fwd : Nat)
  /-- ANV_MIRROR_ACK (R124): MIRROR_ACK sets MIRROR_ACK at the owner or causes a resend. -/
  | anvMirrorAck (idx : Nat) (gen : Nat) (result : Nat)
  /-- ANV_COMMIT (R124): COMMIT sets COMMIT in the mirror copy. -/
  | anvCommit (idx : Nat) (gen : Nat)
  /-- ANV_RELEASE (R124): RELEASE frees the mirror copy of a piece. -/
  | anvRelease (idx : Nat) (gen : Nat)
  /-- ANV_RING (R125): RING writes control-area ring bytes into the mirror control area. -/
  | anvRing (area : Nat) (off : Nat) (recs : List CtlRec)
  /-- ANV_RING_ACK (R349): RING_ACK marks ring records as held at the partner. -/
  | anvRingAck (area : Nat) (off : Nat)
  /-- ANV_FWD_CMD (R348): FWD_CMD delivers a forwarded command to the owner's inbound channel. -/
  | anvFwdCmd (chan : Nat) (fwdId : Nat) (cntlid : Nat) (cmds : List HostCmd) (family : Option (Nat × Nat))
  /-- ANV_DATA_REQ (R348): DATA_REQ asks the forwarding head for checked write data. -/
  | anvDataReq (fwdId : Nat) (off : Nat) (len : Nat) (tag : Nat) (gen : Nat) (buf : Bytes)
  /-- ANV_DATA (R348): DATA delivers forwarded write data under a token. -/
  | anvData (chan : Nat) (fwdId : Nat) (off : Nat) (tag : Nat) (gen : Nat) (data : Bytes)
  /-- ANV_READ_DATA (R348): READ_DATA returns read data with PI to the forwarding head. -/
  | anvReadData (fwdId : Nat) (off : Nat) (data : Bytes)
  /-- ANV_RESULT (R348): RESULT ends a forward, is posted under R95, or returns an unstamped command to Chase. -/
  | anvResult (chan : Nat) (fwdId : Nat) (st : Nat) (direct : Nat) (dword0 : Nat)
  /-- ANV_CANCEL (R115): CANCEL makes the owner resolve the forward by Table 5.6 and answer with one RESULT. -/
  | anvCancel (chan : Nat) (fwdId : Nat)
  /-- ANV_CREDIT (R347): CREDIT returns channel credits to the sender. -/
  | anvCredit (chan : Nat) (n : Nat)
  /-- NS_MOVE_START (R116): The acquiring head sets Acquiring and sends MOVE_BEGIN on its 16 outbound channels. -/
  | nsMoveStart (nsid : Nat) (handback : Bool)
  /-- ANV_MOVE_BEGIN (R116): MOVE_BEGIN sets Releasing at X on the first and counts arrivals. -/
  | anvMoveBegin (chan : Nat) (nsid : Nat) (asks : Bool)
  /-- BOUNDARY_SEND (R116): All MOVE_BEGINs have arrived and PENDING is 0, so BOUNDARY is set and the boundary record sent. -/
  | boundarySend (nsid : Nat)
  /-- ANV_BOUNDARY (R350): The boundary record is adopted: entries become FOREIGN, the namespace becomes Local and held commands dispatch. -/
  | anvBoundary (body : Bytes)
  /-- ANV_MOVE_DONE (R116): MOVE_DONE makes X keep mirror copies and set Remote. -/
  | anvMoveDone (nsid : Nat)
  /-- MOVE_HOLD_LONG (R117): A move has waited more than 1 s and HOLD_LONG is set. -/
  | moveHoldLong (nsid : Nat)
  /-- ANV_CLEARANCE (R299): CLEARANCE requests or grants erase clearance for a sheet. -/
  | anvClearance (sheet : Nat) (grant : Bool)
  /-- ANV_MEDIA_RETURN (R370): MEDIA_RETURN hands back sheet ownership, rebuild, reshape and lost-stripe state. -/
  | anvMediaReturn (body : Bytes) (n : Nat) (lost : List (Nat × LostStripe)) (rebuild : Option Rebuild) (reshape : Option Reshape)
  /-- STRIKE_START (R373): STRIKE_START names a strike and its steps. -/
  | strikeStart (id : Nat) (steps : Nat) (lines : Nat) (silent : List Nat)
  /-- STRIKE_TONGS_SEEN (R373): TONGS_SEEN reports the captured Tongs pulses. -/
  | strikeTongsSeen (id : Nat) (lines : Nat)
  /-- STRIKE_DIGEST_REQ (R373): DIGEST_REQ makes the partner recompute mirror digests. -/
  | strikeDigestReq (id : Nat) (l : List (Nat × Nat))
  /-- STRIKE_DIGEST_RESP (R373): DIGEST_RESP returns mirror digests for comparison. -/
  | strikeDigestResp (id : Nat) (l : List (Nat × Nat × Nat))
  /-- STRIKE_DRY_BEGIN (R373): DRY_BEGIN makes the partner dry-replay the strike-volume pieces. -/
  | strikeDryBegin (id : Nat) (l : List (Nat × Nat)) (us : Nat)
  /-- STRIKE_DRY_RESULT (R373): DRY_RESULT reports the dry takeover result. -/
  | strikeDryResult (id : Nat) (result : Nat) (us : Nat)
  /-- STRIKE_OWNER_RESULT (R373): OWNER_RESULT reports the seat epochs of the modules. -/
  | strikeOwnerResult (id : Nat) (asked : Nat) (bitmap : Nat)
  /-- STRIKE_END (R373): STRIKE_END reports failed and skipped steps. -/
  | strikeEnd (id : Nat)
  /-- STRIKE_INTERVAL_TIMER (R371): The proof-strike interval expires and a strike starts. -/
  | strikeIntervalTimer (picks : List (Nat × Nat)) (kats : List Nat)
  /-- STRIKE_NOW (R371): ANV_CTRL.STRIKE_NOW starts a proof strike at once. -/
  | strikeNow (picks : List (Nat × Nat)) (kats : List Nat)
  /-- STRIKE_RESPONSE_TIMEOUT (R373): A strike response missing after 100 ms fails its step. -/
  | strikeResponseTimeout
  /-- BELLOWS_LOAD_RESULT (R131): The monthly load test's LOAD_RESULT becomes the cap on E. -/
  | bellowsLoadResult (result : Nat) (energy : Nat) (pecOk : Bool)
  /-- ALIVE_STALE (R357): ALIVE_IN has shown no edge for 8 µs, or for 2 µs with both bundles down, so partner loss is detected. -/
  | aliveStale (t0 : Nat)
  /-- TAKEOVER_REPLAY_DONE (R119): The mirror replay ends: namespaces become Local, forwards are resolved and FOR_MODE becomes Solo. -/
  | takeoverReplayDone (flash : Option Image)
  /-- FENCE_IN_ASSERT (R355): FENCE_IN is asserted: the back-end transmitters are gated and a serving head enters Halted-safe. -/
  | fenceInAssert
  /-- CLAIM_ACK_IN_ASSERT (R356): CLAIM_ACK_IN is asserted before this head's claim succeeds, so it stops and enters Halted-safe. -/
  | claimAckInAssert
  /-- WATCHDOG_EXPIRY (R354): A steward watchdog expires, and ALIVE and the front transmitters stop. -/
  | watchdogExpiry (pair : Nat)
  /-- BUNDLES_DOWN_TIMEOUT (R359): Both bundles are still down 50 ms after ALIVE showed them lost, so head 1 yields. -/
  | bundlesDownTimeout
  /-- BUNDLE_DOWN (R374): A bundle goes down: channels are re-homed, traffic moves and ingest is throttled. -/
  | bundleDown (b : Bool)
  /-- BUNDLE_TRAIN_RETRY (R374): Every 1 s a training attempt starts on a down, unretired bundle. -/
  | bundleTrainRetry (b : Bool)
  /-- BUNDLE_TRAINED (R374): A training attempt ends with the link up and UP_SEC counting. -/
  | bundleTrained (b : Bool) (ok : Bool)
  /-- BUNDLE_STABLE (R374): After 10 s without error, channels return and the throttle ends. -/
  | bundleStable (b : Bool)
  /-- JOIN_BACKLOG_DONE (R352): The backlog and control areas are sent, the seats are claimed and Joining ends with both heads Paired. -/
  | joinBacklogDone
  /-- START_ALONE_TIMER (R367): 30 s without a partner, or of a stalled pair, makes the head start alone. -/
  | startAloneTimer
  /-- HANDBACK_NS (R369): ANV_HANDBACK CMD 1 moves one namespace back. -/
  | handbackNs (nsid : Nat)
  /-- HANDBACK_LIST (R369): ANV_HANDBACK CMD 2 moves the whole takeover list back in ascending NSID. -/
  | handbackList
  /-- LINK_DOWN_DELAY (R69): 100 ms after the ANA changes, the Ethernet and front links are taken down. -/
  | linkDownDelay
  /-- CHANNEL_ERROR (R376): A channel error is counted, logged and classified, ending in a retry or a retirement. -/
  | channelError (kind : Nat) (index : Nat) (st : Nat) (kat : Bool) (tries : List Bool) (gib : Nat) (bad : List (Nat × Bytes))
  /-- SCRAP_ENTRY_DURABLE (R383): Both vault copies hold the new scrap-list entry. -/
  | scrapEntryDurable (slot : Nat)
  /-- ALARM_EVENT_RESEND (R426): An unacknowledged alarm event is resent every 1 s over PLDM. -/
  | alarmEventResend (seq : Nat)
  /-- PLDM_EVENT_ACK (R426): The board management controller acknowledges an alarm event. -/
  | pldmEventAck (mctp : Mctp) (seq : Nat)
  /-- PLDM_GET_SENSOR (R426): GetSensorReading returns a numeric sensor. -/
  | pldmGetSensor (mctp : Mctp) (id : Nat) (measured : Nat)
  /-- PLDM_GET_STATE_SENSOR (R426): GetStateSensorReadings returns a state sensor. -/
  | pldmGetStateSensor (mctp : Mctp) (id : Nat)
  /-- IMAGE_BLOCK_ARRIVAL (R407): A framed image block arrives, claims or checks the lease and is CRC-checked. -/
  | imageBlockArrival (source : Nat) (holder : Nat) (off : Nat) (data : Bytes) (peerLock : Bool)
  /-- LEASE_EXPIRY (R411): 30 minutes without progress expire the lease and discard an unverified slot. -/
  | leaseExpiry
  /-- IMAGE_VERIFY_DONE (R409): Verification of a complete image ends as valid, 0x0807 or 0x0808. -/
  | imageVerifyDone
  /-- IMAGE_RELAY (R413): A verified image is relayed to the partner with forwarded admin commands. -/
  | imageRelay
  /-- ACTIVATION_START (R417): Activation checks pass and the partner begins activating first. -/
  | activationStart (peerMoving : Bool) (peerLock : Bool)
  /-- ACTIVATION_HEAD_RESET (R417): An activating head has moved out, parked and writes the trial pointer, then resets. -/
  | activationHeadReset
  /-- ACTIVATION_NEXT_HEAD (R417): The first head has rejoined with its namespaces back, so the second head is checked and activates. -/
  | activationNextHead (peerMoving : Bool) (peerLock : Bool)
  /-- CONFIRM_TIMER (R416): A trial image has run UPD_CONFIRM minutes without a critical alarm and confirms. -/
  | confirmTimer
  /-- UPD_CONFIRM_CMD (R416): UPD_CMD 1 confirms the running trial image. -/
  | updConfirmCmd
  /-- UPD_RELEASE_CMD (R411): UPD_CMD 2 releases the lease. -/
  | updReleaseCmd
  /-- UPD_RELAY_CMD (R413): UPD_CMD 3 relays the active image to the partner. -/
  | updRelayCmd
  /-- UPD_ACTIVATE_CMD (R417): UPD_CMD 4 activates the staged image. -/
  | updActivateCmd (peerMoving : Bool) (peerLock : Bool)
  /-- UPD_RECOVERY_CMD (R419): UPD_CMD 5 enters Recovery at the next reset. -/
  | updRecoveryCmd
  /-- OWNER_LOCK_WRITE (R412): UPD_CTRL.OWNER_LOCK makes claims and activations refuse with 0x0803. -/
  | ownerLockWrite (v : Bool)
  /-- TFTP_IMAGE_WRITE (R410): A TFTP write of file image stages an image over the management port. -/
  | tftpImageWrite (pkt : MgmtPkt) (ip : Nat) (off : Nat) (data : Bytes) (peerLock : Bool)
  /-- TFTP_COMMIT_WRITE (R410): A TFTP write of file commit applies a commit action. -/
  | tftpCommitWrite (pkt : MgmtPkt) (ip : Nat) (action : Nat) (peerMoving : Bool) (peerLock : Bool)
  /-- PLDM_REQUEST_UPDATE (R412): PLDM RequestUpdate claims the lease or answers ALREADY_IN_UPDATE_MODE. -/
  | pldmRequestUpdate (mctp : Mctp) (eid : Nat) (peerLock : Bool)
  /-- PLDM_ACTIVATE_FIRMWARE (R412): PLDM ActivateFirmware starts activation or is refused. -/
  | pldmActivateFirmware (mctp : Mctp) (eid : Nat) (peerMoving : Bool) (peerLock : Bool)
  /-- RECOVERY_IMAGE (R419): In Recovery a received image is verified, written with a trial pointer and the head resets. -/
  | recoveryImage (pkt : MgmtPkt) (data : Bytes)
  /-- SCRAP_CLEAR_FILE (R419): A signed scrap-clear file sets CLEAR in the named entries. -/
  | scrapClearFile (pkt : MgmtPkt) (b : Bytes)
  /-- OHMUST_FRAME (R427): A 176-clock Ohmust frame carries one request and the previous response. -/
  | ohmustFrame (clocks : Nat) (req : Bytes)
  /-- OHM_NOP (R428): NOP collects the previous response. -/
  | ohmNop (seq : Nat)
  /-- OHM_HELLO (R429): HELLO negotiates the Ohmust version and returns DEVICE_ID bits. -/
  | ohmHello (seq : Nat) (version : Nat)
  /-- OHM_CHALLENGE (R429): CHALLENGE returns a nonce word, fresh at ADDR 0, unless in back-off. -/
  | ohmChallenge (seq : Nat) (addr : Nat)
  /-- OHM_RESPONSE (R429): RESPONSE frames deliver a signature, and Hallmark grants level 1 or 2 or counts a failure. -/
  | ohmResponse (seq : Nat) (level : Nat) (addr : Nat) (word : Nat)
  /-- OHM_LOCK (R429): LOCK ends the unlock. -/
  | ohmLock (seq : Nat)
  /-- OHM_HALT (R431): HALT hands the head over and halts it, or halts one pair in lab mode. -/
  | ohmHalt (seq : Nat) (target : Nat)
  /-- HALT_COMPLETE (R431): Moves and PARK are done and all pairs halt with FOR_MODE Halted. -/
  | haltComplete
  /-- OHM_RESUME (R431): RESUME restarts the pairs, or one pair in lab mode. -/
  | ohmResume (seq : Nat) (target : Nat)
  /-- OHM_STEP (R428): STEP executes instructions on a halted pair. -/
  | ohmStep (seq : Nat) (target : Nat) (count : Nat)
  /-- OHM_BP_SET (R428): BP_SET arms a breakpoint. -/
  | ohmBpSet (seq : Nat) (target : Nat) (addr : Nat) (data : Nat)
  /-- OHM_BP_CLEAR (R428): BP_CLEAR clears a breakpoint. -/
  | ohmBpClear (seq : Nat) (target : Nat) (index : Nat)
  /-- BREAKPOINT_HIT (R432): A breakpoint hit halts its own pair. -/
  | breakpointHit (pair : Nat) (index : Nat)
  /-- OHM_READ_MEM (R437): READ_MEM reads one register or 8 bytes of DRAM. -/
  | ohmReadMem (seq : Nat) (target : Nat) (addr : Nat)
  /-- OHM_WRITE_MEM (R437): WRITE_MEM writes one register or 8 bytes of DRAM where allowed. -/
  | ohmWriteMem (seq : Nat) (target : Nat) (addr : Nat) (data : Nat)
  /-- OHM_READ_REG (R428): READ_REG reads a core register. -/
  | ohmReadReg (seq : Nat) (target : Nat) (addr : Nat)
  /-- OHM_WRITE_REG (R428): WRITE_REG writes a core register of a halted pair. -/
  | ohmWriteReg (seq : Nat) (target : Nat) (addr : Nat) (data : Nat)
  /-- OHM_MAILBOX (R419): MAILBOX writes framed image bytes in Recovery. -/
  | ohmMailbox (seq : Nat) (addr : Nat) (data : Nat)
  /-- UNLOCK_IDLE_TIMEOUT (R429): 30 minutes without a frame end the unlock. -/
  | unlockIdleTimeout
  /-- HLM_ADMIT_OPEN (R424): HLM_CMD 1 opens a 10-minute admit window. -/
  | hlmAdmitOpen
  /-- ADMIT_WINDOW_EXPIRY (R424): The admit window closes after 10 minutes. -/
  | admitWindowExpiry
  /-- HLM_SVN_RAISE (R425): HLM_CMD 2 raises SVN_MIN to a confirmed image's security version. -/
  | hlmSvnRaise (vdd : Bool)
  /-- HLM_ERASE_PAIR_RECORD (R424): HLM_CMD 3 erases the pair record. -/
  | hlmErasePairRecord
  /-- HLM_REVOKE_SLOT (R422): HLM_CMD 4 to 7 revokes signing slot 0 to 3. -/
  | hlmRevokeSlot (slot : Nat) (vdd : Bool)
  /-- DBG_LOCK_NOW (R429): DBG_CTRL.LOCK_NOW ends any unlock. -/
  | dbgLockNow
  /-- DBG_DISABLE (R429): DBG_CTRL.DISABLE refuses every unlock until power-up from Dark. -/
  | dbgDisable
  /-- BLOCK_INTERRUPT_CLAIM (R420): A block interrupt reaches its domain's pairs and the first to claim it handles it. -/
  | blockInterruptClaim (block : Nat) (pair : Nat)
  /-- REGISTER_WRITE (R8): A write to a register with no row of its own acts by its access codes. -/
  | registerWrite (addr : Nat) (bytes : Nat) (value : Nat)
  /-- BAD_ACCESS (R434): An access of wrong width, alignment or offset, or to a powered-down block, is recorded in FOR_ACC_ERR. -/
  | badAccess (source : Nat) (addr : Nat) (bytes : Nat) (write : Bool)
  /-- BAR2_HOST_WRITE (R438): A host write to BAR2 has no effect and is recorded with SOURCE 2. -/
  | bar2HostWrite (off : Nat)
  /-- THERMAL_RECOVER (R453): The hottest die's junction temperature falls 2 °C below Tmax, so the throttled station, fabric and smith clocks are restored. -/
  | thermalRecover (io : Int) (c0 : Int) (c1 : Int)
  /-- STANDBY_SUPPLY_LOSS (R400): Every supply, the standby supply included, is lost and the head falls to Dark with the always-on domain unpowered. -/
  | standbySupplyLoss
  /-- FENCE_IN_DEASSERT (R355): The filtered FENCE_IN line is deasserted by the partner, which releases the hardware hold on this head's back-end transmitters. -/
  | fenceInDeassert
  /-- MGMT_PORT_RESET (R366): A reset requested over the management port resets the head into Forming with cause 6, which is the only way out of Halted-safe other than a board reset. -/
  | mgmtPortReset
  /-- POWER_WARN_N_DEASSERT (R445): POWER_WARN_N has been deasserted for 10 ms, which releases a head held at power-up step 5 with its core in reset. -/
  | powerWarnNDeassert
  /-- ACTIVATION_WAIT_ALARM (R417): The second head has waited 24 h with its activation checks failing, with the pair on two images, and the head raises an alarm. -/
  | activationWaitAlarm
deriving DecidableEq, Repr

end Sys2Proof
end

