-- ==== Sys2Proof/Decode.lean ====
section
/-! DEFINITION. The words of commands. The opcode table gives the commands of this block no bits, so no word spells one. -/

namespace Sys2Proof

/-- The command that a word spells by the opcode table's bits: the table gives no row any bits, so none. [DEDUCED: notes/assumptions/100.md] -/
def decodeTableWord (_nbits _w : Nat) : Option Instr := none

end Sys2Proof
end

