-- ==== Sys2Proof/Machine/Bytes.lean ====
section
/-! DEFINITION. Bytes read as numbers and numbers laid out as bytes (R3, R4), and bit ranges of numbers. -/

namespace Sys2Proof.Machine

/-- The byte at offset `off`, zero past the end. -/
def byteAt (bs : Bytes) (off : Nat) : Nat := (bs.getD off 0).toNat

/-- The little-endian number of `n` bytes at offset `off` (R4). -/
def leAt (bs : Bytes) (off : Nat) : Nat → Nat
  | 0 => 0
  | n + 1 => byteAt bs off + 256 * leAt bs (off + 1) n

/-- The big-endian number of a byte run, as published standards give their integers (R4). -/
def beNat (bs : Bytes) : Nat := bs.foldl (fun a b => a * 256 + b.toNat) 0

/-- `n` bytes of `v`, least significant first (R4). -/
def leBytes (v : Nat) : Nat → Bytes
  | 0 => []
  | n + 1 => BitVec.ofNat 8 v :: leBytes (v / 256) n

/-- `n` bytes of `v`, most significant first. -/
def beBytes (v n : Nat) : Bytes := (leBytes v n).reverse

/-- `n` bytes from offset `off`. -/
def slice (bs : Bytes) (off n : Nat) : Bytes := (bs.drop off).take n

/-- Bits hi..lo of a number (R3). -/
def bits (v hi lo : Nat) : Nat := (v / 2 ^ lo) % 2 ^ (hi + 1 - lo)

/-- Bit `i` of a number. -/
def bitOf (v i : Nat) : Bool := (v / 2 ^ i) % 2 == 1

/-- The value with bits hi..lo replaced by `f`. -/
def setBits (v hi lo f : Nat) : Nat :=
  v % 2 ^ lo + (f % 2 ^ (hi + 1 - lo)) * 2 ^ lo + (v / 2 ^ (hi + 1)) * 2 ^ (hi + 1)

/-- One bit as a number. -/
def bit (b : Bool) : Nat := if b then 1 else 0

/-- Whether every byte of a run is zero, as a reserved field must be (R5). -/
def allZero (bs : Bytes) : Bool := bs.all (· == 0)

/-- Zero bytes. -/
def zeros (n : Nat) : Bytes := List.replicate n 0

/-- Writes the bytes `src` over `dst` from offset `off`; bytes past the end of `dst` are added. -/
def overlay (dst : Bytes) (off : Nat) (src : Bytes) : Bytes :=
  dst.take off ++ zeros (off - dst.length) ++ src ++ dst.drop (off + src.length)

/-- The bitwise exclusive or of two byte runs, to the length of the shorter. -/
def xorBytes (a b : Bytes) : Bytes := List.zipWith (fun x y => x ^^^ y) a b

/-- A run cut into units of `n` bytes, the last one short when the length is no multiple. -/
def chunksOf (n : Nat) (bs : Bytes) : List Bytes :=
  (List.range ((bs.length + n - 1) / n)).map fun i => slice bs (i * n) n

/-- Least common step up: `v` rounded up to a multiple of `m`. -/
def roundUp (v m : Nat) : Nat := (v + m - 1) / m * m

end Sys2Proof.Machine
end

