-- ==== Sys2Proof/Machine/Crc.lean ====
section
/-! DEFINITION. The three check algorithms of Table 7.8 (R160). -/

namespace Sys2Proof.Machine

/-- The three checks of Table 7.8; CHECK code 3 is no check (R163). -/
inductive Check
  | crc16 | crc32c | crc64
deriving DecidableEq, Repr

/-- One bit of a reflected CRC with the reflected polynomial `poly`. -/
def crcShiftR {w : Nat} (poly c : BitVec w) : BitVec w :=
  if c.getLsbD 0 then (c >>> 1) ^^^ poly else c >>> 1

/-- One bit of a CRC that is not reflected. -/
def crcShiftL {w : Nat} (poly c : BitVec w) : BitVec w :=
  if c.msb then (c <<< 1) ^^^ poly else c <<< 1

/-- `n` repetitions of a step on a remainder. -/
def crcRepeat {w : Nat} (f : BitVec w → BitVec w) : Nat → BitVec w → BitVec w
  | 0, c => c
  | n + 1, c => crcRepeat f n (f c)

/-- One byte into a CRC-16 T10-DIF remainder: polynomial 0x8BB7, not reflected. -/
def crc16Byte (c : BitVec 16) (b : Byte) : BitVec 16 :=
  crcRepeat (crcShiftL 0x8BB7#16) 8 (c ^^^ (b.setWidth 16 <<< 8))

/-- One byte into a CRC-32C remainder: polynomial 0x1EDC_6F41, reflected. -/
def crc32cByte (c : BitVec 32) (b : Byte) : BitVec 32 :=
  crcRepeat (crcShiftR 0x82F63B78#32) 8 (c ^^^ b.setWidth 32)

/-- One byte into an NVMe CRC-64 remainder: polynomial 0xAD93_D235_94C9_3659, reflected. -/
def crc64Byte (c : BitVec 64) (b : Byte) : BitVec 64 :=
  crcRepeat (crcShiftR 0x9A6C9329AC4BC9B5#64) 8 (c ^^^ b.setWidth 64)

/-- CRC-16 T10-DIF of a byte run: initial value and final XOR 0 (Table 7.8). -/
def crc16 (bs : Bytes) : Nat := (bs.foldl crc16Byte 0#16).toNat

/-- CRC-32C of a byte run: initial value and final XOR all ones (Table 7.8). -/
def crc32c (bs : Bytes) : Nat := (~~~ (bs.foldl crc32cByte 0xFFFFFFFF#32)).toNat

/-- NVMe CRC-64 of a byte run: initial value and final XOR all ones (Table 7.8). -/
def crc64 (bs : Bytes) : Nat := (~~~ (bs.foldl crc64Byte 0xFFFFFFFFFFFFFFFF#64)).toNat

/-- The value of a check over a byte run (R160). -/
def checkValue : Check → Bytes → Nat
  | .crc16, bs => crc16 bs
  | .crc32c, bs => crc32c bs
  | .crc64, bs => crc64 bs

/-- How many bytes a check value takes when it is appended to a stream. -/
def checkLen : Check → Nat
  | .crc16 => 2
  | .crc32c => 4
  | .crc64 => 8

end Sys2Proof.Machine
end

