-- ==== Sys2Proof/Config.lean ====
section
/-! DEFINITION. What the model leaves open: free values, and the functions of published standards that the spec names and does not define. None has a body that a proof can see. -/

namespace Sys2Proof.Config

/-- A value that the spec does not give. The argument is the state's counter, so each use is a fresh value. [DESIGN CHOICE: notes/assumptions/1.md] -/
opaque freeValue : Nat → Nat

/-- EVENT codes of event records (Table 17.4): the spec names the field and gives no code. Keyed by the model's own numbering of its event names. [DESIGN CHOICE: notes/assumptions/5.md] -/
opaque eventCode : Nat → Nat

/-- ECDSA P-384 verification: public key, digest, signature r then s. [DESIGN CHOICE: notes/assumptions/6.md] -/
opaque ecdsaVerify : Bytes → Bytes → Bytes → Bool

/-- The Lenuvex signing key of slot 0, in ROM (R422). [DESIGN CHOICE: notes/assumptions/6.md] -/
opaque romSignKey : Bytes

/-- The Lenuvex debug key in ROM (R422). [DESIGN CHOICE: notes/assumptions/6.md] -/
opaque romDebugKey : Bytes

/-- The check of a device identity certificate against the Lenuvex root in ROM (R424). [DESIGN CHOICE: notes/assumptions/6.md] -/
opaque certValid : Bytes → Bool

/-- The device identity certificate of this head, in the vault's reserved area (R423, R424). [DESIGN CHOICE: notes/assumptions/6.md] -/
opaque deviceCert : Bytes

/-- The public key that a device identity certificate carries (R424). [DESIGN CHOICE: notes/assumptions/6.md] -/
opaque certKey : Bytes → Bytes

/-- The x-coordinate of a P-384 Diffie-Hellman exchange: private scalar source, peer's public key (R332, R424). [DESIGN CHOICE: notes/assumptions/6.md] -/
opaque ecdh : Bytes → Bytes → Bytes

/-- Values that Hallmark's random bit generator and its secrets give: the argument is the state's counter. [DESIGN CHOICE: notes/assumptions/6.md] -/
opaque randomBytes : Nat → Nat → Bytes

/-- The subsystem NQN that both heads of a pair present (R57): one name, which the spec does not give. [DESIGN CHOICE: notes/assumptions/116.md] -/
opaque subsystemNqn : Bytes

/-- The head-DRAM address of the event log ring, which FOR_EVENT_BASE reports (R385). [DESIGN CHOICE: notes/assumptions/134.md] -/
opaque eventBase : Nat

/-- The head-DRAM address of the scrap list's working copy, which FOR_SCRAP_BASE reports (R382). [DESIGN CHOICE: notes/assumptions/134.md] -/
opaque scrapBase : Nat

/-- The base of the head's GMP transfer window, which HELLO gives (R309, Table 14.4). [DESIGN CHOICE: notes/assumptions/134.md] -/
opaque windowBase : Nat

/-- The base of the completion ring of a root port, which HELLO gives (R308). [DESIGN CHOICE: notes/assumptions/134.md] -/
opaque ringBase : Nat → Nat

end Sys2Proof.Config
end

