-- ==== Sys2Proof/Machine/Records.lean ====
section
/-! DEFINITION. The bytes of an event record and of a scrap-list entry, as DRAM and the sideband show them (Tables 17.2 and 17.4). -/

namespace Sys2Proof.Machine

/-- The 64 bytes of an event record (Table 17.4). -/
def recBytes (r : EventRec) : Bytes :=
  let w1 := r.quality * 2 ^ 62 + r.severity * 2 ^ 60 + r.source * 2 ^ 51 + Config.eventCode r.event.ctorIdx % 2 ^ 16 * 2 ^ 32 + r.status * 2 ^ 16
  let b := leBytes r.time 8 ++ leBytes w1 8 ++ leBytes r.seq 8 ++ leBytes (r.kind * 2 ^ 56 + r.index * 2 ^ 32) 8 ++
    (List.range 3).flatMap (fun i => leBytes (r.args.getD i 0) 8)
  b ++ leBytes (crc32c b) 8

/-- The 32 bytes of a scrap-list entry (Table 17.2). -/
def entryBytes (e : ScrapEntry) : Bytes :=
  let w0 := e.kind * 2 ^ 56 + e.index * 2 ^ 32 + e.cause * 2 ^ 24 + e.errors * 2 ^ 16 + e.status
  let w2 := e.quality * 2 ^ 62 + bit e.clear * 2 ^ 33 + bit e.lapse * 2 ^ 32 + e.seq
  let b := leBytes w0 8 ++ leBytes e.time 8 ++ leBytes w2 8
  b ++ leBytes (crc32c (b ++ zeros 4)) 8

end Sys2Proof.Machine
end

