-- ==== Sys2Proof/Machine/State/RegTypes.lean ====
section
/-! DEFINITION. The shape of a register field and of a register (R7, R8). -/

namespace Sys2Proof.Machine

/-- The access codes of Table 0.3 (R8). -/
inductive Access
  | rw | ro | wo | w1c | w1s | rwl | rs
deriving DecidableEq, Repr

/-- A field: its register's Foreman-space address, its bits, its access code and its reset value. -/
structure Field where
  reg : Nat
  hi : Nat
  lo : Nat
  acc : Access
  reset : Nat
deriving DecidableEq, Repr

/-- A register, or a row of `count` numbered registers `stride` bytes apart: the first address, the width in bits (R7) and its fields. -/
structure RegDesc where
  addr : Nat
  width : Nat
  count : Nat
  stride : Nat
  fields : List Field
deriving DecidableEq, Repr

end Sys2Proof.Machine
end

