-- ==== Sys2Proof/Machine/Regs.lean ====
section
/-! DEFINITION. Every register and every field of Foreman space, one constant per field, from the field maps of the
chapters and the bases of Table 21.1 (R7, R8, R433). A field of a numbered register takes the number. -/

namespace Sys2Proof.Machine

/-- FOR_FORME_STATUS, offset 0x0100, Forme status (spec/20_foreman_hallmark_and_debug.md). -/
abbrev R.FOR_FORME_STATUS : Nat := 0x100
def F.FOR_FORME_STATUS_VERSION : Field := ⟨R.FOR_FORME_STATUS, 31, 16, .ro, 0x0⟩
def F.FOR_FORME_STATUS_MIXED : Field := ⟨R.FOR_FORME_STATUS, 10, 10, .ro, 0x0⟩
def F.FOR_FORME_STATUS_REFORMING : Field := ⟨R.FOR_FORME_STATUS, 9, 9, .ro, 0x0⟩
def F.FOR_FORME_STATUS_PENDING : Field := ⟨R.FOR_FORME_STATUS, 8, 8, .rs, 0x0⟩
def F.FOR_FORME_STATUS_REASON : Field := ⟨R.FOR_FORME_STATUS, 7, 0, .rs, 0x0⟩
/-- FOR_SMITH, offset 0x0104, Smith pairs (spec/20_foreman_hallmark_and_debug.md). -/
abbrev R.FOR_SMITH : Nat := 0x104
def F.FOR_SMITH_RETIRED : Field := ⟨R.FOR_SMITH, 31, 16, .rs, 0x0⟩
def F.FOR_SMITH_HALTED : Field := ⟨R.FOR_SMITH, 15, 0, .ro, 0x0⟩
/-- FOR_FORME_ID, offset 0x0108, Running forme ID (spec/20_foreman_hallmark_and_debug.md). -/
abbrev R.FOR_FORME_ID : Nat := 0x108
def F.FOR_FORME_ID_ID : Field := ⟨R.FOR_FORME_ID, 63, 0, .ro, 0x0⟩
/-- FOR_LINE_FORME0 to FOR_LINE_FORME31, offset 0x0110 + 8 × n, Forme of each line (spec/20_foreman_hallmark_and_debug.md). -/
abbrev R.FOR_LINE_FORME (n : Nat) : Nat := 0x110 + 8 * n
def F.FOR_LINE_FORME_ID (n : Nat) : Field := ⟨(R.FOR_LINE_FORME n), 63, 0, .ro, 0x0⟩
/-- FOR_ID, offset 0x0000, Part identification (spec/21_address_map_and_global_registers.md). -/
abbrev R.FOR_ID : Nat := 0x0
def F.FOR_ID_PART : Field := ⟨R.FOR_ID, 31, 16, .ro, 0x7200⟩
def F.FOR_ID_REV : Field := ⟨R.FOR_ID, 15, 8, .ro, 0xb0⟩
def F.FOR_ID_ORDER : Field := ⟨R.FOR_ID, 7, 4, .ro, 0x0⟩
def F.FOR_ID_HEAD : Field := ⟨R.FOR_ID, 0, 0, .ro, 0x0⟩
/-- FOR_MODE, offset 0x0004, Mode (spec/21_address_map_and_global_registers.md). -/
abbrev R.FOR_MODE : Nat := 0x4
def F.FOR_MODE_PREV : Field := ⟨R.FOR_MODE, 27, 24, .ro, 0x0⟩
def F.FOR_MODE_CHANGES : Field := ⟨R.FOR_MODE, 23, 16, .ro, 0x0⟩
def F.FOR_MODE_SAFE : Field := ⟨R.FOR_MODE, 4, 4, .ro, 0x0⟩
def F.FOR_MODE_MODE : Field := ⟨R.FOR_MODE, 3, 0, .ro, 0x2⟩
/-- FOR_RESET_CAUSE, offset 0x0008, Reset cause (spec/21_address_map_and_global_registers.md). -/
abbrev R.FOR_RESET_CAUSE : Nat := 0x8
def F.FOR_RESET_CAUSE_COUNT : Field := ⟨R.FOR_RESET_CAUSE, 7, 4, .rs, 0x0⟩
def F.FOR_RESET_CAUSE_CAUSE : Field := ⟨R.FOR_RESET_CAUSE, 3, 0, .rs, 0x0⟩
/-- FOR_TEMP, offset 0x000C, Die temperatures (spec/21_address_map_and_global_registers.md). -/
abbrev R.FOR_TEMP : Nat := 0xc
def F.FOR_TEMP_IO : Field := ⟨R.FOR_TEMP, 31, 24, .ro, 0x0⟩
def F.FOR_TEMP_C0 : Field := ⟨R.FOR_TEMP, 23, 16, .ro, 0x0⟩
def F.FOR_TEMP_C1 : Field := ⟨R.FOR_TEMP, 15, 8, .ro, 0x0⟩
def F.FOR_TEMP_HOT : Field := ⟨R.FOR_TEMP, 7, 0, .ro, 0x0⟩
/-- FOR_INT_STATUS, offset 0x0010, Foreman interrupt status (spec/21_address_map_and_global_registers.md). -/
abbrev R.FOR_INT_STATUS : Nat := 0x10
def F.FOR_INT_STATUS_THERMAL : Field := ⟨R.FOR_INT_STATUS, 3, 3, .w1c, 0x0⟩
def F.FOR_INT_STATUS_ACC_ERR : Field := ⟨R.FOR_INT_STATUS, 2, 2, .w1c, 0x0⟩
def F.FOR_INT_STATUS_ALARM : Field := ⟨R.FOR_INT_STATUS, 1, 1, .w1c, 0x0⟩
def F.FOR_INT_STATUS_MODE_CHG : Field := ⟨R.FOR_INT_STATUS, 0, 0, .w1c, 0x0⟩
/-- FOR_INT_ENABLE, offset 0x0014, Foreman interrupt enable (spec/21_address_map_and_global_registers.md). -/
abbrev R.FOR_INT_ENABLE : Nat := 0x14
def F.FOR_INT_ENABLE_EN : Field := ⟨R.FOR_INT_ENABLE, 3, 0, .rw, 0x2⟩
/-- FOR_INT_PENDING, offset 0x0018, Pending block interrupts (spec/21_address_map_and_global_registers.md). -/
abbrev R.FOR_INT_PENDING : Nat := 0x18
def F.FOR_INT_PENDING_BLOCK : Field := ⟨R.FOR_INT_PENDING, 19, 0, .ro, 0x0⟩
/-- FOR_ACC_ERR, offset 0x0020, Bad accesses (spec/21_address_map_and_global_registers.md). -/
abbrev R.FOR_ACC_ERR : Nat := 0x20
def F.FOR_ACC_ERR_SOURCE : Field := ⟨R.FOR_ACC_ERR, 63, 62, .ro, 0x0⟩
def F.FOR_ACC_ERR_KIND : Field := ⟨R.FOR_ACC_ERR, 61, 59, .ro, 0x0⟩
def F.FOR_ACC_ERR_COUNT : Field := ⟨R.FOR_ACC_ERR, 58, 44, .ro, 0x0⟩
def F.FOR_ACC_ERR_ADDR : Field := ⟨R.FOR_ACC_ERR, 27, 0, .ro, 0x0⟩
/-- FOR_MODE_TIME, offset 0x0028, Last mode change (spec/21_address_map_and_global_registers.md). -/
abbrev R.FOR_MODE_TIME : Nat := 0x28
def F.FOR_MODE_TIME_NS : Field := ⟨R.FOR_MODE_TIME, 63, 0, .ro, 0x0⟩
/-- FOR_EVENT_SEQ, offset 0x0030, Latest event record (spec/21_address_map_and_global_registers.md). -/
abbrev R.FOR_EVENT_SEQ : Nat := 0x30
def F.FOR_EVENT_SEQ_SEQ : Field := ⟨R.FOR_EVENT_SEQ, 63, 0, .ro, 0x0⟩
/-- FOR_EVENT_BASE, offset 0x0038, Event log address (spec/21_address_map_and_global_registers.md). -/
abbrev R.FOR_EVENT_BASE : Nat := 0x38
def F.FOR_EVENT_BASE_ADDR : Field := ⟨R.FOR_EVENT_BASE, 63, 0, .ro, 0x0⟩
/-- FOR_SCRAP_BASE, offset 0x0040, Scrap-list address (spec/21_address_map_and_global_registers.md). -/
abbrev R.FOR_SCRAP_BASE : Nat := 0x40
def F.FOR_SCRAP_BASE_ADDR : Field := ⟨R.FOR_SCRAP_BASE, 63, 0, .ro, 0x0⟩
/-- FOR_ALARM_CNT, offset 0x0048, Alarms (spec/21_address_map_and_global_registers.md). -/
abbrev R.FOR_ALARM_CNT : Nat := 0x48
def F.FOR_ALARM_CNT_CRITICAL : Field := ⟨R.FOR_ALARM_CNT, 63, 32, .rs, 0x0⟩
def F.FOR_ALARM_CNT_ALARM : Field := ⟨R.FOR_ALARM_CNT, 31, 0, .rs, 0x0⟩

/-- STK_CTRL, offset 0x0000, Stick control (spec/04_stick_queues_and_tasks.md). -/
abbrev R.STK_CTRL : Nat := 0x1000000
def F.STK_CTRL_FETCH_HOLD : Field := ⟨R.STK_CTRL, 1, 1, .rw, 0x0⟩
def F.STK_CTRL_ENABLE : Field := ⟨R.STK_CTRL, 0, 0, .rwl, 0x0⟩
/-- STK_INT_STATUS, offset 0x0004, Interrupt status (spec/04_stick_queues_and_tasks.md). -/
abbrev R.STK_INT_STATUS : Nat := 0x1000004
def F.STK_INT_STATUS_DRAIN_DONE : Field := ⟨R.STK_INT_STATUS, 6, 6, .w1c, 0x0⟩
def F.STK_INT_STATUS_LEN_ERR : Field := ⟨R.STK_INT_STATUS, 5, 5, .w1c, 0x0⟩
def F.STK_INT_STATUS_CID_CONFLICT : Field := ⟨R.STK_INT_STATUS, 4, 4, .w1c, 0x0⟩
def F.STK_INT_STATUS_STALE : Field := ⟨R.STK_INT_STATUS, 3, 3, .w1c, 0x0⟩
def F.STK_INT_STATUS_CTX_FAULT : Field := ⟨R.STK_INT_STATUS, 2, 2, .w1c, 0x0⟩
def F.STK_INT_STATUS_SLOTS_FULL : Field := ⟨R.STK_INT_STATUS, 1, 1, .w1c, 0x0⟩
def F.STK_INT_STATUS_SET_BUSY : Field := ⟨R.STK_INT_STATUS, 0, 0, .w1c, 0x0⟩
/-- STK_INT_ENABLE, offset 0x0008, Interrupt enable (spec/04_stick_queues_and_tasks.md). -/
abbrev R.STK_INT_ENABLE : Nat := 0x1000008
def F.STK_INT_ENABLE_EN : Field := ⟨R.STK_INT_ENABLE, 6, 0, .rw, 0x0⟩
/-- STK_QSEL, offset 0x0010, Queue select (spec/04_stick_queues_and_tasks.md). -/
abbrev R.STK_QSEL : Nat := 0x1000010
def F.STK_QSEL_QID : Field := ⟨R.STK_QSEL, 15, 0, .rw, 0x0⟩
/-- STK_QSTATE, offset 0x0014, Selected queue state (spec/04_stick_queues_and_tasks.md). -/
abbrev R.STK_QSTATE : Nat := 0x1000014
def F.STK_QSTATE_STATE : Field := ⟨R.STK_QSTATE, 31, 29, .ro, 0x0⟩
def F.STK_QSTATE_ARB_CLASS : Field := ⟨R.STK_QSTATE, 28, 26, .ro, 0x0⟩
def F.STK_QSTATE_DRAIN_CAUSE : Field := ⟨R.STK_QSTATE, 25, 18, .ro, 0x0⟩
def F.STK_QSTATE_CACHED : Field := ⟨R.STK_QSTATE, 17, 17, .ro, 0x0⟩
def F.STK_QSTATE_OUTSTANDING : Field := ⟨R.STK_QSTATE, 15, 0, .ro, 0x0⟩
/-- STK_QCMD, offset 0x0018, Queue command (spec/04_stick_queues_and_tasks.md). -/
abbrev R.STK_QCMD : Nat := 0x1000018
def F.STK_QCMD_CMD : Field := ⟨R.STK_QCMD, 3, 0, .wo, 0x0⟩
/-- STK_STALE_CNT, offset 0x0020, Stale transfer packets (spec/04_stick_queues_and_tasks.md). -/
abbrev R.STK_STALE_CNT : Nat := 0x1000020
def F.STK_STALE_CNT_COUNT : Field := ⟨R.STK_STALE_CNT, 63, 0, .ro, 0x0⟩
/-- STK_LEN_CNT, offset 0x0028, Length errors (spec/04_stick_queues_and_tasks.md). -/
abbrev R.STK_LEN_CNT : Nat := 0x1000028
def F.STK_LEN_CNT_LONG : Field := ⟨R.STK_LEN_CNT, 63, 32, .ro, 0x0⟩
def F.STK_LEN_CNT_SHORT : Field := ⟨R.STK_LEN_CNT, 31, 0, .ro, 0x0⟩
/-- STK_CID_CNT, offset 0x0030, Command identifier conflicts (spec/04_stick_queues_and_tasks.md). -/
abbrev R.STK_CID_CNT : Nat := 0x1000030
def F.STK_CID_CNT_COUNT : Field := ⟨R.STK_CID_CNT, 31, 0, .ro, 0x0⟩
/-- STK_CACHE_HIT, offset 0x0038, Context cache hits (spec/04_stick_queues_and_tasks.md). -/
abbrev R.STK_CACHE_HIT : Nat := 0x1000038
def F.STK_CACHE_HIT_COUNT : Field := ⟨R.STK_CACHE_HIT, 63, 0, .ro, 0x0⟩
/-- STK_CACHE_MISS, offset 0x0040, Context cache misses (spec/04_stick_queues_and_tasks.md). -/
abbrev R.STK_CACHE_MISS : Nat := 0x1000040
def F.STK_CACHE_MISS_COUNT : Field := ⟨R.STK_CACHE_MISS, 63, 0, .ro, 0x0⟩
/-- STK_SLOTS, offset 0x0048, Task slots in use (spec/04_stick_queues_and_tasks.md). -/
abbrev R.STK_SLOTS : Nat := 0x1000048
def F.STK_SLOTS_IN_USE : Field := ⟨R.STK_SLOTS, 17, 0, .ro, 0x0⟩
/-- STK_SLOTS_HWM, offset 0x004C, Task slot high-water mark (spec/04_stick_queues_and_tasks.md). -/
abbrev R.STK_SLOTS_HWM : Nat := 0x100004c
def F.STK_SLOTS_HWM_CLEAR : Field := ⟨R.STK_SLOTS_HWM, 31, 31, .wo, 0x0⟩
def F.STK_SLOTS_HWM_HWM : Field := ⟨R.STK_SLOTS_HWM, 17, 0, .ro, 0x0⟩
/-- STK_TOKENS, offset 0x0050, Tokens in use (spec/04_stick_queues_and_tasks.md). -/
abbrev R.STK_TOKENS : Nat := 0x1000050
def F.STK_TOKENS_IN_USE : Field := ⟨R.STK_TOKENS, 16, 0, .ro, 0x0⟩
/-- STK_QCOUNT, offset 0x0054, Live queues and spares (spec/04_stick_queues_and_tasks.md). -/
abbrev R.STK_QCOUNT : Nat := 0x1000054
def F.STK_QCOUNT_SPARES : Field := ⟨R.STK_QCOUNT, 21, 17, .ro, 0x10⟩
def F.STK_QCOUNT_LIVE : Field := ⟨R.STK_QCOUNT, 16, 0, .ro, 0x0⟩

/-- CHS_CTRL, offset 0x0000, Chase control (spec/05_chase_ordering_and_atomicity.md). -/
abbrev R.CHS_CTRL : Nat := 0x1100000
def F.CHS_CTRL_STAMP_HOLD : Field := ⟨R.CHS_CTRL, 1, 1, .rw, 0x0⟩
def F.CHS_CTRL_ENABLE : Field := ⟨R.CHS_CTRL, 0, 0, .rwl, 0x0⟩
/-- CHS_INT_STATUS, offset 0x0004, Interrupt status (spec/05_chase_ordering_and_atomicity.md). -/
abbrev R.CHS_INT_STATUS : Nat := 0x1100004
def F.CHS_INT_STATUS_LOCKS_FULL : Field := ⟨R.CHS_INT_STATUS, 3, 3, .w1c, 0x0⟩
def F.CHS_INT_STATUS_BOUNDARY_DONE : Field := ⟨R.CHS_INT_STATUS, 2, 2, .w1c, 0x0⟩
def F.CHS_INT_STATUS_CANCEL : Field := ⟨R.CHS_INT_STATUS, 1, 1, .w1c, 0x0⟩
def F.CHS_INT_STATUS_HOLD_LONG : Field := ⟨R.CHS_INT_STATUS, 0, 0, .w1c, 0x0⟩
/-- CHS_INT_ENABLE, offset 0x0008, Interrupt enable (spec/05_chase_ordering_and_atomicity.md). -/
abbrev R.CHS_INT_ENABLE : Nat := 0x1100008
def F.CHS_INT_ENABLE_EN : Field := ⟨R.CHS_INT_ENABLE, 3, 0, .rw, 0x0⟩
/-- CHS_LAST_STAMP, offset 0x0010, Last stamp given (spec/05_chase_ordering_and_atomicity.md). -/
abbrev R.CHS_LAST_STAMP : Nat := 0x1100010
def F.CHS_LAST_STAMP_STAMP : Field := ⟨R.CHS_LAST_STAMP, 63, 0, .ro, 0x0⟩
/-- CHS_LOCKS, offset 0x0018, Range-lock entries in use (spec/05_chase_ordering_and_atomicity.md). -/
abbrev R.CHS_LOCKS : Nat := 0x1100018
def F.CHS_LOCKS_IN_USE : Field := ⟨R.CHS_LOCKS, 18, 0, .ro, 0x0⟩
/-- CHS_LOCKS_HWM, offset 0x001C, Range-lock high-water mark (spec/05_chase_ordering_and_atomicity.md). -/
abbrev R.CHS_LOCKS_HWM : Nat := 0x110001c
def F.CHS_LOCKS_HWM_CLEAR : Field := ⟨R.CHS_LOCKS_HWM, 31, 31, .wo, 0x0⟩
def F.CHS_LOCKS_HWM_HWM : Field := ⟨R.CHS_LOCKS_HWM, 18, 0, .ro, 0x0⟩
/-- CHS_WAIT_CNT, offset 0x0020, Commands that waited (spec/05_chase_ordering_and_atomicity.md). -/
abbrev R.CHS_WAIT_CNT : Nat := 0x1100020
def F.CHS_WAIT_CNT_COUNT : Field := ⟨R.CHS_WAIT_CNT, 63, 0, .ro, 0x0⟩
/-- CHS_FWD_CNT, offset 0x0028, Commands forwarded (spec/05_chase_ordering_and_atomicity.md). -/
abbrev R.CHS_FWD_CNT : Nat := 0x1100028
def F.CHS_FWD_CNT_COUNT : Field := ⟨R.CHS_FWD_CNT, 63, 0, .ro, 0x0⟩
/-- CHS_RESET_CNT, offset 0x0030, Commands resolved by reset (spec/05_chase_ordering_and_atomicity.md). -/
abbrev R.CHS_RESET_CNT : Nat := 0x1100030
def F.CHS_RESET_CNT_TOOK_EFFECT : Field := ⟨R.CHS_RESET_CNT, 63, 32, .ro, 0x0⟩
def F.CHS_RESET_CNT_DISCARDED : Field := ⟨R.CHS_RESET_CNT, 31, 0, .ro, 0x0⟩
/-- CHS_NS_SEL, offset 0x0038, Namespace select (spec/05_chase_ordering_and_atomicity.md). -/
abbrev R.CHS_NS_SEL : Nat := 0x1100038
def F.CHS_NS_SEL_NSID : Field := ⟨R.CHS_NS_SEL, 15, 0, .rw, 0x1⟩
/-- CHS_NS_STATE, offset 0x003C, Selected namespace state (spec/05_chase_ordering_and_atomicity.md). -/
abbrev R.CHS_NS_STATE : Nat := 0x110003c
def F.CHS_NS_STATE_STATE : Field := ⟨R.CHS_NS_STATE, 31, 29, .ro, 0x0⟩
def F.CHS_NS_STATE_OWNER : Field := ⟨R.CHS_NS_STATE, 28, 28, .ro, 0x0⟩
def F.CHS_NS_STATE_CLASS : Field := ⟨R.CHS_NS_STATE, 27, 24, .ro, 0x0⟩
def F.CHS_NS_STATE_PENDING : Field := ⟨R.CHS_NS_STATE, 23, 0, .ro, 0x0⟩
/-- CHS_NS_BOUNDARY, offset 0x0040, Selected namespace boundary (spec/05_chase_ordering_and_atomicity.md). -/
abbrev R.CHS_NS_BOUNDARY : Nat := 0x1100040
def F.CHS_NS_BOUNDARY_BOUNDARY : Field := ⟨R.CHS_NS_BOUNDARY, 63, 0, .ro, 0x0⟩

/-- GLY_CTRL, offset 0x0000, Galley control (spec/06_galley_vault_and_bellows.md). -/
abbrev R.GLY_CTRL : Nat := 0x1200000
def F.GLY_CTRL_FORCE_UNPROT : Field := ⟨R.GLY_CTRL, 1, 1, .rw, 0x0⟩
def F.GLY_CTRL_ENABLE : Field := ⟨R.GLY_CTRL, 0, 0, .rwl, 0x0⟩
/-- GLY_STATUS, offset 0x0004, Galley status (spec/06_galley_vault_and_bellows.md). -/
abbrev R.GLY_STATUS : Nat := 0x1200004
def F.GLY_STATUS_ROW : Field := ⟨R.GLY_STATUS, 7, 4, .ro, 0x0⟩
def F.GLY_STATUS_GUARD : Field := ⟨R.GLY_STATUS, 3, 3, .ro, 0x0⟩
def F.GLY_STATUS_DUMPING : Field := ⟨R.GLY_STATUS, 2, 2, .ro, 0x0⟩
def F.GLY_STATUS_UNPROT : Field := ⟨R.GLY_STATUS, 1, 1, .ro, 0x0⟩
def F.GLY_STATUS_COVER : Field := ⟨R.GLY_STATUS, 0, 0, .ro, 0x0⟩
/-- GLY_INT_STATUS, offset 0x0008, Interrupt status (spec/06_galley_vault_and_bellows.md). -/
abbrev R.GLY_INT_STATUS : Nat := 0x1200008
def F.GLY_INT_STATUS_WAKE_DIGEST : Field := ⟨R.GLY_INT_STATUS, 5, 5, .w1c, 0x0⟩
def F.GLY_INT_STATUS_PIECE_LOST : Field := ⟨R.GLY_INT_STATUS, 4, 4, .w1c, 0x0⟩
def F.GLY_INT_STATUS_VAULT : Field := ⟨R.GLY_INT_STATUS, 3, 3, .w1c, 0x0⟩
def F.GLY_INT_STATUS_BELLOWS : Field := ⟨R.GLY_INT_STATUS, 2, 2, .w1c, 0x0⟩
def F.GLY_INT_STATUS_UNPROT_CHG : Field := ⟨R.GLY_INT_STATUS, 1, 1, .w1c, 0x0⟩
def F.GLY_INT_STATUS_GUARD_IN : Field := ⟨R.GLY_INT_STATUS, 0, 0, .w1c, 0x0⟩
/-- GLY_INT_ENABLE, offset 0x000C, Interrupt enable (spec/06_galley_vault_and_bellows.md). -/
abbrev R.GLY_INT_ENABLE : Nat := 0x120000c
def F.GLY_INT_ENABLE_EN : Field := ⟨R.GLY_INT_ENABLE, 5, 0, .rw, 0x0⟩
/-- GLY_BELLOWS, offset 0x0010, Bellows energy (spec/06_galley_vault_and_bellows.md). -/
abbrev R.GLY_BELLOWS : Nat := 0x1200010
def F.GLY_BELLOWS_STATUS : Field := ⟨R.GLY_BELLOWS, 31, 24, .ro, 0x0⟩
def F.GLY_BELLOWS_STALE : Field := ⟨R.GLY_BELLOWS, 16, 16, .ro, 0x1⟩
def F.GLY_BELLOWS_ENERGY : Field := ⟨R.GLY_BELLOWS, 15, 0, .ro, 0x0⟩
/-- GLY_ENERGY_REQ, offset 0x0014, Dump requirement and mirror cover (spec/06_galley_vault_and_bellows.md). -/
abbrev R.GLY_ENERGY_REQ : Nat := 0x1200014
def F.GLY_ENERGY_REQ_COV : Field := ⟨R.GLY_ENERGY_REQ, 31, 16, .ro, 0x0⟩
def F.GLY_ENERGY_REQ_REQ : Field := ⟨R.GLY_ENERGY_REQ, 15, 0, .ro, 0x0⟩
/-- GLY_USED, offset 0x0018, Data slots in use (spec/06_galley_vault_and_bellows.md). -/
abbrev R.GLY_USED : Nat := 0x1200018
def F.GLY_USED_SLOTS : Field := ⟨R.GLY_USED, 25, 0, .ro, 0x0⟩
/-- GLY_VAULT, offset 0x001C, Vault status (spec/06_galley_vault_and_bellows.md). -/
abbrev R.GLY_VAULT : Nat := 0x120001c
def F.GLY_VAULT_RETIRED : Field := ⟨R.GLY_VAULT, 31, 24, .rs, 0x0⟩
def F.GLY_VAULT_UNUSABLE : Field := ⟨R.GLY_VAULT, 15, 15, .ro, 0x0⟩
def F.GLY_VAULT_STRIPE_6 : Field := ⟨R.GLY_VAULT, 14, 14, .ro, 0x0⟩
def F.GLY_VAULT_RELEASED : Field := ⟨R.GLY_VAULT, 13, 12, .ro, 0x0⟩
def F.GLY_VAULT_SEQ : Field := ⟨R.GLY_VAULT, 11, 0, .ro, 0x0⟩
/-- GLY_BROWN_CNT, offset 0x0020, Supply events (spec/06_galley_vault_and_bellows.md). -/
abbrev R.GLY_BROWN_CNT : Nat := 0x1200020
def F.GLY_BROWN_CNT_DUMPS : Field := ⟨R.GLY_BROWN_CNT, 63, 48, .rs, 0x0⟩
def F.GLY_BROWN_CNT_RESUMES : Field := ⟨R.GLY_BROWN_CNT, 47, 32, .rs, 0x0⟩
def F.GLY_BROWN_CNT_WARNINGS : Field := ⟨R.GLY_BROWN_CNT, 31, 16, .rs, 0x0⟩
def F.GLY_BROWN_CNT_DIPS : Field := ⟨R.GLY_BROWN_CNT, 15, 0, .rs, 0x0⟩
/-- GLY_DUMP_LAST, offset 0x0028, Last dump (spec/06_galley_vault_and_bellows.md). -/
abbrev R.GLY_DUMP_LAST : Nat := 0x1200028
def F.GLY_DUMP_LAST_ENERGY : Field := ⟨R.GLY_DUMP_LAST, 63, 48, .rs, 0x0⟩
def F.GLY_DUMP_LAST_TIME : Field := ⟨R.GLY_DUMP_LAST, 47, 32, .rs, 0x0⟩
def F.GLY_DUMP_LAST_SEGMENTS : Field := ⟨R.GLY_DUMP_LAST, 31, 16, .rs, 0x0⟩
def F.GLY_DUMP_LAST_SEALED : Field := ⟨R.GLY_DUMP_LAST, 3, 3, .rs, 0x0⟩
def F.GLY_DUMP_LAST_PHASES : Field := ⟨R.GLY_DUMP_LAST, 2, 0, .rs, 0x0⟩

/-- ANV_CTRL, offset 0x0000, Anvil control (spec/16_anvil_pair_and_failover.md). -/
abbrev R.ANV_CTRL : Nat := 0x1300000
def F.ANV_CTRL_STRIKE_NOW : Field := ⟨R.ANV_CTRL, 1, 1, .wo, 0x0⟩
def F.ANV_CTRL_ENABLE : Field := ⟨R.ANV_CTRL, 0, 0, .rwl, 0x0⟩
/-- ANV_INT_STATUS, offset 0x0004, Interrupt status (spec/16_anvil_pair_and_failover.md). -/
abbrev R.ANV_INT_STATUS : Nat := 0x1300004
def F.ANV_INT_STATUS_HANDBACK_DONE : Field := ⟨R.ANV_INT_STATUS, 7, 7, .w1c, 0x0⟩
def F.ANV_INT_STATUS_STRIKE_FAIL : Field := ⟨R.ANV_INT_STATUS, 6, 6, .w1c, 0x0⟩
def F.ANV_INT_STATUS_JOIN_STALL : Field := ⟨R.ANV_INT_STATUS, 5, 5, .w1c, 0x0⟩
def F.ANV_INT_STATUS_FENCED : Field := ⟨R.ANV_INT_STATUS, 4, 4, .w1c, 0x0⟩
def F.ANV_INT_STATUS_TAKEOVER_DONE : Field := ⟨R.ANV_INT_STATUS, 3, 3, .w1c, 0x0⟩
def F.ANV_INT_STATUS_LOSS : Field := ⟨R.ANV_INT_STATUS, 2, 2, .w1c, 0x0⟩
def F.ANV_INT_STATUS_BUNDLE_UP : Field := ⟨R.ANV_INT_STATUS, 1, 1, .w1c, 0x0⟩
def F.ANV_INT_STATUS_BUNDLE_DOWN : Field := ⟨R.ANV_INT_STATUS, 0, 0, .w1c, 0x0⟩
/-- ANV_INT_ENABLE, offset 0x0008, Interrupt enable (spec/16_anvil_pair_and_failover.md). -/
abbrev R.ANV_INT_ENABLE : Nat := 0x1300008
def F.ANV_INT_ENABLE_EN : Field := ⟨R.ANV_INT_ENABLE, 7, 0, .rw, 0x0⟩
/-- ANV_PAIR, offset 0x000C, Pair state (spec/16_anvil_pair_and_failover.md). -/
abbrev R.ANV_PAIR : Nat := 0x130000c
def F.ANV_PAIR_PEER_MODE : Field := ⟨R.ANV_PAIR, 31, 28, .ro, 0x0⟩
def F.ANV_PAIR_PARKED : Field := ⟨R.ANV_PAIR, 27, 27, .ro, 0x0⟩
def F.ANV_PAIR_STANDBY : Field := ⟨R.ANV_PAIR, 26, 26, .ro, 0x0⟩
def F.ANV_PAIR_HOLDING : Field := ⟨R.ANV_PAIR, 25, 25, .ro, 0x0⟩
def F.ANV_PAIR_VERSION : Field := ⟨R.ANV_PAIR, 23, 16, .ro, 0x0⟩
def F.ANV_PAIR_LIST : Field := ⟨R.ANV_PAIR, 14, 0, .ro, 0x0⟩
/-- ANV_BUNDLE, offset 0x0010, Bundle state (spec/16_anvil_pair_and_failover.md). -/
abbrev R.ANV_BUNDLE : Nat := 0x1300010
def F.ANV_BUNDLE_THROTTLE : Field := ⟨R.ANV_BUNDLE, 17, 17, .ro, 0x0⟩
def F.ANV_BUNDLE_STATE1 : Field := ⟨R.ANV_BUNDLE, 15, 14, .ro, 0x0⟩
def F.ANV_BUNDLE_UP_SEC1 : Field := ⟨R.ANV_BUNDLE, 13, 8, .ro, 0x0⟩
def F.ANV_BUNDLE_STATE0 : Field := ⟨R.ANV_BUNDLE, 7, 6, .ro, 0x0⟩
def F.ANV_BUNDLE_UP_SEC0 : Field := ⟨R.ANV_BUNDLE, 5, 0, .ro, 0x0⟩
/-- ANV_TONGS, offset 0x0014, Tongs lines (spec/16_anvil_pair_and_failover.md). -/
abbrev R.ANV_TONGS : Nat := 0x1300014
def F.ANV_TONGS_CAP_CLAIM : Field := ⟨R.ANV_TONGS, 7, 7, .w1c, 0x0⟩
def F.ANV_TONGS_CAP_FENCE : Field := ⟨R.ANV_TONGS, 6, 6, .w1c, 0x0⟩
def F.ANV_TONGS_CAP_ALIVE_GAP : Field := ⟨R.ANV_TONGS, 5, 5, .w1c, 0x0⟩
def F.ANV_TONGS_CLAIM_IN : Field := ⟨R.ANV_TONGS, 4, 4, .ro, 0x0⟩
def F.ANV_TONGS_FENCE_IN : Field := ⟨R.ANV_TONGS, 3, 3, .ro, 0x0⟩
def F.ANV_TONGS_ALIVE_OK : Field := ⟨R.ANV_TONGS, 2, 2, .ro, 0x0⟩
def F.ANV_TONGS_CLAIM_OUT : Field := ⟨R.ANV_TONGS, 1, 1, .ro, 0x0⟩
def F.ANV_TONGS_FENCE_OUT : Field := ⟨R.ANV_TONGS, 0, 0, .ro, 0x0⟩
/-- ANV_WDOG, offset 0x0018, Steward watchdog timeout (spec/16_anvil_pair_and_failover.md). -/
abbrev R.ANV_WDOG : Nat := 0x1300018
def F.ANV_WDOG_TIMEOUT : Field := ⟨R.ANV_WDOG, 9, 0, .rwl, 0x64⟩
/-- ANV_HANDBACK, offset 0x001C, Handback command (spec/16_anvil_pair_and_failover.md). -/
abbrev R.ANV_HANDBACK : Nat := 0x130001c
def F.ANV_HANDBACK_BUSY : Field := ⟨R.ANV_HANDBACK, 31, 31, .ro, 0x0⟩
def F.ANV_HANDBACK_RESULT : Field := ⟨R.ANV_HANDBACK, 30, 28, .ro, 0x0⟩
def F.ANV_HANDBACK_CMD : Field := ⟨R.ANV_HANDBACK, 17, 16, .wo, 0x0⟩
def F.ANV_HANDBACK_NSID : Field := ⟨R.ANV_HANDBACK, 15, 0, .rw, 0x0⟩
/-- ANV_TAKEOVER_LAST, offset 0x0020, Last takeover (spec/16_anvil_pair_and_failover.md). -/
abbrev R.ANV_TAKEOVER_LAST : Nat := 0x1300020
def F.ANV_TAKEOVER_LAST_COUNT : Field := ⟨R.ANV_TAKEOVER_LAST, 63, 48, .rs, 0x0⟩
def F.ANV_TAKEOVER_LAST_CAUSE : Field := ⟨R.ANV_TAKEOVER_LAST, 47, 44, .rs, 0x0⟩
def F.ANV_TAKEOVER_LAST_GAP : Field := ⟨R.ANV_TAKEOVER_LAST, 39, 20, .rs, 0x0⟩
def F.ANV_TAKEOVER_LAST_PIECES : Field := ⟨R.ANV_TAKEOVER_LAST, 19, 0, .rs, 0x0⟩
/-- ANV_RETRY_CNT, offset 0x0028, Link errors (spec/16_anvil_pair_and_failover.md). -/
abbrev R.ANV_RETRY_CNT : Nat := 0x1300028
def F.ANV_RETRY_CNT_BAD_MSG : Field := ⟨R.ANV_RETRY_CNT, 63, 48, .ro, 0x0⟩
def F.ANV_RETRY_CNT_DOWN : Field := ⟨R.ANV_RETRY_CNT, 47, 32, .rs, 0x0⟩
def F.ANV_RETRY_CNT_REPLAY : Field := ⟨R.ANV_RETRY_CNT, 31, 0, .ro, 0x0⟩
/-- ANV_STRIKE, offset 0x0030, Last proof strike (spec/16_anvil_pair_and_failover.md). -/
abbrev R.ANV_STRIKE : Nat := 0x1300030
def F.ANV_STRIKE_TIME : Field := ⟨R.ANV_STRIKE, 63, 16, .ro, 0x0⟩
def F.ANV_STRIKE_SKIPPED : Field := ⟨R.ANV_STRIKE, 11, 6, .ro, 0x0⟩
def F.ANV_STRIKE_FAILED : Field := ⟨R.ANV_STRIKE, 5, 0, .ro, 0x0⟩

/-- PUN_CTRL, offset 0x0000, Punch control (spec/08_punch_digest_engine.md). -/
abbrev R.PUN_CTRL : Nat := 0x1400000
def F.PUN_CTRL_KAT_START : Field := ⟨R.PUN_CTRL, 1, 1, .wo, 0x0⟩
def F.PUN_CTRL_ENABLE : Field := ⟨R.PUN_CTRL, 0, 0, .rwl, 0x0⟩
/-- PUN_INT_STATUS, offset 0x0004, Interrupt status (spec/08_punch_digest_engine.md). -/
abbrev R.PUN_INT_STATUS : Nat := 0x1400004
def F.PUN_INT_STATUS_DESC_INVALID : Field := ⟨R.PUN_INT_STATUS, 5, 5, .w1c, 0x0⟩
def F.PUN_INT_STATUS_SLOTS_LOW : Field := ⟨R.PUN_INT_STATUS, 4, 4, .w1c, 0x0⟩
def F.PUN_INT_STATUS_CORE_FAULT : Field := ⟨R.PUN_INT_STATUS, 3, 3, .w1c, 0x0⟩
def F.PUN_INT_STATUS_KAT_FAIL : Field := ⟨R.PUN_INT_STATUS, 2, 2, .w1c, 0x0⟩
def F.PUN_INT_STATUS_CTX_LOST : Field := ⟨R.PUN_INT_STATUS, 1, 1, .w1c, 0x0⟩
def F.PUN_INT_STATUS_KEY_UNAVAIL : Field := ⟨R.PUN_INT_STATUS, 0, 0, .w1c, 0x0⟩
/-- PUN_INT_ENABLE, offset 0x0008, Interrupt enable (spec/08_punch_digest_engine.md). -/
abbrev R.PUN_INT_ENABLE : Nat := 0x1400008
def F.PUN_INT_ENABLE_EN : Field := ⟨R.PUN_INT_ENABLE, 5, 0, .rw, 0x0⟩
/-- PUN_CORE_SEL, offset 0x0010, Core select (spec/08_punch_digest_engine.md). -/
abbrev R.PUN_CORE_SEL : Nat := 0x1400010
def F.PUN_CORE_SEL_CORE : Field := ⟨R.PUN_CORE_SEL, 5, 0, .rw, 0x0⟩
/-- PUN_CORE_STATUS, offset 0x0014, Selected core status (spec/08_punch_digest_engine.md). -/
abbrev R.PUN_CORE_STATUS : Nat := 0x1400014
def F.PUN_CORE_STATUS_STATE : Field := ⟨R.PUN_CORE_STATUS, 31, 30, .ro, 0x0⟩
def F.PUN_CORE_STATUS_ALG : Field := ⟨R.PUN_CORE_STATUS, 29, 27, .ro, 0x0⟩
def F.PUN_CORE_STATUS_KEYED : Field := ⟨R.PUN_CORE_STATUS, 26, 25, .ro, 0x0⟩
def F.PUN_CORE_STATUS_CLASS : Field := ⟨R.PUN_CORE_STATUS, 24, 23, .ro, 0x0⟩
def F.PUN_CORE_STATUS_BOUND : Field := ⟨R.PUN_CORE_STATUS, 22, 22, .ro, 0x0⟩
def F.PUN_CORE_STATUS_LINE : Field := ⟨R.PUN_CORE_STATUS, 21, 17, .ro, 0x0⟩
/-- PUN_SLOTS, offset 0x0018, Save slots of the selected core's cluster (spec/08_punch_digest_engine.md). -/
abbrev R.PUN_SLOTS : Nat := 0x1400018
def F.PUN_SLOTS_RSV_FREE : Field := ⟨R.PUN_SLOTS, 22, 17, .ro, 0x20⟩
def F.PUN_SLOTS_SEG_HELD : Field := ⟨R.PUN_SLOTS, 16, 9, .ro, 0x0⟩
def F.PUN_SLOTS_FREE : Field := ⟨R.PUN_SLOTS, 8, 0, .ro, 0x100⟩
/-- PUN_JOB_CNT, offset 0x0020, Jobs ended (spec/08_punch_digest_engine.md). -/
abbrev R.PUN_JOB_CNT : Nat := 0x1400020
def F.PUN_JOB_CNT_COUNT : Field := ⟨R.PUN_JOB_CNT, 63, 0, .ro, 0x0⟩
/-- PUN_PREEMPT_CNT, offset 0x0028, Preemptions (spec/08_punch_digest_engine.md). -/
abbrev R.PUN_PREEMPT_CNT : Nat := 0x1400028
def F.PUN_PREEMPT_CNT_SKIPPED : Field := ⟨R.PUN_PREEMPT_CNT, 63, 32, .ro, 0x0⟩
def F.PUN_PREEMPT_CNT_DONE : Field := ⟨R.PUN_PREEMPT_CNT, 31, 0, .ro, 0x0⟩
/-- PUN_FAIL_CNT, offset 0x0030, Failed jobs (spec/08_punch_digest_engine.md). -/
abbrev R.PUN_FAIL_CNT : Nat := 0x1400030
def F.PUN_FAIL_CNT_KEY : Field := ⟨R.PUN_FAIL_CNT, 63, 48, .ro, 0x0⟩
def F.PUN_FAIL_CNT_LOST : Field := ⟨R.PUN_FAIL_CNT, 47, 32, .ro, 0x0⟩
def F.PUN_FAIL_CNT_LONG : Field := ⟨R.PUN_FAIL_CNT, 31, 16, .ro, 0x0⟩
def F.PUN_FAIL_CNT_INVALID : Field := ⟨R.PUN_FAIL_CNT, 15, 0, .ro, 0x0⟩
/-- PUN_RETIRED, offset 0x0038, Retired cores (spec/08_punch_digest_engine.md). -/
abbrev R.PUN_RETIRED : Nat := 0x1400038
def F.PUN_RETIRED_RETIRED : Field := ⟨R.PUN_RETIRED, 47, 0, .rs, 0x0⟩

/-- MTX_CTRL, offset 0x0000, Matrix control (spec/09_matrix_deduplication.md). -/
abbrev R.MTX_CTRL : Nat := 0x1500000
def F.MTX_CTRL_CATCHUP_SHARE : Field := ⟨R.MTX_CTRL, 14, 8, .rw, 0xa⟩
def F.MTX_CTRL_ENABLE : Field := ⟨R.MTX_CTRL, 0, 0, .rwl, 0x0⟩
/-- MTX_INT_STATUS, offset 0x0004, Interrupt status (spec/09_matrix_deduplication.md). -/
abbrev R.MTX_INT_STATUS : Nat := 0x1500004
def F.MTX_INT_STATUS_BUCKET_ERR : Field := ⟨R.MTX_INT_STATUS, 6, 6, .w1c, 0x0⟩
def F.MTX_INT_STATUS_OVERFLOW : Field := ⟨R.MTX_INT_STATUS, 5, 5, .w1c, 0x0⟩
def F.MTX_INT_STATUS_CATCHUP_DONE : Field := ⟨R.MTX_INT_STATUS, 4, 4, .w1c, 0x0⟩
def F.MTX_INT_STATUS_HALF_CHG : Field := ⟨R.MTX_INT_STATUS, 3, 3, .w1c, 0x0⟩
def F.MTX_INT_STATUS_COLLISION : Field := ⟨R.MTX_INT_STATUS, 2, 2, .w1c, 0x0⟩
def F.MTX_INT_STATUS_FILTER_FULL : Field := ⟨R.MTX_INT_STATUS, 1, 1, .w1c, 0x0⟩
def F.MTX_INT_STATUS_FILTER_HIGH : Field := ⟨R.MTX_INT_STATUS, 0, 0, .w1c, 0x0⟩
/-- MTX_INT_ENABLE, offset 0x0008, Interrupt enable (spec/09_matrix_deduplication.md). -/
abbrev R.MTX_INT_ENABLE : Nat := 0x1500008
def F.MTX_INT_ENABLE_EN : Field := ⟨R.MTX_INT_ENABLE, 6, 0, .rw, 0x0⟩
/-- MTX_HALF, offset 0x000C, Half states (spec/09_matrix_deduplication.md). -/
abbrev R.MTX_HALF : Nat := 0x150000c
def F.MTX_HALF_LOAD_PCT : Field := ⟨R.MTX_HALF, 23, 16, .ro, 0x0⟩
def F.MTX_HALF_HALF1 : Field := ⟨R.MTX_HALF, 6, 4, .ro, 0x0⟩
def F.MTX_HALF_HALF0 : Field := ⟨R.MTX_HALF, 2, 0, .ro, 0x0⟩
/-- MTX_FILTER_SLOTS, offset 0x0010, Filter slots (spec/09_matrix_deduplication.md). -/
abbrev R.MTX_FILTER_SLOTS : Nat := 0x1500010
def F.MTX_FILTER_SLOTS_S : Field := ⟨R.MTX_FILTER_SLOTS, 63, 0, .ro, 0x0⟩
/-- MTX_FILL0 to MTX_FILL1, offset 0x0018 and 0x0020, Half filter fill (spec/09_matrix_deduplication.md). -/
abbrev R.MTX_FILL (n : Nat) : Nat := 0x1500018 + 8 * n
def F.MTX_FILL_USED (n : Nat) : Field := ⟨(R.MTX_FILL n), 63, 0, .ro, 0x0⟩
/-- MTX_LOOKUP_CNT, offset 0x0028, Lookups (spec/09_matrix_deduplication.md). -/
abbrev R.MTX_LOOKUP_CNT : Nat := 0x1500028
def F.MTX_LOOKUP_CNT_REMOTE : Field := ⟨R.MTX_LOOKUP_CNT, 63, 32, .ro, 0x0⟩
def F.MTX_LOOKUP_CNT_LOCAL : Field := ⟨R.MTX_LOOKUP_CNT, 31, 0, .ro, 0x0⟩
/-- MTX_FOUND_CNT, offset 0x0030, Found and false positives (spec/09_matrix_deduplication.md). -/
abbrev R.MTX_FOUND_CNT : Nat := 0x1500030
def F.MTX_FOUND_CNT_FALSE_POS : Field := ⟨R.MTX_FOUND_CNT, 63, 32, .ro, 0x0⟩
def F.MTX_FOUND_CNT_FOUND : Field := ⟨R.MTX_FOUND_CNT, 31, 0, .ro, 0x0⟩
/-- MTX_NOINDEX_CNT, offset 0x0038, Unindexed grains and collisions (spec/09_matrix_deduplication.md). -/
abbrev R.MTX_NOINDEX_CNT : Nat := 0x1500038
def F.MTX_NOINDEX_CNT_COLLISION : Field := ⟨R.MTX_NOINDEX_CNT, 63, 32, .rs, 0x0⟩
def F.MTX_NOINDEX_CNT_NOINDEX : Field := ⟨R.MTX_NOINDEX_CNT, 31, 0, .rs, 0x0⟩
/-- MTX_DEFER_LEFT, offset 0x0040, Deferred grains outstanding (spec/09_matrix_deduplication.md). -/
abbrev R.MTX_DEFER_LEFT : Nat := 0x1500040
def F.MTX_DEFER_LEFT_COUNT : Field := ⟨R.MTX_DEFER_LEFT, 63, 0, .ro, 0x0⟩
/-- MTX_CATCHUP_CNT, offset 0x0048, Catch-up results (spec/09_matrix_deduplication.md). -/
abbrev R.MTX_CATCHUP_CNT : Nat := 0x1500048
def F.MTX_CATCHUP_CNT_MERGED : Field := ⟨R.MTX_CATCHUP_CNT, 63, 32, .ro, 0x0⟩
def F.MTX_CATCHUP_CNT_INDEXED : Field := ⟨R.MTX_CATCHUP_CNT, 31, 0, .ro, 0x0⟩
/-- MTX_ALLOC_HWM0 to MTX_ALLOC_HWM1, offset 0x0050 and 0x0058, Half allocation mark (spec/09_matrix_deduplication.md). -/
abbrev R.MTX_ALLOC_HWM (n : Nat) : Nat := 0x1500050 + 8 * n
def F.MTX_ALLOC_HWM_HWM (n : Nat) : Field := ⟨(R.MTX_ALLOC_HWM n), 46, 0, .ro, 0x0⟩

/-- SWG_CTRL, offset 0x0000, Swage control (spec/10_swage_compression.md). -/
abbrev R.SWG_CTRL : Nat := 0x1600000
def F.SWG_CTRL_KAT_START : Field := ⟨R.SWG_CTRL, 1, 1, .wo, 0x0⟩
def F.SWG_CTRL_ENABLE : Field := ⟨R.SWG_CTRL, 0, 0, .rwl, 0x0⟩
/-- SWG_INT_STATUS, offset 0x0004, Interrupt status (spec/10_swage_compression.md). -/
abbrev R.SWG_INT_STATUS : Nat := 0x1600004
def F.SWG_INT_STATUS_STREAM_CHECK : Field := ⟨R.SWG_INT_STATUS, 5, 5, .w1c, 0x0⟩
def F.SWG_INT_STATUS_DESC_INVALID : Field := ⟨R.SWG_INT_STATUS, 4, 4, .w1c, 0x0⟩
def F.SWG_INT_STATUS_VERIFY_FAIL : Field := ⟨R.SWG_INT_STATUS, 3, 3, .w1c, 0x0⟩
def F.SWG_INT_STATUS_FORMAT_INVALID : Field := ⟨R.SWG_INT_STATUS, 2, 2, .w1c, 0x0⟩
def F.SWG_INT_STATUS_KAT_FAIL : Field := ⟨R.SWG_INT_STATUS, 1, 1, .w1c, 0x0⟩
def F.SWG_INT_STATUS_EXHAUSTED : Field := ⟨R.SWG_INT_STATUS, 0, 0, .w1c, 0x0⟩
/-- SWG_INT_ENABLE, offset 0x0008, Interrupt enable (spec/10_swage_compression.md). -/
abbrev R.SWG_INT_ENABLE : Nat := 0x1600008
def F.SWG_INT_ENABLE_EN : Field := ⟨R.SWG_INT_ENABLE, 5, 0, .rw, 0x0⟩
/-- SWG_LANE_SEL, offset 0x0010, Lane select (spec/10_swage_compression.md). -/
abbrev R.SWG_LANE_SEL : Nat := 0x1600010
def F.SWG_LANE_SEL_LANE : Field := ⟨R.SWG_LANE_SEL, 6, 0, .rw, 0x0⟩
/-- SWG_LANE_STATUS, offset 0x0014, Selected lane status (spec/10_swage_compression.md). -/
abbrev R.SWG_LANE_STATUS : Nat := 0x1600014
def F.SWG_LANE_STATUS_STATE : Field := ⟨R.SWG_LANE_STATUS, 31, 30, .ro, 0x0⟩
def F.SWG_LANE_STATUS_KIND : Field := ⟨R.SWG_LANE_STATUS, 29, 29, .ro, 0x0⟩
def F.SWG_LANE_STATUS_BOUND : Field := ⟨R.SWG_LANE_STATUS, 28, 28, .ro, 0x0⟩
def F.SWG_LANE_STATUS_LINE : Field := ⟨R.SWG_LANE_STATUS, 27, 23, .ro, 0x0⟩
/-- SWG_BYTES_IN, offset 0x0020, Bytes taken in by compression (spec/10_swage_compression.md). -/
abbrev R.SWG_BYTES_IN : Nat := 0x1600020
def F.SWG_BYTES_IN_COUNT : Field := ⟨R.SWG_BYTES_IN, 63, 0, .ro, 0x0⟩
/-- SWG_BYTES_OUT, offset 0x0028, Bytes of blocks emitted (spec/10_swage_compression.md). -/
abbrev R.SWG_BYTES_OUT : Nat := 0x1600028
def F.SWG_BYTES_OUT_COUNT : Field := ⟨R.SWG_BYTES_OUT, 63, 0, .ro, 0x0⟩
/-- SWG_RESULT_CNT, offset 0x0030, No Gain and exhausted results (spec/10_swage_compression.md). -/
abbrev R.SWG_RESULT_CNT : Nat := 0x1600030
def F.SWG_RESULT_CNT_NO_GAIN : Field := ⟨R.SWG_RESULT_CNT, 63, 32, .ro, 0x0⟩
def F.SWG_RESULT_CNT_EXHAUSTED : Field := ⟨R.SWG_RESULT_CNT, 31, 0, .ro, 0x0⟩
/-- SWG_FAIL_CNT, offset 0x0038, Failed jobs (spec/10_swage_compression.md). -/
abbrev R.SWG_FAIL_CNT : Nat := 0x1600038
def F.SWG_FAIL_CNT_STREAM_CHECK : Field := ⟨R.SWG_FAIL_CNT, 63, 48, .ro, 0x0⟩
def F.SWG_FAIL_CNT_DESC_INVALID : Field := ⟨R.SWG_FAIL_CNT, 47, 32, .ro, 0x0⟩
def F.SWG_FAIL_CNT_VERIFY : Field := ⟨R.SWG_FAIL_CNT, 31, 16, .ro, 0x0⟩
def F.SWG_FAIL_CNT_FORMAT : Field := ⟨R.SWG_FAIL_CNT, 15, 0, .ro, 0x0⟩
/-- SWG_PRED_CNT, offset 0x0040, Predictor choices (spec/10_swage_compression.md). -/
abbrev R.SWG_PRED_CNT : Nat := 0x1600040
def F.SWG_PRED_CNT_MATCH : Field := ⟨R.SWG_PRED_CNT, 63, 48, .ro, 0x0⟩
def F.SWG_PRED_CNT_STRIDE : Field := ⟨R.SWG_PRED_CNT, 47, 32, .ro, 0x0⟩
def F.SWG_PRED_CNT_LEFT : Field := ⟨R.SWG_PRED_CNT, 31, 16, .ro, 0x0⟩
def F.SWG_PRED_CNT_ZERO : Field := ⟨R.SWG_PRED_CNT, 15, 0, .ro, 0x0⟩
/-- SWG_RETIRED0, offset 0x0048, Retired lanes 0 to 63 (spec/10_swage_compression.md). -/
abbrev R.SWG_RETIRED0 : Nat := 0x1600048
def F.SWG_RETIRED0_RETIRED : Field := ⟨R.SWG_RETIRED0, 63, 0, .rs, 0x0⟩
/-- SWG_RETIRED1, offset 0x0050, Retired lanes 64 to 119 (spec/10_swage_compression.md). -/
abbrev R.SWG_RETIRED1 : Nat := 0x1600050
def F.SWG_RETIRED1_RETIRED : Field := ⟨R.SWG_RETIRED1, 55, 0, .rs, 0x0⟩

/-- TMP_CTRL, offset 0x0000, Temper control (spec/11_temper_cipher.md). -/
abbrev R.TMP_CTRL : Nat := 0x1700000
def F.TMP_CTRL_KAT_START : Field := ⟨R.TMP_CTRL, 1, 1, .wo, 0x0⟩
def F.TMP_CTRL_ENABLE : Field := ⟨R.TMP_CTRL, 0, 0, .rwl, 0x0⟩
/-- TMP_INT_STATUS, offset 0x0004, Interrupt status (spec/11_temper_cipher.md). -/
abbrev R.TMP_INT_STATUS : Nat := 0x1700004
def F.TMP_INT_STATUS_EPOCH_RAISED : Field := ⟨R.TMP_INT_STATUS, 7, 7, .w1c, 0x0⟩
def F.TMP_INT_STATUS_KEY_UNAVAIL : Field := ⟨R.TMP_INT_STATUS, 6, 6, .w1c, 0x0⟩
def F.TMP_INT_STATUS_DESC_INVALID : Field := ⟨R.TMP_INT_STATUS, 5, 5, .w1c, 0x0⟩
def F.TMP_INT_STATUS_KAT_FAIL : Field := ⟨R.TMP_INT_STATUS, 4, 4, .w1c, 0x0⟩
def F.TMP_INT_STATUS_CHECK_FAIL : Field := ⟨R.TMP_INT_STATUS, 3, 3, .w1c, 0x0⟩
def F.TMP_INT_STATUS_KEY_EXHAUST : Field := ⟨R.TMP_INT_STATUS, 2, 2, .w1c, 0x0⟩
def F.TMP_INT_STATUS_KEY_WARN : Field := ⟨R.TMP_INT_STATUS, 1, 1, .w1c, 0x0⟩
def F.TMP_INT_STATUS_AUTH : Field := ⟨R.TMP_INT_STATUS, 0, 0, .w1c, 0x0⟩
/-- TMP_INT_ENABLE, offset 0x0008, Interrupt enable (spec/11_temper_cipher.md). -/
abbrev R.TMP_INT_ENABLE : Nat := 0x1700008
def F.TMP_INT_ENABLE_EN : Field := ⟨R.TMP_INT_ENABLE, 7, 0, .rw, 0x0⟩
/-- TMP_PAIR_SEL, offset 0x0010, Pair select (spec/11_temper_cipher.md). -/
abbrev R.TMP_PAIR_SEL : Nat := 0x1700010
def F.TMP_PAIR_SEL_PAIR : Field := ⟨R.TMP_PAIR_SEL, 4, 0, .rw, 0x0⟩
/-- TMP_PAIR_STATUS, offset 0x0014, Selected pair status (spec/11_temper_cipher.md). -/
abbrev R.TMP_PAIR_STATUS : Nat := 0x1700014
def F.TMP_PAIR_STATUS_STATE : Field := ⟨R.TMP_PAIR_STATUS, 31, 30, .ro, 0x0⟩
def F.TMP_PAIR_STATUS_BOUND : Field := ⟨R.TMP_PAIR_STATUS, 29, 29, .ro, 0x0⟩
def F.TMP_PAIR_STATUS_LINE : Field := ⟨R.TMP_PAIR_STATUS, 28, 24, .ro, 0x0⟩
def F.TMP_PAIR_STATUS_MODE : Field := ⟨R.TMP_PAIR_STATUS, 23, 21, .ro, 0x0⟩
def F.TMP_PAIR_STATUS_SLOTS : Field := ⟨R.TMP_PAIR_STATUS, 20, 18, .ro, 0x0⟩
/-- TMP_KEYS, offset 0x0018, Key tiers (spec/11_temper_cipher.md). -/
abbrev R.TMP_KEYS : Nat := 0x1700018
def F.TMP_KEYS_WRAPPED : Field := ⟨R.TMP_KEYS, 31, 15, .ro, 0x0⟩
def F.TMP_KEYS_STORE_FREE : Field := ⟨R.TMP_KEYS, 8, 0, .ro, 0x100⟩
/-- TMP_KEY_SEL, offset 0x001C, Key handle select (spec/11_temper_cipher.md). -/
abbrev R.TMP_KEY_SEL : Nat := 0x170001c
def F.TMP_KEY_SEL_REALM : Field := ⟨R.TMP_KEY_SEL, 31, 20, .rw, 0x0⟩
def F.TMP_KEY_SEL_PURPOSE : Field := ⟨R.TMP_KEY_SEL, 19, 16, .rw, 0x0⟩
def F.TMP_KEY_SEL_KEY_GEN : Field := ⟨R.TMP_KEY_SEL, 15, 8, .rw, 0x0⟩
/-- TMP_KEY_STATE, offset 0x0020, Selected key state (spec/11_temper_cipher.md). -/
abbrev R.TMP_KEY_STATE : Nat := 0x1700020
def F.TMP_KEY_STATE_EPOCH : Field := ⟨R.TMP_KEY_STATE, 31, 16, .ro, 0x0⟩
def F.TMP_KEY_STATE_STATE : Field := ⟨R.TMP_KEY_STATE, 15, 13, .ro, 0x0⟩
def F.TMP_KEY_STATE_WARN : Field := ⟨R.TMP_KEY_STATE, 12, 12, .ro, 0x0⟩
def F.TMP_KEY_STATE_EXHAUSTED : Field := ⟨R.TMP_KEY_STATE, 11, 11, .ro, 0x0⟩
def F.TMP_KEY_STATE_PRESENT : Field := ⟨R.TMP_KEY_STATE, 10, 10, .ro, 0x0⟩
/-- TMP_KEY_CMD, offset 0x0024, Key command (spec/11_temper_cipher.md). -/
abbrev R.TMP_KEY_CMD : Nat := 0x1700024
def F.TMP_KEY_CMD_BUSY : Field := ⟨R.TMP_KEY_CMD, 31, 31, .ro, 0x0⟩
def F.TMP_KEY_CMD_RESULT : Field := ⟨R.TMP_KEY_CMD, 30, 28, .ro, 0x0⟩
def F.TMP_KEY_CMD_CMD : Field := ⟨R.TMP_KEY_CMD, 3, 0, .wo, 0x0⟩
/-- TMP_KEY_CTR, offset 0x0028, Selected key counter (spec/11_temper_cipher.md). -/
abbrev R.TMP_KEY_CTR : Nat := 0x1700028
def F.TMP_KEY_CTR_NEXT : Field := ⟨R.TMP_KEY_CTR, 63, 0, .ro, 0x0⟩
/-- TMP_JOB_CNT, offset 0x0030, Jobs ended (spec/11_temper_cipher.md). -/
abbrev R.TMP_JOB_CNT : Nat := 0x1700030
def F.TMP_JOB_CNT_COUNT : Field := ⟨R.TMP_JOB_CNT, 63, 0, .ro, 0x0⟩
/-- TMP_FAIL_CNT, offset 0x0038, Failed jobs (spec/11_temper_cipher.md). -/
abbrev R.TMP_FAIL_CNT : Nat := 0x1700038
def F.TMP_FAIL_CNT_INVALID : Field := ⟨R.TMP_FAIL_CNT, 63, 48, .ro, 0x0⟩
def F.TMP_FAIL_CNT_UNAVAIL : Field := ⟨R.TMP_FAIL_CNT, 47, 32, .ro, 0x0⟩
def F.TMP_FAIL_CNT_EXHAUSTED : Field := ⟨R.TMP_FAIL_CNT, 31, 16, .ro, 0x0⟩
def F.TMP_FAIL_CNT_AUTH : Field := ⟨R.TMP_FAIL_CNT, 15, 0, .ro, 0x0⟩
/-- TMP_CHECK_CNT, offset 0x0040, Check failures (spec/11_temper_cipher.md). -/
abbrev R.TMP_CHECK_CNT : Nat := 0x1700040
def F.TMP_CHECK_CNT_COUNT : Field := ⟨R.TMP_CHECK_CNT, 63, 0, .ro, 0x0⟩
/-- TMP_RETIRED, offset 0x0048, Retired pairs (spec/11_temper_cipher.md). -/
abbrev R.TMP_RETIRED : Nat := 0x1700048
def F.TMP_RETIRED_RETIRED : Field := ⟨R.TMP_RETIRED, 31, 0, .rs, 0x0⟩

/-- PRF_CTRL, offset 0x0000, Proof control (spec/07_data_lines_and_proof.md). -/
abbrev R.PRF_CTRL : Nat := 0x1800000
def F.PRF_CTRL_KAT_START : Field := ⟨R.PRF_CTRL, 1, 1, .wo, 0x0⟩
def F.PRF_CTRL_ENABLE : Field := ⟨R.PRF_CTRL, 0, 0, .rwl, 0x0⟩
/-- PRF_INT_STATUS, offset 0x0004, Interrupt status (spec/07_data_lines_and_proof.md). -/
abbrev R.PRF_INT_STATUS : Nat := 0x1800004
def F.PRF_INT_STATUS_UNIT_FAULT : Field := ⟨R.PRF_INT_STATUS, 5, 5, .w1c, 0x0⟩
def F.PRF_INT_STATUS_KAT_FAIL : Field := ⟨R.PRF_INT_STATUS, 4, 4, .w1c, 0x0⟩
def F.PRF_INT_STATUS_GALLEY_PI : Field := ⟨R.PRF_INT_STATUS, 3, 3, .w1c, 0x0⟩
def F.PRF_INT_STATUS_RECON : Field := ⟨R.PRF_INT_STATUS, 2, 2, .w1c, 0x0⟩
def F.PRF_INT_STATUS_REPAIR : Field := ⟨R.PRF_INT_STATUS, 1, 1, .w1c, 0x0⟩
def F.PRF_INT_STATUS_INGEST : Field := ⟨R.PRF_INT_STATUS, 0, 0, .w1c, 0x0⟩
/-- PRF_INT_ENABLE, offset 0x0008, Interrupt enable (spec/07_data_lines_and_proof.md). -/
abbrev R.PRF_INT_ENABLE : Nat := 0x1800008
def F.PRF_INT_ENABLE_EN : Field := ⟨R.PRF_INT_ENABLE, 5, 0, .rw, 0x0⟩
/-- PRF_UNIT_SEL, offset 0x0010, Unit select (spec/07_data_lines_and_proof.md). -/
abbrev R.PRF_UNIT_SEL : Nat := 0x1800010
def F.PRF_UNIT_SEL_UNIT : Field := ⟨R.PRF_UNIT_SEL, 7, 0, .rw, 0x0⟩
/-- PRF_UNIT_STATUS, offset 0x0014, Selected unit status (spec/07_data_lines_and_proof.md). -/
abbrev R.PRF_UNIT_STATUS : Nat := 0x1800014
def F.PRF_UNIT_STATUS_STATE : Field := ⟨R.PRF_UNIT_STATUS, 31, 30, .ro, 0x0⟩
def F.PRF_UNIT_STATUS_CHECK : Field := ⟨R.PRF_UNIT_STATUS, 29, 28, .ro, 0x0⟩
def F.PRF_UNIT_STATUS_BOUND : Field := ⟨R.PRF_UNIT_STATUS, 27, 27, .ro, 0x0⟩
def F.PRF_UNIT_STATUS_LINE : Field := ⟨R.PRF_UNIT_STATUS, 26, 22, .ro, 0x0⟩
def F.PRF_UNIT_STATUS_MISS_HOUR : Field := ⟨R.PRF_UNIT_STATUS, 15, 8, .ro, 0x0⟩
/-- PRF_RSTREAM, offset 0x0018, Register-mode stream control (spec/07_data_lines_and_proof.md). -/
abbrev R.PRF_RSTREAM : Nat := 0x1800018
def F.PRF_RSTREAM_OPEN : Field := ⟨R.PRF_RSTREAM, 31, 31, .wo, 0x0⟩
def F.PRF_RSTREAM_CLOSE : Field := ⟨R.PRF_RSTREAM, 30, 30, .wo, 0x0⟩
def F.PRF_RSTREAM_PENDING : Field := ⟨R.PRF_RSTREAM, 29, 29, .ro, 0x0⟩
def F.PRF_RSTREAM_OPENED : Field := ⟨R.PRF_RSTREAM, 28, 28, .ro, 0x0⟩
def F.PRF_RSTREAM_ERR : Field := ⟨R.PRF_RSTREAM, 27, 27, .w1c, 0x0⟩
def F.PRF_RSTREAM_CHECK : Field := ⟨R.PRF_RSTREAM, 23, 22, .rw, 0x0⟩
/-- PRF_RDATA, offset 0x001C, Register-mode data (spec/07_data_lines_and_proof.md). -/
abbrev R.PRF_RDATA : Nat := 0x180001c
def F.PRF_RDATA_DATA : Field := ⟨R.PRF_RDATA, 31, 0, .wo, 0x0⟩
/-- PRF_RRESULT, offset 0x0020, Register-mode result (spec/07_data_lines_and_proof.md). -/
abbrev R.PRF_RRESULT : Nat := 0x1800020
def F.PRF_RRESULT_RESULT : Field := ⟨R.PRF_RRESULT, 63, 0, .ro, 0x0⟩
/-- PRF_INGEST_CNT, offset 0x0028, Ingest failures (spec/07_data_lines_and_proof.md). -/
abbrev R.PRF_INGEST_CNT : Nat := 0x1800028
def F.PRF_INGEST_CNT_HOST : Field := ⟨R.PRF_INGEST_CNT, 63, 32, .ro, 0x0⟩
def F.PRF_INGEST_CNT_ANVIL : Field := ⟨R.PRF_INGEST_CNT, 31, 0, .ro, 0x0⟩
/-- PRF_SUSPECT_CNT, offset 0x0030, Check-field failures (spec/07_data_lines_and_proof.md). -/
abbrev R.PRF_SUSPECT_CNT : Nat := 0x1800030
def F.PRF_SUSPECT_CNT_RECON : Field := ⟨R.PRF_SUSPECT_CNT, 63, 32, .ro, 0x0⟩
def F.PRF_SUSPECT_CNT_SUSPECT : Field := ⟨R.PRF_SUSPECT_CNT, 31, 0, .ro, 0x0⟩
/-- PRF_REPAIR_CNT, offset 0x0038, Repairs (spec/07_data_lines_and_proof.md). -/
abbrev R.PRF_REPAIR_CNT : Nat := 0x1800038
def F.PRF_REPAIR_CNT_GALLEY : Field := ⟨R.PRF_REPAIR_CNT, 63, 32, .ro, 0x0⟩
def F.PRF_REPAIR_CNT_REPAIRED : Field := ⟨R.PRF_REPAIR_CNT, 31, 0, .ro, 0x0⟩
/-- PRF_RETIRED0 to PRF_RETIRED3, offset 0x0040 + 8 × n, Retired units (spec/07_data_lines_and_proof.md). -/
abbrev R.PRF_RETIRED (n : Nat) : Nat := 0x1800040 + 8 * n
def F.PRF_RETIRED_RETIRED (n : Nat) : Field := ⟨(R.PRF_RETIRED n), 63, 0, .rs, 0x0⟩

/-- IMP_CTRL, offset 0x0000, Imposition control (spec/12_imposition_parity_and_rebuild.md). -/
abbrev R.IMP_CTRL : Nat := 0x1900000
def F.IMP_CTRL_RESHAPE_PAUSE : Field := ⟨R.IMP_CTRL, 2, 2, .rw, 0x0⟩
def F.IMP_CTRL_KAT_START : Field := ⟨R.IMP_CTRL, 1, 1, .wo, 0x0⟩
def F.IMP_CTRL_ENABLE : Field := ⟨R.IMP_CTRL, 0, 0, .rwl, 0x0⟩
/-- IMP_INT_STATUS, offset 0x0004, Interrupt status (spec/12_imposition_parity_and_rebuild.md). -/
abbrev R.IMP_INT_STATUS : Nat := 0x1900004
def F.IMP_INT_STATUS_LOST_FULL : Field := ⟨R.IMP_INT_STATUS, 6, 6, .w1c, 0x0⟩
def F.IMP_INT_STATUS_UNIT_FAULT : Field := ⟨R.IMP_INT_STATUS, 5, 5, .w1c, 0x0⟩
def F.IMP_INT_STATUS_KAT_FAIL : Field := ⟨R.IMP_INT_STATUS, 4, 4, .w1c, 0x0⟩
def F.IMP_INT_STATUS_VOID : Field := ⟨R.IMP_INT_STATUS, 3, 3, .w1c, 0x0⟩
def F.IMP_INT_STATUS_STRIPE_LOST : Field := ⟨R.IMP_INT_STATUS, 2, 2, .w1c, 0x0⟩
def F.IMP_INT_STATUS_RESHAPE_DONE : Field := ⟨R.IMP_INT_STATUS, 1, 1, .w1c, 0x0⟩
def F.IMP_INT_STATUS_REBUILD_DONE : Field := ⟨R.IMP_INT_STATUS, 0, 0, .w1c, 0x0⟩
/-- IMP_INT_ENABLE, offset 0x0008, Interrupt enable (spec/12_imposition_parity_and_rebuild.md). -/
abbrev R.IMP_INT_ENABLE : Nat := 0x1900008
def F.IMP_INT_ENABLE_EN : Field := ⟨R.IMP_INT_ENABLE, 6, 0, .rw, 0x0⟩
/-- IMP_UNIT_SEL, offset 0x0010, Unit select (spec/12_imposition_parity_and_rebuild.md). -/
abbrev R.IMP_UNIT_SEL : Nat := 0x1900010
def F.IMP_UNIT_SEL_UNIT : Field := ⟨R.IMP_UNIT_SEL, 2, 0, .rw, 0x0⟩
/-- IMP_UNIT_STATUS, offset 0x0014, Selected unit status (spec/12_imposition_parity_and_rebuild.md). -/
abbrev R.IMP_UNIT_STATUS : Nat := 0x1900014
def F.IMP_UNIT_STATUS_STATE : Field := ⟨R.IMP_UNIT_STATUS, 31, 30, .ro, 0x0⟩
def F.IMP_UNIT_STATUS_BOUND : Field := ⟨R.IMP_UNIT_STATUS, 29, 29, .ro, 0x0⟩
def F.IMP_UNIT_STATUS_LINE : Field := ⟨R.IMP_UNIT_STATUS, 28, 24, .ro, 0x0⟩
def F.IMP_UNIT_STATUS_CLASS : Field := ⟨R.IMP_UNIT_STATUS, 23, 22, .ro, 0x0⟩
/-- IMP_REBUILD, offset 0x0018, Rebuild status (spec/12_imposition_parity_and_rebuild.md). -/
abbrev R.IMP_REBUILD : Nat := 0x1900018
def F.IMP_REBUILD_ACTIVE : Field := ⟨R.IMP_REBUILD, 31, 31, .ro, 0x0⟩
def F.IMP_REBUILD_CRITICAL : Field := ⟨R.IMP_REBUILD, 30, 30, .ro, 0x0⟩
def F.IMP_REBUILD_RELOCATE : Field := ⟨R.IMP_REBUILD, 29, 29, .ro, 0x0⟩
def F.IMP_REBUILD_SHARE : Field := ⟨R.IMP_REBUILD, 13, 7, .ro, 0x0⟩
def F.IMP_REBUILD_FLOOR : Field := ⟨R.IMP_REBUILD, 6, 0, .ro, 0x0⟩
/-- IMP_REBUILD_LEFT, offset 0x0020, Sheets left to rebuild (spec/12_imposition_parity_and_rebuild.md). -/
abbrev R.IMP_REBUILD_LEFT : Nat := 0x1900020
def F.IMP_REBUILD_LEFT_CRITICAL : Field := ⟨R.IMP_REBUILD_LEFT, 63, 32, .ro, 0x0⟩
def F.IMP_REBUILD_LEFT_SHEETS : Field := ⟨R.IMP_REBUILD_LEFT, 31, 0, .ro, 0x0⟩
/-- IMP_RESHAPE_CMD, offset 0x0028, Reshape command (spec/12_imposition_parity_and_rebuild.md). -/
abbrev R.IMP_RESHAPE_CMD : Nat := 0x1900028
def F.IMP_RESHAPE_CMD_BUSY : Field := ⟨R.IMP_RESHAPE_CMD, 31, 31, .ro, 0x0⟩
def F.IMP_RESHAPE_CMD_RESULT : Field := ⟨R.IMP_RESHAPE_CMD, 30, 28, .ro, 0x0⟩
def F.IMP_RESHAPE_CMD_CMD : Field := ⟨R.IMP_RESHAPE_CMD, 3, 0, .wo, 0x0⟩
/-- IMP_RESHAPE_STATUS, offset 0x002C, Reshape status (spec/12_imposition_parity_and_rebuild.md). -/
abbrev R.IMP_RESHAPE_STATUS : Nat := 0x190002c
def F.IMP_RESHAPE_STATUS_STATE : Field := ⟨R.IMP_RESHAPE_STATUS, 31, 30, .ro, 0x0⟩
def F.IMP_RESHAPE_STATUS_KIND : Field := ⟨R.IMP_RESHAPE_STATUS, 29, 29, .ro, 0x0⟩
def F.IMP_RESHAPE_STATUS_CLASS : Field := ⟨R.IMP_RESHAPE_STATUS, 28, 25, .ro, 0x0⟩
def F.IMP_RESHAPE_STATUS_OLD_D : Field := ⟨R.IMP_RESHAPE_STATUS, 24, 20, .ro, 0x0⟩
def F.IMP_RESHAPE_STATUS_NEW_D : Field := ⟨R.IMP_RESHAPE_STATUS, 19, 15, .ro, 0x0⟩
/-- IMP_EVAC0 to IMP_EVAC3, offset 0x0030 + 4 × n, Modules to evacuate (spec/12_imposition_parity_and_rebuild.md). -/
abbrev R.IMP_EVAC (n : Nat) : Nat := 0x1900030 + 4 * n
def F.IMP_EVAC_MARK (n : Nat) : Field := ⟨(R.IMP_EVAC n), 31, 0, .rw, 0x0⟩
/-- IMP_BOUNDARY, offset 0x0040, Reshape boundary (spec/12_imposition_parity_and_rebuild.md). -/
abbrev R.IMP_BOUNDARY : Nat := 0x1900040
def F.IMP_BOUNDARY_LIST_LEN : Field := ⟨R.IMP_BOUNDARY, 63, 32, .ro, 0x0⟩
def F.IMP_BOUNDARY_BOUNDARY : Field := ⟨R.IMP_BOUNDARY, 31, 0, .ro, 0x0⟩
/-- IMP_LOST_CNT, offset 0x0048, Lost-stripe entries (spec/12_imposition_parity_and_rebuild.md). -/
abbrev R.IMP_LOST_CNT : Nat := 0x1900048
def F.IMP_LOST_CNT_MENDING : Field := ⟨R.IMP_LOST_CNT, 63, 48, .ro, 0x0⟩
def F.IMP_LOST_CNT_LOST : Field := ⟨R.IMP_LOST_CNT, 47, 32, .ro, 0x0⟩
def F.IMP_LOST_CNT_TOTAL : Field := ⟨R.IMP_LOST_CNT, 31, 0, .rs, 0x0⟩
/-- IMP_SETTLE_CNT, offset 0x0050, Settled stripes (spec/12_imposition_parity_and_rebuild.md). -/
abbrev R.IMP_SETTLE_CNT : Nat := 0x1900050
def F.IMP_SETTLE_CNT_VOID : Field := ⟨R.IMP_SETTLE_CNT, 63, 48, .rs, 0x0⟩
def F.IMP_SETTLE_CNT_SPOILED : Field := ⟨R.IMP_SETTLE_CNT, 47, 32, .rs, 0x0⟩
def F.IMP_SETTLE_CNT_COMPLETED : Field := ⟨R.IMP_SETTLE_CNT, 31, 0, .rs, 0x0⟩
/-- IMP_RETIRED, offset 0x0058, Retired units (spec/12_imposition_parity_and_rebuild.md). -/
abbrev R.IMP_RETIRED : Nat := 0x1900058
def F.IMP_RETIRED_RETIRED : Field := ⟨R.IMP_RETIRED, 7, 0, .rs, 0x0⟩

/-- HTH_CTRL, offset 0x0000, Hearth control (spec/13_hearth_media_management.md). -/
abbrev R.HTH_CTRL : Nat := 0x1a00000
def F.HTH_CTRL_CAP_SET : Field := ⟨R.HTH_CTRL, 4, 4, .wo, 0x0⟩
def F.HTH_CTRL_AUDIT_START : Field := ⟨R.HTH_CTRL, 3, 3, .wo, 0x0⟩
def F.HTH_CTRL_FLUSH_NOW : Field := ⟨R.HTH_CTRL, 2, 2, .wo, 0x0⟩
def F.HTH_CTRL_DESCALE_PAUSE : Field := ⟨R.HTH_CTRL, 1, 1, .rw, 0x0⟩
def F.HTH_CTRL_ENABLE : Field := ⟨R.HTH_CTRL, 0, 0, .rwl, 0x0⟩
/-- HTH_INT_STATUS, offset 0x0004, Interrupt status (spec/13_hearth_media_management.md). -/
abbrev R.HTH_INT_STATUS : Nat := 0x1a00004
def F.HTH_INT_STATUS_AUDIT_DONE : Field := ⟨R.HTH_INT_STATUS, 8, 8, .w1c, 0x0⟩
def F.HTH_INT_STATUS_TAG_SCAN : Field := ⟨R.HTH_INT_STATUS, 7, 7, .w1c, 0x0⟩
def F.HTH_INT_STATUS_ERASE_CHECK : Field := ⟨R.HTH_INT_STATUS, 6, 6, .w1c, 0x0⟩
def F.HTH_INT_STATUS_MAP_FAULT : Field := ⟨R.HTH_INT_STATUS, 5, 5, .w1c, 0x0⟩
def F.HTH_INT_STATUS_JOURNAL_FULL : Field := ⟨R.HTH_INT_STATUS, 4, 4, .w1c, 0x0⟩
def F.HTH_INT_STATUS_SPARE_LOW : Field := ⟨R.HTH_INT_STATUS, 3, 3, .w1c, 0x0⟩
def F.HTH_INT_STATUS_ROW3 : Field := ⟨R.HTH_INT_STATUS, 2, 2, .w1c, 0x0⟩
def F.HTH_INT_STATUS_ROW2 : Field := ⟨R.HTH_INT_STATUS, 1, 1, .w1c, 0x0⟩
def F.HTH_INT_STATUS_ROW1 : Field := ⟨R.HTH_INT_STATUS, 0, 0, .w1c, 0x0⟩
/-- HTH_INT_ENABLE, offset 0x0008, Interrupt enable (spec/13_hearth_media_management.md). -/
abbrev R.HTH_INT_ENABLE : Nat := 0x1a00008
def F.HTH_INT_ENABLE_EN : Field := ⟨R.HTH_INT_ENABLE, 8, 0, .rw, 0x0⟩
/-- HTH_LADDER, offset 0x000C, Capacity ladder (spec/13_hearth_media_management.md). -/
abbrev R.HTH_LADDER : Nat := 0x1a0000c
def F.HTH_LADDER_ROW : Field := ⟨R.HTH_LADDER, 31, 30, .ro, 0x0⟩
def F.HTH_LADDER_SPARE : Field := ⟨R.HTH_LADDER, 25, 16, .ro, 0x0⟩
def F.HTH_LADDER_FILL : Field := ⟨R.HTH_LADDER, 11, 0, .ro, 0x0⟩
/-- HTH_USER, offset 0x0010, User space and live (spec/13_hearth_media_management.md). -/
abbrev R.HTH_USER : Nat := 0x1a00010
def F.HTH_USER_U : Field := ⟨R.HTH_USER, 63, 32, .ro, 0x0⟩
def F.HTH_USER_LIVE : Field := ⟨R.HTH_USER, 31, 0, .ro, 0x0⟩
/-- HTH_PLATES, offset 0x0018, Free and reserve plates (spec/13_hearth_media_management.md). -/
abbrev R.HTH_PLATES : Nat := 0x1a00018
def F.HTH_PLATES_FREE : Field := ⟨R.HTH_PLATES, 63, 32, .ro, 0x0⟩
def F.HTH_PLATES_RESERVE : Field := ⟨R.HTH_PLATES, 31, 0, .ro, 0x0⟩
/-- HTH_JOURNAL, offset 0x0020, Last journal sequence (spec/13_hearth_media_management.md). -/
abbrev R.HTH_JOURNAL : Nat := 0x1a00020
def F.HTH_JOURNAL_SEQ : Field := ⟨R.HTH_JOURNAL, 63, 0, .ro, 0x0⟩
/-- HTH_CKPT, offset 0x0028, Last checkpoint (spec/13_hearth_media_management.md). -/
abbrev R.HTH_CKPT : Nat := 0x1a00028
def F.HTH_CKPT_SEQ_END : Field := ⟨R.HTH_CKPT, 63, 0, .ro, 0x0⟩
/-- HTH_DESCALE, offset 0x0030, Descaling status (spec/13_hearth_media_management.md). -/
abbrev R.HTH_DESCALE : Nat := 0x1a00030
def F.HTH_DESCALE_RANK : Field := ⟨R.HTH_DESCALE, 31, 29, .ro, 0x0⟩
def F.HTH_DESCALE_SHARE : Field := ⟨R.HTH_DESCALE, 28, 22, .ro, 0x0⟩
def F.HTH_DESCALE_PHI : Field := ⟨R.HTH_DESCALE, 21, 15, .ro, 0x0⟩
def F.HTH_DESCALE_FRONT : Field := ⟨R.HTH_DESCALE, 14, 0, .ro, 0x0⟩
/-- HTH_LOST_EXT, offset 0x0034, Lost extents (spec/13_hearth_media_management.md). -/
abbrev R.HTH_LOST_EXT : Nat := 0x1a00034
def F.HTH_LOST_EXT_OVERFLOW : Field := ⟨R.HTH_LOST_EXT, 31, 16, .rs, 0x0⟩
def F.HTH_LOST_EXT_LISTED : Field := ⟨R.HTH_LOST_EXT, 15, 0, .ro, 0x0⟩
/-- HTH_DESCALE_CNT, offset 0x0038, Descaling totals (spec/13_hearth_media_management.md). -/
abbrev R.HTH_DESCALE_CNT : Nat := 0x1a00038
def F.HTH_DESCALE_CNT_SHEETS : Field := ⟨R.HTH_DESCALE_CNT, 63, 32, .rs, 0x0⟩
def F.HTH_DESCALE_CNT_MOVED : Field := ⟨R.HTH_DESCALE_CNT, 31, 0, .rs, 0x0⟩

/-- GMP_CTRL, offset 0x0000, GMP control (spec/14_gymo_media_protocol.md). -/
abbrev R.GMP_CTRL : Nat := 0x1b00000
def F.GMP_CTRL_ENABLE : Field := ⟨R.GMP_CTRL, 0, 0, .rwl, 0x0⟩
/-- GMP_INT_STATUS, offset 0x0004, Interrupt status (spec/14_gymo_media_protocol.md). -/
abbrev R.GMP_INT_STATUS : Nat := 0x1b00004
def F.GMP_INT_STATUS_FW_DONE : Field := ⟨R.GMP_INT_STATUS, 5, 5, .w1c, 0x0⟩
def F.GMP_INT_STATUS_FENCED : Field := ⟨R.GMP_INT_STATUS, 4, 4, .w1c, 0x0⟩
def F.GMP_INT_STATUS_CLAIM_LOST : Field := ⟨R.GMP_INT_STATUS, 3, 3, .w1c, 0x0⟩
def F.GMP_INT_STATUS_TIMEOUT : Field := ⟨R.GMP_INT_STATUS, 2, 2, .w1c, 0x0⟩
def F.GMP_INT_STATUS_REMOVED : Field := ⟨R.GMP_INT_STATUS, 1, 1, .w1c, 0x0⟩
def F.GMP_INT_STATUS_ADMITTED : Field := ⟨R.GMP_INT_STATUS, 0, 0, .w1c, 0x0⟩
/-- GMP_INT_ENABLE, offset 0x0008, Interrupt enable (spec/14_gymo_media_protocol.md). -/
abbrev R.GMP_INT_ENABLE : Nat := 0x1b00008
def F.GMP_INT_ENABLE_EN : Field := ⟨R.GMP_INT_ENABLE, 5, 0, .rw, 0x0⟩
/-- GMP_MOD_SEL, offset 0x0010, Module select (spec/14_gymo_media_protocol.md). -/
abbrev R.GMP_MOD_SEL : Nat := 0x1b00010
def F.GMP_MOD_SEL_MODULE : Field := ⟨R.GMP_MOD_SEL, 6, 0, .rw, 0x0⟩
/-- GMP_MOD_STATUS, offset 0x0014, Selected module status (spec/14_gymo_media_protocol.md). -/
abbrev R.GMP_MOD_STATUS : Nat := 0x1b00014
def F.GMP_MOD_STATUS_STATE : Field := ⟨R.GMP_MOD_STATUS, 31, 29, .ro, 0x0⟩
def F.GMP_MOD_STATUS_FENCED : Field := ⟨R.GMP_MOD_STATUS, 28, 28, .ro, 0x0⟩
def F.GMP_MOD_STATUS_SPEED : Field := ⟨R.GMP_MOD_STATUS, 27, 25, .ro, 0x0⟩
def F.GMP_MOD_STATUS_WIDTH : Field := ⟨R.GMP_MOD_STATUS, 24, 20, .ro, 0x0⟩
def F.GMP_MOD_STATUS_VERSION : Field := ⟨R.GMP_MOD_STATUS, 15, 0, .ro, 0x0⟩
/-- GMP_MOD_CMD, offset 0x0018, Module command (spec/14_gymo_media_protocol.md). -/
abbrev R.GMP_MOD_CMD : Nat := 0x1b00018
def F.GMP_MOD_CMD_BUSY : Field := ⟨R.GMP_MOD_CMD, 31, 31, .ro, 0x0⟩
def F.GMP_MOD_CMD_RESULT : Field := ⟨R.GMP_MOD_CMD, 30, 28, .ro, 0x0⟩
def F.GMP_MOD_CMD_CMD : Field := ⟨R.GMP_MOD_CMD, 3, 0, .wo, 0x0⟩
/-- GMP_PAIR_EPOCH, offset 0x001C, Pair epoch (spec/14_gymo_media_protocol.md). -/
abbrev R.GMP_PAIR_EPOCH : Nat := 0x1b0001c
def F.GMP_PAIR_EPOCH_EPOCH : Field := ⟨R.GMP_PAIR_EPOCH, 31, 0, .ro, 0x0⟩
/-- GMP_STALE_CNT, offset 0x0020, Stale transfers (spec/14_gymo_media_protocol.md). -/
abbrev R.GMP_STALE_CNT : Nat := 0x1b00020
def F.GMP_STALE_CNT_COUNT : Field := ⟨R.GMP_STALE_CNT, 63, 0, .ro, 0x0⟩
/-- GMP_TIMEOUT_CNT, offset 0x0028, Command timeouts (spec/14_gymo_media_protocol.md). -/
abbrev R.GMP_TIMEOUT_CNT : Nat := 0x1b00028
def F.GMP_TIMEOUT_CNT_COUNT : Field := ⟨R.GMP_TIMEOUT_CNT, 63, 0, .ro, 0x0⟩
/-- GMP_ADMIT0 to GMP_ADMIT1, offset 0x0030 and 0x0038, Admitted modules (spec/14_gymo_media_protocol.md). -/
abbrev R.GMP_ADMIT (n : Nat) : Nat := 0x1b00030 + 8 * n
def F.GMP_ADMIT_ADMITTED (n : Nat) : Field := ⟨(R.GMP_ADMIT n), 63, 0, .ro, 0x0⟩

/-- STE_CTRL, offset 0x0000, Stereotype control (spec/15_stereotype_snapshots_replication.md). -/
abbrev R.STE_CTRL : Nat := 0x1c00000
def F.STE_CTRL_DELETE_PAUSE : Field := ⟨R.STE_CTRL, 1, 1, .rw, 0x0⟩
def F.STE_CTRL_ENABLE : Field := ⟨R.STE_CTRL, 0, 0, .rwl, 0x0⟩
/-- STE_INT_STATUS, offset 0x0004, Interrupt status (spec/15_stereotype_snapshots_replication.md). -/
abbrev R.STE_INT_STATUS : Nat := 0x1c00004
def F.STE_INT_STATUS_MEND_FAIL : Field := ⟨R.STE_INT_STATUS, 7, 7, .w1c, 0x0⟩
def F.STE_INT_STATUS_SYNC_BROKEN : Field := ⟨R.STE_INT_STATUS, 6, 6, .w1c, 0x0⟩
def F.STE_INT_STATUS_SEGMENT_RESEND : Field := ⟨R.STE_INT_STATUS, 5, 5, .w1c, 0x0⟩
def F.STE_INT_STATUS_DELTA_DONE : Field := ⟨R.STE_INT_STATUS, 4, 4, .w1c, 0x0⟩
def F.STE_INT_STATUS_SESSION_DOWN : Field := ⟨R.STE_INT_STATUS, 3, 3, .w1c, 0x0⟩
def F.STE_INT_STATUS_SESSION_UP : Field := ⟨R.STE_INT_STATUS, 2, 2, .w1c, 0x0⟩
def F.STE_INT_STATUS_DELETE_DONE : Field := ⟨R.STE_INT_STATUS, 1, 1, .w1c, 0x0⟩
def F.STE_INT_STATUS_CMD_DONE : Field := ⟨R.STE_INT_STATUS, 0, 0, .w1c, 0x0⟩
/-- STE_INT_ENABLE, offset 0x0008, Interrupt enable (spec/15_stereotype_snapshots_replication.md). -/
abbrev R.STE_INT_ENABLE : Nat := 0x1c00008
def F.STE_INT_ENABLE_EN : Field := ⟨R.STE_INT_ENABLE, 7, 0, .rw, 0x0⟩
/-- STE_CMD, offset 0x000C, Command (spec/15_stereotype_snapshots_replication.md). -/
abbrev R.STE_CMD : Nat := 0x1c0000c
def F.STE_CMD_BUSY : Field := ⟨R.STE_CMD, 31, 31, .ro, 0x0⟩
def F.STE_CMD_RESULT : Field := ⟨R.STE_CMD, 30, 27, .ro, 0x0⟩
def F.STE_CMD_CMD : Field := ⟨R.STE_CMD, 3, 0, .wo, 0x0⟩
/-- STE_ARG0, offset 0x0010, Command operand (spec/15_stereotype_snapshots_replication.md). -/
abbrev R.STE_ARG0 : Nat := 0x1c00010
def F.STE_ARG0_ARG : Field := ⟨R.STE_ARG0, 63, 0, .rw, 0x0⟩
/-- STE_ARG1, offset 0x0018, Command result (spec/15_stereotype_snapshots_replication.md). -/
abbrev R.STE_ARG1 : Nat := 0x1c00018
def F.STE_ARG1_RESULT : Field := ⟨R.STE_ARG1, 63, 0, .ro, 0x0⟩
/-- STE_SESS_SEL, offset 0x0020, Session select (spec/15_stereotype_snapshots_replication.md). -/
abbrev R.STE_SESS_SEL : Nat := 0x1c00020
def F.STE_SESS_SEL_SESSION : Field := ⟨R.STE_SESS_SEL, 3, 0, .rw, 0x0⟩
/-- STE_SESS_STATUS, offset 0x0024, Selected session status (spec/15_stereotype_snapshots_replication.md). -/
abbrev R.STE_SESS_STATUS : Nat := 0x1c00024
def F.STE_SESS_STATUS_STATE : Field := ⟨R.STE_SESS_STATUS, 31, 28, .ro, 0x0⟩
def F.STE_SESS_STATUS_KIND : Field := ⟨R.STE_SESS_STATUS, 27, 27, .ro, 0x0⟩
def F.STE_SESS_STATUS_ROLE : Field := ⟨R.STE_SESS_STATUS, 26, 26, .ro, 0x0⟩
def F.STE_SESS_STATUS_VERSION : Field := ⟨R.STE_SESS_STATUS, 25, 18, .ro, 0x0⟩
def F.STE_SESS_STATUS_SEGMENT : Field := ⟨R.STE_SESS_STATUS, 17, 0, .ro, 0x0⟩
/-- STE_SESS_BYTES, offset 0x0028, Selected session traffic (spec/15_stereotype_snapshots_replication.md). -/
abbrev R.STE_SESS_BYTES : Nat := 0x1c00028
def F.STE_SESS_BYTES_SAVED : Field := ⟨R.STE_SESS_BYTES, 63, 32, .ro, 0x0⟩
def F.STE_SESS_BYTES_SENT : Field := ⟨R.STE_SESS_BYTES, 31, 0, .ro, 0x0⟩
/-- STE_INDEX_CNT, offset 0x0030, Replica index results (spec/15_stereotype_snapshots_replication.md). -/
abbrev R.STE_INDEX_CNT : Nat := 0x1c00030
def F.STE_INDEX_CNT_DROPPED : Field := ⟨R.STE_INDEX_CNT, 63, 32, .rs, 0x0⟩
def F.STE_INDEX_CNT_HELD : Field := ⟨R.STE_INDEX_CNT, 31, 0, .ro, 0x0⟩

/-- HLM_STATUS, offset 0x0000, Hallmark status (spec/20_foreman_hallmark_and_debug.md). -/
abbrev R.HLM_STATUS : Nat := 0x1d00000
def F.HLM_STATUS_SVN_MIN : Field := ⟨R.HLM_STATUS, 31, 24, .ro, 0x0⟩
def F.HLM_STATUS_SLOTS : Field := ⟨R.HLM_STATUS, 23, 20, .ro, 0x0⟩
def F.HLM_STATUS_REVOKED : Field := ⟨R.HLM_STATUS, 19, 16, .ro, 0x0⟩
def F.HLM_STATUS_LAB_OFF : Field := ⟨R.HLM_STATUS, 15, 15, .ro, 0x0⟩
def F.HLM_STATUS_BOUND : Field := ⟨R.HLM_STATUS, 14, 14, .ro, 0x0⟩
def F.HLM_STATUS_ADMIT : Field := ⟨R.HLM_STATUS, 13, 13, .ro, 0x0⟩
def F.HLM_STATUS_ENTROPY_OK : Field := ⟨R.HLM_STATUS, 12, 12, .ro, 0x0⟩
/-- HLM_CMD, offset 0x0004, Hallmark command (spec/20_foreman_hallmark_and_debug.md). -/
abbrev R.HLM_CMD : Nat := 0x1d00004
def F.HLM_CMD_BUSY : Field := ⟨R.HLM_CMD, 31, 31, .ro, 0x0⟩
def F.HLM_CMD_RESULT : Field := ⟨R.HLM_CMD, 30, 28, .ro, 0x0⟩
def F.HLM_CMD_CMD : Field := ⟨R.HLM_CMD, 3, 0, .wo, 0x0⟩
/-- HLM_DEVICE_ID0 to HLM_DEVICE_ID3, offset 0x0010 + 4 × n, Device ID (spec/20_foreman_hallmark_and_debug.md). -/
abbrev R.HLM_DEVICE_ID (n : Nat) : Nat := 0x1d00010 + 4 * n
def F.HLM_DEVICE_ID_ID (n : Nat) : Field := ⟨(R.HLM_DEVICE_ID n), 31, 0, .ro, 0x0⟩

/-- PWR_CTRL, offset 0x0000, Power control (spec/18_power_states_and_time.md). -/
abbrev R.PWR_CTRL : Nat := 0x1e00000
def F.PWR_CTRL_WAKE_PARTNER : Field := ⟨R.PWR_CTRL, 3, 3, .wo, 0x0⟩
def F.PWR_CTRL_OFF : Field := ⟨R.PWR_CTRL, 2, 2, .wo, 0x0⟩
def F.PWR_CTRL_BANK_REQ : Field := ⟨R.PWR_CTRL, 1, 0, .wo, 0x0⟩
/-- PWR_INT_STATUS, offset 0x0004, Interrupt status (spec/18_power_states_and_time.md). -/
abbrev R.PWR_INT_STATUS : Nat := 0x1e00004
def F.PWR_INT_STATUS_RET_FAIL : Field := ⟨R.PWR_INT_STATUS, 4, 4, .w1c, 0x0⟩
def F.PWR_INT_STATUS_ABORT : Field := ⟨R.PWR_INT_STATUS, 3, 3, .w1c, 0x0⟩
def F.PWR_INT_STATUS_WOKE : Field := ⟨R.PWR_INT_STATUS, 2, 2, .w1c, 0x0⟩
def F.PWR_INT_STATUS_ENTERED : Field := ⟨R.PWR_INT_STATUS, 1, 1, .w1c, 0x0⟩
def F.PWR_INT_STATUS_WITHDRAWN : Field := ⟨R.PWR_INT_STATUS, 0, 0, .w1c, 0x0⟩
/-- PWR_INT_ENABLE, offset 0x0008, Interrupt enable (spec/18_power_states_and_time.md). -/
abbrev R.PWR_INT_ENABLE : Nat := 0x1e00008
def F.PWR_INT_ENABLE_EN : Field := ⟨R.PWR_INT_ENABLE, 4, 0, .rw, 0x0⟩
/-- PWR_STATE, offset 0x000C, Power state (spec/18_power_states_and_time.md). -/
abbrev R.PWR_STATE : Nat := 0x1e0000c
def F.PWR_STATE_STATE : Field := ⟨R.PWR_STATE, 31, 29, .ro, 0x0⟩
def F.PWR_STATE_STEP : Field := ⟨R.PWR_STATE, 28, 25, .ro, 0x0⟩
def F.PWR_STATE_LAST_WAKE : Field := ⟨R.PWR_STATE, 24, 22, .rs, 0x0⟩
def F.PWR_STATE_LAST_ABORT : Field := ⟨R.PWR_STATE, 21, 19, .rs, 0x0⟩
def F.PWR_STATE_BANK_LIST : Field := ⟨R.PWR_STATE, 14, 0, .ro, 0x0⟩
/-- PWR_LOAD, offset 0x0010, Host load and banking timer (spec/18_power_states_and_time.md). -/
abbrev R.PWR_LOAD : Nat := 0x1e00010
def F.PWR_LOAD_TIMER_LEFT : Field := ⟨R.PWR_LOAD, 31, 16, .ro, 0x0⟩
def F.PWR_LOAD_THRESHOLD : Field := ⟨R.PWR_LOAD, 15, 8, .ro, 0x0⟩
def F.PWR_LOAD_LOAD : Field := ⟨R.PWR_LOAD, 7, 0, .ro, 0x0⟩
/-- PWR_RET_FAIL, offset 0x0014, Retention failures (spec/18_power_states_and_time.md). -/
abbrev R.PWR_RET_FAIL : Nat := 0x1e00014
def F.PWR_RET_FAIL_BANK : Field := ⟨R.PWR_RET_FAIL, 31, 0, .w1c, 0x0⟩
/-- PWR_WAKE_TIMER, offset 0x0018, Wake timer (spec/18_power_states_and_time.md). -/
abbrev R.PWR_WAKE_TIMER : Nat := 0x1e00018
def F.PWR_WAKE_TIMER_TICKS : Field := ⟨R.PWR_WAKE_TIMER, 47, 0, .rw, 0x0⟩
/-- PWR_CNT, offset 0x0020, Power-state counts (spec/18_power_states_and_time.md). -/
abbrev R.PWR_CNT : Nat := 0x1e00020
def F.PWR_CNT_DEEP : Field := ⟨R.PWR_CNT, 63, 48, .rs, 0x0⟩
def F.PWR_CNT_BANKED : Field := ⟨R.PWR_CNT, 47, 32, .rs, 0x0⟩
def F.PWR_CNT_ABORTS : Field := ⟨R.PWR_CNT, 31, 16, .rs, 0x0⟩
def F.PWR_CNT_RET_FAILS : Field := ⟨R.PWR_CNT, 15, 0, .rs, 0x0⟩

/-- TIM_CTRL, offset 0x0000, Time control (spec/18_power_states_and_time.md). -/
abbrev R.TIM_CTRL : Nat := 0x1e80000
def F.TIM_CTRL_INT_EN : Field := ⟨R.TIM_CTRL, 7, 4, .rw, 0x0⟩
def F.TIM_CTRL_SOURCE : Field := ⟨R.TIM_CTRL, 1, 0, .rw, 0x3⟩
/-- TIM_STATUS, offset 0x0004, Time status (spec/18_power_states_and_time.md). -/
abbrev R.TIM_STATUS : Nat := 0x1e80004
def F.TIM_STATUS_QUALITY : Field := ⟨R.TIM_STATUS, 31, 30, .ro, 0x0⟩
def F.TIM_STATUS_FOLLOWING : Field := ⟨R.TIM_STATUS, 29, 28, .ro, 0x0⟩
def F.TIM_STATUS_STEP : Field := ⟨R.TIM_STATUS, 3, 3, .w1c, 0x0⟩
def F.TIM_STATUS_REF_CHG : Field := ⟨R.TIM_STATUS, 2, 2, .w1c, 0x0⟩
def F.TIM_STATUS_QUALITY_CHG : Field := ⟨R.TIM_STATUS, 1, 1, .w1c, 0x0⟩
def F.TIM_STATUS_RESTORED : Field := ⟨R.TIM_STATUS, 0, 0, .w1c, 0x0⟩
/-- TIM_NOW, offset 0x0008, Main time (spec/18_power_states_and_time.md). -/
abbrev R.TIM_NOW : Nat := 0x1e80008
def F.TIM_NOW_NS : Field := ⟨R.TIM_NOW, 63, 0, .ro, 0x0⟩
/-- TIM_EMBER, offset 0x0010, Ember count (spec/18_power_states_and_time.md). -/
abbrev R.TIM_EMBER : Nat := 0x1e80010
def F.TIM_EMBER_COUNT : Field := ⟨R.TIM_EMBER, 47, 0, .ro, 0x0⟩
/-- TIM_EMBER_PERIOD, offset 0x0018, Ember period (spec/18_power_states_and_time.md). -/
abbrev R.TIM_EMBER_PERIOD : Nat := 0x1e80018
def F.TIM_EMBER_PERIOD_PERIOD : Field := ⟨R.TIM_EMBER_PERIOD, 31, 0, .ro, 0x77359400⟩
/-- TIM_UNCERTAINTY, offset 0x001C, Uncertainty (spec/18_power_states_and_time.md). -/
abbrev R.TIM_UNCERTAINTY : Nat := 0x1e8001c
def F.TIM_UNCERTAINTY_NS : Field := ⟨R.TIM_UNCERTAINTY, 31, 0, .ro, 0xffffffff⟩
/-- TIM_RATE, offset 0x0020, Rate correction (spec/18_power_states_and_time.md). -/
abbrev R.TIM_RATE : Nat := 0x1e80020
def F.TIM_RATE_PPB : Field := ⟨R.TIM_RATE, 31, 0, .ro, 0x0⟩
/-- TIM_ADJ, offset 0x0028, Offset correction (spec/18_power_states_and_time.md). -/
abbrev R.TIM_ADJ : Nat := 0x1e80028
def F.TIM_ADJ_OFFSET : Field := ⟨R.TIM_ADJ, 63, 0, .wo, 0x0⟩
/-- TIM_SNAP_MAIN, offset 0x0030, Snapshot main time (spec/18_power_states_and_time.md). -/
abbrev R.TIM_SNAP_MAIN : Nat := 0x1e80030
def F.TIM_SNAP_MAIN_NS : Field := ⟨R.TIM_SNAP_MAIN, 63, 0, .rs, 0x0⟩
/-- TIM_SNAP_EMBER, offset 0x0038, Snapshot ember count (spec/18_power_states_and_time.md). -/
abbrev R.TIM_SNAP_EMBER : Nat := 0x1e80038
def F.TIM_SNAP_EMBER_COUNT : Field := ⟨R.TIM_SNAP_EMBER, 47, 0, .rs, 0x0⟩

/-- UPD_CTRL, offset 0x0000, Update control (spec/19_firmware_update.md). -/
abbrev R.UPD_CTRL : Nat := 0x1f00000
def F.UPD_CTRL_OWNER_LOCK : Field := ⟨R.UPD_CTRL, 1, 1, .rs, 0x0⟩
def F.UPD_CTRL_ENABLE : Field := ⟨R.UPD_CTRL, 0, 0, .rwl, 0x0⟩
/-- UPD_INT_STATUS, offset 0x0004, Interrupt status (spec/19_firmware_update.md). -/
abbrev R.UPD_INT_STATUS : Nat := 0x1f00004
def F.UPD_INT_STATUS_MISMATCH : Field := ⟨R.UPD_INT_STATUS, 6, 6, .w1c, 0x0⟩
def F.UPD_INT_STATUS_FELL_BACK : Field := ⟨R.UPD_INT_STATUS, 5, 5, .w1c, 0x0⟩
def F.UPD_INT_STATUS_CONFIRMED : Field := ⟨R.UPD_INT_STATUS, 4, 4, .w1c, 0x0⟩
def F.UPD_INT_STATUS_ACTIVATED : Field := ⟨R.UPD_INT_STATUS, 3, 3, .w1c, 0x0⟩
def F.UPD_INT_STATUS_REFUSED : Field := ⟨R.UPD_INT_STATUS, 2, 2, .w1c, 0x0⟩
def F.UPD_INT_STATUS_STAGED : Field := ⟨R.UPD_INT_STATUS, 1, 1, .w1c, 0x0⟩
def F.UPD_INT_STATUS_LEASE_END : Field := ⟨R.UPD_INT_STATUS, 0, 0, .w1c, 0x0⟩
/-- UPD_INT_ENABLE, offset 0x0008, Interrupt enable (spec/19_firmware_update.md). -/
abbrev R.UPD_INT_ENABLE : Nat := 0x1f00008
def F.UPD_INT_ENABLE_EN : Field := ⟨R.UPD_INT_ENABLE, 6, 0, .rw, 0x0⟩
/-- UPD_LEASE, offset 0x000C, Staging lease (spec/19_firmware_update.md). -/
abbrev R.UPD_LEASE : Nat := 0x1f0000c
def F.UPD_LEASE_HELD : Field := ⟨R.UPD_LEASE, 31, 31, .ro, 0x0⟩
def F.UPD_LEASE_SOURCE : Field := ⟨R.UPD_LEASE, 30, 29, .ro, 0x0⟩
def F.UPD_LEASE_IDLE : Field := ⟨R.UPD_LEASE, 28, 23, .ro, 0x0⟩
def F.UPD_LEASE_HOLDER : Field := ⟨R.UPD_LEASE, 15, 0, .ro, 0x0⟩
/-- UPD_STAGE, offset 0x0010, Staging progress (spec/19_firmware_update.md). -/
abbrev R.UPD_STAGE : Nat := 0x1f00010
def F.UPD_STAGE_STAGE : Field := ⟨R.UPD_STAGE, 31, 29, .ro, 0x0⟩
def F.UPD_STAGE_SLOT : Field := ⟨R.UPD_STAGE, 28, 28, .ro, 0x0⟩
def F.UPD_STAGE_MISSING : Field := ⟨R.UPD_STAGE, 12, 0, .ro, 0x0⟩
/-- UPD_STATUS, offset 0x0014, Last update status (spec/19_firmware_update.md). -/
abbrev R.UPD_STATUS : Nat := 0x1f00014
def F.UPD_STATUS_STATUS : Field := ⟨R.UPD_STATUS, 15, 0, .ro, 0x0⟩
/-- UPD_POINTER, offset 0x0018, Activation pointer (spec/19_firmware_update.md). -/
abbrev R.UPD_POINTER : Nat := 0x1f00018
def F.UPD_POINTER_ACTIVE : Field := ⟨R.UPD_POINTER, 31, 31, .ro, 0x0⟩
def F.UPD_POINTER_STATE : Field := ⟨R.UPD_POINTER, 30, 29, .ro, 0x0⟩
def F.UPD_POINTER_TRIALS : Field := ⟨R.UPD_POINTER, 28, 27, .ro, 0x0⟩
def F.UPD_POINTER_PENDING : Field := ⟨R.UPD_POINTER, 26, 26, .ro, 0x0⟩
def F.UPD_POINTER_SEQ : Field := ⟨R.UPD_POINTER, 23, 0, .ro, 0x0⟩
/-- UPD_CONFIRM, offset 0x001C, Confirmation period (spec/19_firmware_update.md). -/
abbrev R.UPD_CONFIRM : Nat := 0x1f0001c
def F.UPD_CONFIRM_MINUTES : Field := ⟨R.UPD_CONFIRM, 7, 0, .rs, 0xa⟩
/-- UPD_CMD, offset 0x0020, Update command (spec/19_firmware_update.md). -/
abbrev R.UPD_CMD : Nat := 0x1f00020
def F.UPD_CMD_BUSY : Field := ⟨R.UPD_CMD, 31, 31, .ro, 0x0⟩
def F.UPD_CMD_RESULT : Field := ⟨R.UPD_CMD, 30, 28, .ro, 0x0⟩
def F.UPD_CMD_CMD : Field := ⟨R.UPD_CMD, 3, 0, .wo, 0x0⟩
/-- UPD_VERSION_A to UPD_VERSION_B, offset 0x0024 and 0x0028, Slot firmware version (spec/19_firmware_update.md). -/
abbrev R.UPD_VERSION (n : Nat) : Nat := 0x1f00024 + 4 * n
def F.UPD_VERSION_VERSION (n : Nat) : Field := ⟨(R.UPD_VERSION n), 31, 0, .ro, 0x0⟩
/-- UPD_HASH0 to UPD_HASH11, offset 0x0040 + 4 × n, Active manifest hash (spec/19_firmware_update.md). -/
abbrev R.UPD_HASH (n : Nat) : Nat := 0x1f00040 + 4 * n
def F.UPD_HASH_HASH (n : Nat) : Field := ⟨(R.UPD_HASH n), 31, 0, .ro, 0x0⟩

/-- DBG_CTRL, offset 0x0000, Debug control (spec/20_foreman_hallmark_and_debug.md). -/
abbrev R.DBG_CTRL : Nat := 0x1f80000
def F.DBG_CTRL_LOCK_NOW : Field := ⟨R.DBG_CTRL, 1, 1, .wo, 0x0⟩
def F.DBG_CTRL_DISABLE : Field := ⟨R.DBG_CTRL, 0, 0, .w1s, 0x0⟩
/-- DBG_STATUS, offset 0x0004, Debug status (spec/20_foreman_hallmark_and_debug.md). -/
abbrev R.DBG_STATUS : Nat := 0x1f80004
def F.DBG_STATUS_LEVEL : Field := ⟨R.DBG_STATUS, 31, 30, .ro, 0x0⟩
def F.DBG_STATUS_LAB : Field := ⟨R.DBG_STATUS, 29, 29, .ro, 0x0⟩
def F.DBG_STATUS_WAIT : Field := ⟨R.DBG_STATUS, 27, 16, .ro, 0x0⟩
def F.DBG_STATUS_VERSION : Field := ⟨R.DBG_STATUS, 15, 8, .ro, 0x0⟩
def F.DBG_STATUS_FAILS : Field := ⟨R.DBG_STATUS, 7, 0, .rs, 0x0⟩

/-- PRT_ETH_LINK0 to PRT_ETH_LINK3, offset 0x0000 + 4 × n, Ethernet physical port status (spec/03_ports_and_standards.md). -/
abbrev R.PRT_ETH_LINK (n : Nat) : Nat := 0x2000000 + 4 * n
def F.PRT_ETH_LINK_UP (n : Nat) : Field := ⟨(R.PRT_ETH_LINK n), 31, 24, .ro, 0x0⟩
def F.PRT_ETH_LINK_RETIRED (n : Nat) : Field := ⟨(R.PRT_ETH_LINK n), 23, 16, .ro, 0x0⟩
def F.PRT_ETH_LINK_CHG (n : Nat) : Field := ⟨(R.PRT_ETH_LINK n), 15, 8, .w1c, 0x0⟩
def F.PRT_ETH_LINK_ENABLED (n : Nat) : Field := ⟨(R.PRT_ETH_LINK n), 2, 2, .ro, 0x0⟩
def F.PRT_ETH_LINK_SPLIT (n : Nat) : Field := ⟨(R.PRT_ETH_LINK n), 1, 0, .ro, 0x0⟩
/-- PRT_FRONT_LINK0 to PRT_FRONT_LINK1, offset 0x0010 + 4 × n, Front PCIe link status (spec/03_ports_and_standards.md). -/
abbrev R.PRT_FRONT_LINK (n : Nat) : Nat := 0x2000010 + 4 * n
def F.PRT_FRONT_LINK_NUMVF (n : Nat) : Field := ⟨(R.PRT_FRONT_LINK n), 23, 16, .ro, 0x0⟩
def F.PRT_FRONT_LINK_FLIT (n : Nat) : Field := ⟨(R.PRT_FRONT_LINK n), 15, 15, .ro, 0x0⟩
def F.PRT_FRONT_LINK_SPEED (n : Nat) : Field := ⟨(R.PRT_FRONT_LINK n), 14, 12, .ro, 0x0⟩
def F.PRT_FRONT_LINK_WIDTH (n : Nat) : Field := ⟨(R.PRT_FRONT_LINK n), 11, 7, .ro, 0x0⟩
def F.PRT_FRONT_LINK_CHG (n : Nat) : Field := ⟨(R.PRT_FRONT_LINK n), 0, 0, .w1c, 0x0⟩
/-- PRT_LANE_SCRAP, offset 0x0020, Retired Ethernet and front PCIe lanes (spec/03_ports_and_standards.md). -/
abbrev R.PRT_LANE_SCRAP : Nat := 0x2000020
def F.PRT_LANE_SCRAP_FRONT : Field := ⟨R.PRT_LANE_SCRAP, 63, 32, .rs, 0x0⟩
def F.PRT_LANE_SCRAP_ETH : Field := ⟨R.PRT_LANE_SCRAP, 31, 0, .rs, 0x0⟩

/-- The registers of block FOR, in the order of its chapter. -/
def regsFOR : List RegDesc := [
  ⟨R.FOR_FORME_STATUS, 32, 1, 0, [F.FOR_FORME_STATUS_VERSION, F.FOR_FORME_STATUS_MIXED, F.FOR_FORME_STATUS_REFORMING, F.FOR_FORME_STATUS_PENDING, F.FOR_FORME_STATUS_REASON]⟩,
  ⟨R.FOR_SMITH, 32, 1, 0, [F.FOR_SMITH_RETIRED, F.FOR_SMITH_HALTED]⟩,
  ⟨R.FOR_FORME_ID, 64, 1, 0, [F.FOR_FORME_ID_ID]⟩,
  ⟨R.FOR_LINE_FORME 0, 64, 32, 8, [F.FOR_LINE_FORME_ID 0]⟩,
  ⟨R.FOR_ID, 32, 1, 0, [F.FOR_ID_PART, F.FOR_ID_REV, F.FOR_ID_ORDER, F.FOR_ID_HEAD]⟩,
  ⟨R.FOR_MODE, 32, 1, 0, [F.FOR_MODE_PREV, F.FOR_MODE_CHANGES, F.FOR_MODE_SAFE, F.FOR_MODE_MODE]⟩,
  ⟨R.FOR_RESET_CAUSE, 32, 1, 0, [F.FOR_RESET_CAUSE_COUNT, F.FOR_RESET_CAUSE_CAUSE]⟩,
  ⟨R.FOR_TEMP, 32, 1, 0, [F.FOR_TEMP_IO, F.FOR_TEMP_C0, F.FOR_TEMP_C1, F.FOR_TEMP_HOT]⟩,
  ⟨R.FOR_INT_STATUS, 32, 1, 0, [F.FOR_INT_STATUS_THERMAL, F.FOR_INT_STATUS_ACC_ERR, F.FOR_INT_STATUS_ALARM, F.FOR_INT_STATUS_MODE_CHG]⟩,
  ⟨R.FOR_INT_ENABLE, 32, 1, 0, [F.FOR_INT_ENABLE_EN]⟩,
  ⟨R.FOR_INT_PENDING, 32, 1, 0, [F.FOR_INT_PENDING_BLOCK]⟩,
  ⟨R.FOR_ACC_ERR, 64, 1, 0, [F.FOR_ACC_ERR_SOURCE, F.FOR_ACC_ERR_KIND, F.FOR_ACC_ERR_COUNT, F.FOR_ACC_ERR_ADDR]⟩,
  ⟨R.FOR_MODE_TIME, 64, 1, 0, [F.FOR_MODE_TIME_NS]⟩,
  ⟨R.FOR_EVENT_SEQ, 64, 1, 0, [F.FOR_EVENT_SEQ_SEQ]⟩,
  ⟨R.FOR_EVENT_BASE, 64, 1, 0, [F.FOR_EVENT_BASE_ADDR]⟩,
  ⟨R.FOR_SCRAP_BASE, 64, 1, 0, [F.FOR_SCRAP_BASE_ADDR]⟩,
  ⟨R.FOR_ALARM_CNT, 64, 1, 0, [F.FOR_ALARM_CNT_CRITICAL, F.FOR_ALARM_CNT_ALARM]⟩]

/-- The registers of block STK, in the order of its chapter. -/
def regsSTK : List RegDesc := [
  ⟨R.STK_CTRL, 32, 1, 0, [F.STK_CTRL_FETCH_HOLD, F.STK_CTRL_ENABLE]⟩,
  ⟨R.STK_INT_STATUS, 32, 1, 0, [F.STK_INT_STATUS_DRAIN_DONE, F.STK_INT_STATUS_LEN_ERR, F.STK_INT_STATUS_CID_CONFLICT, F.STK_INT_STATUS_STALE, F.STK_INT_STATUS_CTX_FAULT, F.STK_INT_STATUS_SLOTS_FULL, F.STK_INT_STATUS_SET_BUSY]⟩,
  ⟨R.STK_INT_ENABLE, 32, 1, 0, [F.STK_INT_ENABLE_EN]⟩,
  ⟨R.STK_QSEL, 32, 1, 0, [F.STK_QSEL_QID]⟩,
  ⟨R.STK_QSTATE, 32, 1, 0, [F.STK_QSTATE_STATE, F.STK_QSTATE_ARB_CLASS, F.STK_QSTATE_DRAIN_CAUSE, F.STK_QSTATE_CACHED, F.STK_QSTATE_OUTSTANDING]⟩,
  ⟨R.STK_QCMD, 32, 1, 0, [F.STK_QCMD_CMD]⟩,
  ⟨R.STK_STALE_CNT, 64, 1, 0, [F.STK_STALE_CNT_COUNT]⟩,
  ⟨R.STK_LEN_CNT, 64, 1, 0, [F.STK_LEN_CNT_LONG, F.STK_LEN_CNT_SHORT]⟩,
  ⟨R.STK_CID_CNT, 32, 1, 0, [F.STK_CID_CNT_COUNT]⟩,
  ⟨R.STK_CACHE_HIT, 64, 1, 0, [F.STK_CACHE_HIT_COUNT]⟩,
  ⟨R.STK_CACHE_MISS, 64, 1, 0, [F.STK_CACHE_MISS_COUNT]⟩,
  ⟨R.STK_SLOTS, 32, 1, 0, [F.STK_SLOTS_IN_USE]⟩,
  ⟨R.STK_SLOTS_HWM, 32, 1, 0, [F.STK_SLOTS_HWM_CLEAR, F.STK_SLOTS_HWM_HWM]⟩,
  ⟨R.STK_TOKENS, 32, 1, 0, [F.STK_TOKENS_IN_USE]⟩,
  ⟨R.STK_QCOUNT, 32, 1, 0, [F.STK_QCOUNT_SPARES, F.STK_QCOUNT_LIVE]⟩]

/-- The registers of block CHS, in the order of its chapter. -/
def regsCHS : List RegDesc := [
  ⟨R.CHS_CTRL, 32, 1, 0, [F.CHS_CTRL_STAMP_HOLD, F.CHS_CTRL_ENABLE]⟩,
  ⟨R.CHS_INT_STATUS, 32, 1, 0, [F.CHS_INT_STATUS_LOCKS_FULL, F.CHS_INT_STATUS_BOUNDARY_DONE, F.CHS_INT_STATUS_CANCEL, F.CHS_INT_STATUS_HOLD_LONG]⟩,
  ⟨R.CHS_INT_ENABLE, 32, 1, 0, [F.CHS_INT_ENABLE_EN]⟩,
  ⟨R.CHS_LAST_STAMP, 64, 1, 0, [F.CHS_LAST_STAMP_STAMP]⟩,
  ⟨R.CHS_LOCKS, 32, 1, 0, [F.CHS_LOCKS_IN_USE]⟩,
  ⟨R.CHS_LOCKS_HWM, 32, 1, 0, [F.CHS_LOCKS_HWM_CLEAR, F.CHS_LOCKS_HWM_HWM]⟩,
  ⟨R.CHS_WAIT_CNT, 64, 1, 0, [F.CHS_WAIT_CNT_COUNT]⟩,
  ⟨R.CHS_FWD_CNT, 64, 1, 0, [F.CHS_FWD_CNT_COUNT]⟩,
  ⟨R.CHS_RESET_CNT, 64, 1, 0, [F.CHS_RESET_CNT_TOOK_EFFECT, F.CHS_RESET_CNT_DISCARDED]⟩,
  ⟨R.CHS_NS_SEL, 32, 1, 0, [F.CHS_NS_SEL_NSID]⟩,
  ⟨R.CHS_NS_STATE, 32, 1, 0, [F.CHS_NS_STATE_STATE, F.CHS_NS_STATE_OWNER, F.CHS_NS_STATE_CLASS, F.CHS_NS_STATE_PENDING]⟩,
  ⟨R.CHS_NS_BOUNDARY, 64, 1, 0, [F.CHS_NS_BOUNDARY_BOUNDARY]⟩]

/-- The registers of block GLY, in the order of its chapter. -/
def regsGLY : List RegDesc := [
  ⟨R.GLY_CTRL, 32, 1, 0, [F.GLY_CTRL_FORCE_UNPROT, F.GLY_CTRL_ENABLE]⟩,
  ⟨R.GLY_STATUS, 32, 1, 0, [F.GLY_STATUS_ROW, F.GLY_STATUS_GUARD, F.GLY_STATUS_DUMPING, F.GLY_STATUS_UNPROT, F.GLY_STATUS_COVER]⟩,
  ⟨R.GLY_INT_STATUS, 32, 1, 0, [F.GLY_INT_STATUS_WAKE_DIGEST, F.GLY_INT_STATUS_PIECE_LOST, F.GLY_INT_STATUS_VAULT, F.GLY_INT_STATUS_BELLOWS, F.GLY_INT_STATUS_UNPROT_CHG, F.GLY_INT_STATUS_GUARD_IN]⟩,
  ⟨R.GLY_INT_ENABLE, 32, 1, 0, [F.GLY_INT_ENABLE_EN]⟩,
  ⟨R.GLY_BELLOWS, 32, 1, 0, [F.GLY_BELLOWS_STATUS, F.GLY_BELLOWS_STALE, F.GLY_BELLOWS_ENERGY]⟩,
  ⟨R.GLY_ENERGY_REQ, 32, 1, 0, [F.GLY_ENERGY_REQ_COV, F.GLY_ENERGY_REQ_REQ]⟩,
  ⟨R.GLY_USED, 32, 1, 0, [F.GLY_USED_SLOTS]⟩,
  ⟨R.GLY_VAULT, 32, 1, 0, [F.GLY_VAULT_RETIRED, F.GLY_VAULT_UNUSABLE, F.GLY_VAULT_STRIPE_6, F.GLY_VAULT_RELEASED, F.GLY_VAULT_SEQ]⟩,
  ⟨R.GLY_BROWN_CNT, 64, 1, 0, [F.GLY_BROWN_CNT_DUMPS, F.GLY_BROWN_CNT_RESUMES, F.GLY_BROWN_CNT_WARNINGS, F.GLY_BROWN_CNT_DIPS]⟩,
  ⟨R.GLY_DUMP_LAST, 64, 1, 0, [F.GLY_DUMP_LAST_ENERGY, F.GLY_DUMP_LAST_TIME, F.GLY_DUMP_LAST_SEGMENTS, F.GLY_DUMP_LAST_SEALED, F.GLY_DUMP_LAST_PHASES]⟩]

/-- The registers of block ANV, in the order of its chapter. -/
def regsANV : List RegDesc := [
  ⟨R.ANV_CTRL, 32, 1, 0, [F.ANV_CTRL_STRIKE_NOW, F.ANV_CTRL_ENABLE]⟩,
  ⟨R.ANV_INT_STATUS, 32, 1, 0, [F.ANV_INT_STATUS_HANDBACK_DONE, F.ANV_INT_STATUS_STRIKE_FAIL, F.ANV_INT_STATUS_JOIN_STALL, F.ANV_INT_STATUS_FENCED, F.ANV_INT_STATUS_TAKEOVER_DONE, F.ANV_INT_STATUS_LOSS, F.ANV_INT_STATUS_BUNDLE_UP, F.ANV_INT_STATUS_BUNDLE_DOWN]⟩,
  ⟨R.ANV_INT_ENABLE, 32, 1, 0, [F.ANV_INT_ENABLE_EN]⟩,
  ⟨R.ANV_PAIR, 32, 1, 0, [F.ANV_PAIR_PEER_MODE, F.ANV_PAIR_PARKED, F.ANV_PAIR_STANDBY, F.ANV_PAIR_HOLDING, F.ANV_PAIR_VERSION, F.ANV_PAIR_LIST]⟩,
  ⟨R.ANV_BUNDLE, 32, 1, 0, [F.ANV_BUNDLE_THROTTLE, F.ANV_BUNDLE_STATE1, F.ANV_BUNDLE_UP_SEC1, F.ANV_BUNDLE_STATE0, F.ANV_BUNDLE_UP_SEC0]⟩,
  ⟨R.ANV_TONGS, 32, 1, 0, [F.ANV_TONGS_CAP_CLAIM, F.ANV_TONGS_CAP_FENCE, F.ANV_TONGS_CAP_ALIVE_GAP, F.ANV_TONGS_CLAIM_IN, F.ANV_TONGS_FENCE_IN, F.ANV_TONGS_ALIVE_OK, F.ANV_TONGS_CLAIM_OUT, F.ANV_TONGS_FENCE_OUT]⟩,
  ⟨R.ANV_WDOG, 32, 1, 0, [F.ANV_WDOG_TIMEOUT]⟩,
  ⟨R.ANV_HANDBACK, 32, 1, 0, [F.ANV_HANDBACK_BUSY, F.ANV_HANDBACK_RESULT, F.ANV_HANDBACK_CMD, F.ANV_HANDBACK_NSID]⟩,
  ⟨R.ANV_TAKEOVER_LAST, 64, 1, 0, [F.ANV_TAKEOVER_LAST_COUNT, F.ANV_TAKEOVER_LAST_CAUSE, F.ANV_TAKEOVER_LAST_GAP, F.ANV_TAKEOVER_LAST_PIECES]⟩,
  ⟨R.ANV_RETRY_CNT, 64, 1, 0, [F.ANV_RETRY_CNT_BAD_MSG, F.ANV_RETRY_CNT_DOWN, F.ANV_RETRY_CNT_REPLAY]⟩,
  ⟨R.ANV_STRIKE, 64, 1, 0, [F.ANV_STRIKE_TIME, F.ANV_STRIKE_SKIPPED, F.ANV_STRIKE_FAILED]⟩]

/-- The registers of block PUN, in the order of its chapter. -/
def regsPUN : List RegDesc := [
  ⟨R.PUN_CTRL, 32, 1, 0, [F.PUN_CTRL_KAT_START, F.PUN_CTRL_ENABLE]⟩,
  ⟨R.PUN_INT_STATUS, 32, 1, 0, [F.PUN_INT_STATUS_DESC_INVALID, F.PUN_INT_STATUS_SLOTS_LOW, F.PUN_INT_STATUS_CORE_FAULT, F.PUN_INT_STATUS_KAT_FAIL, F.PUN_INT_STATUS_CTX_LOST, F.PUN_INT_STATUS_KEY_UNAVAIL]⟩,
  ⟨R.PUN_INT_ENABLE, 32, 1, 0, [F.PUN_INT_ENABLE_EN]⟩,
  ⟨R.PUN_CORE_SEL, 32, 1, 0, [F.PUN_CORE_SEL_CORE]⟩,
  ⟨R.PUN_CORE_STATUS, 32, 1, 0, [F.PUN_CORE_STATUS_STATE, F.PUN_CORE_STATUS_ALG, F.PUN_CORE_STATUS_KEYED, F.PUN_CORE_STATUS_CLASS, F.PUN_CORE_STATUS_BOUND, F.PUN_CORE_STATUS_LINE]⟩,
  ⟨R.PUN_SLOTS, 32, 1, 0, [F.PUN_SLOTS_RSV_FREE, F.PUN_SLOTS_SEG_HELD, F.PUN_SLOTS_FREE]⟩,
  ⟨R.PUN_JOB_CNT, 64, 1, 0, [F.PUN_JOB_CNT_COUNT]⟩,
  ⟨R.PUN_PREEMPT_CNT, 64, 1, 0, [F.PUN_PREEMPT_CNT_SKIPPED, F.PUN_PREEMPT_CNT_DONE]⟩,
  ⟨R.PUN_FAIL_CNT, 64, 1, 0, [F.PUN_FAIL_CNT_KEY, F.PUN_FAIL_CNT_LOST, F.PUN_FAIL_CNT_LONG, F.PUN_FAIL_CNT_INVALID]⟩,
  ⟨R.PUN_RETIRED, 64, 1, 0, [F.PUN_RETIRED_RETIRED]⟩]

/-- The registers of block MTX, in the order of its chapter. -/
def regsMTX : List RegDesc := [
  ⟨R.MTX_CTRL, 32, 1, 0, [F.MTX_CTRL_CATCHUP_SHARE, F.MTX_CTRL_ENABLE]⟩,
  ⟨R.MTX_INT_STATUS, 32, 1, 0, [F.MTX_INT_STATUS_BUCKET_ERR, F.MTX_INT_STATUS_OVERFLOW, F.MTX_INT_STATUS_CATCHUP_DONE, F.MTX_INT_STATUS_HALF_CHG, F.MTX_INT_STATUS_COLLISION, F.MTX_INT_STATUS_FILTER_FULL, F.MTX_INT_STATUS_FILTER_HIGH]⟩,
  ⟨R.MTX_INT_ENABLE, 32, 1, 0, [F.MTX_INT_ENABLE_EN]⟩,
  ⟨R.MTX_HALF, 32, 1, 0, [F.MTX_HALF_LOAD_PCT, F.MTX_HALF_HALF1, F.MTX_HALF_HALF0]⟩,
  ⟨R.MTX_FILTER_SLOTS, 64, 1, 0, [F.MTX_FILTER_SLOTS_S]⟩,
  ⟨R.MTX_FILL 0, 64, 2, 8, [F.MTX_FILL_USED 0]⟩,
  ⟨R.MTX_LOOKUP_CNT, 64, 1, 0, [F.MTX_LOOKUP_CNT_REMOTE, F.MTX_LOOKUP_CNT_LOCAL]⟩,
  ⟨R.MTX_FOUND_CNT, 64, 1, 0, [F.MTX_FOUND_CNT_FALSE_POS, F.MTX_FOUND_CNT_FOUND]⟩,
  ⟨R.MTX_NOINDEX_CNT, 64, 1, 0, [F.MTX_NOINDEX_CNT_COLLISION, F.MTX_NOINDEX_CNT_NOINDEX]⟩,
  ⟨R.MTX_DEFER_LEFT, 64, 1, 0, [F.MTX_DEFER_LEFT_COUNT]⟩,
  ⟨R.MTX_CATCHUP_CNT, 64, 1, 0, [F.MTX_CATCHUP_CNT_MERGED, F.MTX_CATCHUP_CNT_INDEXED]⟩,
  ⟨R.MTX_ALLOC_HWM 0, 64, 2, 8, [F.MTX_ALLOC_HWM_HWM 0]⟩]

/-- The registers of block SWG, in the order of its chapter. -/
def regsSWG : List RegDesc := [
  ⟨R.SWG_CTRL, 32, 1, 0, [F.SWG_CTRL_KAT_START, F.SWG_CTRL_ENABLE]⟩,
  ⟨R.SWG_INT_STATUS, 32, 1, 0, [F.SWG_INT_STATUS_STREAM_CHECK, F.SWG_INT_STATUS_DESC_INVALID, F.SWG_INT_STATUS_VERIFY_FAIL, F.SWG_INT_STATUS_FORMAT_INVALID, F.SWG_INT_STATUS_KAT_FAIL, F.SWG_INT_STATUS_EXHAUSTED]⟩,
  ⟨R.SWG_INT_ENABLE, 32, 1, 0, [F.SWG_INT_ENABLE_EN]⟩,
  ⟨R.SWG_LANE_SEL, 32, 1, 0, [F.SWG_LANE_SEL_LANE]⟩,
  ⟨R.SWG_LANE_STATUS, 32, 1, 0, [F.SWG_LANE_STATUS_STATE, F.SWG_LANE_STATUS_KIND, F.SWG_LANE_STATUS_BOUND, F.SWG_LANE_STATUS_LINE]⟩,
  ⟨R.SWG_BYTES_IN, 64, 1, 0, [F.SWG_BYTES_IN_COUNT]⟩,
  ⟨R.SWG_BYTES_OUT, 64, 1, 0, [F.SWG_BYTES_OUT_COUNT]⟩,
  ⟨R.SWG_RESULT_CNT, 64, 1, 0, [F.SWG_RESULT_CNT_NO_GAIN, F.SWG_RESULT_CNT_EXHAUSTED]⟩,
  ⟨R.SWG_FAIL_CNT, 64, 1, 0, [F.SWG_FAIL_CNT_STREAM_CHECK, F.SWG_FAIL_CNT_DESC_INVALID, F.SWG_FAIL_CNT_VERIFY, F.SWG_FAIL_CNT_FORMAT]⟩,
  ⟨R.SWG_PRED_CNT, 64, 1, 0, [F.SWG_PRED_CNT_MATCH, F.SWG_PRED_CNT_STRIDE, F.SWG_PRED_CNT_LEFT, F.SWG_PRED_CNT_ZERO]⟩,
  ⟨R.SWG_RETIRED0, 64, 1, 0, [F.SWG_RETIRED0_RETIRED]⟩,
  ⟨R.SWG_RETIRED1, 64, 1, 0, [F.SWG_RETIRED1_RETIRED]⟩]

/-- The registers of block TMP, in the order of its chapter. -/
def regsTMP : List RegDesc := [
  ⟨R.TMP_CTRL, 32, 1, 0, [F.TMP_CTRL_KAT_START, F.TMP_CTRL_ENABLE]⟩,
  ⟨R.TMP_INT_STATUS, 32, 1, 0, [F.TMP_INT_STATUS_EPOCH_RAISED, F.TMP_INT_STATUS_KEY_UNAVAIL, F.TMP_INT_STATUS_DESC_INVALID, F.TMP_INT_STATUS_KAT_FAIL, F.TMP_INT_STATUS_CHECK_FAIL, F.TMP_INT_STATUS_KEY_EXHAUST, F.TMP_INT_STATUS_KEY_WARN, F.TMP_INT_STATUS_AUTH]⟩,
  ⟨R.TMP_INT_ENABLE, 32, 1, 0, [F.TMP_INT_ENABLE_EN]⟩,
  ⟨R.TMP_PAIR_SEL, 32, 1, 0, [F.TMP_PAIR_SEL_PAIR]⟩,
  ⟨R.TMP_PAIR_STATUS, 32, 1, 0, [F.TMP_PAIR_STATUS_STATE, F.TMP_PAIR_STATUS_BOUND, F.TMP_PAIR_STATUS_LINE, F.TMP_PAIR_STATUS_MODE, F.TMP_PAIR_STATUS_SLOTS]⟩,
  ⟨R.TMP_KEYS, 32, 1, 0, [F.TMP_KEYS_WRAPPED, F.TMP_KEYS_STORE_FREE]⟩,
  ⟨R.TMP_KEY_SEL, 32, 1, 0, [F.TMP_KEY_SEL_REALM, F.TMP_KEY_SEL_PURPOSE, F.TMP_KEY_SEL_KEY_GEN]⟩,
  ⟨R.TMP_KEY_STATE, 32, 1, 0, [F.TMP_KEY_STATE_EPOCH, F.TMP_KEY_STATE_STATE, F.TMP_KEY_STATE_WARN, F.TMP_KEY_STATE_EXHAUSTED, F.TMP_KEY_STATE_PRESENT]⟩,
  ⟨R.TMP_KEY_CMD, 32, 1, 0, [F.TMP_KEY_CMD_BUSY, F.TMP_KEY_CMD_RESULT, F.TMP_KEY_CMD_CMD]⟩,
  ⟨R.TMP_KEY_CTR, 64, 1, 0, [F.TMP_KEY_CTR_NEXT]⟩,
  ⟨R.TMP_JOB_CNT, 64, 1, 0, [F.TMP_JOB_CNT_COUNT]⟩,
  ⟨R.TMP_FAIL_CNT, 64, 1, 0, [F.TMP_FAIL_CNT_INVALID, F.TMP_FAIL_CNT_UNAVAIL, F.TMP_FAIL_CNT_EXHAUSTED, F.TMP_FAIL_CNT_AUTH]⟩,
  ⟨R.TMP_CHECK_CNT, 64, 1, 0, [F.TMP_CHECK_CNT_COUNT]⟩,
  ⟨R.TMP_RETIRED, 32, 1, 0, [F.TMP_RETIRED_RETIRED]⟩]

/-- The registers of block PRF, in the order of its chapter. -/
def regsPRF : List RegDesc := [
  ⟨R.PRF_CTRL, 32, 1, 0, [F.PRF_CTRL_KAT_START, F.PRF_CTRL_ENABLE]⟩,
  ⟨R.PRF_INT_STATUS, 32, 1, 0, [F.PRF_INT_STATUS_UNIT_FAULT, F.PRF_INT_STATUS_KAT_FAIL, F.PRF_INT_STATUS_GALLEY_PI, F.PRF_INT_STATUS_RECON, F.PRF_INT_STATUS_REPAIR, F.PRF_INT_STATUS_INGEST]⟩,
  ⟨R.PRF_INT_ENABLE, 32, 1, 0, [F.PRF_INT_ENABLE_EN]⟩,
  ⟨R.PRF_UNIT_SEL, 32, 1, 0, [F.PRF_UNIT_SEL_UNIT]⟩,
  ⟨R.PRF_UNIT_STATUS, 32, 1, 0, [F.PRF_UNIT_STATUS_STATE, F.PRF_UNIT_STATUS_CHECK, F.PRF_UNIT_STATUS_BOUND, F.PRF_UNIT_STATUS_LINE, F.PRF_UNIT_STATUS_MISS_HOUR]⟩,
  ⟨R.PRF_RSTREAM, 32, 1, 0, [F.PRF_RSTREAM_OPEN, F.PRF_RSTREAM_CLOSE, F.PRF_RSTREAM_PENDING, F.PRF_RSTREAM_OPENED, F.PRF_RSTREAM_ERR, F.PRF_RSTREAM_CHECK]⟩,
  ⟨R.PRF_RDATA, 32, 1, 0, [F.PRF_RDATA_DATA]⟩,
  ⟨R.PRF_RRESULT, 64, 1, 0, [F.PRF_RRESULT_RESULT]⟩,
  ⟨R.PRF_INGEST_CNT, 64, 1, 0, [F.PRF_INGEST_CNT_HOST, F.PRF_INGEST_CNT_ANVIL]⟩,
  ⟨R.PRF_SUSPECT_CNT, 64, 1, 0, [F.PRF_SUSPECT_CNT_RECON, F.PRF_SUSPECT_CNT_SUSPECT]⟩,
  ⟨R.PRF_REPAIR_CNT, 64, 1, 0, [F.PRF_REPAIR_CNT_GALLEY, F.PRF_REPAIR_CNT_REPAIRED]⟩,
  ⟨R.PRF_RETIRED 0, 64, 4, 8, [F.PRF_RETIRED_RETIRED 0]⟩]

/-- The registers of block IMP, in the order of its chapter. -/
def regsIMP : List RegDesc := [
  ⟨R.IMP_CTRL, 32, 1, 0, [F.IMP_CTRL_RESHAPE_PAUSE, F.IMP_CTRL_KAT_START, F.IMP_CTRL_ENABLE]⟩,
  ⟨R.IMP_INT_STATUS, 32, 1, 0, [F.IMP_INT_STATUS_LOST_FULL, F.IMP_INT_STATUS_UNIT_FAULT, F.IMP_INT_STATUS_KAT_FAIL, F.IMP_INT_STATUS_VOID, F.IMP_INT_STATUS_STRIPE_LOST, F.IMP_INT_STATUS_RESHAPE_DONE, F.IMP_INT_STATUS_REBUILD_DONE]⟩,
  ⟨R.IMP_INT_ENABLE, 32, 1, 0, [F.IMP_INT_ENABLE_EN]⟩,
  ⟨R.IMP_UNIT_SEL, 32, 1, 0, [F.IMP_UNIT_SEL_UNIT]⟩,
  ⟨R.IMP_UNIT_STATUS, 32, 1, 0, [F.IMP_UNIT_STATUS_STATE, F.IMP_UNIT_STATUS_BOUND, F.IMP_UNIT_STATUS_LINE, F.IMP_UNIT_STATUS_CLASS]⟩,
  ⟨R.IMP_REBUILD, 32, 1, 0, [F.IMP_REBUILD_ACTIVE, F.IMP_REBUILD_CRITICAL, F.IMP_REBUILD_RELOCATE, F.IMP_REBUILD_SHARE, F.IMP_REBUILD_FLOOR]⟩,
  ⟨R.IMP_REBUILD_LEFT, 64, 1, 0, [F.IMP_REBUILD_LEFT_CRITICAL, F.IMP_REBUILD_LEFT_SHEETS]⟩,
  ⟨R.IMP_RESHAPE_CMD, 32, 1, 0, [F.IMP_RESHAPE_CMD_BUSY, F.IMP_RESHAPE_CMD_RESULT, F.IMP_RESHAPE_CMD_CMD]⟩,
  ⟨R.IMP_RESHAPE_STATUS, 32, 1, 0, [F.IMP_RESHAPE_STATUS_STATE, F.IMP_RESHAPE_STATUS_KIND, F.IMP_RESHAPE_STATUS_CLASS, F.IMP_RESHAPE_STATUS_OLD_D, F.IMP_RESHAPE_STATUS_NEW_D]⟩,
  ⟨R.IMP_EVAC 0, 32, 4, 4, [F.IMP_EVAC_MARK 0]⟩,
  ⟨R.IMP_BOUNDARY, 64, 1, 0, [F.IMP_BOUNDARY_LIST_LEN, F.IMP_BOUNDARY_BOUNDARY]⟩,
  ⟨R.IMP_LOST_CNT, 64, 1, 0, [F.IMP_LOST_CNT_MENDING, F.IMP_LOST_CNT_LOST, F.IMP_LOST_CNT_TOTAL]⟩,
  ⟨R.IMP_SETTLE_CNT, 64, 1, 0, [F.IMP_SETTLE_CNT_VOID, F.IMP_SETTLE_CNT_SPOILED, F.IMP_SETTLE_CNT_COMPLETED]⟩,
  ⟨R.IMP_RETIRED, 32, 1, 0, [F.IMP_RETIRED_RETIRED]⟩]

/-- The registers of block HTH, in the order of its chapter. -/
def regsHTH : List RegDesc := [
  ⟨R.HTH_CTRL, 32, 1, 0, [F.HTH_CTRL_CAP_SET, F.HTH_CTRL_AUDIT_START, F.HTH_CTRL_FLUSH_NOW, F.HTH_CTRL_DESCALE_PAUSE, F.HTH_CTRL_ENABLE]⟩,
  ⟨R.HTH_INT_STATUS, 32, 1, 0, [F.HTH_INT_STATUS_AUDIT_DONE, F.HTH_INT_STATUS_TAG_SCAN, F.HTH_INT_STATUS_ERASE_CHECK, F.HTH_INT_STATUS_MAP_FAULT, F.HTH_INT_STATUS_JOURNAL_FULL, F.HTH_INT_STATUS_SPARE_LOW, F.HTH_INT_STATUS_ROW3, F.HTH_INT_STATUS_ROW2, F.HTH_INT_STATUS_ROW1]⟩,
  ⟨R.HTH_INT_ENABLE, 32, 1, 0, [F.HTH_INT_ENABLE_EN]⟩,
  ⟨R.HTH_LADDER, 32, 1, 0, [F.HTH_LADDER_ROW, F.HTH_LADDER_SPARE, F.HTH_LADDER_FILL]⟩,
  ⟨R.HTH_USER, 64, 1, 0, [F.HTH_USER_U, F.HTH_USER_LIVE]⟩,
  ⟨R.HTH_PLATES, 64, 1, 0, [F.HTH_PLATES_FREE, F.HTH_PLATES_RESERVE]⟩,
  ⟨R.HTH_JOURNAL, 64, 1, 0, [F.HTH_JOURNAL_SEQ]⟩,
  ⟨R.HTH_CKPT, 64, 1, 0, [F.HTH_CKPT_SEQ_END]⟩,
  ⟨R.HTH_DESCALE, 32, 1, 0, [F.HTH_DESCALE_RANK, F.HTH_DESCALE_SHARE, F.HTH_DESCALE_PHI, F.HTH_DESCALE_FRONT]⟩,
  ⟨R.HTH_LOST_EXT, 32, 1, 0, [F.HTH_LOST_EXT_OVERFLOW, F.HTH_LOST_EXT_LISTED]⟩,
  ⟨R.HTH_DESCALE_CNT, 64, 1, 0, [F.HTH_DESCALE_CNT_SHEETS, F.HTH_DESCALE_CNT_MOVED]⟩]

/-- The registers of block GMP, in the order of its chapter. -/
def regsGMP : List RegDesc := [
  ⟨R.GMP_CTRL, 32, 1, 0, [F.GMP_CTRL_ENABLE]⟩,
  ⟨R.GMP_INT_STATUS, 32, 1, 0, [F.GMP_INT_STATUS_FW_DONE, F.GMP_INT_STATUS_FENCED, F.GMP_INT_STATUS_CLAIM_LOST, F.GMP_INT_STATUS_TIMEOUT, F.GMP_INT_STATUS_REMOVED, F.GMP_INT_STATUS_ADMITTED]⟩,
  ⟨R.GMP_INT_ENABLE, 32, 1, 0, [F.GMP_INT_ENABLE_EN]⟩,
  ⟨R.GMP_MOD_SEL, 32, 1, 0, [F.GMP_MOD_SEL_MODULE]⟩,
  ⟨R.GMP_MOD_STATUS, 32, 1, 0, [F.GMP_MOD_STATUS_STATE, F.GMP_MOD_STATUS_FENCED, F.GMP_MOD_STATUS_SPEED, F.GMP_MOD_STATUS_WIDTH, F.GMP_MOD_STATUS_VERSION]⟩,
  ⟨R.GMP_MOD_CMD, 32, 1, 0, [F.GMP_MOD_CMD_BUSY, F.GMP_MOD_CMD_RESULT, F.GMP_MOD_CMD_CMD]⟩,
  ⟨R.GMP_PAIR_EPOCH, 32, 1, 0, [F.GMP_PAIR_EPOCH_EPOCH]⟩,
  ⟨R.GMP_STALE_CNT, 64, 1, 0, [F.GMP_STALE_CNT_COUNT]⟩,
  ⟨R.GMP_TIMEOUT_CNT, 64, 1, 0, [F.GMP_TIMEOUT_CNT_COUNT]⟩,
  ⟨R.GMP_ADMIT 0, 64, 2, 8, [F.GMP_ADMIT_ADMITTED 0]⟩]

/-- The registers of block STE, in the order of its chapter. -/
def regsSTE : List RegDesc := [
  ⟨R.STE_CTRL, 32, 1, 0, [F.STE_CTRL_DELETE_PAUSE, F.STE_CTRL_ENABLE]⟩,
  ⟨R.STE_INT_STATUS, 32, 1, 0, [F.STE_INT_STATUS_MEND_FAIL, F.STE_INT_STATUS_SYNC_BROKEN, F.STE_INT_STATUS_SEGMENT_RESEND, F.STE_INT_STATUS_DELTA_DONE, F.STE_INT_STATUS_SESSION_DOWN, F.STE_INT_STATUS_SESSION_UP, F.STE_INT_STATUS_DELETE_DONE, F.STE_INT_STATUS_CMD_DONE]⟩,
  ⟨R.STE_INT_ENABLE, 32, 1, 0, [F.STE_INT_ENABLE_EN]⟩,
  ⟨R.STE_CMD, 32, 1, 0, [F.STE_CMD_BUSY, F.STE_CMD_RESULT, F.STE_CMD_CMD]⟩,
  ⟨R.STE_ARG0, 64, 1, 0, [F.STE_ARG0_ARG]⟩,
  ⟨R.STE_ARG1, 64, 1, 0, [F.STE_ARG1_RESULT]⟩,
  ⟨R.STE_SESS_SEL, 32, 1, 0, [F.STE_SESS_SEL_SESSION]⟩,
  ⟨R.STE_SESS_STATUS, 32, 1, 0, [F.STE_SESS_STATUS_STATE, F.STE_SESS_STATUS_KIND, F.STE_SESS_STATUS_ROLE, F.STE_SESS_STATUS_VERSION, F.STE_SESS_STATUS_SEGMENT]⟩,
  ⟨R.STE_SESS_BYTES, 64, 1, 0, [F.STE_SESS_BYTES_SAVED, F.STE_SESS_BYTES_SENT]⟩,
  ⟨R.STE_INDEX_CNT, 64, 1, 0, [F.STE_INDEX_CNT_DROPPED, F.STE_INDEX_CNT_HELD]⟩]

/-- The registers of block HLM, in the order of its chapter. -/
def regsHLM : List RegDesc := [
  ⟨R.HLM_STATUS, 32, 1, 0, [F.HLM_STATUS_SVN_MIN, F.HLM_STATUS_SLOTS, F.HLM_STATUS_REVOKED, F.HLM_STATUS_LAB_OFF, F.HLM_STATUS_BOUND, F.HLM_STATUS_ADMIT, F.HLM_STATUS_ENTROPY_OK]⟩,
  ⟨R.HLM_CMD, 32, 1, 0, [F.HLM_CMD_BUSY, F.HLM_CMD_RESULT, F.HLM_CMD_CMD]⟩,
  ⟨R.HLM_DEVICE_ID 0, 32, 4, 4, [F.HLM_DEVICE_ID_ID 0]⟩]

/-- The registers of block PWR, in the order of its chapter. -/
def regsPWR : List RegDesc := [
  ⟨R.PWR_CTRL, 32, 1, 0, [F.PWR_CTRL_WAKE_PARTNER, F.PWR_CTRL_OFF, F.PWR_CTRL_BANK_REQ]⟩,
  ⟨R.PWR_INT_STATUS, 32, 1, 0, [F.PWR_INT_STATUS_RET_FAIL, F.PWR_INT_STATUS_ABORT, F.PWR_INT_STATUS_WOKE, F.PWR_INT_STATUS_ENTERED, F.PWR_INT_STATUS_WITHDRAWN]⟩,
  ⟨R.PWR_INT_ENABLE, 32, 1, 0, [F.PWR_INT_ENABLE_EN]⟩,
  ⟨R.PWR_STATE, 32, 1, 0, [F.PWR_STATE_STATE, F.PWR_STATE_STEP, F.PWR_STATE_LAST_WAKE, F.PWR_STATE_LAST_ABORT, F.PWR_STATE_BANK_LIST]⟩,
  ⟨R.PWR_LOAD, 32, 1, 0, [F.PWR_LOAD_TIMER_LEFT, F.PWR_LOAD_THRESHOLD, F.PWR_LOAD_LOAD]⟩,
  ⟨R.PWR_RET_FAIL, 32, 1, 0, [F.PWR_RET_FAIL_BANK]⟩,
  ⟨R.PWR_WAKE_TIMER, 64, 1, 0, [F.PWR_WAKE_TIMER_TICKS]⟩,
  ⟨R.PWR_CNT, 64, 1, 0, [F.PWR_CNT_DEEP, F.PWR_CNT_BANKED, F.PWR_CNT_ABORTS, F.PWR_CNT_RET_FAILS]⟩]

/-- The registers of block TIM, in the order of its chapter. -/
def regsTIM : List RegDesc := [
  ⟨R.TIM_CTRL, 32, 1, 0, [F.TIM_CTRL_INT_EN, F.TIM_CTRL_SOURCE]⟩,
  ⟨R.TIM_STATUS, 32, 1, 0, [F.TIM_STATUS_QUALITY, F.TIM_STATUS_FOLLOWING, F.TIM_STATUS_STEP, F.TIM_STATUS_REF_CHG, F.TIM_STATUS_QUALITY_CHG, F.TIM_STATUS_RESTORED]⟩,
  ⟨R.TIM_NOW, 64, 1, 0, [F.TIM_NOW_NS]⟩,
  ⟨R.TIM_EMBER, 64, 1, 0, [F.TIM_EMBER_COUNT]⟩,
  ⟨R.TIM_EMBER_PERIOD, 32, 1, 0, [F.TIM_EMBER_PERIOD_PERIOD]⟩,
  ⟨R.TIM_UNCERTAINTY, 32, 1, 0, [F.TIM_UNCERTAINTY_NS]⟩,
  ⟨R.TIM_RATE, 32, 1, 0, [F.TIM_RATE_PPB]⟩,
  ⟨R.TIM_ADJ, 64, 1, 0, [F.TIM_ADJ_OFFSET]⟩,
  ⟨R.TIM_SNAP_MAIN, 64, 1, 0, [F.TIM_SNAP_MAIN_NS]⟩,
  ⟨R.TIM_SNAP_EMBER, 64, 1, 0, [F.TIM_SNAP_EMBER_COUNT]⟩]

/-- The registers of block UPD, in the order of its chapter. -/
def regsUPD : List RegDesc := [
  ⟨R.UPD_CTRL, 32, 1, 0, [F.UPD_CTRL_OWNER_LOCK, F.UPD_CTRL_ENABLE]⟩,
  ⟨R.UPD_INT_STATUS, 32, 1, 0, [F.UPD_INT_STATUS_MISMATCH, F.UPD_INT_STATUS_FELL_BACK, F.UPD_INT_STATUS_CONFIRMED, F.UPD_INT_STATUS_ACTIVATED, F.UPD_INT_STATUS_REFUSED, F.UPD_INT_STATUS_STAGED, F.UPD_INT_STATUS_LEASE_END]⟩,
  ⟨R.UPD_INT_ENABLE, 32, 1, 0, [F.UPD_INT_ENABLE_EN]⟩,
  ⟨R.UPD_LEASE, 32, 1, 0, [F.UPD_LEASE_HELD, F.UPD_LEASE_SOURCE, F.UPD_LEASE_IDLE, F.UPD_LEASE_HOLDER]⟩,
  ⟨R.UPD_STAGE, 32, 1, 0, [F.UPD_STAGE_STAGE, F.UPD_STAGE_SLOT, F.UPD_STAGE_MISSING]⟩,
  ⟨R.UPD_STATUS, 32, 1, 0, [F.UPD_STATUS_STATUS]⟩,
  ⟨R.UPD_POINTER, 32, 1, 0, [F.UPD_POINTER_ACTIVE, F.UPD_POINTER_STATE, F.UPD_POINTER_TRIALS, F.UPD_POINTER_PENDING, F.UPD_POINTER_SEQ]⟩,
  ⟨R.UPD_CONFIRM, 32, 1, 0, [F.UPD_CONFIRM_MINUTES]⟩,
  ⟨R.UPD_CMD, 32, 1, 0, [F.UPD_CMD_BUSY, F.UPD_CMD_RESULT, F.UPD_CMD_CMD]⟩,
  ⟨R.UPD_VERSION 0, 32, 2, 4, [F.UPD_VERSION_VERSION 0]⟩,
  ⟨R.UPD_HASH 0, 32, 12, 4, [F.UPD_HASH_HASH 0]⟩]

/-- The registers of block DBG, in the order of its chapter. -/
def regsDBG : List RegDesc := [
  ⟨R.DBG_CTRL, 32, 1, 0, [F.DBG_CTRL_LOCK_NOW, F.DBG_CTRL_DISABLE]⟩,
  ⟨R.DBG_STATUS, 32, 1, 0, [F.DBG_STATUS_LEVEL, F.DBG_STATUS_LAB, F.DBG_STATUS_WAIT, F.DBG_STATUS_VERSION, F.DBG_STATUS_FAILS]⟩]

/-- The registers of block PRT, in the order of its chapter. -/
def regsPRT : List RegDesc := [
  ⟨R.PRT_ETH_LINK 0, 32, 4, 4, [F.PRT_ETH_LINK_UP 0, F.PRT_ETH_LINK_RETIRED 0, F.PRT_ETH_LINK_CHG 0, F.PRT_ETH_LINK_ENABLED 0, F.PRT_ETH_LINK_SPLIT 0]⟩,
  ⟨R.PRT_FRONT_LINK 0, 32, 2, 4, [F.PRT_FRONT_LINK_NUMVF 0, F.PRT_FRONT_LINK_FLIT 0, F.PRT_FRONT_LINK_SPEED 0, F.PRT_FRONT_LINK_WIDTH 0, F.PRT_FRONT_LINK_CHG 0]⟩,
  ⟨R.PRT_LANE_SCRAP, 64, 1, 0, [F.PRT_LANE_SCRAP_FRONT, F.PRT_LANE_SCRAP_ETH]⟩]

/-- Every register of Foreman space (Table 21.5). -/
def regMap : List RegDesc :=
  regsFOR ++ regsSTK ++ regsCHS ++ regsGLY ++ regsANV ++ regsPUN ++ regsMTX ++ regsSWG ++ regsTMP ++ regsPRF ++ regsIMP ++ regsHTH ++ regsGMP ++ regsSTE ++ regsHLM ++ regsPWR ++ regsTIM ++ regsUPD ++ regsDBG ++ regsPRT

end Sys2Proof.Machine
end

