-- ==== Sys2Proof/Machine/State/Chase.lean ====
section
/-! DEFINITION. State of Chase: ownership entries, range locks and moves (R99 to R119). -/

namespace Sys2Proof.Machine

/-- STATE of an ownership entry (Table 5.1). -/
inductive NsState
  | unused | loc | remote | releasing | acquiring | heldNs
deriving DecidableEq, Repr

/-- STATE as a number. -/
def NsState.code : NsState → Nat
  | .unused => 0 | .loc => 1 | .remote => 2 | .releasing => 3 | .acquiring => 4 | .heldNs => 5

/-- An ownership entry (Table 5.1). `begins` lists the inbound channels whose MOVE_BEGIN has arrived (Table 5.7), `moveAt` when the move began (R117), `last` the last stamp this head gave the namespace, `sent` that the boundary record has been sent. -/
structure NsEntry where
  boundary : Nat := 0
  state : NsState := .unused
  owner : Nat := 0
  cls : Nat := 0
  pending : Nat := 0
  begins : List Nat := []
  moveAt : Nat := 0
  volume : Nat := 0
  last : Nat := 0
  sent : Bool := false
deriving DecidableEq, Repr

/-- MODE of a range lock (Table 5.3). -/
inductive LockMode
  | rd | wr | caw
deriving DecidableEq, Repr

/-- A range-lock entry (Table 5.4); a Free entry is not listed. `active` is STATE Active, else Waiting. -/
structure Lock where
  stamp : Nat
  slba : Nat
  nlb : Nat
  nsid : Nat
  mode : LockMode
  active : Bool
  isForeign : Bool
  slot : Nat
  waitCnt : Nat
deriving DecidableEq, Repr

/-- Chase. `hwm` is the journalled stamp mark (R101), `input` the slots that wait unstamped for lock entries, oldest first (R108), `nextFwd` numbers forwards (R348). -/
structure Chase where
  ns : Tab NsEntry := []
  locks : Tab Lock := []
  hwm : Nat := 0
  input : List Nat := []
  nextFwd : Nat := 0
deriving DecidableEq, Repr

end Sys2Proof.Machine
end

