-- ==== Sys2Proof/Machine/State/Foreman.lean ====
section
/-! DEFINITION. State of the management complex: modes, the forme, its lines, smith pairs, Hallmark, the Ohmust port and the pins. -/

namespace Sys2Proof.Machine

/-- The twelve modes of Table 1.7 (R18). Halted-safe is `halted` with the SAFE flag. -/
inductive Mode
  | dark | recovery | forming | joining | paired | solo | takeover | handback | activation | banked | deepBanked | halted
deriving DecidableEq, Repr

/-- The mode code that FOR_MODE reports (Table 1.7). -/
def Mode.code : Mode → Nat
  | .dark => 0 | .recovery => 1 | .forming => 2 | .joining => 3 | .paired => 4 | .solo => 5
  | .takeover => 6 | .handback => 7 | .activation => 8 | .banked => 9 | .deepBanked => 10 | .halted => 11

/-- The station types of a binding record (R38). -/
inductive Station
  | punch | swageC | swageE | temper | proof | imposition
deriving DecidableEq, Repr

/-- A binding record of the LINES section (R38). -/
structure Bind where
  stage : Nat
  typ : Station
  cluster : Nat
  mask : Nat
deriving DecidableEq, Repr

/-- A line record of the LINES section (R38, Table 2.5). -/
structure FormeLine where
  id : Nat
  kind : Nat
  domain : Nat
  priority : Nat
  binds : List Bind
deriving DecidableEq, Repr

/-- A namespace class of the LAYOUT section (R40). -/
structure FormeClass where
  id : Nat
  d : Nat
  atomLog2 : Nat
  alg : Nat
  fpLine : Nat
  refLine : Nat
  rdLine : Nat
  strict : Bool
deriving DecidableEq, Repr

/-- A forme read into its fields (R28 to R43). `statics` holds the bytes of the static sections, `pairBodies` the bytes of the pair digest (R55); `ignored` says that a reserved field of a later minor was not zero (R32). -/
structure Forme where
  version : Nat
  id : Nat
  minAnvil : Nat
  minGmp : Nat
  minRepl : Nat
  minOhm : Nat
  minFw : Nat
  eth : List Nat
  front : List Nat
  mgmt : Bool
  i3c : Bool
  roots : List (Nat × Nat)
  smithClk : Nat
  stationClk : Nat
  fabricClk : Nat
  rate : Nat
  filterGib : Nat
  fwGib : Nat
  repeatMib : Nat
  cacheGib : Nat
  spillGib : Nat
  tasks : Nat
  vfs : List Nat
  galleyGib : Nat
  flushMs : Nat
  lines : List FormeLine
  classes : List FormeClass
  head : Nat
  gapHold : Bool
  bundles : Nat
  realms : Nat
  bankOk : Bool
  deepOk : Bool
  loadPct : Nat
  bankMin : Nat
  retries : Nat
  perHour : Nat
  rebuildFloor : Nat
  lab : Bool
  loadTest : Bool
  strikeHours : Nat
  statics : Bytes
  pairBodies : Bytes
  ignored : Bool
deriving DecidableEq, Repr

/-- A lane bound to a line: its stage, its station type and its lane number in that station type, as Table 17.1 numbers channels. -/
structure BoundLane where
  stage : Nat
  typ : Station
  lane : Nat
deriving DecidableEq, Repr

/-- A line that the head runs: its header, the lanes bound to it now, the forme it is bound under (R54), whether it drains (R51). -/
structure RunLine where
  kind : Nat
  domain : Nat
  priority : Nat
  lanes : List BoundLane
  formeId : Nat
  draining : Bool
deriving DecidableEq, Repr

/-- A re-form in progress (R50 to R54): the replacement and its bytes, the groups of line IDs still to do, and whether Takeover suspended it. -/
structure ReForm where
  target : Forme
  raw : Bytes
  groups : List (List Nat)
  suspended : Bool
deriving DecidableEq, Repr

/-- A breakpoint of a smith pair (Table 20.6): 0 execute, 1 read, 2 write, 3 access. -/
structure Breakpoint where
  addr : Nat
  kind : Nat
deriving DecidableEq, Repr

/-- The fuse array (Table 20.2). UDS stands here because Hallmark holds it; no register shows it (R421). -/
structure Fuses where
  uds : Nat := 0
  deviceId : Nat := 0
  order : Nat := 0
  signKey1 : Bytes := []
  signKey2 : Bytes := []
  signKey3 : Bytes := []
  signRevoke : Nat := 0
  debugKey : Bytes := []
  debugVendorOff : Bool := false
  labOff : Bool := false
  svnMin : Nat := 0
deriving DecidableEq, Repr

/-- The steps of binding a pair (R424). -/
structure PairBind where
  myNonce : Bytes := []
  peerNonce : Bytes := []
  peerCert : Bytes := []
  peerHas : Bool := false
  offered : Bool := false
  proven : Bool := false
deriving DecidableEq, Repr

/-- Hallmark: fuses, the pair record (R423, R424), the binding exchange, and when the admit window of HLM_STATUS opened. -/
structure Hallmark where
  admitAt : Nat := 0
  fuses : Fuses := {}
  prs : Option Bytes := none
  bind : PairBind := {}
deriving DecidableEq, Repr

/-- The Ohmust port (R427 to R432): the response the next frame sends, the nonce that no RESPONSE has used, the signature words received and the level they ask for, whether HELLO was refused (R429), when the last frame ended, until when CHALLENGE waits, and the mailbox with the framed blocks taken from it (R419). -/
structure Ohmust where
  respStatus : Nat := 0
  respSeq : Nat := 0
  respData : Nat := 0
  nonce : Option Bytes := none
  sig : Tab Nat := []
  sigLevel : Nat := 0
  refused : Bool := false
  lastFrame : Nat := 0
  waitUntil : Nat := 0
  mailbox : Tab Nat := []
  box : Tab Bytes := []
deriving DecidableEq, Repr

/-- Smith pairs: what a debug host can set in them, and interrupts claimed by a pair (R420, R428). [DEDUCED: notes/assumptions/103.md] -/
structure Smith where
  regs : Tab Word := []
  bps : Tab Breakpoint := []
  claims : Tab Nat := []
  gated : List Nat := []
deriving DecidableEq, Repr

/-- How far power-up has come (Table 22.3). `wakeOnly` is Dark after R400, which only WAKE_N ends; in `mainOn` the core is held in reset. -/
inductive PowerUp
  | unpowered | standby | wakeOnly | mainOn | heldByWarn | released
deriving DecidableEq, Repr

/-- The pins whose level the head reads or drives (Table 22.4). A field is true while the signal is asserted, whatever its polarity. -/
structure Pins where
  mainPwrEn : Bool := false
  pwrOk : Bool := false
  resetLow : Bool := false
  powerWarn : Bool := false
  thermtrip : Bool := false
  alive : Bool := false
  partnerAlive : Bool := false
  fenceOut : Bool := false
  fenceIn : Bool := false
  claimAckOut : Bool := false
  claimAckIn : Bool := false
  vaultVcc : Bool := false
  vddFuse : Bool := false
  sbAddr : Nat := 0
  frontTx : Bool := false
  backTxGated : Bool := false
deriving DecidableEq, Repr

/-- The management complex as a whole. `cacheLost` is the DRAM in GiB that retired ranks have taken from the map cache (R379). `formStep` is the last step of Table 2.6 done in this Forming, `i3cAddr` the address that the sideband controller has assigned under I3C (R75), `mgmtIpv6` the IP version of the last packet at the management port (R76). -/
structure Foreman where
  mode : Mode := .forming
  prev : Mode := .dark
  safe : Bool := false
  formStep : Nat := 0
  powerUp : PowerUp := .mainOn
  forme : Option Forme := none
  pendingForme : Option Bytes := none
  reform : Option ReForm := none
  lines : Tab RunLine := []
  lab : Bool := false
  dramBytes : Nat := 0
  thermalLow : Bool := false
  i3cAddr : Nat := 0
  mgmtIpv6 : Bool := false
  cacheLost : Nat := 0
  hallmark : Hallmark := {}
  ohm : Ohmust := {}
  smith : Smith := {}
  pins : Pins := {}
deriving DecidableEq, Repr

end Sys2Proof.Machine
end

