-- ==== Sys2Proof/Machine/State/Gymo.lean ====
section
/-! DEFINITION. State of the Gymo media protocol: the modules as devices, how this head sees them, and commands in flight (R306 to R322). -/

namespace Sys2Proof.Machine

/-- A written chunk position of a plate: its 65,536 bytes, or none when it reads as unreadable. -/
abbrev Chunk := Option Bytes

/-- A plate at its module (R306, R314): its owner epoch and owner, whether the module has retired it, and its written positions. -/
structure DevPlate where
  epoch : Nat := 0
  owner : Nat := 0
  failed : Bool := false
  chunks : Tab Chunk := []
deriving DecidableEq, Repr

/-- An anchor record (Table 14.6): generation, plates A and B as module × 2^25 + plate. [DEDUCED: notes/assumptions/41.md] -/
structure AnchorRec where
  gen : Nat := 0
  a : Nat := 0
  b : Nat := 0
deriving DecidableEq, Repr

/-- A module as a device (Table 14.1, Table 14.6). `bound` lists the head index of each bound port as (port, head), `fenced` the ports that the other port has fenced, `image` the bytes of a downloaded image by offset. -/
structure Device where
  serial : Nat := 0
  version : Nat := 0
  prevVersion : Nat := 0
  firmware : Nat := 0
  plateLog2 : Nat := 24
  number : Nat := 0xFF
  plateCount : Nat := 0
  rated : Nat := 0
  seatEpoch : Nat := 0
  seatOwner : Nat := 0
  anchor0 : AnchorRec := {}
  anchor1 : AnchorRec := {}
  bound : List (Nat × Nat) := []
  fenced : List Nat := []
  plates : Tab DevPlate := []
  image : Tab Bytes := []
  temp : Int := 0
deriving DecidableEq, Repr

/-- STATE of GMP_MOD_STATUS. -/
inductive ModState
  | absent | admitting | admitted | activating | missing | released
deriving DecidableEq, Repr

/-- STATE of GMP_MOD_STATUS as a number. -/
def ModState.code : ModState → Nat
  | .absent => 0 | .admitting => 1 | .admitted => 2 | .activating => 3 | .missing => 4 | .released => 5

/-- A module as this head sees it. `steps` counts the admission steps of R320 passed, `fenceOk` says that a FENCE of this takeover succeeded, `noCmd` that R317 sends it nothing until one does, `excluded` that no sheet opens on it (R322). -/
structure Mod where
  state : ModState := .absent
  serial : Nat := 0
  speed : Nat := 0
  lanes : Nat := 0
  version : Nat := 0
  steps : Nat := 0
  since : Nat := 0
  fencedHere : Bool := false
  fenceOk : Bool := false
  noCmd : Bool := false
  fenceAt : Nat := 0
  excluded : Bool := false
  plates : Nat := 0
  plateLog2 : Nat := 24
  rated : Nat := 0
  temp : Int := 0
deriving DecidableEq, Repr

/-- A GMP command (Table 14.2). -/
structure GmpCmd where
  op : Nat
  flags : Nat := 0
  plate : Nat := 0
  offset : Nat := 0
  length : Nat := 0
  expect : Nat := 0
deriving DecidableEq, Repr

/-- What a GMP command is for. -/
inductive GmpUse
  | plain
  | chunk (sheet stripe member : Nat)
  | erase (sheet member : Nat)
  | readGrain (gid : Nat)
  | seat
  | fence
  | entry
  | anchor
  | readPage (addr : Nat)
deriving DecidableEq, Repr

/-- A command in flight: the module and slot it went to, its tag's generation, when it was sent, and whether it is the one reissue of a READ (R312). -/
structure GmpOut where
  module : Nat
  slot : Nat
  gen : Nat
  cmd : GmpCmd
  use : GmpUse
  sentAt : Nat
  reissued : Bool := false
deriving DecidableEq, Repr

/-- The fields of a completion (Table 14.3); `rsv` is 0 when its reserved bits are. -/
structure GmpDone where
  status : Status
  gen : Nat
  tag : Nat
  slot : Nat
  rsv : Nat
  phase : Bool
  epoch : Nat
  owner : Nat
  version : Nat
deriving DecidableEq, Repr

/-- An entry of a module's completion ring that this head has not yet taken (R308): its 16 bytes, with the data that the module wrote before it. -/
structure RingEntry where
  module : Nat
  words : Bytes
  data : Bytes := []
deriving DecidableEq, Repr

/-- The GMP controller: commands in flight by tag, each tag's generation, the free list as in R88, the (module, slot) pairs of timed-out commands whose completion has not been written, the completions in the order in which they came, how many each module has written into its ring, and the seat claim of a takeover in progress (R317): the module it has reached. -/
structure Gymo where
  devs : Tab Device := []
  mods : Tab Mod := []
  flying : Tab GmpOut := []
  gens : Tab Nat := []
  freshTag : Nat := 0
  freed : List Nat := []
  held : List (Nat × Nat) := []
  ring : List RingEntry := []
  filled : Tab Nat := []
  seatAt : Option Nat := none
  seatWon : Bool := false
  activating : Option Nat := none
deriving DecidableEq, Repr

end Sys2Proof.Machine
end

