-- ==== Sys2Proof/Machine/State/Out.lean ====
section
/-! DEFINITION. What the head sends out: to hosts, to its partner, to modules, to peers and to management. -/

namespace Sys2Proof.Machine

/-- The Anvil messages that this head sends (Table 16.3, Table 16.10, Table 9.7). -/
inductive AnvType
  | hello | helloAck | status | park | rejoin | released | bindOffer | bindXfer | bindProof
  | mirrorData | mirrorDesc | mirrorAck | commit | release | ring | ringAck
  | fwdCmd | dataReq | data | readData | result | cancel | credit | matrixReq | matrixResp
  | moveBegin | boundary | moveDone | clearance | mediaReturn | nak | resend
  | strikeStart | tongsSeen | digestReq | digestResp | dryBegin | dryResult | ownerResult | strikeEnd
deriving DecidableEq, Repr

/-- The replication records that this head sends (Table 15.6). -/
inductive ReplType
  | hello | helloAck | keys | deltaBegin | extents | fpList | have | grains | segmentEnd | segmentAck
  | deltaEnd | deltaAck | write | writeAck | syncMark | mendReq | mendData | close | error
deriving DecidableEq, Repr

/-- An asynchronous event (Table 3.5): a SMART / Health critical warning by its bit, a changed namespace, a firmware activation, or a capacity alert at a share of user space in per cent. -/
inductive AsyncEvent
  | smart (bit : Nat)
  | nsChanged (nsid : Nat)
  | fwActivation
  | capacity (percent : Nat)
deriving DecidableEq, Repr

/-- One thing that leaves the head. The numbers of a message stand in the order in which its table gives the fields. -/
inductive Out
  | completion (ctx cid sct sc : Nat) (dnr : Bool) (dword0 sqHead sqId : Nat) (phase : Bool)
  | msix (ctx vector : Nat)
  | readBlocks (ctx cid first : Nat) (blocks : List (Bytes × Bytes))
  | r2t (conn tag cccid offset len : Nat)
  | icResp (conn maxH2cData cpda : Nat) (hdrDigest dataDigest : Bool)
  | c2hTerm (conn fes : Nat)
  | connEnd (conn : Nat)
  | connectFail (conn : Nat) (r : Result)
  | rdmaRead (slot len : Nat) (ecn : Bool)
  | xferHold (conn : Nat)
  | xferGo (conn : Nat)
  | ethUp (lport rate : Nat) (fec : Bool) (frameMax pfcPriorities : Nat) (ets : Bool)
  | pcieUp (port : Nat) (flit : Bool) (tagBits maxPayload maxReadReq : Nat)
  | numVfsOff (port : Nat)
  | identify (ctx cid cns : Nat) (nqn : Bytes) (vals : List (List Nat))
  | anaChange (nsid : Nat)
  | anv (t : AnvType) (chan : Nat) (args : List Nat) (data : Bytes)
  | gmp (module slot : Nat) (cmd data : Bytes)
  | repl (sess : Nat) (t : ReplType) (args : List Nat) (data : Bytes)
  | pldmEvent (seq : Nat) (data : Bytes)
  | pldmReply (kind : Nat) (value : Nat)
  | tftpReply (ok : Bool) (status : Nat)
  | ohmReply (status seq data : Nat)
  | bellows (addr code data : Nat)
  | asyncEvent (cntlid : Nat) (e : AsyncEvent)
  | logPage (ctx cid lid : Nat) (vals : List (List Nat))
  | resvReport (ctx cid : Nat) (r : Reservation)
deriving DecidableEq, Repr

end Sys2Proof.Machine
end

