-- ==== Sys2Proof/Machine/State/Power.lean ====
section
/-! DEFINITION. State of power and time control (R388 to R406). -/

namespace Sys2Proof.Machine

/-- The power states of Table 18.1; Idle is a state of Run. -/
inductive PowerState
  | run | sleep | deep | off
deriving DecidableEq, Repr

/-- The snapshot in the ember domain (R403). -/
structure Snapshot where
  main : Nat := 0
  ember : Nat := 0
  period : Nat := 0
  quality : Nat := 0
  unc : Nat := 0
deriving DecidableEq, Repr

/-- Why a head hands everything it owns to its partner: the two kinds of sleep and power-off (R393, R400), a halt (R430), an activation (R118) and an overtemperature (R453). -/
inductive Leave
  | sleep | deep | off | halt | activation | thermal
deriving DecidableEq, Repr

/-- Power control. `entry` is the departure in progress; `bankList` the namespaces handed over for a sleep (R393); `anaAt` is when the ANA changes were posted (R69); `gatedLanes` lists clock-gated lanes as (kind, index); `timerFrom` and `lowLoad` run the banking timer (R391), `highSec` counts seconds above twice the threshold (R396); `timerHit` says that PWR_WAKE_TIMER reached 0 in a sleep; `peerQuiet` is what the entry was told of the partner's share of Table 18.2; `signed` lists the retention banks whose signature the ember domain holds (R394). -/
structure Power where
  state : PowerState := .run
  entry : Option Leave := none
  byTimer : Bool := false
  bankList : List Nat := []
  anaAt : Option Nat := none
  gatedLanes : List (Nat × Nat) := []
  timerFrom : Nat := 0
  lowLoad : Bool := true
  highSec : Nat := 0
  timerHit : Bool := false
  peerQuiet : Bool := true
  signed : List Nat := []
deriving DecidableEq, Repr

/-- Time control beyond the TIM registers: the last snapshot, the ember windows averaged (R402) in units of TIM_EMBER_PERIOD, the correction still to slew in ns, parts of an ember tick and of a slewed nanosecond gathered so far, when the last discipline arrived, the period before a sleep until it has been compared (R404), and the port that PTP runs on (R74). -/
structure Clock where
  snap : Option Snapshot := none
  windows : List Nat := []
  slewLeft : Int := 0
  emberAcc : Nat := 0
  slewAcc : Nat := 0
  lastSync : Nat := 0
  running : Bool := true
  recal : Option Nat := none
  ptpPort : Option Nat := none
deriving DecidableEq, Repr

end Sys2Proof.Machine
end

