-- ==== Sys2Proof/Machine/Digest.lean ====
section
/-! DEFINITION. The digests of Table 8.1 as their standards give them: SHA-2 (FIPS 180-4), SHA3-256 (FIPS 202), HMAC (FIPS 198-1) and BLAKE3, with the running state that a core keeps of a message (R168, R172, R174). -/

namespace Sys2Proof.Machine

/-- The round constants of SHA-256. -/
def sha256K : List (BitVec 32) :=
  [0x428A2F98#32, 0x71374491#32, 0xB5C0FBCF#32, 0xE9B5DBA5#32, 0x3956C25B#32, 0x59F111F1#32, 0x923F82A4#32, 0xAB1C5ED5#32] ++
  [0xD807AA98#32, 0x12835B01#32, 0x243185BE#32, 0x550C7DC3#32, 0x72BE5D74#32, 0x80DEB1FE#32, 0x9BDC06A7#32, 0xC19BF174#32] ++
  [0xE49B69C1#32, 0xEFBE4786#32, 0x0FC19DC6#32, 0x240CA1CC#32, 0x2DE92C6F#32, 0x4A7484AA#32, 0x5CB0A9DC#32, 0x76F988DA#32] ++
  [0x983E5152#32, 0xA831C66D#32, 0xB00327C8#32, 0xBF597FC7#32, 0xC6E00BF3#32, 0xD5A79147#32, 0x06CA6351#32, 0x14292967#32] ++
  [0x27B70A85#32, 0x2E1B2138#32, 0x4D2C6DFC#32, 0x53380D13#32, 0x650A7354#32, 0x766A0ABB#32, 0x81C2C92E#32, 0x92722C85#32] ++
  [0xA2BFE8A1#32, 0xA81A664B#32, 0xC24B8B70#32, 0xC76C51A3#32, 0xD192E819#32, 0xD6990624#32, 0xF40E3585#32, 0x106AA070#32] ++
  [0x19A4C116#32, 0x1E376C08#32, 0x2748774C#32, 0x34B0BCB5#32, 0x391C0CB3#32, 0x4ED8AA4A#32, 0x5B9CCA4F#32, 0x682E6FF3#32] ++
  [0x748F82EE#32, 0x78A5636F#32, 0x84C87814#32, 0x8CC70208#32, 0x90BEFFFA#32, 0xA4506CEB#32, 0xBEF9A3F7#32, 0xC67178F2#32]

/-- The round constants of SHA-512 and its truncations. -/
def sha512K : List (BitVec 64) :=
  [0x428A2F98D728AE22#64, 0x7137449123EF65CD#64, 0xB5C0FBCFEC4D3B2F#64, 0xE9B5DBA58189DBBC#64, 0x3956C25BF348B538#64, 0x59F111F1B605D019#64, 0x923F82A4AF194F9B#64, 0xAB1C5ED5DA6D8118#64] ++
  [0xD807AA98A3030242#64, 0x12835B0145706FBE#64, 0x243185BE4EE4B28C#64, 0x550C7DC3D5FFB4E2#64, 0x72BE5D74F27B896F#64, 0x80DEB1FE3B1696B1#64, 0x9BDC06A725C71235#64, 0xC19BF174CF692694#64] ++
  [0xE49B69C19EF14AD2#64, 0xEFBE4786384F25E3#64, 0x0FC19DC68B8CD5B5#64, 0x240CA1CC77AC9C65#64, 0x2DE92C6F592B0275#64, 0x4A7484AA6EA6E483#64, 0x5CB0A9DCBD41FBD4#64, 0x76F988DA831153B5#64] ++
  [0x983E5152EE66DFAB#64, 0xA831C66D2DB43210#64, 0xB00327C898FB213F#64, 0xBF597FC7BEEF0EE4#64, 0xC6E00BF33DA88FC2#64, 0xD5A79147930AA725#64, 0x06CA6351E003826F#64, 0x142929670A0E6E70#64] ++
  [0x27B70A8546D22FFC#64, 0x2E1B21385C26C926#64, 0x4D2C6DFC5AC42AED#64, 0x53380D139D95B3DF#64, 0x650A73548BAF63DE#64, 0x766A0ABB3C77B2A8#64, 0x81C2C92E47EDAEE6#64, 0x92722C851482353B#64] ++
  [0xA2BFE8A14CF10364#64, 0xA81A664BBC423001#64, 0xC24B8B70D0F89791#64, 0xC76C51A30654BE30#64, 0xD192E819D6EF5218#64, 0xD69906245565A910#64, 0xF40E35855771202A#64, 0x106AA07032BBD1B8#64] ++
  [0x19A4C116B8D2D0C8#64, 0x1E376C085141AB53#64, 0x2748774CDF8EEB99#64, 0x34B0BCB5E19B48A8#64, 0x391C0CB3C5C95A63#64, 0x4ED8AA4AE3418ACB#64, 0x5B9CCA4F7763E373#64, 0x682E6FF3D6B2B8A3#64] ++
  [0x748F82EE5DEFB2FC#64, 0x78A5636F43172F60#64, 0x84C87814A1F0AB72#64, 0x8CC702081A6439EC#64, 0x90BEFFFA23631E28#64, 0xA4506CEBDE82BDE9#64, 0xBEF9A3F7B2C67915#64, 0xC67178F2E372532B#64] ++
  [0xCA273ECEEA26619C#64, 0xD186B8C721C0C207#64, 0xEADA7DD6CDE0EB1E#64, 0xF57D4F7FEE6ED178#64, 0x06F067AA72176FBA#64, 0x0A637DC5A2C898A6#64, 0x113F9804BEF90DAE#64, 0x1B710B35131C471B#64] ++
  [0x28DB77F523047D84#64, 0x32CAAB7B40C72493#64, 0x3C9EBE0A15C9BEBC#64, 0x431D67C49C100D4C#64, 0x4CC5D4BECB3E42B6#64, 0x597F299CFC657E2A#64, 0x5FCB6FAB3AD6FAEC#64, 0x6C44198C4A475817#64]

/-- The initial state of SHA-256, whose words BLAKE3 uses too. -/
def sha256Iv : List (BitVec 32) :=
  [0x6A09E667#32, 0xBB67AE85#32, 0x3C6EF372#32, 0xA54FF53A#32, 0x510E527F#32, 0x9B05688C#32, 0x1F83D9AB#32, 0x5BE0CD19#32]

/-- The initial state of SHA-384. -/
def sha384Iv : List (BitVec 64) :=
  [0xCBBB9D5DC1059ED8#64, 0x629A292A367CD507#64, 0x9159015A3070DD17#64, 0x152FECD8F70E5939#64, 0x67332667FFC00B31#64, 0x8EB44A8768581511#64, 0xDB0C2E0D64F98FA7#64, 0x47B5481DBEFA4FA4#64]

/-- The initial state of SHA-512/256. -/
def sha512t256Iv : List (BitVec 64) :=
  [0x22312194FC2BF72C#64, 0x9F555FA3C84C64C2#64, 0x2393B86B6F53B151#64, 0x963877195940EABD#64, 0x96283EE2A88EFFE3#64, 0xBE5E1E2553863992#64, 0x2B0199FC2C85B8AA#64, 0x0EB72DDC81C52CA2#64]

/-- The round constants of Keccak-f[1600]. -/
def keccakRc : List (BitVec 64) :=
  [0x0000000000000001#64, 0x0000000000008082#64, 0x800000000000808A#64, 0x8000000080008000#64, 0x000000000000808B#64, 0x0000000080000001#64, 0x8000000080008081#64, 0x8000000000008009#64] ++
  [0x000000000000008A#64, 0x0000000000000088#64, 0x0000000080008009#64, 0x000000008000000A#64, 0x000000008000808B#64, 0x800000000000008B#64, 0x8000000000008089#64, 0x8000000000008003#64] ++
  [0x8000000000008002#64, 0x8000000000000080#64, 0x000000000000800A#64, 0x800000008000000A#64, 0x8000000080008081#64, 0x8000000000008080#64, 0x0000000080000001#64, 0x8000000080008008#64]

/-- The rotations of Keccak's rho step, by lane x + 5y. -/
def keccakRot : List Nat := [0, 1, 62, 28, 27, 36, 44, 6, 55, 20, 3, 10, 43, 25, 39, 41, 45, 15, 21, 8, 18, 2, 61, 56, 14]

/-- A number as `n` bytes, the most significant first. -/
def wordsBE {w : Nat} (n : Nat) (b : Bytes) : List (BitVec w) := (List.range n).map fun i => BitVec.ofNat w (beNat (slice b (i * (w / 8)) (w / 8)))

/-- Words as bytes, the most significant byte first. -/
def bytesBE {w : Nat} (l : List (BitVec w)) : Bytes := l.flatMap fun x => beBytes x.toNat (w / 8)

/-- Words from bytes, the least significant byte first. -/
def wordsLE {w : Nat} (n : Nat) (b : Bytes) : List (BitVec w) := (List.range n).map fun i => BitVec.ofNat w (leAt b (i * (w / 8)) (w / 8))

/-- Words as bytes, the least significant byte first. -/
def bytesLE {w : Nat} (l : List (BitVec w)) : Bytes := l.flatMap fun x => leBytes x.toNat (w / 8)

/-- What differs between SHA-256 and SHA-512: the round constants, and the rotations and shifts of the four functions. -/
structure Sha2 (w : Nat) where
  k : List (BitVec w)
  up1 : Nat × Nat × Nat
  up0 : Nat × Nat × Nat
  low0 : Nat × Nat × Nat
  low1 : Nat × Nat × Nat

/-- The xor of three rotations. -/
def rot3 {w : Nat} (r : Nat × Nat × Nat) (x : BitVec w) : BitVec w := x.rotateRight r.1 ^^^ x.rotateRight r.2.1 ^^^ x.rotateRight r.2.2

/-- The xor of two rotations and a shift. -/
def rot2 {w : Nat} (r : Nat × Nat × Nat) (x : BitVec w) : BitVec w := x.rotateRight r.1 ^^^ x.rotateRight r.2.1 ^^^ (x >>> r.2.2)

/-- SHA-256 (FIPS 180-4). -/
def sha256P : Sha2 32 := ⟨sha256K, (6, 11, 25), (2, 13, 22), (7, 18, 3), (17, 19, 10)⟩

/-- SHA-512 (FIPS 180-4). -/
def sha512P : Sha2 64 := ⟨sha512K, (14, 18, 41), (28, 34, 39), (1, 8, 7), (19, 61, 6)⟩

/-- The message schedule, the last word first. -/
def sha2Words {w : Nat} (p : Sha2 w) : Nat → List (BitVec w) → List (BitVec w)
  | 0, r => r
  | n + 1, r => sha2Words p n ((rot2 p.low1 (r.getD 1 0) + r.getD 6 0 + rot2 p.low0 (r.getD 14 0) + r.getD 15 0) :: r)

/-- One round on the eight working variables. -/
def sha2Round {w : Nat} (p : Sha2 w) (v : List (BitVec w)) (k : BitVec w × BitVec w) : List (BitVec w) :=
  match v with
  | [a, b, c, d, e, f, g, h] =>
    let t1 := h + rot3 p.up1 e + ((e &&& f) ^^^ (~~~ e &&& g)) + k.1 + k.2
    let t2 := rot3 p.up0 a + ((a &&& b) ^^^ (a &&& c) ^^^ (b &&& c))
    [t1 + t2, a, b, c, d + t1, e, f, g]
  | v => v

/-- One block into a SHA-2 state. -/
def sha2Block {w : Nat} (p : Sha2 w) (h : List (BitVec w)) (blk : Bytes) : List (BitVec w) :=
  let ws := (sha2Words p (p.k.length - 16) (wordsBE 16 blk).reverse).reverse
  List.zipWith (· + ·) h ((p.k.zip ws).foldl (sha2Round p) h)

/-- One round of Keccak-f[1600] on 25 lanes (FIPS 202). -/
def keccakRound (a : List (BitVec 64)) (rc : BitVec 64) : List (BitVec 64) :=
  let at_ (l : List (BitVec 64)) (i : Nat) : BitVec 64 := l.getD i 0
  let c := (List.range 5).map fun x => at_ a x ^^^ at_ a (x + 5) ^^^ at_ a (x + 10) ^^^ at_ a (x + 15) ^^^ at_ a (x + 20)
  let a := (List.range 25).map fun i => at_ a i ^^^ at_ c ((i + 4) % 5) ^^^ (at_ c ((i + 1) % 5)).rotateLeft 1
  let b := (List.range 25).map fun i =>
    let x := i % 5
    let y := i / 5
    let src := (x + 3 * y) % 5 + 5 * x
    (at_ a src).rotateLeft (keccakRot.getD src 0)
  let r := (List.range 25).map fun i => at_ b i ^^^ (~~~ at_ b ((i + 1) % 5 + i / 5 * 5) &&& at_ b ((i + 2) % 5 + i / 5 * 5))
  (at_ r 0 ^^^ rc) :: r.drop 1

/-- One block of 136 bytes into a SHA3-256 state. [PRESUMED: notes/assumptions/132.md] -/
def keccakBlock (st blk : Bytes) : Bytes :=
  bytesLE (keccakRc.foldl keccakRound (wordsLE 25 (List.zipWith (· ^^^ ·) st (blk ++ zeros (200 - blk.length)))))

/-- BLAKE3's mixing of four words with two message words. -/
def blake3G (v : List (BitVec 32)) (i : Nat × Nat × Nat × Nat) (x y : BitVec 32) : List (BitVec 32) :=
  let (a, b, c, d) := i
  let g (k : Nat) : BitVec 32 := v.getD k 0
  let va := g a + g b + x
  let vd := (g d ^^^ va).rotateRight 16
  let vc := g c + vd
  let vb := (g b ^^^ vc).rotateRight 12
  let va := va + vb + y
  let vd := (vd ^^^ va).rotateRight 8
  let vc := vc + vd
  let vb := (vb ^^^ vc).rotateRight 7
  (((v.set a va).set b vb).set c vc).set d vd

/-- The columns and diagonals that a BLAKE3 round mixes. -/
def blake3Quads : List (Nat × Nat × Nat × Nat) :=
  [(0, 4, 8, 12), (1, 5, 9, 13), (2, 6, 10, 14), (3, 7, 11, 15), (0, 5, 10, 15), (1, 6, 11, 12), (2, 7, 8, 13), (3, 4, 9, 14)]

/-- The order of the message words in the next BLAKE3 round. -/
def blake3Perm : List Nat := [2, 6, 3, 10, 7, 0, 4, 13, 1, 11, 12, 5, 9, 14, 15, 8]

/-- The rounds of BLAKE3's compression that are left. -/
def blake3Rounds : Nat → List (BitVec 32) → List (BitVec 32) → List (BitVec 32)
  | 0, v, _ => v
  | n + 1, v, m =>
    let v := (blake3Quads.zipIdx).foldl (fun v q => blake3G v q.1 (m.getD (2 * q.2) 0) (m.getD (2 * q.2 + 1) 0)) v
    blake3Rounds n v (blake3Perm.map fun i => m.getD i 0)

/-- BLAKE3's compression: chaining value, block, counter, block length and flags give 32 bytes. [PRESUMED: notes/assumptions/132.md] -/
def blake3Compress (cv blk : Bytes) (counter len flags : Nat) : Bytes :=
  let h : List (BitVec 32) := wordsLE 8 cv
  let v := h ++ sha256Iv.take 4 ++ [BitVec.ofNat 32 counter, BitVec.ofNat 32 (counter / 2 ^ 32), BitVec.ofNat 32 len, BitVec.ofNat 32 flags]
  let v := blake3Rounds 7 v (wordsLE 16 (blk ++ zeros (64 - blk.length)))
  bytesLE (List.zipWith (· ^^^ ·) (v.take 8) (v.drop 8))

/-- What a core keeps of a message (Table 8.5): the chaining state, the bytes beyond the last whole block, the bytes taken in, BLAKE3's chunk counter, block index and stack of chaining values, and the key state. -/
structure HashState where
  chain : Bytes := []
  part : Bytes := []
  count : Nat := 0
  chunk : Nat := 0
  block : Nat := 0
  stack : List Bytes := []
  key : Bytes := []
deriving DecidableEq, Repr

/-- Block size of an algorithm (Table 8.1). -/
def hashBlockLen : Nat → Nat
  | 1 | 2 => 128 | 3 => 136 | _ => 64

/-- Bytes of an algorithm's digest (Table 8.1). -/
def hashLen : Nat → Nat
  | 1 => 48 | _ => 32

/-- The chaining state with which an algorithm starts. -/
def hashIv : Nat → Bytes
  | 0 => bytesBE sha256Iv | 1 => bytesBE sha384Iv | 2 => bytesBE sha512t256Iv | 3 => zeros 200 | _ => bytesLE sha256Iv

/-- One whole block into a chaining state; BLAKE3 has its own. -/
def hashBlock (alg : Nat) (st blk : Bytes) : Bytes :=
  match alg with
  | 0 => bytesBE (sha2Block sha256P (wordsBE 8 st) blk)
  | 1 | 2 => bytesBE (sha2Block sha512P (wordsBE 8 st) blk)
  | _ => keccakBlock st blk

/-- The keyed flag of BLAKE3. -/
def blake3Keyed (keyed : Nat) : Nat := if keyed = 2 then 16 else 0

/-- A finished chunk's chaining value joins BLAKE3's stack: `n` counts the chunks, and each pair makes a parent. -/
def blake3Push (keyed : Nat) (key : Bytes) : Nat → Nat → Bytes → List Bytes → List Bytes
  | 0, _, cv, st => cv :: st
  | fuel + 1, n, cv, st =>
    match st with
    | left :: rest => if n % 2 = 0 then blake3Push keyed key fuel (n / 2) (blake3Compress key (left ++ cv) 0 64 (4 + blake3Keyed keyed)) rest else cv :: st
    | [] => [cv]

/-- One block of BLAKE3 that is not the last of the message. -/
def blake3Block (keyed : Nat) (h : HashState) (blk : Bytes) : HashState :=
  let flags := blake3Keyed keyed + (if h.block = 0 then 1 else 0)
  if h.block = 15 then
    let cv := blake3Compress h.chain blk h.chunk 64 (flags + 2)
    { h with chain := h.key, block := 0, chunk := h.chunk + 1, stack := blake3Push keyed h.key 64 (h.chunk + 1) cv h.stack }
  else { h with chain := blake3Compress h.chain blk h.chunk 64 flags, block := h.block + 1 }

/-- The key words of BLAKE3: the key in keyed mode, the initial words otherwise. -/
def blake3Key (keyed : Nat) (key : Bytes) : Bytes := if keyed = 2 then (key ++ zeros (32 - key.length)).take 32 else bytesLE sha256Iv

/-- A key padded with zeros to a block and xored with a byte (FIPS 198-1, R168). -/
def hmacPad (alg : Nat) (key : Bytes) (b : Byte) : Bytes :=
  ((key ++ zeros (hashBlockLen alg - key.length)).take (hashBlockLen alg)).map (· ^^^ b)

/-- The key state that a core keeps of a key (R169, Table 8.5): the outer chaining state of HMAC, or the key words of BLAKE3. -/
def hashKeyState (alg keyed : Nat) (key : Bytes) : Bytes :=
  if alg = 4 then blake3Key keyed key
  else if keyed = 1 then hashBlock alg (hashIv alg) (hmacPad alg key 0x5C#8)
  else []

/-- The state at the start of a message (R168). [PRESUMED: notes/assumptions/132.md] -/
def hashStart (alg keyed : Nat) (key : Bytes) : HashState :=
  let ks := hashKeyState alg keyed key
  if alg = 4 then { chain := ks, key := ks }
  else if keyed = 1 then { chain := hashBlock alg (hashIv alg) (hmacPad alg key 0x36#8), key := ks }
  else { chain := hashIv alg }

/-- Whole blocks that may be taken in of the bytes at hand: BLAKE3 keeps its last block until more of the message comes. -/
def hashWhole (alg n : Nat) : Nat := if alg = 4 then (n - 1) / 64 else n / hashBlockLen alg

/-- A run of message bytes into the state (R172). [PRESUMED: notes/assumptions/132.md] -/
def hashAbsorb (alg keyed : Nat) (h : HashState) (bs : Bytes) : HashState :=
  let buf := h.part ++ bs
  let n := hashWhole alg buf.length
  let b := hashBlockLen alg
  let blocks := (List.range n).map fun i => slice buf (i * b) b
  let h := blocks.foldl (fun h blk => if alg = 4 then blake3Block keyed h blk else { h with chain := hashBlock alg h.chain blk }) h
  { h with part := buf.drop (n * b), count := h.count + bs.length }

/-- The padding that finishes a SHA-2 or SHA3-256 message of `total` bytes whose last `part` bytes stand in the buffer. -/
def hashPad (alg part total : Nat) : Bytes :=
  let b := hashBlockLen alg
  if alg = 3 then
    let z := b - part
    if z = 1 then [0x86#8] else [0x06#8] ++ zeros (z - 2) ++ [0x80#8]
  else
    let l := if alg = 0 then 8 else 16
    let used := part + 1 + l
    [0x80#8] ++ zeros ((used + b - 1) / b * b - used) ++ beBytes (total * 8) l

/-- The last blocks of a SHA-2 or SHA3-256 message and its digest. -/
def hashEnd (alg : Nat) (st part : Bytes) (total : Nat) : Bytes :=
  let buf := part ++ hashPad alg part.length total
  let b := hashBlockLen alg
  let blocks := (List.range (buf.length / b)).map fun i => slice buf (i * b) b
  (blocks.foldl (hashBlock alg) st).take (hashLen alg)

/-- The root of BLAKE3: the last block's output joins the stack from its top, the last one with the root flag. -/
def blake3Root (keyed : Nat) (key : Bytes) : Bytes → List Bytes → Bytes
  | cv, [] => cv
  | cv, [left] => blake3Compress key (left ++ cv) 0 64 (4 + 8 + blake3Keyed keyed)
  | cv, left :: rest => blake3Root keyed key (blake3Compress key (left ++ cv) 0 64 (4 + blake3Keyed keyed)) rest

/-- The digest of a message whose last byte has been taken in (R168, R172). [PRESUMED: notes/assumptions/132.md] -/
def hashFinish (alg keyed : Nat) (h : HashState) : Bytes :=
  if alg = 4 then
    let flags := blake3Keyed keyed + (if h.block = 0 then 1 else 0) + 2 + (if h.stack.isEmpty then 8 else 0)
    blake3Root keyed h.key (blake3Compress h.chain h.part h.chunk h.part.length flags) h.stack
  else if keyed = 1 then
    let b := hashBlockLen alg
    let inner := hashEnd alg h.chain h.part (b + h.count)
    hashEnd alg h.key inner (b + inner.length)
  else hashEnd alg h.chain h.part h.count

/-- The digest of a whole message (Table 8.1). [PRESUMED: notes/assumptions/132.md] -/
def digestOf (alg keyed : Nat) (key msg : Bytes) : Bytes := hashFinish alg keyed (hashAbsorb alg keyed (hashStart alg keyed key) msg)

/-- SHA-384 of FIPS 180-4, as R31, R55 and R408 use it. [PRESUMED: notes/assumptions/132.md] -/
def sha384 (b : Bytes) : Bytes := digestOf 1 0 [] b

/-- HMAC-SHA-384: key, message (R325, R424). [PRESUMED: notes/assumptions/132.md] -/
def hmac384 (key msg : Bytes) : Bytes := digestOf 1 1 key msg

/-- The blocks T(1) to T(n) of HKDF's expand step (RFC 5869). -/
def hkdfExpand (prk info : Bytes) : Nat → Bytes × Bytes
  | 0 => ([], [])
  | n + 1 =>
    let (out, last) := hkdfExpand prk info n
    let t := hmac384 prk (last ++ info ++ [BitVec.ofNat 8 (n + 1)])
    (out ++ t, t)

/-- HKDF-SHA-384 of RFC 5869 (R332, R423): input keying material, salt, info, output length. An empty salt is 48 zero bytes. [PRESUMED: notes/assumptions/132.md] -/
def hkdf (ikm salt info : Bytes) (len : Nat) : Bytes :=
  let prk := hmac384 (if salt.isEmpty then zeros 48 else salt) ikm
  (hkdfExpand prk info ((len + 47) / 48)).1.take len

end Sys2Proof.Machine
end

