-- ==== Sys2Proof/Machine/State/Stations.lean ====
section
/-! DEFINITION. State of the Proof units and of the Punch cores (R147 to R180). -/

namespace Sys2Proof.Machine

/-- The directions in which a station stream is opened (R161). -/
inductive Direction
  | append | checkStrip | checkKeep | compute
deriving DecidableEq, Repr

/-- A stream that a Proof unit holds (R161). -/
structure Stream where
  check : Check
  dir : Direction
deriving DecidableEq, Repr

/-- A Proof unit: its station stream, and when its check failures that a fingerprint later matched were found, of the last hour (R167). -/
structure ProofUnit where
  station : Option Stream := none
  misses : List Nat := []
deriving DecidableEq, Repr

/-- The register-mode stream (R163): its unit, its check and the bytes fed so far. -/
structure RegStream where
  unitNo : Nat
  check : Check
  fed : Bytes
deriving DecidableEq, Repr

/-- A repair that runs for a grain (R166): the address it repairs and the address of the rewritten sort. -/
structure Repair where
  oldSheet : Nat
  oldOffset : Nat
  newSheet : Nat
  newOffset : Nat
  waiters : Nat
deriving DecidableEq, Repr

/-- A grain job placed in a cluster (R148): its line, its cluster, the stages still before it with the one it has reached in front, the lane that it holds there, and the grain of a piece that it carries. -/
structure GrainJob where
  line : Nat
  cluster : Nat
  left : List Station
  lane : Option Chan := none
  piece : Nat := 0
  grain : Nat := 0
deriving DecidableEq, Repr

/-- A sort that failed its check field and whose grain's fingerprint the partner has been asked for (R165): the Proof unit that checked it, the sort, and the fingerprint of what it holds. -/
structure Suspect where
  unitNo : Nat
  sort : Bytes
  fp : Bytes
deriving DecidableEq, Repr

/-- Proof as a whole. `repairs` lists running repairs by grain ID (R166), `suspects` the sorts that wait for their recorded fingerprint, `jobs` the placed grain jobs by the job's own number, `held` the jobs that wait at a line's input because no cluster holds its stages (R148), by line. `condemned` lists the units that R167 took as the fault. -/
structure Proof where
  units : Tab ProofUnit := []
  regOpen : Option RegStream := none
  regPending : Option RegStream := none
  repairs : Tab Repair := []
  suspects : Tab Suspect := []
  jobs : Tab GrainJob := []
  held : Tab Nat := []
  condemned : List Nat := []
deriving DecidableEq, Repr

/-- A Punch job: the fields of its descriptor (Table 8.2), the descriptor itself, the segment's bytes at SRC and the reference at CMP_ADDR. While it runs `st` is the state from which it runs, of its latest save or of the start of its segment, and `taken` the bytes of the segment that this state has taken in; `preempted` counts its preemptions in this segment, and `second` is the slot it holds since it was set aside (R176). -/
structure PunchJob where
  tag : Nat
  line : Nat
  alg : Nat
  keyed : Nat
  cls : Nat
  isFirst : Bool
  isLast : Bool
  cmp : Bool
  cmpOnly : Bool
  slot : Nat
  src : Nat := 0
  segLen : Nat
  key : Nat
  dst : Nat := 0
  cmpAddr : Nat := 0
  desc : Bytes := []
  seg : Bytes
  reference : Bytes
  preempted : Nat := 0
  second : Option Nat := none
  taken : Nat := 0
  st : Option HashState := none
deriving DecidableEq, Repr

/-- A save slot in use (R174, R176, Table 8.5): the context of a message between segments, or of a job that was set aside, and the SLOT_CRC that it was saved with. -/
structure SaveSlot where
  line : Nat
  alg : Nat
  keyed : Nat
  cls : Nat
  key : Nat
  tag : Nat
  core : Nat
  preempted : Bool
  hs : HashState
  crc : Nat := 0
deriving DecidableEq, Repr

/-- What Punch writes back when a job ends (Table 8.2): STATUS, EQUAL, BYTES and SLOT, the descriptor with them, and the digest with the address it went to. -/
structure PunchResult where
  tag : Nat
  status : Status
  digest : Option Bytes
  equal : Bool
  bytes : Nat
  slot : Nat
  desc : Bytes := []
  dst : Nat := 0
deriving DecidableEq, Repr

/-- The key state that a core keeps of the last key it used (R169): the handle, the algorithm and mode, and the state of an empty message under that key. -/
structure CoreKey where
  key : Nat
  alg : Nat
  keyed : Nat
  start : HashState
deriving DecidableEq, Repr

/-- Punch as a whole. Cores are numbered globally; save slots are keyed 256 × cluster + slot. `lastKey` is the key state that each core keeps (R169); `aside` lists the jobs set aside, by cluster, the most recent last; `held` the jobs that ended with 0x0603 and that their steward holds. -/
structure Punch where
  running : Tab PunchJob := []
  lastKey : Tab CoreKey := []
  queued : List (Nat × PunchJob) := []
  aside : List (Nat × PunchJob) := []
  slots : Tab SaveSlot := []
  results : List PunchResult := []
  held : List (Nat × PunchJob) := []
deriving DecidableEq, Repr

end Sys2Proof.Machine
end

