-- ==== Sys2Proof/Machine/State/Swage.lean ====
section
/-! DEFINITION. State of Swage: jobs on lanes, jobs that wait, results and open streams (R213 to R224). -/

namespace Sys2Proof.Machine

/-- A Swage job: its descriptor's fields (Table 10.6), its input bytes, and the lane that failed it with 0x0B03 before it was resubmitted (R223). -/
structure SwageJob where
  tag : Nat
  line : Nat
  op : Nat
  flush : Bool
  fin : Bool
  force : Bool
  expect : Nat
  bsize : Nat
  space : Nat
  ctx : Nat
  src : Bytes
  former : Option Nat := none
  dst : Nat := 0
  desc : Bytes := []
deriving DecidableEq, Repr

/-- What a Swage job wrote back: its status, the output, which goes to DST, and its descriptor with STATUS, DONE and OUT_LEN (Table 10.6). -/
structure SwageResult where
  tag : Nat
  status : Nat
  out : Bytes := []
  dst : Nat := 0
  desc : Bytes := []
deriving DecidableEq, Repr

/-- A stream by its context record (R217 to R220): its block size code, the bytes of the open block, the CRC-32C remainder of every byte so far, and the lane that holds it while a block is open. -/
structure SwageStream where
  bsize : Nat
  buf : Bytes := []
  crc : BitVec 32 := 0xFFFFFFFF#32
  lane : Option Nat := none
deriving DecidableEq, Repr

/-- Swage as a whole: `running` by lane, `queued` jobs by cluster in order of arrival, streams by the address of their context record. -/
structure Swage where
  running : Tab SwageJob := []
  queued : List (Nat × SwageJob) := []
  results : List SwageResult := []
  streams : Tab SwageStream := []
deriving DecidableEq, Repr

end Sys2Proof.Machine
end

