-- ==== Sys2Proof/Machine/State/Update.lean ====
section
/-! DEFINITION. State of the update engine: slots, the activation pointer, the staging lease (R407 to R419). -/

namespace Sys2Proof.Machine

/-- A slot: the framed blocks it holds by number, whether its image has been verified (R407, R415), and the replacement that a re-form has made its forme (R53). -/
structure Slot where
  blocks : Tab Bytes := []
  verified : Bool := false
  forme : Option Bytes := none
deriving DecidableEq, Repr

/-- STATE of the activation pointer (Table 19.5). -/
inductive PtrState
  | confirmed | trial | fellBack | pending
deriving DecidableEq, Repr

/-- STATE as a number (Table 19.5). -/
def PtrState.code : PtrState → Nat
  | .confirmed => 0 | .trial => 1 | .fellBack => 2 | .pending => 3

/-- The activation pointer (Table 19.5). `active` and `pendingSlot`: false is slot A, true slot B. -/
structure Pointer where
  seq : Nat
  active : Bool
  state : PtrState
  trials : Nat
  pendingSlot : Bool
  hashActive : Bytes
  hashOther : Bytes
deriving DecidableEq, Repr

/-- The staging lease (R410, Table 19.3), and when it last made progress (R411). -/
structure Lease where
  source : Nat
  holder : Nat
  since : Nat
deriving DecidableEq, Repr

/-- STAGE of UPD_STAGE. -/
inductive Stage
  | idle | downloading | verifying | staged | relaying | activating | waiting
deriving DecidableEq, Repr

/-- STAGE as a number. -/
def Stage.code : Stage → Nat
  | .idle => 0 | .downloading => 1 | .verifying => 2 | .staged => 3 | .relaying => 4 | .activating => 5 | .waiting => 6

/-- How far a head-by-head activation has come at this head (R417): the partner goes first, this head takes its steps, it waits for its checks to pass, or it has reset and waits for its namespaces. -/
inductive ActPhase
  | none | peerFirst | mySteps | waitingSecond | returning
deriving DecidableEq, Repr

/-- One command of a relay (R413): a framed block, a Firmware Commit with its action and slot, or Update Compare. -/
inductive RelayCmd
  | block (k : Nat)
  | commit (action slot : Nat)
  | compare
deriving DecidableEq, Repr

/-- A relay to the partner: the slot it takes its image from, the commands still to answer, and the FWD_ID of the first one once it has gone out. -/
structure RelayState where
  fromB : Bool
  cmds : List RelayCmd
  fwdId : Option Nat
deriving DecidableEq, Repr

/-- The update engine. A pointer copy that is `none` is not valid. `parts` holds the fragments of blocks that have not arrived whole, by block and offset; `verdict` the status of a verification that failed; `relayed` the commit action that the partner last carried out, `compared` what Update Compare last reported, `fail` the status of a relay or an activation that ended in one; `want` that an activation waits for ACTIVATION_START, `formeOnly` that it is a re-form (R414), `waitFrom` since when the second head waits, `moved` that this head moved namespaces out; `runHash` names the running image. -/
structure Update where
  slotA : Slot := {}
  slotB : Slot := {}
  ptr0 : Option Pointer := none
  ptr1 : Option Pointer := none
  lease : Option Lease := none
  stage : Stage := .idle
  parts : Tab (List (Nat × Bytes)) := []
  verdict : Option Nat := none
  relay : Option RelayState := none
  relayed : Option Nat := none
  compared : Option (Bool × Bool) := none
  fail : Option Nat := none
  partnerStaged : Bool := false
  want : Bool := false
  act : ActPhase := .none
  formeOnly : Bool := false
  initiator : Bool := false
  moved : Bool := false
  waitFrom : Nat := 0
  runHash : Bytes := []
  recoverNext : Bool := false
  confirmFrom : Nat := 0
deriving DecidableEq, Repr

end Sys2Proof.Machine
end

