-- ==== Sys2Proof/Machine/State.lean ====
section
/-! DEFINITION. The state of the head as plain data, and the state after reset. -/

namespace Sys2Proof.Machine

/-- Why a command stops the machine. No command of the table stops it, so nothing raises the one reason. -/
inductive Fault
  /-- Raised by no command; the type needs an inhabitant. Safe. -/
  | none
deriving DecidableEq, Repr

/-- Why a command has no meaning. -/
inductive Refusal
  /-- The command's arm has no meaning yet; only the dispatch raises it. Safe. -/
  | notModelled (mnemonic : String)
deriving DecidableEq, Repr

/-- The whole head. `flds` holds every register field by its key, a field that is not listed stands at its reset value. `dram` holds head DRAM bytes that no other part of the state holds. `outbox` is what the head has sent, oldest first; `fresh` counts free values used. -/
structure State where
  flds : Tab Nat := []
  dram : Tab Byte := []
  fm : Foreman := {}
  flt : Faults := {}
  upd : Update := {}
  pwr : Power := {}
  clk : Clock := {}
  stk : Stick := {}
  chs : Chase := {}
  gly : Galley := {}
  prf : Proof := {}
  pun : Punch := {}
  mtx : Matrix := {}
  swg : Swage := {}
  tmp : Temper := {}
  imp : Imposition := {}
  hth : Hearth := {}
  gmp : Gymo := {}
  ste : Stereotype := {}
  anv : Anvil := {}
  vols : Tab Volume := []
  lost : List LostExtent := []
  outbox : List Out := []
  fresh : Nat := 0
  pending : List Instr := []
deriving DecidableEq, Repr

/-- The head after reset, with the standby and main supplies up and the core reset about to be released. [DESIGN CHOICE: notes/assumptions/4.md] -/
def State.reset : State := {}

end Sys2Proof.Machine
end

