-- ==== Sys2Proof/Machine/Tab.lean ====
section
/-! DEFINITION. Reads and writes of sparse tables in their one canonical form. -/

namespace Sys2Proof.Tab

/-- What key `k` reads as: its listed entry, or the default. -/
def get {α : Type} (d : α) : Tab α → Nat → α
  | [], _ => d
  | (j, v) :: rest, k => if j = k then v else get d rest k

/-- The listed entry of key `k`, where there is one. -/
def find {α : Type} : Tab α → Nat → Option α
  | [], _ => none
  | (j, v) :: rest, k => if j = k then some v else find rest k

/-- Removes key `k`, so that it reads as the default. -/
def erase {α : Type} : Tab α → Nat → Tab α
  | [], _ => []
  | (j, v) :: rest, k => if j = k then erase rest k else (j, v) :: erase rest k

/-- Lists key `k` with value `v`, keeping the keys strictly rising. -/
def put {α : Type} : Tab α → Nat → α → Tab α
  | [], k, v => [(k, v)]
  | (j, w) :: rest, k, v =>
    if k < j then (k, v) :: (j, w) :: rest
    else if j = k then (k, v) :: rest
    else (j, w) :: put rest k v

/-- Writes `v` at key `k`. Writing the default removes the entry, so equal contents are equal lists. -/
def set {α : Type} [DecidableEq α] (d : α) (t : Tab α) (k : Nat) (v : α) : Tab α :=
  if v = d then erase t k else put t k v

/-- Changes the value at key `k` by `f`. -/
def modify {α : Type} [DecidableEq α] (d : α) (t : Tab α) (k : Nat) (f : α → α) : Tab α :=
  set d t k (f (get d t k))

/-- Changes every listed value by `f`, which also sees the key. -/
def mapVals {α : Type} [DecidableEq α] (d : α) (t : Tab α) (f : Nat → α → α) : Tab α :=
  (t.map fun e => (e.1, f e.1 e.2)).filter fun e => decide (e.2 ≠ d)

/-- The keys whose listed value satisfies `p`, in rising order. -/
def keysWhere {α : Type} (t : Tab α) (p : Nat → α → Bool) : List Nat :=
  (t.filter fun e => p e.1 e.2).map Prod.fst

/-- How many listed entries satisfy `p`. -/
def count {α : Type} (t : Tab α) (p : Nat → α → Bool) : Nat := (t.filter fun e => p e.1 e.2).length

/-- The lowest key at or above `lo` that is not among the listed keys, found within `fuel` tries. -/
def freeKey {α : Type} (t : Tab α) (lo : Nat) : Nat → Option Nat
  | 0 => none
  | n + 1 => if (find t lo).isNone then some lo else freeKey t (lo + 1) n

/-- The first listed entry that satisfies `p`, in rising key order. -/
def first {α : Type} (t : Tab α) (p : Nat → α → Bool) : Option (Nat × α) := t.find? fun e => p e.1 e.2

/-- The canonical form: strictly rising keys, and no entry equal to the default. -/
def wf {α : Type} [DecidableEq α] (d : α) (t : Tab α) : Bool :=
  decide (t.Pairwise fun a b => a.1 < b.1) && t.all fun e => decide (e.2 ≠ d)

end Sys2Proof.Tab
end

