-- ==== Sys2Proof/Machine/Ops.lean ====
section
/-! DEFINITION. The operations that every family uses: register fields, the outbox, the time base, events and alarms, mode changes and free values. -/

namespace Sys2Proof.Machine

/-- The outcome of a command that completes. -/
abbrev Out1 := Host.Outcome State Fault Refusal

/-- A field's key in the field table: fields of one register lie side by side. -/
def Field.key (f : Field) : Nat := f.reg * 64 + f.lo

/-- How many values a field of this width has (R3). -/
def Field.span (f : Field) : Nat := 2 ^ (f.hi + 1 - f.lo)

/-- The value a register field holds. -/
def State.rd (s : State) (f : Field) : Nat := Tab.get f.reset s.flds f.key

/-- Writes a register field from inside the head; the value wraps to the field's width (R435). -/
def State.wr (s : State) (f : Field) (v : Nat) : State :=
  { s with flds := Tab.set f.reset s.flds f.key (v % f.span) }

/-- Whether a field holds a value other than 0. -/
def State.on (s : State) (f : Field) : Bool := s.rd f != 0

/-- Adds to a counter field, which wraps (R435). -/
def State.inc (s : State) (f : Field) (n : Nat := 1) : State := s.wr f (s.rd f + n)

/-- Adds to a counter field that its description says is held at its highest value (R435). -/
def State.incHeld (s : State) (f : Field) (n : Nat := 1) : State := s.wr f (min (s.rd f + n) (f.span - 1))

/-- Takes away from a counter field, not below 0. -/
def State.dec (s : State) (f : Field) (n : Nat := 1) : State := s.wr f (s.rd f - n)

/-- Sets bits of a status field, as hardware does (R8, R435). -/
def State.raise (s : State) (f : Field) (mask : Nat := 1) : State := s.wr f (s.rd f ||| mask)

/-- Clears bits of a status field, as a W1C write does (R8). -/
def State.clear (s : State) (f : Field) (mask : Nat) : State := s.wr f (s.rd f &&& (f.span - 1 - mask % f.span))

/-- Sends one thing out of the head. [DESIGN CHOICE: notes/assumptions/3.md] -/
def State.send (s : State) (o : Out) : State := { s with outbox := s.outbox ++ [o] }

/-- Sends several things out of the head, in order. -/
def State.sendAll (s : State) (os : List Out) : State := { s with outbox := s.outbox ++ os }

/-- Main time in ns (R401). [DESIGN CHOICE: notes/assumptions/101.md] -/
def State.now (s : State) : Nat := s.rd F.TIM_NOW_NS

/-- A value that the spec leaves open: nothing constrains it. Each call takes the next one. [DESIGN CHOICE: notes/assumptions/1.md] -/
def State.freeVal (s : State) : Nat × State := (Config.freeValue s.fresh, { s with fresh := s.fresh + 1 })

/-- Random bytes of Hallmark's generator (R421): nothing constrains them. -/
def State.random (s : State) (n : Nat) : Bytes × State :=
  (Config.randomBytes s.fresh n, { s with fresh := s.fresh + 1 })

/-- SOURCE codes of Table 21.1. -/
inductive Block
  | for_ | stk | chs | gly | anv | pun | mtx | swg | tmp | prf | imp | hth | gmp | ste | hlm | pwr | tim | upd | dbg | prt
deriving DecidableEq, Repr

/-- The Foreman-space base of a block, shifted right by 19 (Table 21.1). -/
def Block.source : Block → Nat
  | .for_ => 0x000 | .stk => 0x020 | .chs => 0x022 | .gly => 0x024 | .anv => 0x026 | .pun => 0x028 | .mtx => 0x02A
  | .swg => 0x02C | .tmp => 0x02E | .prf => 0x030 | .imp => 0x032 | .hth => 0x034 | .gmp => 0x036 | .ste => 0x038
  | .hlm => 0x03A | .pwr => 0x03C | .tim => 0x03D | .upd => 0x03E | .dbg => 0x03F | .prt => 0x040

/-- Writes one record to the event log (R385), which the partner mirrors as RING of area 2. A record of severity 2 or 3 is an alarm: it is counted, raises FOR_INT_STATUS.ALARM and goes out over PLDM until it is acknowledged (R387, R426). A record of severity 3 starts the confirmation period of a trial image anew (R416). [DESIGN CHOICE: notes/assumptions/5.md] -/
def State.logRec (s : State) (src : Block) (sev : Nat) (e : EventName) (st : Status := 0)
    (ch : Chan := ⟨0, 0⟩) (args : List Nat := []) : State :=
  let q := s.flt.eventSeq + 1
  let r : EventRec := ⟨s.now, s.rd F.TIM_STATUS_QUALITY, sev, src.source, e, st, q, ch.kind, ch.index, args⟩
  let s := { s with flt := { s.flt with eventSeq := q, log := Tab.put s.flt.log (q % 65536) r } }
  let s := if (([.paired, .handback, .activation] : List Mode).contains s.fm.mode || s.gly.mirroring) && s.on F.ANV_CTRL_ENABLE && !s.anv.lost then s.send (.anv .ring 0xFF [2, 5, q] []) else s
  if sev < 2 then s else
  let s := if sev = 2 then s.inc F.FOR_ALARM_CNT_ALARM else s.inc F.FOR_ALARM_CNT_CRITICAL
  let s := s.raise F.FOR_INT_STATUS_ALARM
  let s := { s with flt := { s.flt with unacked := Tab.put s.flt.unacked q s.now } }
  let s := if sev = 3 then { s with upd := { s.upd with confirmFrom := s.now } } else s
  s.send (.pldmEvent q (recBytes r))

/-- An alarm: a record of severity 2 (R387). [DESIGN CHOICE: notes/assumptions/75.md] -/
def State.alarm (s : State) (src : Block) (e : EventName) (st : Status := 0) (args : List Nat := []) : State :=
  s.logRec src 2 e st ⟨0, 0⟩ args

/-- A record of severity 0. -/
def State.note (s : State) (src : Block) (e : EventName) (st : Status := 0) (args : List Nat := []) : State :=
  s.logRec src 0 e st ⟨0, 0⟩ args

/-- A change of FOR_MODE: the code, PREV, FOR_MODE_TIME and MODE_CHG change together (R439). The confirmation period of R416 runs in Paired and Solo. [DEDUCED: notes/assumptions/86.md] -/
def State.toMode (s : State) (m : Mode) (safe : Bool := false) : State :=
  if s.fm.mode = m ∧ s.fm.safe = safe then s else
  let runs (x : Mode) : Bool := x == .paired || x == .solo
  let s : State := if runs m && !runs s.fm.mode then { s with upd := { s.upd with confirmFrom := s.now } } else s
  let s := { s with fm := { s.fm with prev := s.fm.mode, mode := m, safe := safe } }
  ((s.inc F.FOR_MODE_CHANGES).wr F.FOR_MODE_TIME_NS s.now).raise F.FOR_INT_STATUS_MODE_CHG

/-- Whether the head is in one of the given modes. -/
def State.inMode (s : State) (ms : List Mode) : Bool := ms.contains s.fm.mode

/-- The head index of the PAIR section (R41). -/
def State.head (s : State) : Nat := s.rd F.FOR_ID_HEAD

/-- The partner's head index. -/
def State.peer (s : State) : Nat := 1 - s.head

/-- The POLICY values in force, or their defaults (R43). -/
def State.retryLimit (s : State) : Nat := (s.fm.forme.map (·.retries)).getD 3

/-- The transient errors allowed per channel per hour (R43). -/
def State.perHour (s : State) : Nat := (s.fm.forme.map (·.perHour)).getD 8

/-- Whether lab mode applies: POLICY set it when Forming read it, and LAB_OFF is 0 (R43, R432). -/
def State.labMode (s : State) : Bool := s.fm.lab

/-- Whether a channel is out of service. -/
def State.isOut (s : State) (kind index : Nat) : Bool := s.flt.out.contains ⟨kind, index⟩

/-- The namespace class of an ID (R40). -/
def State.classOf (s : State) (id : Nat) : Option FormeClass :=
  (s.fm.forme.map (·.classes)).getD [] |>.find? fun c => c.id = id

end Sys2Proof.Machine
end

