-- ==== Sys2Proof/Machine/Flags.lean ====
section
/-! DEFINITION. Statuses and interrupt bits: how an internal status becomes an NVMe status (R97, R98, R456) and how block interrupts gather (R440). -/

namespace Sys2Proof.Machine

/-- An NVMe status: SCT, SC and DNR. -/
structure NvmeStatus where
  sct : Nat
  sc : Nat
  dnr : Bool
deriving DecidableEq, Repr

/-- The class of an internal status (R10, Table 0.4). -/
def statusClass (st : Status) : Nat := st / 256

/-- The default NVMe status of a class (Table 4.6). -/
def classDefault (st : Status) : NvmeStatus :=
  match statusClass st with
  | 1 => ⟨0, 0x04, false⟩
  | 2 => ⟨0, 0x06, false⟩
  | 3 => ⟨2, 0x81, true⟩
  | 4 => ⟨2, 0x81, true⟩
  | 5 => ⟨0, 0x81, true⟩
  | 6 => ⟨0, 0x06, true⟩
  | 8 => ⟨1, 0x13, false⟩
  | _ => ⟨0, 0x06, false⟩

/-- The NVMe status of an internal status (Table 4.5), by the command it completes: update statuses differ between Firmware Commit and Firmware Image Download. -/
def nvmeOfInternal (op : Opcode) (st : Status) : NvmeStatus :=
  if st = 0x0000 then ⟨0, 0x00, false⟩
  else if st = 0x0101 ∨ st = 0x0102 then ⟨0, 0x0F, true⟩
  else if st = 0x0104 then ⟨0, 0x03, true⟩
  else if st = 0x0105 then ⟨0, 0x04, true⟩
  else if st = 0x0402 then ⟨0, 0x00, false⟩
  else if st = 0x0403 ∨ st = 0x0404 ∨ st = 0x0409 ∨ st = 0x040A then ⟨2, 0x81, true⟩
  else if st = 0x0501 ∨ st = 0x0502 then ⟨0, 0x81, true⟩
  else if st = 0x0601 then ⟨2, 0x81, true⟩
  else if st = 0x0602 then ⟨0, 0x06, true⟩
  else if 0x0801 ≤ st ∧ st ≤ 0x0805 then
    (if op = .fwDownload then ⟨0, 0x0C, false⟩ else ⟨1, 0x13, false⟩)
  else if st = 0x0806 then (if op = .fwDownload then ⟨0, 0x00, false⟩ else ⟨1, 0x07, true⟩)
  else if st = 0x0807 ∨ st = 0x0808 then ⟨1, 0x07, true⟩
  else if st = 0x0809 then ⟨0, 0x0C, false⟩
  else classDefault st

/-- The DNR bit of a status produced directly in NVMe form (Table 4.10, R456). -/
def directDnr (sct sc : Nat) : Bool :=
  !((sct = 0 ∧ sc = 0x08) ∨ (sct = 0 ∧ sc = 0x22) ∨ (sct = 1 ∧ sc = 0x81) ∨ (sct = 0 ∧ sc = 0))

/-- The NVMe status that a command is posted with (R97). -/
def nvmeOf (op : Opcode) : Result → NvmeStatus
  | .internal st => nvmeOfInternal op st
  | .piFail _ which => ⟨2, 0x82 + which, true⟩
  | .nvme sct sc => ⟨sct, sc, directDnr sct sc⟩

/-- The internal status that the Error Information log entry carries (R97): 0 for a status produced in NVMe form. -/
def Result.internalStatus : Result → Status
  | .internal st => st
  | .piFail st _ => st
  | .nvme _ _ => 0

/-- Whether a status completes a host command at all (R98): classes 0x07, 0x09, 0x0A and 0x0B and statuses 0x0201 to 0x0203 never do. -/
def completesHost (st : Status) : Bool :=
  !(statusClass st = 0x07 ∨ statusClass st = 0x09 ∨ statusClass st = 0x0A ∨ statusClass st = 0x0B ∨ (0x0201 ≤ st ∧ st ≤ 0x0203))

/-- NVMe statuses produced directly (Table 4.10, R67, R91, R112). -/
def Result.success : Result := .internal 0
/-- Invalid Command Opcode. -/
def Result.invalidOpcode : Result := .nvme 0 0x01
/-- Invalid Field in Command. -/
def Result.invalidField : Result := .nvme 0 0x02
/-- Invalid Namespace or Format. -/
def Result.invalidNs : Result := .nvme 0 0x0B
/-- LBA Out of Range. [DEDUCED: notes/assumptions/93.md] -/
def Result.lbaRange : Result := .nvme 0 0x80
/-- Reservation Conflict. -/
def Result.resvConflict : Result := .nvme 0 0x83
/-- Completion Queue Invalid. -/
def Result.cqInvalid : Result := .nvme 1 0x00
/-- Invalid Queue Identifier. -/
def Result.queueInvalid : Result := .nvme 1 0x01
/-- Invalid Queue Deletion. -/
def Result.queueDeletion : Result := .nvme 1 0x0C
/-- Invalid Interrupt Vector. -/
def Result.vectorInvalid : Result := .nvme 1 0x08
/-- Compare Failure. -/
def Result.compareFailure : Result := .nvme 2 0x85
/-- Command Aborted due to Failed Fused Command. -/
def Result.fusedFailed : Result := .nvme 0 0x09
/-- Command Aborted due to SQ Deletion. -/
def Result.sqDeleted : Result := .nvme 0 0x08
/-- Transient Transport Error. -/
def Result.transient : Result := .nvme 0 0x22
/-- Connect Controller Busy, in the command-specific form of NVMe-oF. [PRESUMED: notes/assumptions/19.md] -/
def Result.connectBusy : Result := .nvme 1 0x81

/-- Whether any bit that an enable field enables is set in a list of status bits, bit 0 first. -/
def State.anyEnabled (s : State) (bits : List Field) (en : Field) : Bool :=
  (bits.zipIdx).any fun p => s.on p.1 && bitOf (s.rd en) p.2

/-- Bit k of FOR_INT_PENDING (R440): the OR over block k's status bits that its enable register enables. -/
def State.blockPending (s : State) : Nat → Bool
  | 0 => s.anyEnabled [F.FOR_INT_STATUS_MODE_CHG, F.FOR_INT_STATUS_ALARM, F.FOR_INT_STATUS_ACC_ERR, F.FOR_INT_STATUS_THERMAL] F.FOR_INT_ENABLE_EN
  | 1 => s.anyEnabled [F.STK_INT_STATUS_SET_BUSY, F.STK_INT_STATUS_SLOTS_FULL, F.STK_INT_STATUS_CTX_FAULT, F.STK_INT_STATUS_STALE, F.STK_INT_STATUS_CID_CONFLICT, F.STK_INT_STATUS_LEN_ERR, F.STK_INT_STATUS_DRAIN_DONE] F.STK_INT_ENABLE_EN
  | 2 => s.anyEnabled [F.CHS_INT_STATUS_HOLD_LONG, F.CHS_INT_STATUS_CANCEL, F.CHS_INT_STATUS_BOUNDARY_DONE, F.CHS_INT_STATUS_LOCKS_FULL] F.CHS_INT_ENABLE_EN
  | 3 => s.anyEnabled [F.GLY_INT_STATUS_GUARD_IN, F.GLY_INT_STATUS_UNPROT_CHG, F.GLY_INT_STATUS_BELLOWS, F.GLY_INT_STATUS_VAULT, F.GLY_INT_STATUS_PIECE_LOST, F.GLY_INT_STATUS_WAKE_DIGEST] F.GLY_INT_ENABLE_EN
  | 4 => s.anyEnabled [F.ANV_INT_STATUS_BUNDLE_DOWN, F.ANV_INT_STATUS_BUNDLE_UP, F.ANV_INT_STATUS_LOSS, F.ANV_INT_STATUS_TAKEOVER_DONE, F.ANV_INT_STATUS_FENCED, F.ANV_INT_STATUS_JOIN_STALL, F.ANV_INT_STATUS_STRIKE_FAIL, F.ANV_INT_STATUS_HANDBACK_DONE] F.ANV_INT_ENABLE_EN
  | 5 => s.anyEnabled [F.PUN_INT_STATUS_KEY_UNAVAIL, F.PUN_INT_STATUS_CTX_LOST, F.PUN_INT_STATUS_KAT_FAIL, F.PUN_INT_STATUS_CORE_FAULT, F.PUN_INT_STATUS_SLOTS_LOW, F.PUN_INT_STATUS_DESC_INVALID] F.PUN_INT_ENABLE_EN
  | 6 => s.anyEnabled [F.MTX_INT_STATUS_FILTER_HIGH, F.MTX_INT_STATUS_FILTER_FULL, F.MTX_INT_STATUS_COLLISION, F.MTX_INT_STATUS_HALF_CHG, F.MTX_INT_STATUS_CATCHUP_DONE, F.MTX_INT_STATUS_OVERFLOW, F.MTX_INT_STATUS_BUCKET_ERR] F.MTX_INT_ENABLE_EN
  | 7 => s.anyEnabled [F.SWG_INT_STATUS_EXHAUSTED, F.SWG_INT_STATUS_KAT_FAIL, F.SWG_INT_STATUS_FORMAT_INVALID, F.SWG_INT_STATUS_VERIFY_FAIL, F.SWG_INT_STATUS_DESC_INVALID, F.SWG_INT_STATUS_STREAM_CHECK] F.SWG_INT_ENABLE_EN
  | 8 => s.anyEnabled [F.TMP_INT_STATUS_AUTH, F.TMP_INT_STATUS_KEY_WARN, F.TMP_INT_STATUS_KEY_EXHAUST, F.TMP_INT_STATUS_CHECK_FAIL, F.TMP_INT_STATUS_KAT_FAIL, F.TMP_INT_STATUS_DESC_INVALID, F.TMP_INT_STATUS_KEY_UNAVAIL, F.TMP_INT_STATUS_EPOCH_RAISED] F.TMP_INT_ENABLE_EN
  | 9 => s.anyEnabled [F.PRF_INT_STATUS_INGEST, F.PRF_INT_STATUS_REPAIR, F.PRF_INT_STATUS_RECON, F.PRF_INT_STATUS_GALLEY_PI, F.PRF_INT_STATUS_KAT_FAIL, F.PRF_INT_STATUS_UNIT_FAULT] F.PRF_INT_ENABLE_EN
  | 10 => s.anyEnabled [F.IMP_INT_STATUS_REBUILD_DONE, F.IMP_INT_STATUS_RESHAPE_DONE, F.IMP_INT_STATUS_STRIPE_LOST, F.IMP_INT_STATUS_VOID, F.IMP_INT_STATUS_KAT_FAIL, F.IMP_INT_STATUS_UNIT_FAULT, F.IMP_INT_STATUS_LOST_FULL] F.IMP_INT_ENABLE_EN
  | 11 => s.anyEnabled [F.HTH_INT_STATUS_ROW1, F.HTH_INT_STATUS_ROW2, F.HTH_INT_STATUS_ROW3, F.HTH_INT_STATUS_SPARE_LOW, F.HTH_INT_STATUS_JOURNAL_FULL, F.HTH_INT_STATUS_MAP_FAULT, F.HTH_INT_STATUS_ERASE_CHECK, F.HTH_INT_STATUS_TAG_SCAN, F.HTH_INT_STATUS_AUDIT_DONE] F.HTH_INT_ENABLE_EN
  | 12 => s.anyEnabled [F.GMP_INT_STATUS_ADMITTED, F.GMP_INT_STATUS_REMOVED, F.GMP_INT_STATUS_TIMEOUT, F.GMP_INT_STATUS_CLAIM_LOST, F.GMP_INT_STATUS_FENCED, F.GMP_INT_STATUS_FW_DONE] F.GMP_INT_ENABLE_EN
  | 13 => s.anyEnabled [F.STE_INT_STATUS_CMD_DONE, F.STE_INT_STATUS_DELETE_DONE, F.STE_INT_STATUS_SESSION_UP, F.STE_INT_STATUS_SESSION_DOWN, F.STE_INT_STATUS_DELTA_DONE, F.STE_INT_STATUS_SEGMENT_RESEND, F.STE_INT_STATUS_SYNC_BROKEN, F.STE_INT_STATUS_MEND_FAIL] F.STE_INT_ENABLE_EN
  | 15 => s.anyEnabled [F.PWR_INT_STATUS_WITHDRAWN, F.PWR_INT_STATUS_ENTERED, F.PWR_INT_STATUS_WOKE, F.PWR_INT_STATUS_ABORT, F.PWR_INT_STATUS_RET_FAIL] F.PWR_INT_ENABLE_EN
  | 16 => s.anyEnabled [F.TIM_STATUS_RESTORED, F.TIM_STATUS_QUALITY_CHG, F.TIM_STATUS_REF_CHG, F.TIM_STATUS_STEP] F.TIM_CTRL_INT_EN
  | 17 => s.anyEnabled [F.UPD_INT_STATUS_LEASE_END, F.UPD_INT_STATUS_STAGED, F.UPD_INT_STATUS_REFUSED, F.UPD_INT_STATUS_ACTIVATED, F.UPD_INT_STATUS_CONFIRMED, F.UPD_INT_STATUS_FELL_BACK, F.UPD_INT_STATUS_MISMATCH] F.UPD_INT_ENABLE_EN
  | 19 => (List.range 4).any (fun n => s.on (F.PRT_ETH_LINK_CHG n)) || (List.range 2).any fun n => s.on (F.PRT_FRONT_LINK_CHG n)
  | _ => false

/-- FOR_INT_PENDING.BLOCK (R440); HLM and DBG raise no interrupt. -/
def State.intPending (s : State) : Nat :=
  (List.range 20).foldl (fun a k => a + bit (s.blockPending k) * 2 ^ k) 0

end Sys2Proof.Machine
end

