-- ==== Sys2Proof/Machine/Flow.lean ====
section
/-! DEFINITION. The shared operations on commands in flight: contexts, task slots, tokens, range locks, forwards, pieces and lost extents. -/

namespace Sys2Proof.Machine

/-- The context of a queue ID. -/
def State.ctx (s : State) (c : Nat) : Ctx := Tab.get {} s.stk.ctxs c

/-- Replaces a context. -/
def State.setCtx (s : State) (c : Nat) (v : Ctx) : State :=
  { s with stk := { s.stk with ctxs := Tab.set {} s.stk.ctxs c v } }

/-- Changes a context. -/
def State.modCtx (s : State) (c : Nat) (f : Ctx → Ctx) : State := s.setCtx c (f (s.ctx c))

/-- The command in a task slot. -/
def State.task? (s : State) (n : Nat) : Option Task := Tab.find s.stk.slots n

/-- Replaces the command in a task slot. -/
def State.setTask (s : State) (n : Nat) (t : Task) : State :=
  { s with stk := { s.stk with slots := Tab.put s.stk.slots n t } }

/-- Changes the command in a task slot; a free slot stays free. -/
def State.modTask (s : State) (n : Nat) (f : Task → Task) : State :=
  match s.task? n with
  | none => s
  | some t => s.setTask n (f t)

/-- Frees a task slot. -/
def State.dropTask (s : State) (n : Nat) : State :=
  { s with stk := { s.stk with slots := Tab.erase s.stk.slots n } }

/-- A controller. -/
def State.ctrl (s : State) (c : Nat) : Ctrl := Tab.get {} s.stk.ctrls c

/-- Changes a controller. -/
def State.modCtrl (s : State) (c : Nat) (f : Ctrl → Ctrl) : State :=
  { s with stk := { s.stk with ctrls := Tab.modify {} s.stk.ctrls c f } }

/-- A connection. -/
def State.conn (s : State) (c : Nat) : Conn := Tab.get {} s.stk.conns c

/-- Changes a connection. -/
def State.modConn (s : State) (c : Nat) (f : Conn → Conn) : State :=
  { s with stk := { s.stk with conns := Tab.modify {} s.stk.conns c f } }

/-- The controllers of this head that hosts have enabled. -/
def State.hostCtrls (s : State) : List Nat := Tab.keysWhere s.stk.ctrls fun _ c => c.enabled

/-- An asynchronous event to every host controller (Table 3.5). -/
def State.asyncAll (s : State) (e : AsyncEvent) : State := s.hostCtrls.foldl (fun (s : State) c => s.send (.asyncEvent c e)) s

/-- A SMART / Health critical warning sets or clears (Table 3.5): bit 0 spare, 1 temperature, 3 read-only, 4 volatile memory backup, as NVMe 2.0 numbers them. One that sets is an asynchronous event. [PRESUMED: notes/assumptions/20.md] -/
def State.smartSet (s : State) (k : Nat) (on : Bool) : State :=
  if bitOf s.stk.smart k == on then s
  else
    let s := { s with stk := { s.stk with smart := setBits s.stk.smart k k (bit on) } }
    if on then s.asyncAll (.smart k) else s

/-- An ownership entry (Table 5.1). -/
def State.ns (s : State) (n : Nat) : NsEntry := Tab.get {} s.chs.ns n

/-- Changes an ownership entry. -/
def State.modNs (s : State) (n : Nat) (f : NsEntry → NsEntry) : State :=
  { s with chs := { s.chs with ns := Tab.modify {} s.chs.ns n f } }

/-- The volume record that a namespace's settings come from (R68). -/
def State.volOf (s : State) (nsid : Nat) : Volume := Tab.get {} s.vols (s.ns nsid).volume

/-- A packet channel of role 0: the partner stamps what travels on it (Table 4.9). -/
def isOutbound (c : Nat) : Bool := 65472 ≤ c && c ≤ 65487

/-- A packet channel of role 1 (Table 4.9). -/
def isInbound (c : Nat) : Bool := 65488 ≤ c && c ≤ 65503

/-- A packet channel (R36). -/
def isChannel (c : Nat) : Bool := 65472 ≤ c && c ≤ 65535

/-- PC_ROLE of a packet channel (Table 4.9). -/
def channelRole (c : Nat) : Nat :=
  if c ≤ 65487 then 0 else if c ≤ 65503 then 1 else if c ≤ 65519 then 2 else if c ≤ 65531 then 3 else 4

/-- Whether an opcode changes data (Table 5.3); the compare half of a fused pair is stamped with its write half. -/
def Opcode.isWriteMode : Opcode → Bool
  | .write | .writeZeroes | .deallocate | .fusedWrite | .fusedCompare => true
  | _ => false

/-- Whether an opcode reads without changing data (Table 5.3). -/
def Opcode.isReadMode : Opcode → Bool
  | .read | .compare | .verify => true
  | _ => false

/-- Whether a command carries data to the head (R90). -/
def Opcode.carriesData : Opcode → Bool
  | .write | .compare | .fusedCompare | .fusedWrite | .fwDownload | .updateCompare => true
  | _ => false

/-- An I/O command that Chase stamps (R100): an admin command is not stamped. -/
def Opcode.isStamped : Opcode → Bool
  | .flush => true
  | o => o.isWriteMode || o.isReadMode

/-- The lock mode of a command (Table 5.3); a Flush takes none. -/
def Opcode.lockMode : Opcode → Option LockMode
  | .read | .compare | .verify => some .rd
  | .write | .writeZeroes | .deallocate => some .wr
  | .fusedCompare | .fusedWrite => some .caw
  | _ => none

/-- Logical blocks that a command names. -/
def HostCmd.blocks (c : HostCmd) : Nat := (c.ranges.map Prod.snd).sum

/-- Bytes of protection information in a block's metadata (R70). -/
def piSize (v : Volume) : Nat := if v.guard64 then 16 else 8

/-- Whether PRACT makes a transfer carry no metadata: the metadata is the protection information alone (NVMe 2.0). [PRESUMED: notes/assumptions/18.md] -/
def piStripped (v : Volume) (a : PiArgs) : Bool := a.pract && v.piType != 0 && lbafMeta v.lbaf == piSize v

/-- The length that a command declares (R90): the bytes of a Firmware Image Download, the 48 of an Update Compare (R413), else blocks times the LBA data size, and the metadata size with extended LBAs. [PRESUMED: notes/assumptions/18.md] -/
def State.declared (s : State) (c : HostCmd) : Nat :=
  let v := s.volOf c.nsid
  if c.op = .fwDownload then c.blocks
  else if c.op = .updateCompare then 48
  else c.blocks * (lbafData v.lbaf + if v.ext && !piStripped v c.pi then lbafMeta v.lbaf else 0)

/-- Task slots in use, which STK_SLOTS.IN_USE reports. -/
def State.slotsUsed (s : State) : Nat := s.stk.slots.length

/-- The slots whose command belongs to a context. -/
def State.slotsOf (s : State) (c : Nat) : List Nat := Tab.keysWhere s.stk.slots fun _ t => t.ctx == c

/-- Counts a new slot in the high-water mark, and sets SLOTS_FULL when the last slot is taken. -/
def State.slotMark (s : State) : State :=
  let n := s.slotsUsed
  let s := if n > s.rd F.STK_SLOTS_HWM_HWM then s.wr F.STK_SLOTS_HWM_HWM n else s
  if n ≥ 131072 then s.raise F.STK_INT_STATUS_SLOTS_FULL else s

/-- Frees the token of a command: the tag goes to the back of the free list and its generation rises by 1, modulo 256 (R88). [DEDUCED: notes/assumptions/22.md] -/
def State.freeToken (s : State) (n : Nat) : State :=
  match s.task? n with
  | none => s
  | some t =>
    match t.token with
    | none => s
    | some tag =>
      let k := Tab.get {} s.stk.tokens tag
      let s := { s with stk := { s.stk with
        tokens := Tab.set {} s.stk.tokens tag { gen := (k.gen + 1) % 256 }
        freedTags := s.stk.freedTags ++ [tag] } }
      let s := s.modCtx t.ctx fun c => { c with tokensOut := c.tokensOut - 1 }
      s.setTask n { t with token := none }

/-- Takes the tag at the front of the free list, where one is free (R88). [DEDUCED: notes/assumptions/22.md] -/
def State.takeTag (s : State) : Option (Nat × State) :=
  if s.stk.freshTag < 65536 then
    some (s.stk.freshTag, { s with stk := { s.stk with freshTag := s.stk.freshTag + 1 } })
  else match s.stk.freedTags with
    | [] => none
    | t :: rest => some (t, { s with stk := { s.stk with freedTags := rest } })

/-- Tags issued and not freed, which STK_TOKENS.IN_USE reports. -/
def State.tokensUsed (s : State) : Nat := Tab.count s.stk.tokens fun _ k => k.slot.isSome

/-- Whether two locks name a common block of one namespace. -/
def Lock.overlaps (a b : Lock) : Bool :=
  a.nsid == b.nsid && a.slba < b.slba + b.nlb && b.slba < a.slba + a.nlb

/-- A lock that a Read or CAW lock waits for (Table 5.3). -/
def LockMode.blocks : LockMode → Bool
  | .rd => false
  | _ => true

/-- A lock that waits at its stamp (Table 5.3). -/
def LockMode.waits : LockMode → Bool
  | .wr => false
  | _ => true

/-- Range-lock entries in use, which CHS_LOCKS.IN_USE reports. -/
def State.locksUsed (s : State) : Nat := s.chs.locks.length

/-- Whether the table can supply `n` entries: 8,192 are reserved for inbound forwarding channels and replay (R108). [DEDUCED: notes/assumptions/24.md] -/
def State.locksFree (s : State) (inbound : Bool) (n : Nat) : Bool :=
  s.locksUsed + n ≤ if inbound then 262144 else 262144 - 8192

/-- Takes one range-lock entry (R109): a Read or CAW lock counts the held Write and CAW locks with lower stamps that overlap it. [DEDUCED: notes/assumptions/24.md] -/
def State.takeLock (s : State) (slot stamp nsid : Nat) (m : LockMode) (isForeign : Bool) (r : Nat × Nat) : State :=
  let e : Lock := ⟨stamp, r.1, r.2, nsid, m, true, isForeign, slot, 0⟩
  let w := if m.waits then Tab.count s.chs.locks fun _ o => !o.isForeign && o.mode.blocks && decide (o.stamp < stamp) && o.overlaps e else 0
  match Tab.freeKey s.chs.locks 0 262144 with
  | none => s
  | some k =>
    let s := { s with chs := { s.chs with locks := Tab.put s.chs.locks k { e with waitCnt := w, active := w == 0 } } }
    if s.locksUsed > s.rd F.CHS_LOCKS_HWM_HWM then s.wr F.CHS_LOCKS_HWM_HWM s.locksUsed else s

/-- Frees one range-lock entry (R109): overlapping waiting Read and CAW locks with higher stamps wait for one less. -/
def State.freeLock (s : State) (k : Nat) : State :=
  match Tab.find s.chs.locks k with
  | none => s
  | some e =>
    let lower (o : Lock) : Lock :=
      if !e.isForeign && e.mode.blocks && o.mode.waits && !o.active && decide (o.stamp > e.stamp) && o.overlaps e then
        { o with waitCnt := o.waitCnt - 1, active := o.waitCnt - 1 == 0 }
      else o
    { s with chs := { s.chs with locks := (Tab.erase s.chs.locks k).map fun p => (p.1, lower p.2) } }

/-- The range-lock entry of an adopted piece (R108, R109): FOREIGN is set, and it is freed at once, because the piece is adopted as published. [DEDUCED: notes/assumptions/25.md] -/
def State.foreignLock (s : State) (stamp nsid : Nat) (r : Nat × Nat) : State :=
  if !s.locksFree true 1 then s.raise F.CHS_INT_STATUS_LOCKS_FULL
  else
    let s := s.takeLock 0 stamp nsid .wr true r
    (Tab.keysWhere s.chs.locks fun _ l => l.isForeign).foldl State.freeLock s

/-- The lock entries of a task slot; an adopted entry (FOREIGN) belongs to none. -/
def State.locksOf (s : State) (n : Nat) : List Nat := Tab.keysWhere s.chs.locks fun _ e => e.slot == n && !e.isForeign

/-- Whether a stamped command may be dispatched: no entry of it waits, and its namespace is Local or Releasing (R109). -/
def State.mayDispatch (s : State) (n : Nat) (nsid : Nat) : Bool :=
  !(s.chs.locks.any fun p => p.2.slot == n && !p.2.active && !p.2.isForeign) &&
    ((s.ns nsid).state == .loc || (s.ns nsid).state == .releasing)

/-- Dispatches every stamped command that has become ready (R109). -/
def State.wakeStamped (s : State) : State :=
  { s with stk := { s.stk with slots := s.stk.slots.map fun p =>
      if p.2.state == .stamped && s.mayDispatch p.1 p.2.cmd.nsid then (p.1, { p.2 with state := .dispatched }) else p } }

/-- Frees the locks of a command and takes it out of PENDING (R109), then dispatches what has become ready. -/
def State.release (s : State) (n : Nat) : State :=
  match s.task? n with
  | none => s
  | some t =>
    let s := (s.locksOf n).foldl State.freeLock s
    let s := if t.counted then
        (s.modNs t.cmd.nsid fun e => { e with pending := e.pending - 1 }).setTask n { t with counted := false }
      else s
    s.wakeStamped

/-- Sends one Anvil message; while ANV_CTRL.ENABLE is 0 (Table 16.11), and to a partner that counts as lost (R357), only REJOIN, HELLO and RELEASED are sent. From the commitment of a dump the Anvil ports are down, and nothing is sent (R137). [DEDUCED: notes/assumptions/29.md] -/
def State.anvil (s : State) (t : AnvType) (chan : Nat) (args : List Nat) (data : Bytes := []) : State :=
  if s.gly.dump.isSome then s
  else if (s.on F.ANV_CTRL_ENABLE && !s.anv.lost) || t == .rejoin || t == .hello || t == .released then s.send (.anv t chan args data) else s

/-- What a head does with a message of a TYPE (R357): it leaves the inbox, while the partner counts as lost only HELLO and REJOIN are heard, and during a dump nothing is (R137). [DESIGN CHOICE: notes/assumptions/7.md; DEDUCED: notes/assumptions/82.md] -/
def State.hear (s : State) (type : Nat) (act : State → State) : State :=
  let s := { s with anv := { s.anv with inbox := s.anv.inbox.eraseP fun (m : AnvMsg) => m.type == type } }
  if s.gly.dump.isSome || (s.anv.lost && type != 1 && type != 5) then s else act s

/-- The Anvil message class that goes to no packet channel. -/
def pairChan : Nat := 0xFF

/-- Mirrors one record of the persistent state (Table 16.3, area 2): its sort, 0 a reservation, 1 a deletion walk, 2 a session, 3 the takeover list, 4 a scrap-list entry, 5 an event record, 6 an entry of the partner's own scrap list (R383), 7 the stamp mark, 8 the stripe epoch mark, 9 the allocation mark and 10 the deferred ranges of a half, 11 a nonce mark, 12 the bank list, 13 the rebuild and 14 the reshape in progress, 15 a nonce mark of the partner (R236), and its key. [DESIGN CHOICE: notes/assumptions/59.md] -/
def State.ringState (s : State) (sort key : Nat) : State := s.anvil .ring pairChan [2, sort, key]

/-- The channel that carries an entry now: its own, or the one it is re-homed to (R83). [DEDUCED: notes/assumptions/95.md] -/
def State.chanNow (s : State) (c : Nat) : Nat := ((s.ctx c).movedTo).getD c

end Sys2Proof.Machine
end

