-- ==== Sys2Proof/Machine/Energy.lean ====
section
/-! DEFINITION. Energy figures, the acknowledgement rule of Table 6.4 and unprotected-galley mode (R126 to R131). -/

namespace Sys2Proof.Machine

/-- G of the GALLEY section in GiB (R37); G_p equals it under R20. -/
def State.galleyGib (s : State) : Nat := (s.fm.forme.map (·.galleyGib)).getD 0

/-- J per GiB of a dump in 96ths of a joule (R126): 8.3125 with 7+1 striping, 8.3125 × 7 / 6 with 6+1. -/
def State.perGib (s : State) : Nat := if s.on F.GLY_VAULT_STRIPE_6 then 931 else 798

/-- E_req in 96ths of a joule (R126). -/
def State.eReq (s : State) : Nat := 6384 + (8 + s.galleyGib) * s.perGib

/-- E_cov in 96ths of a joule (R126). -/
def State.eCov (s : State) : Nat := s.eReq + s.galleyGib * s.perGib

/-- 96ths of a joule as whole joules, rounded up. -/
def joulesUp (x : Nat) : Nat := (x + 95) / 96

/-- The deliverable energy E (R127, R131): 0 while the pack is stale, and capped by the last load test. -/
def State.energy (s : State) : Nat :=
  if s.on F.GLY_BELLOWS_STALE then 0 else s.rd F.GLY_BELLOWS_ENERGY

/-- Whether a head counts as Paired for Table 6.4. -/
def State.paired (s : State) : Bool := s.inMode [.paired, .handback, .activation]

/-- Modes after Forming in which a row of Table 6.4 is in force. -/
def State.serving (s : State) : Bool := s.inMode [.joining, .paired, .solo, .takeover, .handback, .activation, .banked]

/-- An energy comparison of Table 6.4 in 96ths of a joule, with the 5 % margin when asked (R128). -/
def energyOk (margin : Bool) (e fig : Nat) : Bool :=
  if margin then decide (105 * fig ≤ 100 * e) else decide (fig ≤ e)

/-- The rows of Table 6.4, 1 to 8, with the energy comparisons taken with or without margin. -/
def State.ackRow (s : State) (margin : Bool) : Nat :=
  let own := energyOk margin (96 * s.energy) s.eReq
  let peer := energyOk margin s.gly.peer.e s.gly.peer.cov && s.gly.peer.seen
  if s.paired then
    if s.on F.GLY_VAULT_UNUSABLE then 7 else if own then 1 else if peer then 2 else 3
  else
    if s.on F.GLY_VAULT_UNUSABLE then 8 else if s.rd F.ANV_PAIR_PEER_MODE = 10 then 6 else if own then 4 else 5

/-- Whether a row calls for unprotected-galley mode; row 7 does unless the partner has mirror cover. -/
def State.rowUnprot (s : State) (margin : Bool) (row : Nat) : Bool :=
  decide (row = 3 ∨ row = 5 ∨ row = 6 ∨ row = 8) ||
    (row == 7 && !(energyOk margin s.gly.peer.e s.gly.peer.cov && s.gly.peer.seen))

/-- Where a piece must stand before it is published (Table 6.4). -/
inductive AckWhere
  | both | own | flash
deriving DecidableEq, Repr

/-- The place that the situation asks for (R127, R128). -/
def State.ackWhere (s : State) : AckWhere :=
  if s.gly.unprot.isSome || s.on F.GLY_CTRL_FORCE_UNPROT then .flash
  else if s.paired then .both else .own

/-- Whether energy is among the causes (R128). -/
def UnprotCause.energy (c : UnprotCause) : Bool := c.own || c.peer

/-- What a row of Table 6.4 that calls for unprotected-galley mode adds to its causes: the comparisons that it failed (R128). -/
def UnprotCause.add (c : UnprotCause) (row : Nat) : UnprotCause :=
  match row with
  | 3 => { c with own := true, peer := true }
  | 5 => { c with own := true }
  | 7 => { c with peer := true }
  | _ => { c with rule := true }

/-- Whether every comparison that caused the mode holds with the 5 % margin (R128). The partner's is made in Paired only, where Table 6.4 makes it. [DEDUCED: notes/assumptions/36.md] -/
def State.unprotClear (s : State) (c : UnprotCause) : Bool :=
  (!c.own || energyOk true (96 * s.energy) s.eReq) && (!c.peer || !s.paired || (energyOk true s.gly.peer.e s.gly.peer.cov && s.gly.peer.seen))

/-- Sets or clears GLY_STATUS.UNPROT, with UNPROT_CHG and a record when it changes (R128). -/
def State.showUnprot (s : State) : State :=
  let v := s.gly.unprot.isSome || s.on F.GLY_CTRL_FORCE_UNPROT
  if s.on F.GLY_STATUS_UNPROT == v then s
  else
    let s := ((s.wr F.GLY_STATUS_UNPROT (bit v)).raise F.GLY_INT_STATUS_UNPROT_CHG).smartSet 4 v
    s.logRec .gly (bit v) (if v then .unprotEnter else .unprotExit)

/-- The energy figures as GLY_ENERGY_REQ and COVER show them, and the row of Table 6.4 in force; unprotected-galley mode is entered as soon as the row calls for it (R127, R128). [DEDUCED: notes/assumptions/36.md] -/
def State.galleyEval (s : State) : State :=
  let s := ((s.wr F.GLY_ENERGY_REQ_REQ (joulesUp s.eReq)).wr F.GLY_ENERGY_REQ_COV (joulesUp s.eCov)).wr F.GLY_STATUS_COVER (bit (decide (s.eCov ≤ 96 * s.energy)))
  if !s.serving then (s.wr F.GLY_STATUS_ROW 0).showUnprot
  else
    let margin := s.gly.unprot.any UnprotCause.energy
    let row := s.ackRow margin
    let want := s.rowUnprot margin row
    let was := s.rd F.GLY_STATUS_ROW
    let s : State := if want then
        let c := ((s.gly.unprot.getD {}).add row)
        let first := if s.gly.unprot.isNone then was == 0 else s.gly.unprotAtForming
        { s with gly := { s.gly with unprot := some c, unprotAtForming := first, calmSince := none } }
      else match s.gly.unprot with
        | none => s
        | some c =>
          if !s.unprotClear c then { s with gly := { s.gly with calmSince := none } }
          else if s.gly.calmSince.isNone then { s with gly := { s.gly with calmSince := some s.now } }
          else s
    let held := s.gly.unprot.isSome && !want
    let s := if row = was ∨ held then s
      else
        let s := s.wr F.GLY_STATUS_ROW row
        if row = 2 ∨ (row = 7 ∧ !want) then s.alarm .gly .bellowsFault 0 [row] else s
    s.showUnprot

/-- Takes E as a new value (R131), with the BELLOWS bit when it crosses E_req or E_cov. -/
def State.setEnergy (s : State) (e : Nat) (stale : Bool) : State :=
  let old := s.energy
  let s := (s.wr F.GLY_BELLOWS_ENERGY e).wr F.GLY_BELLOWS_STALE (bit stale)
  let new := s.energy
  let cross (fig : Nat) : Bool := decide (fig ≤ 96 * old) != decide (fig ≤ 96 * new)
  let s := if cross s.eReq || cross s.eCov then s.raise F.GLY_INT_STATUS_BELLOWS else s
  s.galleyEval

/-- The highest Anvil version that this head has, 1.2, as major × 256 + minor (R351). -/
def anvilVersion : Nat := 0x0102

/-- The pair digest (R55). -/
def State.pairDigest (s : State) : Bytes := sha384 ((s.fm.forme.map (·.pairBodies)).getD [])

/-- The pair epoch of the dump record this head restored from, or 0 (Table 16.3). -/
def State.dumpEpoch (s : State) : Nat :=
  match s.gly.restored with
  | some b => (if b then s.gly.setB else s.gly.setA).epoch
  | none => 0

/-- Sends HELLO, HELLO_ACK or REJOIN with a version (Table 16.3). -/
def State.anvHello (s : State) (t : AnvType) (version : Nat) : State :=
  s.anvil t pairChan [version, s.head, s.fm.mode.code, s.rd F.FOR_FORME_ID_ID, s.galleyGib, (s.fm.forme.map (·.filterGib)).getD 0, s.rd F.GMP_PAIR_EPOCH_EPOCH, s.dumpEpoch, (s.fm.forme.map (·.version)).getD 0] s.pairDigest

/-- A head in Joining begins with HELLO; one that finds FENCE_IN asserted sends REJOIN and waits for RELEASED (R366, R367). -/
def State.joinHello (s : State) : State :=
  if s.on F.ANV_TONGS_FENCE_IN then ({ s with anv := { s.anv with rejoinWait := true } } : State).anvHello .rejoin anvilVersion
  else s.anvHello .hello anvilVersion

/-- The wake request that the partner of a Banked head sends (R396, Table 18.5). -/
def State.wakePartner (s : State) : State := if s.rd F.ANV_PAIR_PEER_MODE = 9 then s.anvHello .hello anvilVersion else s

end Sys2Proof.Machine
end

