-- ==== Sys2Proof/Machine/Journal.lean ====
section
/-! DEFINITION. Grain IDs, the grain table, and the map journal: its records, what each changes, and how batches are appended (R184 to R196, R290, R291). -/

namespace Sys2Proof.Machine

/-- HALF of a grain ID (Table 9.1). -/
def gidHalf (g : Nat) : Bool := bitOf g 63

/-- GEN of a grain ID (Table 9.1). -/
def gidGen (g : Nat) : Nat := bits g 62 47

/-- INDEX of a grain ID (Table 9.1). -/
def gidIndex (g : Nat) : Nat := bits g 46 0

/-- A grain ID from its fields (Table 9.1). -/
def mkGid (half : Bool) (gen index : Nat) : Nat := bit half * 2 ^ 63 + gen * 2 ^ 47 + index

/-- An address as one number: SHEET above OFFSET. -/
def mkAddr (sheet offset : Nat) : Nat := sheet * 2 ^ 32 + offset

/-- SHEET of an address. -/
def addrSheet (a : Nat) : Nat := a / 2 ^ 32

/-- OFFSET of an address. -/
def addrOffset (a : Nat) : Nat := a % 2 ^ 32

/-- One half, as this head holds or sees it. -/
def State.half (s : State) (h : Bool) : Half := if h then s.mtx.half1 else s.mtx.half0

/-- Replaces a half. -/
def State.setHalf (s : State) (h : Bool) (v : Half) : State :=
  { s with mtx := if h then { s.mtx with half1 := v } else { s.mtx with half0 := v } }

/-- Whether this head holds a half. -/
def State.holdsHalf (s : State) (h : Bool) : Bool := (s.half h).state != .partner && !(s.half h).peerHolds

/-- The grain-table entry at the INDEX of a grain ID. -/
def State.grainAt (s : State) (g : Nat) : Grain := Tab.get {} (s.half (gidHalf g)).grains (gidIndex g)

/-- Changes the grain-table entry at the INDEX of a grain ID. -/
def State.modGrain (s : State) (g : Nat) (f : Grain → Grain) : State :=
  let h := s.half (gidHalf g)
  s.setHalf (gidHalf g) { h with grains := Tab.modify {} h.grains (gidIndex g) f }

/-- The entry that a grain ID names: its index holds the same generation and is not Free. -/
def State.grain? (s : State) (g : Nat) : Option Grain :=
  let e := s.grainAt g
  if e.state = .free ∨ e.gen ≠ gidGen g then none else some e

/-- The address of an entry's sort. -/
def Grain.addr (e : Grain) : Nat := mkAddr e.sheet e.offset

/-- The grain ID whose entry serves a read: an Alias leads to its target in one step (Table 9.3). -/
def State.target (s : State) (g : Nat) : Nat :=
  let e := s.grainAt g
  if e.state = .isAlias then e.aliasOf else g

/-- A sheet-table entry. -/
def State.sheet (s : State) (id : Nat) : Sheet := Tab.get {} s.hth.sheets id

/-- Changes a sheet-table entry. -/
def State.modSheet (s : State) (id : Nat) (f : Sheet → Sheet) : State :=
  { s with hth := { s.hth with sheets := Tab.modify {} s.hth.sheets id f } }

/-- Units that held a live sort become dead space (R281). -/
def State.deadUnits (s : State) (sheet units : Nat) : State :=
  s.modSheet sheet fun e => { e with live := e.live - units, dead := e.dead + units }

/-- A sort is recorded in a sheet's sort list (R283), as live or as dead units; a sort that the list already holds stays as it is. -/
def State.listSort (s : State) (g addr units : Nat) (live : Bool) : State :=
  if (s.sheet (addrSheet addr)).sorts.any (fun x => x.gid == g && x.offset == addrOffset addr) then s else
  s.modSheet (addrSheet addr) fun (e : Sheet) =>
    let e : Sheet := { e with sorts := e.sorts ++ [⟨g, addrOffset addr, units⟩] }
    if live then { e with live := e.live + units } else { e with dead := e.dead + units }

/-- A plate record. -/
def State.plateRec (s : State) (module plate : Nat) : Plate := Tab.get {} s.hth.plates (module * 2 ^ 25 + plate)

/-- Replaces a plate record. -/
def State.setPlate (s : State) (module plate : Nat) (p : Plate) : State :=
  { s with hth := { s.hth with plates := Tab.set {} s.hth.plates (module * 2 ^ 25 + plate) p } }

/-- Slots of this head's own filter (R191): S from its size F. -/
def State.filterSlots (s : State) : Nat := ((s.fm.forme.map (·.filterGib)).getD 0) * 402653184

/-- Slots by which a half's fingerprints find their buckets and filter places (R191, R193, R202): those that the half is held with, or else those of the filter it would be loaded into, the own filter's or the partner's. [DEDUCED: notes/assumptions/97.md] -/
def State.loadSlots (s : State) (hb : Bool) : Nat := if bit hb = s.head then s.filterSlots else s.mtx.partnerSlots

/-- The slots that a half is indexed with now. -/
def State.halfSlots (s : State) (hb : Bool) : Nat := if (s.half hb).slots = 0 then s.loadSlots hb else (s.half hb).slots

/-- Home slot and remainder of a fingerprint in a filter of `slots` slots (R191). -/
def filterPlace (slots : Nat) (fp : Bytes) : Nat × Nat :=
  let h := leAt fp 8 8
  (bits h 63 24 * slots / 2 ^ 40, bits h 17 0)

/-- Inserts an index entry into its bucket and its filter place (R191, R193); the bucket takes the journal sequence of the change. -/
def State.indexInsert (s : State) (e : IndexEntry) (seq : Nat) : State :=
  let hb := gidHalf e.gid
  let h := s.half hb
  let p := filterPlace (s.halfSlots hb) e.fp
  let b := Tab.get {} h.buckets (p.1 / 64)
  s.setHalf hb { h with buckets := Tab.set {} h.buckets (p.1 / 64) { b with entries := b.entries ++ [e], seq := seq }, filter := p :: h.filter }

/-- Removes an index entry from its bucket and its filter place (R195). -/
def State.indexRemove (s : State) (e : IndexEntry) (seq : Nat) : State :=
  let hb := gidHalf e.gid
  let h := s.half hb
  let p := filterPlace (s.halfSlots hb) e.fp
  let b := Tab.get {} h.buckets (p.1 / 64)
  if b.entries.contains e then
    s.setHalf hb { h with buckets := Tab.set {} h.buckets (p.1 / 64) { b with entries := b.entries.erase e, seq := seq }, filter := h.filter.erase p }
  else s

/-- A reference count as it stands (R189). -/
def Grain.count (e : Grain) : Nat := if e.ovf then e.wide else e.refcnt

/-- Adds a signed amount to a count. -/
def Grain.addCount (e : Grain) (d : Int) : Grain :=
  if e.ovf then { e with wide := (e.wide + d).toNat } else { e with refcnt := (e.refcnt + d).toNat }

/-- Sets one grain index of a volume's map; a REMOVE leaves no extent there (R288). -/
def Volume.mapSet (v : Volume) (g : Nat) (c : Cell) : Volume := { v with map := Tab.set {} v.map g c }

/-- The leaf page of a volume that covers a grain index: its lowest index, its identity and the next page's lowest index. [DEDUCED: notes/assumptions/28.md] -/
def Volume.pageAt (v : Volume) (g : Nat) : Nat × Nat × Option Nat :=
  let below := v.pages.filter fun p => decide (p.1 ≤ g)
  let cur := below.getLast?.getD (0, 0)
  (cur.1, cur.2, (v.pages.find? fun p => decide (g < p.1)).map Prod.fst)

/-- Whether two cells side by side belong to one extent (R288): their grain IDs run on, or both are ZERO, and their tags are equal. -/
def Cell.joins (a b : Cell) : Bool := b.tag == a.tag && (a.gid == 0 && b.gid == 0 || a.gid != 0 && b.gid == a.gid + 1)

/-- The extents of a map's cells (R288), as first grain index, length and first cell: neighbours merge where they join. -/
def extents (t : Tab Cell) : List (Nat × Nat × Cell) :=
  t.foldr (fun p acc =>
    match acc with
    | [] => [(p.1, 1, p.2)]
    | (h, n, e) :: rest => if h = p.1 + 1 ∧ p.2.joins e ∧ n < 2 ^ 24 - 1 then (p.1, n + 1, p.2) :: rest else (p.1, 1, p.2) :: acc) []

/-- How many extents the cells of a map make (R288). -/
def extentCount (t : Tab Cell) : Nat := (extents t).length

/-- Entries in an interior node (Table 13.7). -/
def nodeFan : Nat := 254

/-- The lowest keys of the nodes of a tree, level by level from the leaves: each interior node names up to 254 nodes of the level below (Table 13.7). -/
def treeLevels : Nat → List Nat → List (List Nat)
  | 0, _ => []
  | n + 1, l => if l.length ≤ 1 then [l] else l :: treeLevels n (((List.range ((l.length + nodeFan - 1) / nodeFan)).map fun i => l.getD (i * nodeFan) 0))

/-- The nodes of a volume's tree, as (level, lowest key, lowest key of the next node of the level). [DEDUCED: notes/assumptions/28.md] -/
def Volume.nodes (v : Volume) : List (Nat × Nat × Option Nat) :=
  (treeLevels 8 (v.pages.map Prod.fst)).zipIdx.flatMap fun x => (x.1.zip ((x.1.drop 1).map some ++ [none])).map fun y => (x.2, y.1, y.2)

/-- The key of a node in `nums`. -/
def nodeKey (level lo : Nat) : Nat := level * 2 ^ 40 + lo

/-- The logical page of a node. -/
def Volume.pageNum (v : Volume) (level lo : Nat) : Nat := Tab.get 0 v.nums (nodeKey level lo)

/-- ROOT_NODE of a volume record: the logical page of the one node of the highest level. -/
def Volume.rootNode (v : Volume) : Nat := (v.nodes.getLast?.map fun x => v.pageNum x.1 x.2.1).getD 0

/-- Gives every node of a volume's tree its logical page, allocated from 1; nodes that have one keep it (Table 13.5). [DEDUCED: notes/assumptions/28.md] -/
def Volume.numbered (v : Volume) : Volume :=
  let keys := v.nodes.map fun x => nodeKey x.1 x.2.1
  let kept := v.nums.filter fun e => keys.contains e.1
  { v with nums := keys.foldl (fun t k => if (Tab.find t k).isSome then t else Tab.put t k (t.foldl (fun a e => max a e.2) 0 + 1)) kept }

/-- The cells of a volume from one grain index to the next page. -/
def Volume.cellsFrom (v : Volume) (lo : Nat) (next : Option Nat) : Tab Cell :=
  v.map.filter fun c => decide (lo ≤ c.1) && (match next with | some n => decide (c.1 < n) | none => true)

/-- Whether another volume's directory names a page (R325). -/
def State.pageShared (s : State) (vol id : Nat) : Bool := s.vols.any fun e => e.1 != vol && e.2.pages.any fun p => p.2 == id

/-- Gives a volume its own copy of the page that holds a grain index, under a fresh identity, when another directory names it (R326), and splits a page of more than 169 extents in two (Table 13.7). [DEDUCED: notes/assumptions/28.md] -/
def State.ownPage (s : State) (vol g : Nat) : State :=
  let v := Tab.get {} s.vols vol
  let (lo, id, next) := v.pageAt g
  let s := if s.pageShared vol id then
      ({ s with vols := Tab.put s.vols vol { v with pages := v.pages.map fun p => if p.1 = lo then (lo, s.hth.nextPage) else p }, hth := { s.hth with nextPage := s.hth.nextPage + 1 } } : State)
    else s
  let v := Tab.get {} s.vols vol
  let cells := v.cellsFrom lo next
  if extentCount cells ≤ 169 then s
  else
    let mid := ((cells.drop (cells.length / 2)).head?.map Prod.fst).getD (lo + 1)
    { s with vols := Tab.put s.vols vol { v with pages := Tab.put v.pages mid s.hth.nextPage }, hth := { s.hth with nextPage := s.hth.nextPage + 1 } }

/-- What one journal record changes (Table 13.9). An EXTENT record redirects each shared page it changes (R326). A MOVE of an entry that does not hold the old address leaves the copy as dead space (Table 9.7). [DEDUCED: notes/assumptions/38.md] -/
def State.applyRec (seq : Nat) (s : State) : JRec → State
  | .extent vol g n tag zero remove gid =>
    let s := { s with vols := Tab.modify {} s.vols vol fun v => (List.range n).foldl (fun v i =>
      v.mapSet (g + i) (if remove then {} else if zero then ⟨0, tag⟩ else ⟨gid + i, tag⟩)) v }
    (List.range n).foldl (fun s i => s.ownPage vol (g + i)) s
  | .alloc g freeHead =>
    let s := s.modGrain g fun e => { state := .inFlight, gen := gidGen g, pins := e.pins, placer := e.placer }
    let h := s.half (gidHalf g)
    s.setHalf (gidHalf g) { h with freeHead := freeHead, freeTail := if freeHead = 0 then 0 else h.freeTail, hwm := max h.hwm (gidIndex g) }
  | .place g addr units st fpalg noindex =>
    let s := s.modGrain g fun e => { e with state := st, sheet := addrSheet addr, offset := addrOffset addr, units := units, fpalg := fpalg, noindex := noindex, gen := gidGen g }
    s.listSort g addr units true
  | .move g old new units =>
    match s.grain? g with
    | some e =>
      if (e.state = .live ∨ e.state = .deferred ∨ e.state = .lost) ∧ e.addr = old then
        let s := s.deadUnits (addrSheet old) e.units
        let s := s.modGrain g fun e => { e with sheet := addrSheet new, offset := addrOffset new, units := units, state := if e.state = .lost then .live else e.state }
        s.listSort g new units true
      else s.listSort g new units false
    | none => s.listSort g new units false
  | .ref g d => s.modGrain g fun e => e.addCount d
  | .free g =>
    let e := s.grainAt g
    let s := s.deadUnits e.sheet e.units
    s.modGrain g fun e => { state := .free, gen := e.gen, fp := e.fp, realm := e.realm, fpalg := e.fpalg }
  | .aliasTo g t n =>
    let e := s.grainAt g
    let s := s.deadUnits e.sheet e.units
    let s := s.modGrain g fun e => { e with state := .isAlias, aliasOf := t, sheet := 0, offset := 0, units := 0, fp := none }
    s.modGrain t fun e => e.addCount n
  | .indexIns fp g realm alg => (s.indexInsert ⟨fp, g, realm, alg⟩ seq).modGrain g fun e => { e with fp := some fp, realm := realm, fpalg := alg, state := if e.state = .deferred then .live else e.state }
  | .indexDel fp g realm alg => s.indexRemove ⟨fp, g, realm, alg⟩ seq
  | .ovf g n => s.modGrain g fun e => if n = 0 then { e with ovf := false, refcnt := e.wide, wide := 0 } else { e with ovf := true, wide := n }
  | .sheetOpen id isMap cls width log2 ms =>
    let s := s.modSheet id fun _ => { state := .opened, isMap := isMap, head := bit (bitOf id 31), cls := cls, width := width, plateLog2 := log2, members := ms, opened := s.now, role := if isMap then .map else .refine }
    ms.foldl (fun s w => s.setPlate w.1 w.2 { s.plateRec w.1 w.2 with state := .member, sheet := id }) s
  | .sheet id st m head =>
    if st = .free then { s with hth := { s.hth with sheets := Tab.erase s.hth.sheets id, freedIds := (id, seq) :: s.hth.freedIds } }
    else s.modSheet id fun e => { e with state := st, head := head, eraseSeq := if st = .toErase then seq else e.eraseSeq, closed := if st = .closed ∧ e.state = .opened then s.now else e.closed, members := match m with
      | some (i, w) => e.members.set i w
      | none => e.members }
  | .plate m p r => s.setPlate m p r
  | .lost k e => { s with imp := { s.imp with lostStripes := match e with
      | some e => Tab.put s.imp.lostStripes k e
      | none => Tab.erase s.imp.lostStripes k } }
  | .key h r => { s with tmp := { s.tmp with keys := match r with
      | some r => Tab.put s.tmp.keys h r
      | none => Tab.erase s.tmp.keys h } }
  | .volume n v _ _ =>
    if v.state = .free then { s with vols := Tab.erase s.vols n }
    else match Tab.find s.vols n with
      | some o => { s with vols := Tab.put s.vols n { v with map := o.map, pages := o.pages, nums := o.nums, dirRoot := o.dirRoot, dirDepth := o.dirDepth } }
      | none => match Tab.find s.vols v.parent with
        | some o => { s with vols := Tab.put s.vols n { v with map := o.map, pages := o.pages, nums := o.nums, dirRoot := o.dirRoot, dirDepth := o.dirDepth } }
        | none => { s with vols := Tab.put s.vols n v }
  | .ckpt _ _ _ _ => s

/-- Whether every record of a batch has a TYPE and units that Table 13.9 gives: the units of a record. -/
def JRec.units : JRec → Nat
  | .indexIns .. => 2 | .indexDel .. => 2 | .volume .. => 2 | .sheetOpen .. => 3 | .key .. => 3 | _ => 1

/-- TYPE of a record (Table 13.9). -/
def JRec.type : JRec → Nat
  | .extent .. => 1 | .alloc .. => 2 | .place .. => 3 | .move .. => 4 | .ref .. => 5 | .free .. => 6 | .aliasTo .. => 7 | .indexIns .. => 8
  | .indexDel .. => 9 | .ovf .. => 10 | .sheetOpen .. => 11 | .sheet .. => 12 | .plate .. => 13 | .lost .. => 14 | .key .. => 15 | .volume .. => 16 | .ckpt .. => 17

/-- STATE of a grain-table entry as a number (Table 9.2); a grain pending Deferred is In flight. -/
def GrainState.code : GrainState → Nat
  | .free => 0 | .inFlight => 1 | .live => 2 | .deferred => 3 | .deferredPending => 1 | .isAlias => 4 | .lost => 5

/-- A key record as 128 bytes (Table 11.3). -/
def keyBytes (h : Nat) (r : Option KeyRec) : Bytes :=
  let w := h / 4096 * 2 ^ 52 + h / 256 % 16 * 2 ^ 48 + h % 256 * 2 ^ 40
  let b := match r with
    | none => leBytes w 8 ++ zeros 112
    | some k => leBytes (w + k.state.code * 2 ^ 37 + bit k.imported * 2 ^ 36 + k.epoch0 * 2 ^ 16 + k.epoch1) 8 ++ leBytes k.len 8 ++
        k.wrapped ++ zeros (72 - k.wrapped.length) ++ zeros 32
  b ++ leBytes (crc32c b) 8

/-- A volume record as 64 bytes (Table 13.6), its DIR_ROOT and DEPTH as the last flush left them. -/
def volumeBytes (n : Nat) (v : Volume) : Bytes :=
  let st := match v.state with | .free => 0 | .live => 1 | .deleting => 2
  let w0 := n * 2 ^ 40 + v.nsid * 2 ^ 24 + v.realm * 2 ^ 12 + v.cls * 2 ^ 8 + st * 2 ^ 5 + v.holder * 16
  let b := leBytes w0 8 ++ leBytes v.dirRoot 8 ++ leBytes (v.dirDepth * 2 ^ 60 + v.nums.length) 8 ++ leBytes v.rootNode 8 ++ leBytes (Tab.count v.map fun _ c => c.gid != 0) 8 ++
    leBytes (v.lbaf * 2 ^ 60 + v.piType * 2 ^ 57 + bit v.ext * 2 ^ 56 + bit v.piFirst * 2 ^ 55) 8 ++ zeros 8
  b ++ leBytes (crc32c b) 8

/-- A plate record as its word (Table 13.1). -/
def Plate.word (r : Plate) : Nat := r.state.code * 2 ^ 61 + r.erases * 2 ^ 32 + r.sheet

/-- A member word of Table 13.2. -/
def memberWord (m : Nat × Nat) : Nat := m.1 * 2 ^ 25 + m.2

/-- A lost-stripe entry as 32 bytes (Table 12.8). -/
def lostBytes (e : Option LostStripe) : Bytes :=
  let b := match e with
    | none => zeros 28
    | some e =>
      let st := match e.state with | .mending => 1 | .lost => 2 | .mended => 3
      leBytes (e.sheet * 2 ^ 32 + e.stripe) 8 ++ leBytes ((e.missing.map (2 ^ ·)).sum * 2 ^ 32 + st * 2 ^ 30 + e.head * 2 ^ 29 + e.count * 2 ^ 13) 8 ++
        leBytes e.found 8 ++ leBytes e.grains.length 4
  b.take 28 ++ leBytes (crc32c (b.take 28)) 4

/-- A signed number in two's complement on `n` bits. -/
def twos (n : Nat) (i : Int) : Nat := (i % (2 ^ n : Int)).toNat

/-- The payload of a record from offset 0x10 (Table 13.9). -/
def JRec.payload : JRec → Bytes
  | .extent v g n tag z r gid => leBytes (v * 2 ^ 40 + g) 8 ++ leBytes (n * 2 ^ 40 + tag * 2 ^ 24 + (bit z + 2 * bit r) * 2 ^ 16) 8 ++ leBytes gid 8
  | .alloc g f => leBytes g 8 ++ leBytes f 8
  | .place g a u st al no => leBytes g 8 ++ leBytes a 8 ++ leBytes (u * 2 ^ 56 + st.code * 2 ^ 53 + al * 2 ^ 51 + bit no * 2 ^ 50) 8
  | .move g o n u => leBytes g 8 ++ leBytes o 8 ++ leBytes n 8 ++ leBytes (u * 2 ^ 56) 8
  | .ref g d => leBytes g 8 ++ leBytes (twos 32 d) 8
  | .free g => leBytes g 8
  | .aliasTo g t n => leBytes g 8 ++ leBytes t 8 ++ leBytes n 8
  | .indexIns fp g r al => fp ++ leBytes g 8 ++ leBytes (r * 2 ^ 20 + al * 2 ^ 18) 8
  | .indexDel fp g r al => fp ++ leBytes g 8 ++ leBytes (r * 2 ^ 20 + al * 2 ^ 18) 8
  | .ovf g n => leBytes g 8 ++ leBytes n 8
  | .sheetOpen id m c w l ms => leBytes (id * 2 ^ 32 + bit m * 2 ^ 30 + c * 2 ^ 26 + w * 2 ^ 21 + l * 2 ^ 16) 8 ++ ms.flatMap fun p => leBytes (memberWord p) 4
  | .sheet id st m h => leBytes (id * 2 ^ 32 + st.code * 2 ^ 29 + (m.map (·.1)).getD 31 * 2 ^ 24 + h * 2 ^ 23) 8 ++ leBytes ((m.map fun p => memberWord p.2).getD 0) 8
  | .plate m p r => leBytes (memberWord (m, p)) 8 ++ leBytes r.word 8
  | .lost _ e => lostBytes e
  | .key h r => leBytes h 8 ++ keyBytes h r
  | .volume n v f h => volumeBytes n v ++ leBytes f 8 ++ leBytes h 8
  | .ckpt q e a p => leBytes q 8 ++ leBytes e 8 ++ leBytes a 8 ++ leBytes p 8

/-- A record as its 64-byte units (R290): header, payload, and the CRC-32C over the whole record with that field as zero. -/
def JRec.bytes (r : JRec) (seq : Nat) (isEnd : Bool) : Bytes :=
  let n := r.units * 64
  let hi := r.type * 2 ^ 56 + (r.units - 1) * 2 ^ 54 + bit isEnd * 2 ^ 53
  let pay := r.payload
  let body (crc : Nat) := (leBytes seq 8 ++ leBytes (hi + crc) 8 ++ pay ++ zeros (n - 16 - pay.length)).take n
  body (crc32c (body 0))

/-- The bytes of a batch, END on its last record (R290). -/
def Batch.bytes (b : Batch) : Bytes :=
  let first := b.seq + 1 - b.recs.length
  (b.recs.zipIdx).flatMap fun r => r.1.bytes (first + r.2) (r.2 + 1 == b.recs.length)

/-- Units of 64 bytes that a batch takes in the ring. -/
def Batch.units (b : Batch) : Nat := (b.recs.map JRec.units).sum

/-- Units in the ring that no checkpoint covers (R292). -/
def Journal.uncovered (j : Journal) : Nat := ((j.ring ++ j.waiting).map Batch.units).sum

/-- 768 MiB of records (R292). -/
def journalLimit : Nat := 12582912

/-- Whether new batches wait for ring space (R292). -/
def State.journalFull (s : State) : Bool := decide (journalLimit ≤ s.hth.journal.uncovered)

/-- Offset of the map journal ring in a control area, and its size (Table 6.2). [DESIGN CHOICE: notes/assumptions/134.md] -/
def ringBase : Nat := 0x80100000

/-- The size of the map journal ring (Table 6.2). -/
def ringSize : Nat := 2 ^ 30

/-- Whether an offset of the control area lies in the run of a batch in the ring. -/
def Batch.covers (b : Batch) (off : Nat) : Bool := decide ((off + ringSize - b.off) % ringSize < b.units * 64)

/-- Whether control areas are mirrored now (R125): when Paired, and while a backlog is being sent. -/
def State.mirrorsRings (s : State) : Bool := s.paired || s.gly.mirroring

/-- A record of the persistent state has changed: it goes to the partner while control areas are mirrored (R125, Table 6.2). -/
def State.shareState (s : State) (sort key : Nat) : State := if s.mirrorsRings then s.ringState sort key else s

/-- Sends a batch to the partner's control area (R125, R349), in two messages where it runs past the end of the ring. [DEDUCED: notes/assumptions/79.md] -/
def State.sendBatch (s : State) (b : Batch) : State :=
  let room := ringBase + ringSize - b.off
  let s := s.anvil .ring pairChan [0, b.off] (b.bytes.take room)
  if b.units * 64 ≤ room then s else s.anvil .ring pairChan [0, ringBase] (b.bytes.drop room)

/-- Sends the waiting batches that have not gone out, once the ring has room and control areas are mirrored (R125, R292). -/
def State.sendWaiting (s : State) : State :=
  if !s.mirrorsRings || s.journalFull then s
  else
    let s := (s.hth.journal.waiting.filter fun b => !b.sent).foldl State.sendBatch s
    { s with hth := { s.hth with journal := { s.hth.journal with waiting := s.hth.journal.waiting.map fun (b : Batch) => { b with sent := true } } } }

/-- RING_ACK covers the waiting batches up to the one whose run holds the offset (R349). [DEDUCED: notes/assumptions/79.md] -/
def State.ringHeld (s : State) (off : Nat) : State :=
  let w := s.hth.journal.waiting
  let n := w.findIdx fun b => b.sent && b.covers off
  if w.length ≤ n then s
  else { s with hth := { s.hth with journal := { s.hth.journal with waiting := (w.take (n + 1)).map (fun (b : Batch) => { b with held := true }) ++ w.drop (n + 1) } } }

/-- Appends one batch (R290): its records take the next sequences and change what they name; what `after` says happens once the batch is durable. A batch that finds the ring full waits (R292). [DEDUCED: notes/assumptions/38.md] -/
def State.journal (s : State) (recs : List JRec) (after : List After := []) : State :=
  if recs.isEmpty then s else
  let q := s.hth.journal.seq + recs.length
  let s := recs.foldl (State.applyRec q) s
  let j := s.hth.journal
  let b : Batch := { seq := q, recs := recs, after := after, off := ringBase + j.pos * 64 % ringSize }
  let s := if s.journalFull then s.raise F.HTH_INT_STATUS_JOURNAL_FULL else s
  ({ s with hth := { s.hth with journal := { j with seq := q, pos := j.pos + b.units, waiting := j.waiting ++ [b], gathered := j.gathered + b.units } } } : State).sendWaiting

/-- Whether a grain may stand in a map (R196): its entry is Live, Deferred, Alias or Lost. Grain ID 0 always may. -/
def State.grainPlaced (s : State) (g : Nat) : Bool :=
  g == 0 || (match s.grain? g with
    | some e => e.state == .live || e.state == .deferred || e.state == .isAlias || e.state == .lost
    | none => false) && !(s.mtx.placing.any fun p => p.1 == g)

/-- The metadata objects as the tables stand now. -/
def State.image (s : State) : Image :=
  { vols := s.vols, grains0 := s.mtx.half0.grains, grains1 := s.mtx.half1.grains, buckets0 := s.mtx.half0.buckets, buckets1 := s.mtx.half1.buckets,
    chain0 := (s.mtx.half0.freeHead, s.mtx.half0.freeTail), chain1 := (s.mtx.half1.freeHead, s.mtx.half1.freeTail),
    hwm0 := s.mtx.half0.hwm, hwm1 := s.mtx.half1.hwm, sheets := s.hth.sheets, plates := s.hth.plates, lostStripes := s.imp.lostStripes, keys := s.tmp.keys, slots := s.hth.pages }

/-- Units of a metadata page: its header and its body (R284). -/
def pageUnits : Nat := 65

/-- LIVE_UNITS and DEAD_UNITS of a map sheet as its live pages give them (R281). -/
def Sheet.countPages (e : Sheet) (id : Nat) (slots : List PageSlot) : Sheet :=
  if e.isMap then
    let live := pageUnits * (((slots.filter fun p => addrSheet p.addr == id).map (·.addr)).eraseDups).length
    { e with live := live, dead := e.writePoint * (1023 * e.width) - live }
  else e

/-- Takes the tables from the metadata objects on flash. Pins and placers live in DRAM only (R190). -/
def State.loadImage (s : State) (i : Image) : State :=
  let bare (t : Tab Grain) : Tab Grain := Tab.mapVals {} t fun _ e => { e with pins := [], placer := none }
  let s := { s with vols := i.vols, tmp := { s.tmp with keys := i.keys }, imp := { s.imp with lostStripes := i.lostStripes } }
  let page := i.vols.foldl (fun a v => v.2.pages.foldl (fun a p => max a (p.2 + 1)) a) s.hth.nextPage
  let s := ({ s with hth := { s.hth with sheets := i.sheets.map fun x => (x.1, x.2.countPages x.1 i.slots), plates := i.plates, nextPage := page, pages := i.slots } } : State)
  { s with mtx := { s.mtx with
      half0 := { s.mtx.half0 with grains := bare i.grains0, buckets := i.buckets0, freeHead := i.chain0.1, freeTail := i.chain0.2, hwm := i.hwm0 }
      half1 := { s.mtx.half1 with grains := bare i.grains1, buckets := i.buckets1, freeHead := i.chain1.1, freeTail := i.chain1.2, hwm := i.hwm1 } } }

/-- Applies durable batches in SEQ order (R291). -/
def State.replayBatches (s : State) (bs : List Batch) : State :=
  bs.foldl (fun s b => b.recs.foldl (State.applyRec b.seq) s) s

end Sys2Proof.Machine
end

