-- ==== Sys2Proof/Machine/Scrap.lean ====
section
/-! DEFINITION. The scrap list, and what any block does when it finds a channel at fault (R375 to R387). -/

namespace Sys2Proof.Machine

/-- Channel kinds of Table 17.1, by name. -/
def Kind.ethLane : Nat := 1
/-- Front PCIe lanes. -/
def Kind.frontLane : Nat := 2
/-- Module links. -/
def Kind.moduleLink : Nat := 3
/-- Anvil bundles. -/
def Kind.bundle : Nat := 4
/-- Queue contexts. -/
def Kind.context : Nat := 5
/-- DRAM ranks. -/
def Kind.dramRank : Nat := 6
/-- Punch cores. -/
def Kind.punch : Nat := 7
/-- Swage lanes. -/
def Kind.swage : Nat := 8
/-- Temper pairs. -/
def Kind.temper : Nat := 9
/-- Imposition units. -/
def Kind.imposition : Nat := 10
/-- Proof units. -/
def Kind.proof : Nat := 11
/-- Vault channels. -/
def Kind.vault : Nat := 12
/-- The key unit. -/
def Kind.keyUnit : Nat := 13
/-- Smith pairs. -/
def Kind.smith : Nat := 14

/-- How many channels a kind has (Table 17.1). -/
def Kind.count (k : Nat) : Nat :=
  match k with
  | 1 => 32 | 2 => 32 | 3 => 128 | 4 => 2 | 5 => 65536 | 6 => 128 | 7 => 48 | 8 => 120 | 9 => 32 | 10 => 8 | 11 => 256
  | 12 => 8 | 13 => 1 | 14 => 16 | _ => 0

/-- The block that reports errors of a kind in event records (Table 17.4). -/
def Kind.source (k : Nat) : Block :=
  match k with
  | 1 => .prt | 2 => .prt | 3 => .gmp | 4 => .anv | 5 => .stk | 7 => .pun | 8 => .swg | 9 => .tmp | 10 => .imp
  | 11 => .prf | 12 => .gly | 13 => .tmp | _ => .for_


/-- The channel kind of a station type (Table 17.1). -/
def Station.kind : Station → Nat
  | .punch => 7 | .swageC => 8 | .swageE => 8 | .temper => 9 | .proof => 11 | .imposition => 10

/-- Whether a lane is out of service, or a fault of it awaits its steward's decision (R16). -/
def State.laneFaulty (s : State) (kind index : Nat) : Bool :=
  s.isOut kind index || s.flt.reported.any fun r => r.chan == ⟨kind, index⟩

/-- Whether no new job of a station enters a lane: it is faulty, a grain job is on it (R148), or its line drains (R51). -/
def State.laneOff (s : State) (kind index : Nat) : Bool :=
  s.laneFaulty kind index || (s.prf.jobs.any fun j => j.2.lane == some ⟨kind, index⟩) ||
    s.fm.lines.any fun l => l.2.draining && l.2.lanes.any fun b => b.typ.kind == kind && b.lane == index

/-- The KAT_FAIL bit of a station's block. -/
def katBit (kind : Nat) : Option Field :=
  if kind = Kind.proof then some F.PRF_INT_STATUS_KAT_FAIL
  else if kind = Kind.punch then some F.PUN_INT_STATUS_KAT_FAIL
  else if kind = Kind.swage then some F.SWG_INT_STATUS_KAT_FAIL
  else if kind = Kind.temper ∨ kind = Kind.keyUnit then some F.TMP_INT_STATUS_KAT_FAIL
  else if kind = Kind.imposition then some F.IMP_INT_STATUS_KAT_FAIL
  else none

/-- Shows that a known-answer test of a channel failed (R164, R180, R224, R248, R259). -/
def State.katFailed (s : State) (kind : Nat) : State :=
  match katBit kind with
  | some f => s.raise f
  | none => s

/-- Writes a scrap-list entry (R382 to R384): it goes to a free slot with the next SEQ and is durable later; a full list is only an alarm. A KIND 5 entry always carries LAPSE. -/
def State.scrapEntry (s : State) (c : Chan) (cause errors : Nat) (st : Status) : State :=
  match Tab.freeKey s.flt.scrap 0 4096 with
  | none => s.alarm (Kind.source c.kind) .scrapFull 0x0A04 [c.kind, c.index]
  | some k =>
    let q := s.flt.scrapSeq + 1
    let e : ScrapEntry := ⟨c.kind, c.index, cause, errors, st, s.now, s.rd F.TIM_STATUS_QUALITY, false, c.kind == Kind.context, q⟩
    let s := { s with fm := { s.fm with pins := { s.fm.pins with vaultVcc := true } } }
    { s with flt := { s.flt with scrap := Tab.put s.flt.scrap k e, scrapSeq := q, writing := s.flt.writing ++ [k] } }

/-- Takes a channel out of service and remembers it (R376, R382), with the alarm of status 0x0A01. -/
def State.putOut (s : State) (c : Chan) (cause errors : Nat) (st : Status) : State :=
  if s.flt.out.contains c then s
  else
    let s := { s with flt := { s.flt with out := s.flt.out ++ [c] } }
    (s.scrapEntry c cause errors st).logRec (Kind.source c.kind) 2 .channelRetired 0x0A01 c

/-- The RETIRED field and bit that reflect a channel on the scrap list (R382). -/
def retiredField (c : Chan) : Option (Field × Nat) :=
  match c.kind with
  | 1 => some (F.PRT_LANE_SCRAP_ETH, c.index)
  | 2 => some (F.PRT_LANE_SCRAP_FRONT, c.index)
  | 7 => some (F.PUN_RETIRED_RETIRED, c.index)
  | 8 => some (if c.index < 64 then (F.SWG_RETIRED0_RETIRED, c.index) else (F.SWG_RETIRED1_RETIRED, c.index - 64))
  | 9 => some (F.TMP_RETIRED_RETIRED, c.index)
  | 10 => some (F.IMP_RETIRED_RETIRED, c.index)
  | 11 => some (F.PRF_RETIRED_RETIRED (c.index / 64), c.index % 64)
  | 12 => some (F.GLY_VAULT_RETIRED, c.index)
  | 14 => some (F.FOR_SMITH_RETIRED, c.index)
  | _ => none

/-- Shows a channel as retired. -/
def State.showRetired (s : State) (c : Chan) : State :=
  match retiredField c with
  | some (f, i) => s.raise f (2 ^ i)
  | none => s

end Sys2Proof.Machine
end

