-- ==== Sys2Proof/Machine/GymoDev.lean ====
section
/-! DEFINITION. A module as a device, and how a head sends it commands (R306 to R319). -/

namespace Sys2Proof.Machine

/-- GMP opcodes (Table 14.4). -/
def Gmp.identify : Nat := 0x01
/-- HELLO. -/
def Gmp.hello : Nat := 0x02
/-- HEALTH. -/
def Gmp.health : Nat := 0x03
/-- OWNER. -/
def Gmp.ownerOp : Nat := 0x04
/-- READ. -/
def Gmp.read : Nat := 0x10
/-- WRITE. -/
def Gmp.write : Nat := 0x11
/-- ERASE. -/
def Gmp.erase : Nat := 0x12
/-- CLAIM. -/
def Gmp.claim : Nat := 0x20
/-- FENCE. -/
def Gmp.fence : Nat := 0x21
/-- SET_ANCHOR. -/
def Gmp.setAnchor : Nat := 0x22
/-- FW_DOWNLOAD. -/
def Gmp.fwDownload : Nat := 0x30
/-- FW_ACTIVATE. -/
def Gmp.fwActivate : Nat := 0x31

/-- The completion limit of an opcode in ns (Table 14.4). -/
def Gmp.limit (op : Nat) : Nat :=
  match op with
  | 0x10 => 20000000 | 0x11 => 50000000 | 0x12 => 200000000 | 0x20 => 2000000 | 0x21 => 2000000 | 0x31 => 30000000000 | _ => 100000000

/-- What a module answers to a command (Table 14.3), with the data that it writes. -/
structure DevAnswer where
  dev : Device
  status : Status
  epoch : Nat := 0
  owner : Nat := 0
  version : Nat := 0
  data : Bytes := []
deriving DecidableEq, Repr

/-- A plate of a module. -/
def Device.plate (d : Device) (p : Nat) : DevPlate := Tab.get {} d.plates p

/-- Changes a plate of a module. -/
def Device.modPlate (d : Device) (p : Nat) (f : DevPlate → DevPlate) : Device := { d with plates := Tab.modify {} d.plates p f }

/-- The lowest position of a plate not written since the last erase. -/
def DevPlate.lowestErased (p : DevPlate) : Nat := ((List.range (p.chunks.length + 1)).find? fun i => (Tab.find p.chunks i).isNone).getD 0

/-- An anchor record as 64 bytes (Table 14.6). -/
def AnchorRec.bytes (a : AnchorRec) : Bytes :=
  let b := leBytes a.gen 8 ++ leBytes a.a 4 ++ leBytes a.b 4 ++ zeros 44
  b ++ leBytes (crc32c b) 4

/-- The module page (Table 14.6). -/
def Device.page (d : Device) : Bytes :=
  let b := leBytes 0x4F4D5947 4 ++ leBytes d.version 2 ++ leBytes d.prevVersion 2 ++ leBytes d.serial 16 ++ leBytes d.firmware 8 ++
    leBytes d.plateLog2 1 ++ leBytes d.number 1 ++ zeros 2 ++ leBytes d.plateCount 4 ++ leBytes d.rated 4 ++ leBytes d.seatEpoch 4 ++
    leBytes d.seatOwner 1 ++ zeros 15 ++ d.anchor0.bytes ++ d.anchor1.bytes ++ zeros 3896
  b ++ leBytes (crc64 b) 8

/-- The version that a module answers to an offer (R319): the highest minor it shares within the offered major, or within the major before it; none when nothing is shared. -/
def Device.negotiate (d : Device) (offer : Nat) : Option Nat :=
  if d.version / 256 = offer / 256 then some (offer / 256 * 256 + min (d.version % 256) (offer % 256))
  else if d.version / 256 + 1 = offer / 256 ∧ 1 < offer / 256 then some d.version
  else if d.prevVersion ≠ 0 ∧ d.prevVersion / 256 = offer / 256 then some (offer / 256 * 256 + min (d.prevVersion % 256) (offer % 256))
  else none

/-- Whether a command is one that a module refuses as invalid (R311): an opcode not in the table, a FLAGS bit with no meaning, or a range outside the plate. -/
def Device.invalid (d : Device) (c : GmpCmd) : Bool :=
  let flagsOk := if c.op = Gmp.claim ∨ c.op = Gmp.fence then decide (c.flags ≤ 1) else c.flags == 0
  let plateOp := c.op == Gmp.read || c.op == Gmp.write || c.op == Gmp.erase || c.op == Gmp.ownerOp || (c.op == Gmp.claim && c.flags == 0)
  let known := [0x01, 0x02, 0x03, 0x04, 0x10, 0x11, 0x12, 0x20, 0x21, 0x22, 0x30, 0x31].contains c.op
  !known || !flagsOk || (plateOp && decide (d.plateCount ≤ c.plate)) ||
    (c.op == Gmp.read && (decide (c.length = 0 ∨ 65536 < c.length ∨ c.length % 64 ≠ 0 ∨ 2 ^ d.plateLog2 < c.offset * 64 + c.length))) ||
    (c.op == Gmp.write && (decide (c.offset % 1024 ≠ 0 ∨ c.length ≠ 65536 ∨ 2 ^ d.plateLog2 < c.offset * 64 + c.length))) ||
    (c.op == Gmp.identify && decide (c.length ≠ 4096))

/-- The bytes that a READ covers, or the status that stops it (Table 14.5). -/
def DevPlate.readAt (p : DevPlate) (offset length : Nat) : Sum Status Bytes :=
  let a := offset * 64
  let first := a / 65536
  let last := (a + length - 1) / 65536
  match Tab.find p.chunks first, Tab.find p.chunks last with
  | none, _ => .inl 0x0303
  | _, none => .inl 0x0303
  | some (some x), some (some y) => .inr (slice (x ++ if first = last then [] else y) (a - first * 65536) length)
  | _, _ => .inl 0x0302

/-- A module carries out one command from a port (R311, R314, R316, Table 14.4). `media` is what only the module's media can say. [DEDUCED: notes/assumptions/41.md] -/
def Device.act (d : Device) (port : Nat) (c : GmpCmd) (data : Bytes) (media : Status) : DevAnswer :=
  if d.fenced.contains port ∧ c.op ≠ Gmp.identify then ⟨d, 0x0307, 0, 0, 0, []⟩
  else if d.invalid c then ⟨d, 0x030A, 0, 0, 0, []⟩
  else if media = 0x030B then ⟨d, 0x030B, 0, 0, 0, []⟩
  else
    let p := d.plate c.plate
    let onPlate := c.op = Gmp.read ∨ c.op = Gmp.write ∨ c.op = Gmp.erase ∨ c.op = Gmp.ownerOp ∨ (c.op = Gmp.claim ∧ c.flags = 0)
    if onPlate ∧ (p.failed ∨ media = 0x0306) then ⟨d.modPlate c.plate fun p => { p with failed := true }, 0x0306, 0, 0, 0, []⟩
    else if c.op = Gmp.identify then ⟨d, 0, 0, 0, 0, d.page⟩
    else if c.op = Gmp.hello then
      let head := byteAt data 20
      match d.negotiate (leAt data 21 2) with
      | none => ⟨d, 0x030A, 0, 0, 0, []⟩
      | some v =>
        if d.bound.any fun b => b.2 == head && b.1 != port then ⟨d, 0x030A, 0, 0, 0, []⟩
        else ⟨{ d with bound := (port, head) :: d.bound.filter fun b => b.1 != port }, 0, 0, 0, v, []⟩
    else if c.op = Gmp.health then ⟨d, 0, 0, 0, 0, leBytes (twos 16 d.temp) 2 ++ leBytes (Tab.count d.plates fun _ p => p.failed) 4 ++ zeros 58⟩
    else if c.op = Gmp.ownerOp then ⟨d, 0, p.epoch, p.owner, 0, []⟩
    else if c.op = Gmp.read then
      (if media = 0x0302 then ⟨d, 0x0302, 0, 0, 0, []⟩
      else match p.readAt c.offset c.length with
        | .inl st => ⟨d, st, 0, 0, 0, []⟩
        | .inr b => ⟨d, if media = 0x0301 then 0x0301 else 0, 0, 0, 0, b⟩)
    else
      let head := ((d.bound.find? fun b => b.1 == port).map Prod.snd).getD port
      if c.op = Gmp.write then
        let pos := c.offset / 1024
        if p.owner ≠ head then ⟨d, 0x0307, 0, 0, 0, []⟩
        else if (Tab.find p.chunks pos).isSome ∨ p.lowestErased + 32 < pos then ⟨d, 0x0309, 0, 0, 0, []⟩
        else if media = 0x0304 then ⟨d.modPlate c.plate fun p => { p with chunks := Tab.put p.chunks pos none }, 0x0304, 0, 0, 0, []⟩
        else ⟨d.modPlate c.plate fun p => { p with chunks := Tab.put p.chunks pos (some data) }, 0, 0, 0, 0, []⟩
      else if c.op = Gmp.erase then
        if p.owner ≠ head then ⟨d, 0x0307, 0, 0, 0, []⟩
        else if media = 0x0305 then ⟨d, 0x0305, 0, 0, 0, []⟩
        else ⟨d.modPlate c.plate fun p => { p with chunks := [] }, 0, 0, 0, 0, []⟩
      else if c.op = Gmp.claim then
        if c.flags = 1 then
          (if c.expect = d.seatEpoch then ⟨{ d with seatEpoch := (d.seatEpoch + 1) % 2 ^ 32, seatOwner := head }, 0, (d.seatEpoch + 1) % 2 ^ 32, head, 0, []⟩
          else ⟨d, 0x0308, d.seatEpoch, d.seatOwner, 0, []⟩)
        else if c.expect = p.epoch then ⟨d.modPlate c.plate fun p => { p with epoch := (p.epoch + 1) % 2 ^ 32, owner := head }, 0, (p.epoch + 1) % 2 ^ 32, head, 0, []⟩
        else ⟨d, 0x0308, p.epoch, p.owner, 0, []⟩
      else if c.op = Gmp.fence then
        let other := 1 - port
        ⟨{ d with fenced := if c.flags = 1 then (if d.fenced.contains other then d.fenced else other :: d.fenced) else d.fenced.filter (· != other) }, 0, 0, 0, 0, []⟩
      else if c.op = Gmp.setAnchor then
        let a : AnchorRec := ⟨leAt data 0 8, leAt data 8 4, leAt data 12 4⟩
        let d := if head = 0 then { d with anchor0 := a } else { d with anchor1 := a }
        ⟨if c.flags = 0 ∧ byteAt data 16 ≠ 0 then { d with number := byteAt data 16 - 1 } else d, 0, 0, 0, 0, []⟩
      else if c.op = Gmp.fwDownload then ⟨{ d with image := Tab.put d.image c.offset (data.take c.length) }, 0, 0, 0, 0, []⟩
      else ⟨{ d with firmware := leAt ((Tab.find d.image 0).getD []) 0 8, image := [] }, 0, 0, 0, 0, []⟩

/-- A GMP command as 64 bytes (Table 14.2, R309). -/
def GmpCmd.bytes (c : GmpCmd) (tag gen : Nat) : Bytes :=
  let b := leBytes (c.op * 2 ^ 56 + c.flags * 2 ^ 48 + gen * 2 ^ 40 + tag * 2 ^ 24) 8 ++ leBytes (c.plate * 2 ^ 32 + c.offset) 8 ++
    leBytes (c.length * 2 ^ 32 + c.expect) 8 ++ leBytes (Config.windowBase + gen * 2 ^ 32 + tag * 2 ^ 16) 8 ++ zeros 24
  b ++ leBytes (crc32c b) 8

/-- A completion as its module writes it (Table 14.3). -/
def DevAnswer.words (a : DevAnswer) (tag gen slot rsv : Nat) (phase : Bool) : Bytes :=
  leBytes (a.status * 2 ^ 48 + gen * 2 ^ 40 + tag * 2 ^ 24 + slot * 2 ^ 14 + rsv % 2 ^ 13 * 2 + bit phase) 8 ++
    leBytes (a.epoch * 2 ^ 32 + rsv / 2 ^ 13 * 2 ^ 17 + a.owner * 2 ^ 16 + a.version) 8

/-- A completion read into its fields (Table 14.3). -/
def RingEntry.done (e : RingEntry) : GmpDone :=
  let w := leAt e.words 0 8
  let x := leAt e.words 8 8
  { status := bits w 63 48, gen := bits w 47 40, tag := bits w 39 24, slot := bits w 23 14, rsv := bits w 13 1 + bits x 31 17, phase := bitOf w 0,
    epoch := bits x 63 32, owner := bits x 16 16, version := bits x 15 0 }

/-- Entries in a module's completion ring (R308). -/
def ringEntries : Nat := 4096

/-- The PHASE of the next completion of a module (R308): 1 on the first pass over its ring, and inverted on each pass. [DESIGN CHOICE: notes/assumptions/127.md] -/
def State.ringPhase (s : State) (m : Nat) : Bool := decide (Tab.get 0 s.gmp.filled m / ringEntries % 2 = 0)

/-- A module as this head sees it. -/
def State.module (s : State) (m : Nat) : Mod := Tab.get {} s.gmp.mods m

/-- Changes a module's record at this head. -/
def State.modModule (s : State) (m : Nat) (f : Mod → Mod) : State := { s with gmp := { s.gmp with mods := Tab.modify {} s.gmp.mods m f } }

/-- The device at a module's place. -/
def State.dev (s : State) (m : Nat) : Device := Tab.get {} s.gmp.devs m

/-- Replaces the device at a module's place. -/
def State.setDev (s : State) (m : Nat) (d : Device) : State := { s with gmp := { s.gmp with devs := Tab.set {} s.gmp.devs m d } }

/-- The modules that this head has admitted, in ascending order. -/
def State.admitted (s : State) : List Nat := Tab.keysWhere s.gmp.mods fun _ m => m.state == .admitted || m.state == .activating

/-- The lowest free command slot of a module (R307): the slot of a command that timed out stays used until its completion has been written. -/
def State.gmpSlot (s : State) (m : Nat) : Option Nat :=
  let used := ((s.gmp.flying.filter fun f => f.2.module == m).map fun f => f.2.slot) ++ ((s.gmp.held.filter fun h => h.1 == m).map Prod.snd)
  (List.range (used.length + 1)).find? fun i => !used.contains i && decide (i < 1024)

/-- Takes a GMP tag from the free list (R309). -/
def State.gmpTag (s : State) : Option (Nat × State) :=
  if s.gmp.freshTag < 65536 then some (s.gmp.freshTag, { s with gmp := { s.gmp with freshTag := s.gmp.freshTag + 1 } })
  else match s.gmp.freed with
    | [] => none
    | t :: rest => some (t, { s with gmp := { s.gmp with freed := rest } })

/-- Frees a GMP tag: its generation rises by 1 modulo 256 and it goes to the back of the free list (R309, R88). -/
def State.gmpFree (s : State) (tag : Nat) : State :=
  { s with gmp := { s.gmp with flying := Tab.erase s.gmp.flying tag, gens := Tab.set 0 s.gmp.gens tag ((Tab.get 0 s.gmp.gens tag + 1) % 256), freed := s.gmp.freed ++ [tag] } }

/-- Whether a command may be sent to a module: while GMP is not enabled only IDENTIFY and HELLO, none in Halted-safe (R318) and none from the commitment of a dump (R137), and only FENCE while R317 holds the others back. -/
def State.gmpMay (s : State) (m op : Nat) : Bool :=
  !(s.fm.mode == .halted && s.fm.safe) && s.gly.dump.isNone && (op == Gmp.identify || op == Gmp.hello || (s.on F.GMP_CTRL_ENABLE && (op == Gmp.fence || !(s.module m).noCmd)))

/-- Sends a command to a module (R307): it takes a free slot and a tag, the module carries it out, and the completion waits in the ring (R308). Without a slot or a tag the command is not sent. -/
def State.gmpSend (s : State) (m : Nat) (c : GmpCmd) (data : Bytes) (use : GmpUse) (media : MediaResult := {}) : State :=
  if !s.gmpMay m c.op then s
  else match s.gmpSlot m, s.gmpTag with
    | some slot, some (tag, s) =>
      let gen := Tab.get 0 s.gmp.gens tag
      let s := { s with gmp := { s.gmp with flying := Tab.put s.gmp.flying tag ⟨m, slot, gen, c, use, s.now, false⟩ } }
      let s := s.send (.gmp m slot (c.bytes tag gen) data)
      if media.dropped then s
      else
        let a := (s.dev m).act s.head c data media.status
        let s := s.setDev m a.dev
        { s with gmp := { s.gmp with ring := s.gmp.ring ++ [⟨m, a.words tag gen slot media.rsv (s.ringPhase m), a.data⟩], filled := Tab.modify 0 s.gmp.filled m (· + 1) } }
    | _, _ => s

/-- A command that reaches a module on a port: this head's own, or the partner's, which changes only the module. -/
def State.gmpRow (s : State) (m port : Nat) (c : GmpCmd) (data : Bytes) (media : MediaResult) : State :=
  if port = s.head then s.gmpSend m c data .plain media
  else if media.dropped then s
  else s.setDev m ((s.dev m).act port c data media.status).dev

end Sys2Proof.Machine
end

