-- ==== Sys2Proof/Machine/Pins.lean ====
section
/-! DEFINITION. Matrix's queries to the partner, its journal batches, and the pins that keep a grain (R188, R190, R198). -/

namespace Sys2Proof.Machine

/-- A query channel (R198): by fingerprint byte 1 for LOOKUP, by INDEX otherwise. -/
def Query.chan (q : Query) : Nat := 65532 + (if q.op = 1 then byteAt q.fp 1 else gidIndex q.gid) % 4

/-- The 64 bytes of a request or a response (Table 9.6). -/
def mtxBytes (code realm alg units tag gid w2 w3 : Nat) (fp : Bytes) : Bytes :=
  leBytes (code * 2 ^ 60 + realm * 2 ^ 48 + alg * 2 ^ 46 + units * 2 ^ 38 + tag) 8 ++ leBytes gid 8 ++ leBytes w2 8 ++ leBytes w3 8 ++ fp ++ zeros (32 - fp.length)

/-- The request of a query. -/
def Query.bytes (q : Query) : Bytes := mtxBytes q.op q.realm q.fpalg q.units q.tag q.gid q.addr q.old q.fp

/-- Sends the queries that wait for a credit, oldest first (R347), on the channel that carries theirs now (R83). -/
def State.sendQueries (s : State) : State :=
  s.mtx.outstanding.foldl (fun s q =>
    let chan := s.chanNow q.chan
    if q.sent || (s.ctx chan).credits = 0 then s
    else
      let s := s.modCtx chan fun c => { c with credits := c.credits - 1 }
      let s := { s with mtx := { s.mtx with outstanding := s.mtx.outstanding.map fun (x : Query) => if x.tag = q.tag then { x with sent := true } else x } }
      s.anvil .matrixReq chan [] q.bytes) s

/-- Makes a query of the partner (R198) under the next TAG. -/
def State.query (s : State) (q : Query) : State :=
  let t := (s.mtx.nextTag + 1) % 2 ^ 32
  State.sendQueries { s with mtx := { s.mtx with nextTag := t, outstanding := s.mtx.outstanding ++ [{ q with tag := t }] } }

/-- Sends one change of the index to a head that loads the half (R201). A removal goes with grain ID 0. [DEDUCED: notes/assumptions/39.md] -/
def State.sendDelta (s : State) (r : JRec) : State :=
  match r with
  | .indexIns fp g realm alg => if (s.half (gidHalf g)).deltas then s.query { op := 7, tag := 0, fp := fp, realm := realm, fpalg := alg, gid := g, old := s.hth.journal.seq } else s
  | .indexDel fp g realm alg => if (s.half (gidHalf g)).deltas then s.query { op := 7, tag := 0, fp := fp, realm := realm, fpalg := alg, gid := 0, old := s.hth.journal.seq } else s
  | _ => s

/-- Appends a batch of Matrix's records and passes its index changes on to a loading head. -/
def State.mtxJournal (s : State) (recs : List JRec) (after : List After := []) : State :=
  recs.foldl State.sendDelta (s.journal recs after)

/-- Frees each Lost entry of the lost-stripe table whose grains are all Free (R272). -/
def State.freeLost (s : State) : State :=
  s.imp.lostStripes.foldl (fun s e =>
    if e.2.state = .lost ∧ e.2.grains.all (fun g => (s.grain? g).isNone) then s.journal [.lost e.1 none] else s) s

/-- Makes a grain Free when nothing keeps it (R188, R190, R296): its count is 0, no pin holds it, and no audit runs. Its index entry is queued for removal. [DEDUCED: notes/assumptions/40.md] -/
def State.freeIfDead (s : State) (g : Nat) : State :=
  match s.grain? g with
  | none => s
  | some e =>
    if e.count ≠ 0 ∨ e.pins ≠ [] ∨ !(e.state == .live || e.state == .deferred || e.state == .lost || e.state == .isAlias) then s
    else match s.hth.audit with
      | some l => { s with hth := { s.hth with audit := some (g :: l) } }
      | none =>
        let s := (s.mtxJournal [.free g] [.freed g]).freeLost
        match e.fp with
        | some fp => s.setHalf (gidHalf g) { s.half (gidHalf g) with removal := (s.half (gidHalf g)).removal ++ [⟨fp, g, e.realm, e.fpalg⟩] }
        | none => s

/-- Releases `n` pins of a head on a grain (R190). -/
def State.unpin (s : State) (g head n : Nat) : State :=
  (List.range n).foldl (fun s _ => s.modGrain g fun e =>
    match e.pins.find? fun p => p.1 == head with
    | some p => { e with pins := e.pins.erase p }
    | none => e) s

/-- Releases the pin of one piece (R190). -/
def State.unpinPiece (s : State) (g head piece : Nat) : State := s.modGrain g fun e => { e with pins := e.pins.erase (head, piece) }

/-- Whether a grain waits for its placement by a head. -/
def State.awaits (s : State) (g head : Nat) : Bool :=
  match s.grain? g with
  | some e => (e.state == .inFlight || e.state == .deferredPending) && e.placer == some head
  | none => false

/-- Takes back the grains that a refine has found for a piece (R150, R190): pins go back, and a placer gives up. -/
def State.unrefine (s : State) (d : Nat) (p : Piece) : State :=
  (p.grains.filter fun x => x.2 != 0).foldl (fun s x =>
    if s.holdsHalf (gidHalf x.2) then
      let s := s.unpinPiece x.2 s.head d
      let s := if s.awaits x.2 s.head then s.modGrain x.2 fun e => { e with placer := none } else s
      s.freeIfDead x.2
    else s.query { op := 4, tag := 0, gid := x.2 }) s

/-- Whether the map change of a piece has begun (R289): its references are being added, its EXTENT batch waits to be durable, or it is applied. -/
def State.changesMap (s : State) (d : Nat) (p : Piece) : Bool :=
  p.applied || p.applying || s.hth.journal.waiting.any fun b => b.after.contains (.applied d)

/-- The piece that a query serves, where its descriptor still holds it. -/
def State.queryPiece (s : State) (q : Query) : Option Nat :=
  q.piece.bind fun x => (Tab.find s.gly.own x.1).bind fun p => if p.gen = x.2 then some x.1 else none

/-- The mark of R185 for a highest allocated index. -/
def allocMark (hwm : Nat) : Nat := hwm / 2 ^ 24 * 2 ^ 24

end Sys2Proof.Machine
end

