-- ==== Sys2Proof/Machine/Finish.lean ====
section
/-! DEFINITION. How commands end: results, forwards, pieces that take no effect, lost extents, and what a read resolves to. -/

namespace Sys2Proof.Machine

/-- Frees a galley piece's descriptor and gives its slots back (R124). -/
def State.dropPiece (s : State) (d : Nat) : State :=
  { s with gly := { s.gly with own := Tab.erase s.gly.own d, waiting := s.gly.waiting.filter (· != d) } }

/-- Discards a piece that takes no effect (R90, R114): what a lookup has found for it gives its pins back (R190). -/
def State.discardPiece (s : State) (d : Nat) : State :=
  match Tab.find s.gly.own d with
  | none => s
  | some p => (if s.changesMap d p then s else s.unrefine d p).dropPiece d

/-- The status and the NVMe form of a result, as RESULT carries them (Table 16.3); a PI failure carries the NVMe form of the check that failed beside its status, so that the arriving head can post it (Table 4.5). [DEDUCED: notes/assumptions/61.md] -/
def Result.onWire : Result → Nat × Nat
  | .internal st => (st, 0)
  | .piFail st w => (st, 0x282 + w)
  | .nvme sct sc => (0, sct * 256 + sc)

/-- What the one RESULT of a forward reports: `kept` is what a cancel or the other half of a fused pair left, and stands unless it is a success or the failure that follows from this half's. [DEDUCED: notes/assumptions/61.md] -/
def forwardResult (kept : Option Result) (r : Result) : Result :=
  match kept with
  | some k => if k = .internal 0 ∨ k = .nvme 0 0x09 then r else k
  | none => r

/-- Ends a forwarded command at its owner (R348): the slot is given back, and once the last half has ended one RESULT goes out, with the credit of its entry (R347). [DEDUCED: notes/assumptions/61.md] -/
def State.endForward (s : State) (n : Nat) (r : Result) : State :=
  match s.task? n with
  | none => s
  | some t =>
    let s := s.dropTask n
    let s := s.modCtx t.ctx fun c => { c with outstanding := c.outstanding - 1 }
    let res := forwardResult t.postAs r
    match t.fusedWith.filter fun w => (s.task? w).isSome with
    | some w => s.modTask w fun u => { u with postAs := some (forwardResult u.postAs res), fusedWith := none }
    | none =>
      let (st, dir) := res.onWire
      let chan := s.chanNow t.ctx - 16
      (s.anvil .result chan [t.fwdId, st, dir, t.dword0]).anvil .credit chan [1]

/-- Marks a command as ended with a result, in the order in which completions become postable (R94). -/
def State.markDone (s : State) (n : Nat) (r : Result) : State :=
  let s := s.modTask n fun t => { t with state := .done r, data := [], doneAt := s.stk.order }
  { s with stk := { s.stk with order := s.stk.order + 1 } }

/-- Ends a command with a result: its token and its locks are freed, and pieces that are not published take no effect (R90). The fused partner of a command is not touched here. -/
def State.finish (s : State) (n : Nat) (r : Result) : State :=
  match s.task? n with
  | none => s
  | some t =>
    let s := s.freeToken n
    let s := t.pieces.foldl (fun s d =>
      match Tab.find s.gly.own d with
      | some p => if p.commit then s else s.discardPiece d
      | none => s) s
    let s := s.release n
    let s := s.markDone n r
    if isInbound t.ctx then s.endForward n r else s

/-- Ends both halves of a fused pair, the Compare with `r` and the Write with the result it then takes (R112). -/
def State.finishFused (s : State) (n : Nat) (r rw : Result) : State :=
  match s.task? n with
  | none => s
  | some t =>
    match t.fusedWith with
    | none => s.finish n r
    | some w => (s.finish n r).finish w rw

/-- The error entry of a failed command (R97). -/
def State.logError (s : State) (t : Task) (r : Result) : State :=
  let v := nvmeOf t.cmd.op r
  if v.sct = 0 ∧ v.sc = 0 then s else
  { s with stk := { s.stk with errors := s.stk.errors ++ [⟨t.ctx, t.cmd.cid, t.cmd.nsid, r.internalStatus, v.sct, v.sc⟩] } }

/-- Whether a reservation excludes a host's command (R72; the six types as NVMe 2.0 defines them). [PRESUMED: notes/assumptions/17.md] -/
def Reservation.excludes (r : Reservation) (host : Nat) (writes : Bool) : Bool :=
  match r.holder with
  | none => false
  | some h =>
    let registered := r.regs.any fun p => p.1 == host
    if h == host then false
    else match r.rtype with
      | 1 => writes
      | 2 => true
      | 3 => writes && !registered
      | 4 => !registered
      | 5 => writes && !registered
      | 6 => !registered
      | _ => false

/-- The internal status of a lost extent by its cause (R305). -/
def lostStatus (cause : Nat) : Status :=
  match cause with
  | 2 | 6 => 0x0409
  | 3 => 0x040A
  | 4 => 0x0404
  | _ => 0x0403

/-- Lists LBAs as lost (R305): the list holds 65,536 entries, and past that the extent is only counted, with an alarm. The LBAs fail either way. [DEDUCED: notes/assumptions/98.md] -/
def State.listLost (s : State) (nsid slba nlb cause : Nat) : State :=
  let room := decide ((s.lost.filter (·.listed)).length < 65536)
  let e : LostExtent := ⟨nsid, slba, nlb, cause, s.now, s.rd F.CHS_LAST_STAMP_STAMP, room⟩
  let s := { s with lost := s.lost ++ [e] }
  if room then s else (s.incHeld F.HTH_LOST_EXT_OVERFLOW).alarm .hth .lostExtent

/-- The lost extent that covers an LBA, where one does: the latest listing when the LBA was listed again (R106). -/
def State.lostAt (s : State) (nsid lba : Nat) : Option LostExtent :=
  s.lost.foldl (fun best e =>
    if e.nsid == nsid && decide (e.slba ≤ lba) && decide (lba < e.slba + e.nlb) && best.all fun b => decide (b.stamp ≤ e.stamp) then some e else best) none

/-- Cuts the LBAs a..a+n out of a lost extent, for LBAs written again or deallocated (R305). -/
def LostExtent.without (e : LostExtent) (nsid a n : Nat) : List LostExtent :=
  if e.nsid != nsid || a + n ≤ e.slba || e.slba + e.nlb ≤ a then [e]
  else
    (if e.slba < a then [{ e with nlb := a - e.slba }] else []) ++
    (if a + n < e.slba + e.nlb then [{ e with slba := a + n, nlb := e.slba + e.nlb - (a + n) }] else [])

/-- Whether a piece covers an LBA. -/
def Piece.covers (p : Piece) (lba : Nat) : Bool := p.slba ≤ lba && lba < p.slba + p.nlb

/-- The order of versions: an adopted piece lies below every stamp this head gave the namespace (R116, R119), and the rest go by stamp. [DEDUCED: notes/assumptions/25.md] -/
def Piece.rank (p : Piece) : Nat := if p.isForeign then p.stamp else 2 ^ 64 + p.stamp

/-- The published galley version with the highest stamp below `stamp` that covers an LBA, stamped after `floor` where the LBA is listed as lost (R106). [DEDUCED: notes/assumptions/25.md] -/
def State.version (s : State) (nsid lba stamp : Nat) (floor : Option Nat) : Option (Nat × Piece) :=
  s.gly.own.foldl (fun best e =>
    if e.2.nsid == nsid && e.2.commit && e.2.covers lba && decide (e.2.rank < 2 ^ 64 + stamp) && floor.all (fun x => decide (2 ^ 64 + x < e.2.rank)) then
      match best with
      | some b => if b.2.rank < e.2.rank then some e else best
      | none => some e
    else best) none

/-- The grain that an LBA lies in (R151). -/
def grainOf (v : Volume) (lba : Nat) : Nat := lba * lbafData v.lbaf / 8192

/-- Where a read of `stamp` takes one logical block from (R106): the galley first, then the volume map; a lost block is served only by a version stamped after its listing. -/
def State.resolve (s : State) (nsid lba stamp : Nat) : Source :=
  let lost := s.lostAt nsid lba
  match s.version nsid lba stamp (lost.map (·.stamp)) with
  | some (d, p) => if p.kind == .zeroes || p.kind == .deallocate then .zero else .galley d
  | none =>
    match lost with
    | some e => .failed (lostStatus e.cause)
    | none =>
      let v := s.volOf nsid
      let c := Tab.get {} v.map (grainOf v lba)
      if c.gid = 0 then .zero else .grain c.gid

/-- The LBAs that a command's ranges name. -/
def HostCmd.lbaList (c : HostCmd) : List Nat :=
  c.ranges.flatMap fun r => (List.range r.2).map (r.1 + ·)

/-- The packet channel that a context's commands are forwarded on (R100). -/
def fwdChannel (ctx : Nat) : Nat := 65472 + ctx % 16

/-- An opcode's number in a forwarded command: the model's own numbering of the entry's opcode field. [DEDUCED: notes/assumptions/29.md] -/
def Opcode.num : Opcode → Nat
  | .flush => 0x00 | .write => 0x01 | .read => 0x02 | .compare => 0x05 | .writeZeroes => 0x08 | .deallocate => 0x09 | .verify => 0x0C
  | .fusedCompare => 0x105 | .fusedWrite => 0x101
  | .createCq => 0x205 | .createSq => 0x201 | .deleteSq => 0x200 | .deleteCq => 0x204 | .nsCreate => 0x20D | .nsDelete => 0x30D
  | .nsAttach => 0x215 | .nsDetach => 0x315 | .getLogPage => 0x202 | .keepAlive => 0x218 | .setArbitration => 0x209
  | .resRegister => 0x0D | .resReport => 0x0E | .resAcquire => 0x11 | .resRelease => 0x15
  | .fwDownload => 0x211 | .fwCommit => 0x210 | .updateCompare => 0x2C5 | .identify => 0x206 | .other => 0xFFF

/-- A task's submission entry as the numbers of a FWD_CMD body (R348). [DEDUCED: notes/assumptions/29.md] -/
def fwdArgs (t : Task) : List Nat :=
  [t.fwdId, t.cntlid, t.cmd.host, t.cmd.cid, t.cmd.op.num, t.cmd.nsid] ++ t.cmd.ranges.flatMap fun r => [r.1, r.2]

/-- Forwards a command unstamped on its outbound channel (R100, R347, R348). An entry of a re-homed channel travels on the other channel of its pair and spends that one's credit (R83). Without a credit it is held and does not fail. A fused pair travels as one entry (R112). [DEDUCED: notes/assumptions/29.md] -/
def State.forward (s : State) (n : Nat) : State :=
  match s.task? n with
  | none => s
  | some t =>
    let chan := s.chanNow (fwdChannel t.ctx)
    if (s.ctx chan).credits = 0 then s.setTask n { t with state := .held }
    else
      let id := s.chs.nextFwd + 1
      let s := { s with chs := { s.chs with nextFwd := id } }
      let s := s.modCtx chan fun c => { c with credits := c.credits - 1 }
      let t := { t with fwdId := id, state := .forwarded chan, cntlid := (s.ctx t.ctx).cntlid }
      let s := (s.setTask n t).inc F.CHS_FWD_CNT_COUNT
      match t.fusedWith with
      | none => s.anvil .fwdCmd chan (fwdArgs t)
      | some w =>
        let s := s.modTask w fun u => { u with fwdId := id, state := .forwarded chan, cntlid := t.cntlid }
        match s.task? w with
        | some u => s.anvil .fwdCmd chan (fwdArgs t ++ fwdArgs u)
        | none => s

end Sys2Proof.Machine
end

