-- ==== Sys2Proof/Machine/Units.lean ====
section
/-! DEFINITION. What a Proof unit does with a stream, and the port units with the ports they serve (R156, R161). -/

namespace Sys2Proof.Machine

/-- A check value as it is appended to a stream, little-endian (R160). -/
def checkBytes (c : Check) (b : Bytes) : Bytes := leBytes (checkValue c b) (checkLen c)

/-- What a stream passes on (R161): the data with its check value behind it, the data without its check value, or the data as it came. None when the check value at its end does not match. -/
def passStream (x : Stream) (b : Bytes) : Option Bytes :=
  let n := b.length - checkLen x.check
  let good := decide (checkLen x.check ≤ b.length) && checkBytes x.check (b.take n) == b.drop n
  match x.dir with
  | .append => some (b ++ checkBytes x.check b)
  | .checkStrip => if good then some (b.take n) else none
  | .checkKeep => if good then some b else none
  | .compute => some b

/-- The ports that have Proof units, numbered in the order of Table 7.6: Ethernet physical ports 0 to 3, front ports 4 and 5, Anvil bundles 6 and 7. -/
def portUnits (port : Nat) (ingest : Bool) : List Nat :=
  let base := 224 + 4 * port + if ingest then 0 else 2
  [base, base + 1]

/-- The Proof unit that carries a direction of a port now (R156): the first of its pair in service, so that one carries the whole direction when the other is retired. -/
def State.portUnit (s : State) (port : Nat) (ingest : Bool) : Option Nat := (portUnits port ingest).find? fun u => !s.laneFaulty Kind.proof u

/-- The port, by its number among those with Proof units, at which a context's commands and data arrive and leave: a packet channel runs on the bundle of its number's last bit, or on the one it is re-homed to (R83). -/
def Ctx.unitPort (q : Ctx) (c : Nat) : Nat :=
  if 65472 ≤ c then 6 + (q.movedTo.getD c) % 2
  else if q.transport = .pcie then 4 + q.port
  else q.lport / 8

/-- Whether the ingest or egress direction of a context's port has a unit in service. With both units of a direction retired the port carries nothing in it. [DESIGN CHOICE: notes/assumptions/124.md] -/
def State.portServes (s : State) (c : Nat) (ingest : Bool) : Bool :=
  (s.portUnit ((Tab.get ({} : Ctx) s.stk.ctxs c).unitPort c) ingest).isSome

end Sys2Proof.Machine
end

