-- ==== Sys2Proof/Machine/Layout.lean ====
section
/-! DEFINITION. Stick's and Chase's tables as the bytes that the spec lays out (R79, R99, R109). -/

namespace Sys2Proof.Machine

/-- A word of a table, from its fields as (highest bit, lowest bit, value); bits that no field covers are 0. -/
def packWord (fields : List (Nat × Nat × Nat)) : Nat :=
  (fields.map fun f => f.2.2 % 2 ^ (f.1 + 1 - f.2.1) * 2 ^ f.2.1).sum

/-- Words as bytes, each word little-endian (R79, R99). -/
def wordBytes (ws : List Nat) : Bytes := ws.flatMap fun w => leBytes w 8

/-- KIND as a number (Table 4.1). -/
def CtxKind.code : CtxKind → Nat
  | .io => 0 | .admin => 1 | .channel => 2

/-- TRANSPORT as a number (Table 4.1). -/
def Transport.code : Transport → Nat
  | .pcie => 0 | .roce => 1 | .tcp => 2 | .anvil => 3 | .replication => 4 | .internal => 5

/-- Word 0x18 of a context entry, whose copy stands in the shadow (Table 4.1). -/
def Ctx.word18 (q : Ctx) : Nat := packWord [(63, 48, q.sqSize), (47, 32, q.sqHead), (31, 16, q.sqTail), (15, 0, q.cqHome)]

/-- Word 0x20 of a context entry, whose copy stands in the shadow (Table 4.1). -/
def Ctx.word20 (q : Ctx) : Nat := packWord [(63, 48, q.cqSize), (47, 32, q.cqHead), (31, 16, q.cqTail), (15, 15, bit q.phase), (10, 0, q.vector)]

/-- A context entry with its pointer words rebuilt from the shadow (R81). -/
def Ctx.fromShadow (q : Ctx) (w18 w20 : Nat) : Ctx :=
  { q with
    sqSize := bits w18 63 48
    sqHead := bits w18 47 32
    sqTail := bits w18 31 16
    cqHome := bits w18 15 0
    cqSize := bits w20 63 48
    cqHead := bits w20 47 32
    cqTail := bits w20 31 16
    phase := bitOf w20 15
    vector := bits w20 10 0 }

/-- The words 0x00 to 0x70 of a queue context entry (Table 4.1). -/
def State.ctxWords (s : State) (c : Nat) : List Nat :=
  let q := s.ctx c
  let w := Tab.get ({} : Window) s.flt.windows (Chan.key ⟨Kind.context, c⟩)
  [ packWord [(63, 61, q.state.code), (60, 59, q.kind.code), (58, 56, q.transport.code), (55, 53, q.arb), (52, 52, bit q.pc), (51, 51, bit q.ien), (47, 32, q.cntlid),
      (31, 16, if isChannel c then c - 65472 else q.hqid)],
    q.sqBase, q.cqBase, q.word18, q.word20,
    packWord [(63, 32, q.nextSeq), (31, 0, q.postSeq)],
    packWord [(63, 48, q.outstanding), (47, 32, q.cqReserved), (31, 24, q.aggrThr), (23, 16, q.aggrTime), (8, 8, q.port), (7, 0, q.fn)],
    packWord [(63, 32, q.xportRef), (31, 24, q.lport)],
    packWord [(63, 48, q.tokensOut), (47, 40, w.count), (39, 0, w.start / 1000)],
    packWord [(63, 56, q.drainCause), (55, 0, q.drainTime)],
    packWord [(63, 48, q.credits), (47, 40, q.peerHead), (39, 32, q.role)],
    0, 0, 0, 0 ]

/-- The 128 bytes of a queue context entry as Stick writes it back (R79, Table 4.1): CTX_CRC is the CRC-32C of bytes 0x00 to 0x77. -/
def State.ctxEntry (s : State) (c : Nat) : Bytes :=
  let b := wordBytes (s.ctxWords c)
  b ++ leBytes (crc32c b) 4 ++ zeros 4

/-- Whether 128 bytes read for a context pass their CTX_CRC (R79, R81). -/
def ctxCrcOk (e : Bytes) : Bool := e.length == 128 && leAt e 0x78 4 == crc32c (e.take 0x78)

/-- A namespace ownership entry as its 16 bytes (Table 5.1). -/
def NsEntry.entry (e : NsEntry) : Bytes :=
  wordBytes [e.boundary, packWord [(63, 61, e.state.code), (60, 60, e.owner), (59, 56, e.cls), (31, 0, e.pending)]]

/-- MODE as a number (Table 5.4). -/
def LockMode.code : LockMode → Nat
  | .rd => 0 | .wr => 1 | .caw => 2

/-- The 2 MiB regions of LBA space that an entry is linked into (R108), by the volume that gives its LBA size. -/
def Lock.regions (l : Lock) (v : Volume) : List Nat :=
  let first := l.slba * lbafData v.lbaf / 2 ^ 21
  let last := (l.slba + l.nlb - 1) * lbafData v.lbaf / 2 ^ 21
  (List.range (last + 1 - first)).map (first + ·)

/-- NEXT of a range-lock entry: the next entry above it that shares its first region, and all ones for none. Table 5.4 gives one link and no end mark. [DESIGN CHOICE: notes/assumptions/118.md] -/
def State.lockNext (s : State) (k : Nat) (l : Lock) : Nat :=
  let v := s.volOf l.nsid
  let r := (l.regions v).headD 0
  ((Tab.first s.chs.locks fun j o => decide (k < j) && o.nsid == l.nsid && (o.regions v).contains r).map Prod.fst).getD (2 ^ 18 - 1)

/-- A range-lock entry as its 32 bytes (R109, Table 5.4); an entry that is not listed is Free. [DESIGN CHOICE: notes/assumptions/118.md] -/
def State.lockEntry (s : State) (k : Nat) : Bytes :=
  match Tab.find s.chs.locks k with
  | none => zeros 32
  | some l =>
    wordBytes [l.stamp, l.slba,
      packWord [(63, 32, l.nlb), (31, 16, l.nsid), (15, 14, l.mode.code), (13, 12, if l.active then 2 else 1), (11, 11, bit l.isForeign)],
      packWord [(63, 46, s.lockNext k l), (45, 29, l.slot), (28, 13, l.waitCnt)]]

end Sys2Proof.Machine
end

