-- ==== Sys2Proof/Machine/Ports.lean ====
section
/-! DEFINITION. Stick's shared operations: allocating contexts and slots, arbitration, fetching, ingest checks and draining (R57 to R92). -/

namespace Sys2Proof.Machine

/-- Lanes of each logical port of a split code (Table 3.1). -/
def splitLanes (code : Nat) : Nat := 8 / 2 ^ (code % 4)

/-- T of the QUEUES section (R36). -/
def State.taskQueues (s : State) : Nat := (s.fm.forme.map (·.tasks)).getD 0

/-- The lowest Empty task-queue context, when one is left beside the spares held back (R78). [PRESUMED: notes/assumptions/16.md] -/
def State.emptyCtx (s : State) : Option Nat :=
  let used := Tab.count s.stk.ctxs fun k c => decide (k < s.taskQueues) && c.state != .empty
  if used + s.rd F.STK_QCOUNT_SPARES < s.taskQueues then
    (List.range (used + 1)).find? fun c => (s.ctx c).state == .empty
  else none

/-- The arbitration class of a packet channel (Table 4.4). -/
def channelClass (c : Nat) : Nat := if channelRole c = 2 ∨ channelRole c = 3 then 1 else 0

/-- The transport of a packet channel by its role (Table 4.9). -/
def channelTransport (c : Nat) : Transport :=
  match channelRole c with
  | 2 => .replication
  | 3 => .internal
  | _ => .anvil

/-- Opens a packet channel (Table 4.2, Table 4.9): an Empty one becomes Live. -/
def State.openChannel (s : State) (c : Nat) : State :=
  if (s.ctx c).state ≠ .empty then s
  else s.setCtx c { state := .live, kind := .channel, transport := channelTransport c, arb := channelClass c, role := channelRole c, hqid := c - 65472, peerHead := s.peer, cqHome := c }

/-- The lowest free task slot. -/
def State.freeSlot (s : State) : Option Nat :=
  if s.slotsUsed < 131072 then Tab.freeKey s.stk.slots 0 131072 else none

/-- OUTSTANDING summed over the queues that share a completion queue, with the entries posted that host software has not taken (R85). [DEDUCED: notes/assumptions/15.md] -/
def State.cqLoad (s : State) (home : Nat) : Nat :=
  let out := s.stk.ctxs.foldl (fun a e => if e.2.cqHome == home && e.2.hasSq then a + e.2.outstanding else a) 0
  let h := s.ctx home
  out + (h.cqTail + h.cqSize + 1 - h.cqHead) % (h.cqSize + 1)

/-- Whether `n` commands of a queue may be fetched now (R85, R86): slots free, FETCH_HOLD not stopping its class, and for a PCIe queue a completion entry for each and fewer than 4,096 slots held. [DESIGN CHOICE: notes/assumptions/7.md] -/
def State.mayFetch (s : State) (c n : Nat) : Bool :=
  let q := s.ctx c
  q.state == .live && q.hasSq && (q.arb == 0 || !s.on F.STK_CTRL_FETCH_HOLD) &&
    (q.transport != .pcie || (decide (s.cqLoad q.cqHome + n ≤ (s.ctx q.cqHome).cqSize) && decide ((s.slotsOf c).length + n ≤ 4096))) &&
    decide (s.slotsUsed + n ≤ 131072)

/-- Entries that wait in a submission queue or in its spill ring. -/
def State.queued (s : State) (c : Nat) : Nat :=
  let q := s.ctx c
  if q.transport == .pcie then (q.sqTail + q.sqSize + 1 - q.sqHead) % (q.sqSize + 1)
  else (Tab.get [] s.stk.spill c).length

/-- The queues that have a fetchable command. [DEDUCED: notes/assumptions/15.md] -/
def State.fetchable (s : State) : List Nat :=
  Tab.keysWhere s.stk.ctxs fun k _ => decide (0 < s.queued k) && s.mayFetch k 1

/-- The controller that a queue belongs to, as arbitration takes functions in turn (R87). -/
def State.fnOf (s : State) (c : Nat) : Nat := (s.ctx c).cntlid

/-- The Arbitration Burst of a controller in commands: two to the power of its feature value, and no limit for the value 7 (NVMe 2.0). [PRESUMED: notes/assumptions/16.md] -/
def Ctrl.burstSize (c : Ctrl) : Nat := if 7 ≤ c.burst then 65536 else 2 ^ c.burst

/-- How many entries one read request may take from a queue (R85): 8, and the current Arbitration Burst. -/
def State.fetchMax (s : State) (c : Nat) : Nat := min 8 (s.ctrl (s.fnOf c)).burstSize

/-- The weight of a class at a controller (R87, Table 4.4). [DEDUCED: notes/assumptions/15.md] -/
def Ctrl.weight (c : Ctrl) (cls : Nat) : Nat :=
  if cls = 3 then c.hpw + 1 else if cls = 4 then c.mpw + 1 else c.lpw + 1

/-- The class a queue is served in: class 5 for every I/O queue of a controller without weighted round robin (R87). [DEDUCED: notes/assumptions/15.md] -/
def State.classNow (s : State) (c : Nat) : Nat :=
  let q := s.ctx c
  if q.kind == .io && !(s.ctrl q.cntlid).wrr then 5 else q.arb

/-- The key of a class's credit at a controller. [DEDUCED: notes/assumptions/15.md] -/
def creditKey (cntlid cls : Nat) : Nat := cntlid * 8 + cls

/-- The key of a function in a class. [DEDUCED: notes/assumptions/15.md] -/
def turnKey (cls fn : Nat) : Nat := cls * 65536 + fn

/-- Whether a function may be served in a class now (R87): its own Arbitration Burst runs, or no burst of another function with a fetchable command there runs and it has not had its turn while another waits for one. [DEDUCED: notes/assumptions/15.md] -/
def State.fnTurn (s : State) (cls fn : Nat) (fns : List Nat) : Bool :=
  let (cur, left) := Tab.get (0, 0) s.stk.turns cls
  if 0 < left ∧ fns.contains cur then fn == cur
  else !(s.stk.fnServed.contains (turnKey cls fn)) || fns.all fun g => s.stk.fnServed.contains (turnKey cls g)

/-- Whether arbitration may serve a queue now (R87): no higher strict class has a fetchable command, the class has credit left among the weighted classes, it is the turn of its function, and the queue has not had its turn while another of that function waits. [DEDUCED: notes/assumptions/15.md] -/
def State.arbAllows (s : State) (c : Nat) : Bool :=
  let f := s.fetchable
  let k := s.classNow c
  let strict := f.all fun o => decide (k ≤ s.classNow o) || decide (3 ≤ s.classNow o ∧ 3 ≤ k)
  let mine := f.filter fun o => s.fnOf o == s.fnOf c
  let credit := decide (k < 3) || decide (0 < Tab.get 0 s.stk.wfq (creditKey (s.fnOf c) k)) ||
    mine.all fun o => decide (Tab.get 0 s.stk.wfq (creditKey (s.fnOf c) (s.classNow o)) = 0)
  let cls := f.filter fun o => s.classNow o == k
  let peers := cls.filter fun o => s.fnOf o == s.fnOf c
  let turn := !(s.stk.rrQueue.contains c) || peers.all fun o => s.stk.rrQueue.contains o
  f.contains c && strict && credit && s.fnTurn k (s.fnOf c) (cls.map s.fnOf) && turn

/-- Arbitration's bookkeeping after `n` commands of a queue were taken (R87): the queue's turn is taken, the burst of its function is spent, and its class spends credit, refilled with the weights when none was left. [DEDUCED: notes/assumptions/15.md] -/
def State.arbServed (s : State) (c n : Nat) : State :=
  let k := s.classNow c
  let cn := s.fnOf c
  let cls := s.fetchable.filter fun o => s.classNow o == k
  let peers := cls.filter fun o => s.fnOf o == cn
  let fns := cls.map s.fnOf
  let (cur, left) := Tab.get (0, 0) s.stk.turns k
  let runs := decide (0 < left) && cur == cn
  let fresh := !runs && fns.all fun g => s.stk.fnServed.contains (turnKey k g)
  let served := if fresh then s.stk.fnServed.filter (fun g => g / 65536 != k) else s.stk.fnServed
  let left := (if runs then left else (s.ctrl cn).burstSize) - n
  let served := if served.contains (turnKey k cn) then served else served ++ [turnKey k cn]
  let s := { s with stk := { s.stk with turns := Tab.set (0, 0) s.stk.turns k (cn, left), fnServed := served } }
  let round := if peers.all fun o => s.stk.rrQueue.contains o then s.stk.rrQueue.filter (fun o => !peers.contains o) else s.stk.rrQueue
  let w := s.stk.wfq
  let w := if k < 3 then w
    else if Tab.get 0 w (creditKey cn k) = 0 then
      [3, 4, 5].foldl (fun w j => Tab.set 0 w (creditKey cn j) ((s.ctrl cn).weight j)) w
    else w
  let w := if k < 3 then w else Tab.set 0 w (creditKey cn k) (Tab.get 0 w (creditKey cn k) - n)
  { s with stk := { s.stk with rrQueue := round ++ [c], wfq := w } }

/-- The cache set of a context (R80): the context ID modulo 512. -/
def cacheSet (c : Nat) : Nat := c % 512

/-- Whether a context's way is busy (R80): a command of it has been fetched and not yet handed over to Chase. Posting takes one step, so its window is not seen. [DEDUCED: notes/assumptions/15.md] -/
def State.wayBusy (s : State) (c : Nat) : Bool := s.stk.slots.any fun p => p.2.ctx == c && p.2.state == .fetched && p.2.cmd.op.isStamped

/-- A context lookup (R80): a hit or a miss is counted, and on a miss the least recently used way that is not busy and not a packet channel is evicted and written back. None when all 16 ways are busy. -/
def State.touch (s : State) (c : Nat) : Option State :=
  if isChannel c || s.stk.cache.contains c then
    some (({ s with stk := { s.stk with cache := if isChannel c then s.stk.cache else c :: s.stk.cache.filter (· != c) } }).inc F.STK_CACHE_HIT_COUNT)
  else
    let pinned := ((List.range 64).filter fun i => cacheSet (65472 + i) == cacheSet c).length
    let ways := s.stk.cache.filter fun o => cacheSet o == cacheSet c
    let s := s.inc F.STK_CACHE_MISS_COUNT
    if ways.length + pinned < 16 then some { s with stk := { s.stk with cache := c :: s.stk.cache } }
    else match (ways.reverse).find? fun o => !s.wayBusy o with
      | none => none
      | some v => some { s with stk := { s.stk with cache := c :: s.stk.cache.filter (· != v), table := Tab.put s.stk.table v (s.ctxEntry v) } }

/-- Whether a command's identifier is that of a command still outstanding on its queue (R91). -/
def State.cidBusy (s : State) (c cid : Nat) : Bool := s.stk.slots.any fun p => p.2.ctx == c && p.2.cmd.cid == cid

/-- Counts a length failure (R90). -/
def State.lengthError (s : State) (st : Status) : State :=
  (if st = 0x0101 then s.inc F.STK_LEN_CNT_SHORT else s.inc F.STK_LEN_CNT_LONG).raise F.STK_INT_STATUS_LEN_ERR

/-- Whether an unsupported feature is asked for by an opcode of its own, and not by a field of a supported command. [PRESUMED: notes/assumptions/20.md] -/
def Feature.byOpcode : Feature → Bool
  | .zonedNamespaces | .keyValue | .directives | .copy | .sanitize | .formatSubsystem | .managementInterface | .inBandAuthentication => true
  | _ => false

/-- How a command that the head does not support ends (R67): Invalid Command Opcode for an opcode that Table 3.5 does not cover, Invalid Field in Command for a field. [PRESUMED: notes/assumptions/20.md] -/
def HostCmd.unsupported (c : HostCmd) : Option Result :=
  if c.op = .other then some .invalidOpcode
  else match c.uses with
    | some f => some (if f.byOpcode then .invalidOpcode else .invalidField)
    | none => if c.badField then some .invalidField else none

/-- Bytes of write data that a capsule may carry on a transport (Tables 3.2 and 3.3). [PRESUMED: notes/assumptions/117.md] -/
def capsuleMax : Transport → Nat
  | .roce => 16384
  | .tcp => 8192
  | _ => 0

/-- Whether a command keeps to the limits of its transport (Tables 3.2 and 3.3): in-capsule data, and 64 keyed SGL data blocks over RoCEv2. [PRESUMED: notes/assumptions/117.md] -/
def HostCmd.fitsTransport (c : HostCmd) (t : Transport) : Bool :=
  decide (c.capData.length ≤ capsuleMax t) && (t != .roce || (c.keyed && decide (c.sgls ≤ 64)))

/-- Whether an opcode acts on the namespace that it names, so that a controller that is not attached to it cannot use it (R93). -/
def Opcode.namesNs (o : Opcode) : Bool :=
  o.isStamped || ([.resRegister, .resAcquire, .resRelease, .resReport] : List Opcode).contains o

/-- The result a command already has at its fetch, before it is stamped: an identifier conflict (R91), a namespace not attached (R93), a limit of its transport (Tables 3.2 and 3.3), or a descriptor of the wrong length (R90). [PRESUMED: notes/assumptions/117.md] -/
def State.fetchCheck (s : State) (c : Nat) (cmd : HostCmd) : Option Result :=
  let need := s.declared cmd
  if s.cidBusy c cmd.cid then some (.internal 0x0104)
  else if cmd.op.namesNs && cmd.nsid != 0xFFFFFFFF && !(s.ctrl (s.ctx c).cntlid).attached.contains cmd.nsid then some .invalidNs
  else if (s.ctx c).transport != .pcie && !cmd.fitsTransport (s.ctx c).transport then some .invalidField
  else if cmd.op.carriesData && decide (cmd.descLen < need) then some (.internal 0x0101)
  else if cmd.op.carriesData && decide (cmd.descLen > need) then some (.internal 0x0102)
  else if cmd.op == .read && decide (cmd.descLen < need) then some (.internal 0x0101)
  else none

/-- Counts a failure found at fetch. -/
def State.countFetchFail (s : State) : Result → State
  | .internal 0x0104 => (s.inc F.STK_CID_CNT_COUNT).raise F.STK_INT_STATUS_CID_CONFLICT
  | .internal 0x0101 => s.lengthError 0x0101
  | .internal 0x0102 => s.lengthError 0x0102
  | _ => s

/-- Puts one fetched command into a task slot with the next submission sequence of its queue (R84). -/
def State.place (s : State) (c slot : Nat) (cmd : HostCmd) (fwdId : Nat) (cntlid : Nat) : State :=
  let q := s.ctx c
  let pre := if isChannel c then none else s.fetchCheck c cmd
  let s := match pre with | some r => s.countFetchFail r | none => s
  let need := if cmd.op.carriesData then s.declared cmd else 0
  let t : Task := { ctx := c, seq := q.nextSeq, cmd := cmd, arrival := s.now, need := need, data := if cmd.inCapsule then cmd.capData.take need else [], fwdId := fwdId, cntlid := cntlid, late := isInbound c && (s.ns cmd.nsid).begins.contains c }
  let t := match pre with | some r => { t with state := .done r, doneAt := s.stk.order } | none => t
  let s := s.setTask slot t
  let s := { s with stk := { s.stk with order := s.stk.order + 1 } }
  let s := s.modCtx c fun q => { q with nextSeq := (q.nextSeq + 1) % 2 ^ 32, outstanding := q.outstanding + 1 }
  let s := s.modCtx q.cqHome fun h => { h with cqReserved := h.cqReserved + 1 }
  s.slotMark

/-- Ties the two halves of a fused pair together (R84, R112). When one half has already failed at its fetch, the other half ends with Failed Fused Command and the pair has no effect (R90). -/
def State.fuse (s : State) (a b : Nat) : State :=
  let s := (s.modTask a fun t => { t with fusedWith := some b }).modTask b fun t => { t with fusedWith := some a }
  let ended (n : Nat) : Bool := (s.task? n).any (·.state.isDone)
  if ended a && !ended b then s.finish b .fusedFailed
  else if ended b && !ended a then s.finish a .fusedFailed
  else s

/-- Places one command, or the two halves of a fused pair, in free slots. -/
def State.placeAll (s : State) (c : Nat) (cmds : List HostCmd) (fwdId : Nat := 0) (cntlid : Nat := 0) : State :=
  match cmds with
  | [a] =>
    match s.freeSlot with
    | some n => s.place c n a fwdId cntlid
    | none => s
  | [a, b] =>
    match s.freeSlot with
    | some n =>
      let s := s.place c n a fwdId cntlid
      match s.freeSlot with
      | some m => (s.place c m b fwdId cntlid).fuse n m
      | none => s
    | none => s
  | _ => s

/-- The commands and fused pairs of a run of submission entries, in order; none where a half of a pair stands alone (R84). -/
def fetchUnits : List HostCmd → Option (List (List HostCmd))
  | [] => some []
  | a :: rest =>
    if a.op = .fusedWrite then none
    else if a.op = .fusedCompare then
      match rest with
      | b :: rest => if b.op = .fusedWrite then (fetchUnits rest).map ([a, b] :: ·) else none
      | [] => none
    else (fetchUnits rest).map ([a] :: ·)

/-- A list of commands that is one command, or a fused Compare with its Write in that order (R84). -/
def fetchUnit (cmds : List HostCmd) : Bool :=
  match cmds with
  | [a] => a.op != .fusedCompare && a.op != .fusedWrite
  | [a, b] => a.op == .fusedCompare && b.op == .fusedWrite
  | _ => false

/-- Whether every byte of a write-mode command is held (R114). -/
def Task.complete (t : Task) : Bool := !t.cmd.op.carriesData || decide (t.need ≤ t.data.length)

/-- Bytes of the metadata of block `i`, from the extended LBA or from the separate buffer (R121). -/
def blockMeta (v : Volume) (data metaBuf : Bytes) (i : Nat) : Bytes :=
  let d := lbafData v.lbaf
  let m := lbafMeta v.lbaf
  if v.ext then slice data (i * (d + m) + d) m else slice metaBuf (i * m) m

/-- Bytes of the data of block `i`. -/
def blockData (v : Volume) (data : Bytes) (i : Nat) : Bytes :=
  let d := lbafData v.lbaf
  let m := lbafMeta v.lbaf
  if v.ext then slice data (i * (d + m)) d else slice data (i * d) d

/-- The PI bytes inside a block's metadata (R70): the first or the last 8 bytes, or 16 with the 64-bit guard. [PRESUMED: notes/assumptions/18.md] -/
def piBytes (v : Volume) (m : Bytes) : Bytes :=
  let n := if v.guard64 then 16 else 8
  if v.piFirst then m.take n else m.drop (m.length - n)

/-- The guard that NVMe 2.0 computes over a block: its data, and the metadata before the PI when the PI stands last. [PRESUMED: notes/assumptions/18.md] -/
def guardOf (v : Volume) (d m : Bytes) : Nat :=
  let n := if v.guard64 then 16 else 8
  let cover := if v.piFirst then d else d ++ m.take (m.length - n)
  if v.guard64 then crc64 cover else crc16 cover

/-- A block's metadata with its protection information built (R70, Table 7.7): the guard over the block, an application tag and a reference tag. [PRESUMED: notes/assumptions/18.md] -/
def withPi (v : Volume) (d m : Bytes) (app ref : Nat) : Bytes :=
  let m := m ++ zeros (lbafMeta v.lbaf - m.length)
  let gl := if v.guard64 then 8 else 2
  let rl := if v.guard64 then 6 else 4
  let p := beBytes (guardOf v d m) gl ++ beBytes app 2 ++ beBytes ref rl
  if v.piFirst then p ++ m.drop p.length else m.take (m.length - p.length) ++ p

/-- A block's metadata with the guard zeroed, as a trailer holds it (R152). -/
def zeroGuard (v : Volume) (m : Bytes) : Bytes :=
  if v.piType = 0 then m
  else
    let gl := if v.guard64 then 8 else 2
    overlay m (if v.piFirst then 0 else m.length - piSize v) (zeros gl)

/-- A block's metadata with its guard computed over the block (R152, R159). -/
def withGuard (v : Volume) (d m : Bytes) : Bytes :=
  if v.piType = 0 then m
  else overlay m (if v.piFirst then 0 else m.length - piSize v) (beBytes (guardOf v d m) (if v.guard64 then 8 else 2))

/-- The first check of one block that fails, in the order guard, application tag, reference tag (R70, R157). [PRESUMED: notes/assumptions/18.md] -/
def blockPiFail (v : Volume) (a : PiArgs) (i : Nat) (d m : Bytes) : Option Nat :=
  let p := piBytes v m
  let gl := if v.guard64 then 8 else 2
  let g := beNat (p.take gl)
  let app := beNat (slice p gl 2)
  let rl := if v.guard64 then 6 else 4
  let ref := beNat (slice p (gl + 2) rl)
  let escape := app = 0xFFFF ∧ (v.piType ≠ 3 ∨ ref = 256 ^ rl - 1)
  if escape then none
  else if a.guard && decide (g ≠ guardOf v d m) then some 0
  else if a.app && decide (app &&& a.appMask ≠ a.appTag &&& a.appMask) then some 1
  else if a.refTag && decide (v.piType ≠ 3) && decide (ref ≠ (a.refVal + i) % 256 ^ rl) then some 2
  else none

/-- The first PI check that fails over a command's blocks (R157); PRACT and a namespace without PI check nothing. -/
def piFail (v : Volume) (a : PiArgs) (n : Nat) (data metaBuf : Bytes) : Option Nat :=
  if v.piType = 0 ∨ a.pract then none
  else (List.range n).findSome? fun i => blockPiFail v a i (blockData v data i) (blockMeta v data metaBuf i)

/-- Cancels a forward at the arriving head: one CANCEL goes to the owner for the command or for both halves of a pair, and `post`, or `other` for the other half, is posted when its RESULT arrives (R115). -/
def State.cancelFwd (s : State) (n : Nat) (t : Task) (chan : Nat) (post other : Option Result) : State :=
  let s := s.setTask n { t with state := .cancelling chan, postAs := post }
  let s := match t.fusedWith with
    | some w => (s.freeToken w).modTask w fun u => if u.state.isDone then u else { u with state := .cancelling chan, postAs := other, discard := t.discard }
    | none => s
  (s.anvil .cancel (s.chanNow chan) [t.fwdId]).raise F.CHS_INT_STATUS_CANCEL

/-- Fails a command whose data failed a check (R90, R61, R157): directly, or with a CANCEL when it has been forwarded (R115). -/
def State.failData (s : State) (n : Nat) (r : Result) : State :=
  match s.task? n with
  | none => s
  | some t =>
    match t.state with
    | .forwarded chan => (s.freeToken n).cancelFwd n { t with token := none } chan (some r) (some .fusedFailed)
    | .done _ => s
    | .cancelling _ => s
    | _ => match t.cmd.op with
      | .fusedCompare => s.finishFused n r .fusedFailed
      | .fusedWrite => (match t.fusedWith with
        | some c => (s.finish c .fusedFailed).finish n r
        | none => s.finish n r)
      | _ => s.finish n r

/-- Where a half of a fused pair begins in the byte offsets of its forward: the Write's data follows the Compare's. -/
def State.fwdBase (s : State) (t : Task) : Nat :=
  if t.cmd.op = .fusedWrite then ((t.fusedWith.bind s.task?).map (·.need)).getD 0 else 0

/-- Answers a DATA_REQ with bytes that have passed this head's ingest checks (R348). -/
def State.answerData (s : State) (n : Nat) : State :=
  match s.task? n with
  | none => s
  | some t =>
    match t.asked, t.state with
    | some (off, len, tag, gen), .forwarded chan =>
      if t.complete then (s.setTask n { t with asked := none }).anvil .data (s.chanNow chan) [t.fwdId, s.fwdBase t + off, tag, gen] (slice t.data off len) else s
    | _, _ => s

/-- The ingest check of a command whose data is complete (R157): a failure is 0x0401 and counted. -/
def State.ingest (s : State) (n : Nat) : State :=
  match s.task? n with
  | none => s
  | some t =>
    if !t.complete || isInbound t.ctx then s else
    let v := s.volOf t.cmd.nsid
    match piFail v t.cmd.pi t.cmd.blocks t.data t.cmd.metaBuf with
    | some w => ((s.failData n (.piFail 0x0401 w)).inc F.PRF_INGEST_CNT_HOST).raise F.PRF_INT_STATUS_INGEST
    | none => s.answerData n

/-- A PCIe read of the host's buffer completes (R57, R90, R157): the data of a command that still needs it, checked for length and for host PI. An empty buffer stands for no read. [DESIGN CHOICE: notes/assumptions/26.md] -/
def State.hostBuffer (s : State) (n : Nat) (buf : Bytes) : State :=
  match s.task? n with
  | none => s
  | some t =>
    if buf.isEmpty || t.state.isDone || t.complete || isChannel t.ctx || (s.ctx t.ctx).transport != .pcie || !s.portServes t.ctx true then s
    else if buf.length < t.need then (s.lengthError 0x0101).failData n (.internal 0x0101)
    else (s.setTask n { t with data := buf.take t.need }).ingest n

/-- Ends one slot whose command a drain discards or abandons (Table 4.3): posted as aborted, returned to the forwarding head, or dropped. -/
def State.drainDrop (cause : Nat) (s : State) (n : Nat) : State :=
  if cause = 1 then s.finish n .sqDeleted
  else if cause = 5 then s.finish n (.internal 0x0201)
  else (s.finish n .sqDeleted).dropTask n

/-- Whether a drain lets a stamped command take effect (Table 5.6): a Flush, a write-mode command with all its data, a fused pair by its write half's data, and an admin command whose change is being made durable. [DEDUCED: notes/assumptions/23.md] -/
def State.drainKeeps (s : State) (t : Task) : Bool :=
  t.cmd.op == .flush || t.cmd.op == .nsCreate || t.cmd.op == .nsDelete ||
    (if t.cmd.op == .fusedCompare then (t.fusedWith.bind s.task?).any Task.complete else t.cmd.op.isWriteMode && t.complete)

/-- Resolves one held command at the start of a drain of a given cause, by its state at that moment (Table 4.3, Table 5.6). A fused pair is resolved once, with its Compare. [DEDUCED: notes/assumptions/23.md] -/
def State.drainTask (s : State) (cause n : Nat) : State :=
  match s.task? n with
  | none => s
  | some t =>
    let other := t.fusedWith.filter fun w => (s.task? w).isSome
    if t.cmd.op = .fusedWrite ∧ other.isSome then s
    else
      let slots := n :: other.toList
      let s := slots.foldl State.freeToken s
      let quiet (s : State) : State := slots.foldl (State.drainDrop cause) (s.inc F.CHS_RESET_CNT_DISCARDED)
      let silent (b : Bool) (s : State) : State := slots.foldl (fun s m => s.modTask m fun u => { u with discard := b }) s
      match t.state with
      | .done _ => if cause = 1 ∨ cause = 5 then s else slots.foldl State.dropTask s
      | .fetched => quiet s
      | .held => quiet { s with chs := { s.chs with input := s.chs.input.filter (· != n) } }
      | .forwarded chan =>
        let post := if cause = 1 then some Result.sqDeleted else none
        s.cancelFwd n { t with token := none, discard := decide (cause ≠ 1) } chan post post
      | .cancelling _ => silent (decide (cause ≠ 1)) s
      | _ =>
        if s.drainKeeps t then
          let s := if t.cmd.op.isWriteMode then s.inc F.CHS_RESET_CNT_TOOK_EFFECT else s
          silent (decide (cause ≠ 1 ∧ cause ≠ 5)) s
        else quiet s

/-- Whether a drain of a cause reaches a context (R92): one that is Live or Faulted, and one that drains by cause 1 when its controller or VF goes away. [DEDUCED: notes/assumptions/23.md] -/
def Ctx.drains (q : Ctx) (cause : Nat) : Bool :=
  q.state == .live || q.state == .faulted || (q.state == .draining && q.drainCause == 1 && cause != 1)

/-- Starts the drain of one context (R92): it becomes Draining, or Faulted with Draining as its former state, and each command it holds is resolved. [DEDUCED: notes/assumptions/23.md] -/
def State.drainCtx (s : State) (cause : Nat) (ev : DrainEvent) (c : Nat) : State :=
  if !(s.ctx c).drains cause then s else
  let s := s.modCtx c fun q =>
    let q := { q with drainCause := cause, drainTime := s.now }
    if q.state = .faulted then { q with former := .draining } else { q with state := .draining }
  let s := { s with stk := { s.stk with drains := Tab.put s.stk.drains c ev, spill := Tab.erase s.stk.spill c } }
  (s.slotsOf c).foldl (State.drainTask · cause) s

/-- The contexts of a controller that a drain of a cause reaches. -/
def State.ctxsOf (s : State) (cause cntlid : Nat) : List Nat :=
  Tab.keysWhere s.stk.ctxs fun k c => !isChannel k && c.cntlid == cntlid && c.drains cause

/-- Resets one controller: every queue of it drains (R65, R92). -/
def State.resetCtrl (s : State) (cause : Nat) (ev : DrainEvent) (cntlid : Nat) : State :=
  let s := s.modCtrl cntlid fun c => { c with enabled := false, draining := true }
  (s.ctxsOf cause cntlid).foldl (fun s c => s.drainCtx cause ev c) s

/-- Ends an NVMe-oF association: its connections end and its controller drains as cause 4 (R65). Controller ID 0 names none. -/
def State.endAssociation (s : State) (cntlid : Nat) : State :=
  if cntlid = 0 then s else
  let cs := Tab.keysWhere s.stk.conns fun _ c => c.live && c.cntlid == cntlid
  let s := cs.foldl (fun s c => (s.modConn c fun k => { k with live := false }).send (.connEnd c)) s
  s.resetCtrl 4 .association cntlid

/-- Ends one connection: the association it belongs to ends with it (R65), and one that has no Connect yet ends alone. -/
def State.endConn (s : State) (conn : Nat) : State :=
  let k := s.conn conn
  if !k.live then s
  else if k.cntlid = 0 then (s.modConn conn fun k => { k with live := false }).send (.connEnd conn)
  else s.endAssociation k.cntlid

/-- Whether an Ethernet logical port, numbered 8 × port + k, has link up (Table 3.1). -/
def State.lportUp (s : State) (lport : Nat) : Bool := bitOf (s.rd (F.PRT_ETH_LINK_UP (lport / 8))) (lport % 8)

/-- An Ethernet logical port loses its link (R59, R65): UP and CHG follow, and every connection on it ends. -/
def State.lportDown (s : State) (p k : Nat) : State :=
  let s := (s.wr (F.PRT_ETH_LINK_UP p) (setBits (s.rd (F.PRT_ETH_LINK_UP p)) k k 0)).raise (F.PRT_ETH_LINK_CHG p) (2 ^ k)
  (Tab.keysWhere s.stk.conns fun _ c => c.live && c.lport == p * 8 + k).foldl State.endConn s

/-- A context fault (R81, Table 4.2): a Live or Draining context becomes Faulted. -/
def State.faultCtx (s : State) (c : Nat) : State :=
  let q := s.ctx c
  if q.state = .live ∨ q.state = .draining then
    (s.setCtx c { q with former := q.state, state := .faulted }).raise F.STK_INT_STATUS_CTX_FAULT
  else s

/-- Ends one connection with a C2HTermReq of a fatal error status (R61). -/
def State.termConn (s : State) (conn fes : Nat) : State :=
  if !(s.conn conn).live then s else (s.send (.c2hTerm conn fes)).endConn conn

/-- The VFs of a port are gone (R64): once VF Enable is 0 and no VF of it drains, NUMVF reads 0. -/
def State.vfsGone (s : State) (port : Nat) : State :=
  if s.stk.vfEnable.contains port || s.stk.ctrls.any fun e => !e.2.fabric && e.2.port == port && decide (0 < e.2.fn) && e.2.draining then s
  else s.wr (F.PRT_FRONT_LINK_NUMVF port) 0

/-- RDMA READs of a queue pair that are out (Table 3.2). -/
def State.readsOut (s : State) (c : Nat) : Nat := Tab.count s.stk.slots fun _ t => t.ctx == c && t.reading

/-- The RDMA READ of one command's data goes out (R60), ECN-capable, unless 16 of its queue pair are out (Table 3.2); it then waits. -/
def State.rdmaGo (s : State) (n : Nat) : State :=
  match s.task? n with
  | none => s
  | some t =>
    if t.reading || t.complete || t.cmd.inCapsule || (s.ctx t.ctx).transport != .roce || decide (16 ≤ s.readsOut t.ctx) then s
    else (s.setTask n { t with reading := true }).send (.rdmaRead n t.need true)

/-- An RDMA READ has ended (Table 3.2): those that waited on the queue pair go out, in slot order, as room allows. -/
def State.readNext (s : State) (c : Nat) : State :=
  (Tab.keysWhere s.stk.slots fun _ t => t.ctx == c && !t.state.isDone && (t.state == .dispatched || t.asked.isSome || !t.cmd.op.isStamped) && t.cmd.op.carriesData).foldl State.rdmaGo s

/-- The controllers of a front port. -/
def State.ctrlsOfPort (s : State) (port : Nat) : List Nat :=
  Tab.keysWhere s.stk.ctrls fun _ c => !c.fabric && c.port == port && c.enabled

end Sys2Proof.Machine
end

