-- ==== Sys2Proof/Machine/Chase.lean ====
section
/-! DEFINITION. Chase: stamping, locking, forwarding and dispatch, and the events that end a lock (R99 to R119). -/

namespace Sys2Proof.Machine

/-- Whether a command came on an inbound channel ahead of that channel's MOVE_BEGIN (Table 5.2). -/
def Task.beforeMoveBegin (t : Task) : Bool := isInbound t.ctx && !t.late

/-- The entries that a command takes in the lock table: one per range (R108). -/
def HostCmd.lockCount (c : HostCmd) : Nat := if c.op == .flush then 0 else c.ranges.length

/-- Journals a new stamp mark every 2^24 stamps (R101). -/
def State.stampMark (s : State) : State :=
  let x := s.rd F.CHS_LAST_STAMP_STAMP
  if s.chs.hwm + 2 ^ 24 ≤ x then State.shareState { s with chs := { s.chs with hwm := x / 2 ^ 24 * 2 ^ 24 } } 7 0 else s

/-- Stamps a command: the next stamp, its locks, and dispatch unless it must wait (R101, R104, R109). -/
def State.stamp (s : State) (n : Nat) : State :=
  match s.task? n with
  | none => s
  | some t =>
    let st := s.rd F.CHS_LAST_STAMP_STAMP + 1
    let s := (s.wr F.CHS_LAST_STAMP_STAMP st).stampMark
    let s := s.modNs t.cmd.nsid fun e => { e with pending := e.pending + 1, last := st }
    let s := s.setTask n { t with stamp := st, counted := true, state := .stamped }
    let s := match t.cmd.op.lockMode with
      | some m => t.cmd.ranges.foldl (fun (s : State) r => s.takeLock n st t.cmd.nsid m false r) s
      | none => s
    let s := if s.chs.locks.any fun p => p.2.slot == n && decide (0 < p.2.waitCnt) then s.inc F.CHS_WAIT_CNT_COUNT else s
    let s := match t.fusedWith with
      | some w => s.modTask w fun u => { u with stamp := st, state := .stamped }
      | none => s
    if s.mayDispatch n t.cmd.nsid then
      let s := s.modTask n fun t => { t with state := .dispatched }
      match t.fusedWith with
      | some w => s.modTask w fun u => { u with state := .dispatched }
      | none => s
    else s

/-- Whether commands of the same source wait at Chase's input ahead of the command of a slot (R108). [DEDUCED: notes/assumptions/24.md] -/
def State.sourceWaits (s : State) (n : Nat) (t : Task) : Bool :=
  (s.chs.input.takeWhile (· != n)).any fun m => (s.task? m).any fun u => if isInbound t.ctx then u.ctx == t.ctx else !isInbound u.ctx

/-- Whether one submission sequence of a context comes before another, from POST_SEQ on (R84, R94). -/
def Ctx.seqBefore (q : Ctx) (a b : Nat) : Bool :=
  decide ((a + 2 ^ 32 - q.postSeq) % 2 ^ 32 < (b + 2 ^ 32 - q.postSeq) % 2 ^ 32)

/-- Whether Stick has an earlier command of the same queue still to hand over, or an earlier one for the same namespace waits unstamped for anything but the end of guard (R102, R136): commands of one queue for one namespace are stamped in submission order. [DEDUCED: notes/assumptions/24.md] -/
def State.earlierWaits (s : State) (n : Nat) (t : Task) : Bool :=
  s.stk.slots.any fun p => p.1 != n && p.2.ctx == t.ctx && p.2.cmd.op.isStamped && (s.ctx t.ctx).seqBefore p.2.seq t.seq &&
    (p.2.state == .fetched || (p.2.state == .held && p.2.cmd.nsid == t.cmd.nsid && !s.stk.held.contains p.1))

/-- 0x0901 is logged once for each guard (R136). -/
def State.guardNote (s : State) : State :=
  match s.gly.supply with
  | some e => if e.logged then s else ({ s with gly := { s.gly with supply := some { e with logged := true } } } : State).note .chs .guardHold 0x0901
  | none => s

/-- Guard: a new write-mode command is held unstamped (R136). -/
def State.guardHold (s : State) (n : Nat) : State :=
  let s := s.modTask n fun t => { t with state := .held }
  if s.stk.held.contains n then s
  else
    ({ s with stk := { s.stk with held := s.stk.held ++ [n] } } : State).guardNote

/-- Whether the forme's PI or field rules stop a fused pair (R112): both halves name one range, no longer than U and inside one boundary. -/
def State.fusedOk (s : State) (t u : Task) : Bool :=
  let v := s.volOf t.cmd.nsid
  let c := s.classOf v.cls
  match t.cmd.ranges, u.cmd.ranges, c with
  | [r], [q], some c =>
    let ub := 2 ^ c.atomLog2 / lbafData v.lbaf
    t.cmd.nsid == u.cmd.nsid && r == q && decide (0 < ub) && decide (r.2 ≤ ub) && decide (r.1 / ub = (r.1 + r.2 - 1) / ub)
  | _, _, _ => false

/-- Whether a command names an LBA behind the end of its namespace (R97). [DEDUCED: notes/assumptions/93.md] -/
def State.pastEnd (s : State) (t : Task) : Bool :=
  let v := s.volOf t.cmd.nsid
  v.lbas != 0 && t.cmd.ranges.any fun r => decide (v.lbas < r.1 + r.2)

/-- The namespaces that a Flush to all covers here (R113): attached to the controller, and Local, Releasing or Acquiring. -/
def State.flushSet (s : State) (cntlid : Nat) : List Nat :=
  (s.ctrl cntlid).attached.filter fun n =>
    (s.ns n).state == .loc || (s.ns n).state == .releasing || (s.ns n).state == .acquiring

/-- Whether the other head runs a part of a Flush to all (R113): it is in service, and owns or still releases a namespace attached to the controller. -/
def State.flushOther (s : State) (cntlid : Nat) : Bool :=
  s.inMode [.paired, .handback, .activation] &&
    (s.ctrl cntlid).attached.any fun n => (s.ns n).state == .remote || (s.ns n).state == .releasing || (s.ns n).state == .acquiring

/-- Stamps a Flush to all (R113): its own part covers the namespaces of this head, and its other part is forwarded while the partner is in service. Without a credit for that it waits. -/
def State.flushAll (s : State) (n : Nat) (t : Task) : State :=
  let cn := if isInbound t.ctx then t.cntlid else (s.ctx t.ctx).cntlid
  let chan := s.chanNow (fwdChannel t.ctx)
  let other := !isInbound t.ctx && s.flushOther cn
  if s.sourceWaits n t || (other && (s.ctx chan).credits == 0) then s.setTask n { t with state := .held }
  else
    let st := s.rd F.CHS_LAST_STAMP_STAMP + 1
    let s := (s.wr F.CHS_LAST_STAMP_STAMP st).stampMark
    let t := { t with stamp := st, state := .dispatched, sources := (s.flushSet cn).map fun n => (n, Source.zero) }
    if other then
      let id := s.chs.nextFwd + 1
      let s := { s with chs := { s.chs with nextFwd := id } }
      let t := { t with fwdId := id, cntlid := cn, waitParts := 1 }
      let s := (s.setTask n t).inc F.CHS_FWD_CNT_COUNT
      let s := s.modCtx chan fun c => { c with credits := c.credits - 1 }
      s.anvil .fwdCmd chan (fwdArgs t)
    else s.setTask n t

/-- Whether a reservation excludes a host's command from a namespace (R72): a Flush counts among the writes (NVMe 2.0). [PRESUMED: notes/assumptions/17.md] -/
def State.resvExcludes (s : State) (c : HostCmd) : Bool :=
  (Tab.get {} s.stk.resv c.nsid).excludes c.host (c.op.isWriteMode || c.op == .flush)

/-- Chase acts on a handed-over command (R100, R102, R109, R112, R136), in the order in which Stick hands commands over. The owner judges reservations, before any data is asked for (R72). A forward that reaches a head which no longer stamps its namespace goes back unstamped (R348). [DEDUCED: notes/assumptions/24.md] -/
def State.handOver (s : State) (n : Nat) : State :=
  match s.task? n with
  | none => s
  | some t =>
    if !(t.state == .fetched || t.state == .held) || !t.cmd.op.isStamped || t.cmd.op == .fusedWrite || t.cmd.unsupported.isSome then s
    else if !s.on F.CHS_CTRL_ENABLE then s
    else if s.on F.CHS_CTRL_STAMP_HOLD && !isInbound t.ctx then s
    else if s.earlierWaits n t then s
    else if t.cmd.op == .flush && t.cmd.nsid == 0xFFFFFFFF then s.flushAll n t
    else
      match (s.ns t.cmd.nsid).state with
      | .unused => s.finishFused n .invalidNs .fusedFailed
      | .heldNs => s.setTask n { t with state := .held }
      | st =>
        if st == .remote || (st == .releasing && !t.beforeMoveBegin) then
          (if isInbound t.ctx then s.finishFused n (.internal 0x0201) (.internal 0x0201) else s.forward n)
        else if s.resvExcludes t.cmd then s.finishFused n .resvConflict .fusedFailed
        else if s.pastEnd t then s.finishFused n .lbaRange .fusedFailed
        else if t.cmd.op == .fusedCompare && !((t.fusedWith.bind s.task?).any fun u => s.fusedOk t u) then
          s.finishFused n .invalidField .fusedFailed
        else if (s.gly.supply.any (·.guard)) && t.cmd.op.isWriteMode then s.guardHold n
        else if s.sourceWaits n t || !s.locksFree (isInbound t.ctx) t.cmd.lockCount then
          let s := (s.setTask n { t with state := .held }).raise F.CHS_INT_STATUS_LOCKS_FULL
          { s with chs := { s.chs with input := if s.chs.input.contains n then s.chs.input else s.chs.input ++ [n] } }
        else
          ({ s with chs := { s.chs with input := s.chs.input.filter (· != n) } }).stamp n

/-- A command handed over by Stick meets Chase (R102). -/
def execChaseStamp (slot : Nat) (s : State) : Out1 := .next (s.handOver slot)

/-- STAMP_HOLD stops or resumes handover from Stick (R8). -/
def execStampHoldWrite (v : Bool) (s : State) : Out1 := .next (s.wr F.CHS_CTRL_STAMP_HOLD (bit v))

/-- Stamps a command that Chase has not met yet, so that its own row can run it. -/
def State.stamped (s : State) (n : Nat) (op : Opcode) : State :=
  match s.task? n with
  | some t => if t.cmd.op == op && (t.state == .fetched || (t.state == .held && op == .flush)) then s.handOver n else s
  | none => s

/-- The command of a slot, when it is dispatched and of the given kind. [DESIGN CHOICE: notes/assumptions/7.md] -/
def State.running (s : State) (n : Nat) (op : Opcode) : Option Task :=
  (s.task? n).filter fun t => t.cmd.op == op && t.state == .dispatched

/-- Checks that a galley hit's stored guard matches its data (R159); a namespace without PI has none. -/
def Piece.piOk (p : Piece) (v : Volume) (lba : Nat) : Bool :=
  if v.piType = 0 then true
  else
    let i := lba - p.slba
    let d := lbafData p.lbaf
    let m := lbafMeta p.lbaf
    let per := 4096 / d
    let base := i / per * 4224
    let dat := slice p.data (base + i % per * d) d
    let mta := slice p.data (base + 4096 + i % per * m) m
    beNat ((piBytes v mta).take (if v.guard64 then 8 else 2)) == guardOf v dat mta

/-- The data bytes of one block of a galley piece (R121). -/
def Piece.block (p : Piece) (lba : Nat) : Bytes :=
  let i := lba - p.slba
  let d := lbafData p.lbaf
  slice p.data (i / (4096 / d) * 4224 + i % (4096 / d) * d) d

/-- The metadata bytes of one block of a galley piece (R121). -/
def Piece.blockMeta (p : Piece) (lba : Nat) : Bytes :=
  let i := lba - p.slba
  let d := lbafData p.lbaf
  let m := lbafMeta p.lbaf
  slice p.data (i / (4096 / d) * 4224 + 4096 + i % (4096 / d) * m) m

/-- The LBA ranges of the pieces that a write is split into at its class's atomic boundaries (R110). -/
def splitRange (ub : Nat) : Nat → Nat → Nat → List (Nat × Nat)
  | 0, _, _ => []
  | fuel + 1, a, n =>
    if n = 0 ∨ ub = 0 then []
    else
      let k := min n (ub - a % ub)
      (a, k) :: splitRange ub fuel (a + k) (n - k)

/-- Blocks per atomic unit of a namespace (R110). -/
def State.unitBlocks (s : State) (nsid : Nat) : Nat :=
  let v := s.volOf nsid
  2 ^ ((s.classOf v.cls).map (·.atomLog2)).getD 19 / lbafData v.lbaf

/-- Slots that a piece of `n` blocks takes (R121). -/
def slotsFor (lbaf n : Nat) : Nat := if lbaf ≤ 2 then (n + 7) / 8 else n

/-- Descriptor numbers from here on name descriptors of the mirror control area (R116): a piece that a move adopted keeps the descriptor it had there. -/
def movedDesc : Nat := 33554432

/-- The number of the other copy's place when a move or a takeover changes who owns a piece (R116, R119). -/
def flipDesc (d : Nat) : Nat := if d < movedDesc then movedDesc + d else d - movedDesc

/-- The descriptors of the own control area in use, by number: its own pieces, and the copies of pieces that a move made the partner's. -/
def State.usedDescs (s : State) : Tab Piece :=
  s.gly.mirror.foldl (fun t p => if movedDesc ≤ p.1 then Tab.put t (p.1 - movedDesc) p.2 else t) s.gly.own

/-- The lowest free descriptor of the own control area. -/
def State.freeDesc (s : State) : Option Nat := Tab.freeKey s.usedDescs 0 movedDesc

/-- Creates the galley entries of a write-mode command, one per piece, with no data yet (R110, R123). While too few descriptors are free the command waits without entries. [DESIGN CHOICE: notes/assumptions/107.md] -/
def State.makePieces (s : State) (n : Nat) (t : Task) (kind : PieceKind) (whole : Bool) : State :=
  let v := s.volOf t.cmd.nsid
  let ub := s.unitBlocks t.cmd.nsid
  let rs := t.cmd.ranges.flatMap fun r => if whole then [r] else splitRange ub (r.2 + 1) r.1 r.2
  if movedDesc < s.usedDescs.length + rs.length then s
  else rs.foldl (fun s r =>
    match s.freeDesc with
    | none => s
    | some d =>
      let gen := Tab.get 0 s.gly.gens d + 1
      let p : Piece := { stamp := t.stamp, nsid := t.cmd.nsid, cls := v.cls, owner := s.head, kind := kind, nlb := r.2, slba := r.1, slotCnt := if kind == .write || kind == .cawHalf then slotsFor v.lbaf r.2 else 0, lbaf := v.lbaf, gen := gen % 2 ^ 32, task := some n, tag := if kind == .zeroes then t.cmd.pi.appTag else 0 }
      let s := { s with gly := { s.gly with own := Tab.put s.gly.own d p, gens := Tab.set 0 s.gly.gens d (gen % 2 ^ 32) } }
      s.modTask n fun t => { t with pieces := t.pieces ++ [d] }) s

/-- Capacity row 3 stops new grains with 0x0502, row 2 with 0x0501 (R302). -/
def State.rowStatus (s : State) : Option Status :=
  match s.rd F.HTH_LADDER_ROW with
  | 2 => some 0x0501
  | 3 => some 0x0502
  | _ => none

/-- A Write (R105, R110): once dispatched it is split at atomic boundaries; over RoCEv2 the head pulls the data with RDMA READ (R60). -/
def execNvmeWrite (slot : Nat) (s : State) : Out1 :=
  let s := s.stamped slot .write
  match s.running slot .write with
  | none => .next s
  | some t =>
    if t.pieces ≠ [] then .next s
    else
      .next ((s.makePieces slot t .write false).rdmaGo slot)

/-- A Write Zeroes (R104, R183): pieces that map to the zero grain; they have no data slots. -/
def execWriteZeroes (slot : Nat) (s : State) : Out1 :=
  let s := s.stamped slot .writeZeroes
  match s.running slot .writeZeroes with
  | none => .next s
  | some t => if t.pieces ≠ [] then .next s else .next (s.makePieces slot t .zeroes false)

/-- A deallocate (R104): up to 256 ranges, each a piece that removes map ranges. -/
def execDeallocate (slot : Nat) (s : State) : Out1 :=
  match s.task? slot with
  | none => .next s
  | some t =>
    if t.cmd.op == .deallocate && decide (256 < t.cmd.ranges.length) && t.state == .fetched then .next (s.finish slot .invalidField)
    else
      let s := s.stamped slot .deallocate
      match s.running slot .deallocate with
      | none => .next s
      | some t => if t.pieces ≠ [] then .next s else .next (s.makePieces slot t .deallocate false)

/-- Whether every write-mode command of a namespace with a lower stamp has been published or discarded (R113). -/
def State.flushReady (s : State) (nsid stamp : Nat) : Bool :=
  !(s.stk.slots.any fun p => p.2.cmd.nsid == nsid && p.2.cmd.op.isWriteMode && p.2.counted && decide (p.2.stamp < stamp))

/-- A Flush (R113): stamped like any other command. -/
def execNvmeFlush (slot : Nat) (s : State) : Out1 := .next (s.stamped slot .flush)

/-- A Flush completes once every lower-stamped write-mode command of its namespaces is published or discarded, and the other head's part is done (R113). -/
def execFlushComplete (slot : Nat) (s : State) : Out1 :=
  match s.running slot .flush with
  | none => .next s
  | some t =>
    let nss := if t.cmd.nsid = 0xFFFFFFFF then t.sources.map Prod.fst else [t.cmd.nsid]
    if t.waitParts = 0 ∧ nss.all (fun n => s.flushReady n t.stamp) then .next (s.finish slot .success) else .next s

end Sys2Proof.Machine
end

