-- ==== Sys2Proof/Machine/Galley.lean ====
section
/-! DEFINITION. The galley's pieces, their descriptors and mirrors, Bellows and the vault's upkeep (R121 to R146). -/

namespace Sys2Proof.Machine

/-- The first 56 bytes of a descriptor (Table 6.3). -/
def Piece.descBody (p : Piece) : Bytes :=
  let w1 := p.nsid * 2 ^ 48 + p.cls * 2 ^ 44 + p.owner * 2 ^ 43 + p.kind.code * 2 ^ 40 + bit p.commit * 2 ^ 39 + bit p.dataIn * 2 ^ 38 +
    bit p.mirrorAck * 2 ^ 37 + bit p.applied * 2 ^ 36 + bit p.isForeign * 2 ^ 35 + p.nlb
  let w3 := p.slot * 2 ^ 32 + p.slotCnt * 2 ^ 22 + p.lbaf * 2 ^ 18
  leBytes p.stamp 8 ++ leBytes w1 8 ++ leBytes p.slba 8 ++ leBytes w3 8 ++ leBytes p.digest 8 ++ leBytes p.repeatStamp 8 ++ leBytes p.arrival 8

/-- A descriptor as 64 bytes (Table 6.3): DESC_CRC is the CRC-32C of bytes 0x00 to 0x37 and stands below GEN. -/
def Piece.desc (p : Piece) : Bytes := p.descBody ++ leBytes (crc32c p.descBody + p.gen * 2 ^ 32) 8

/-- KIND of a descriptor; 5 to 7 are reserved (Table 6.3). -/
def PieceKind.ofCode : Nat → Option PieceKind
  | 0 => some .write | 1 => some .zeroes | 2 => some .deallocate | 3 => some .repeated | 4 => some .cawHalf | _ => none

/-- A descriptor read back from its 64 bytes; none when DESC_CRC, a reserved code or a reserved bit fails (R5, R123, R141). -/
def Piece.ofDesc (b : Bytes) : Option Piece :=
  let w1 := leAt b 8 8
  let w3 := leAt b 24 8
  let w7 := leAt b 56 8
  if b.length ≠ 64 ∨ w7 % 2 ^ 32 ≠ crc32c (b.take 56) ∨ 5 < bits w3 21 18 ∨ bits w1 34 32 ≠ 0 ∨ bits w3 17 0 ≠ 0 then none
  else (PieceKind.ofCode (bits w1 42 40)).map fun k =>
    { stamp := leAt b 0 8, nsid := bits w1 63 48, cls := bits w1 47 44, owner := bits w1 43 43, kind := k, commit := bitOf w1 39, dataIn := bitOf w1 38, mirrorAck := bitOf w1 37, applied := bitOf w1 36, isForeign := bitOf w1 35, nlb := bits w1 31 0, slba := leAt b 16 8, slot := bits w3 63 32, slotCnt := bits w3 31 22, lbaf := bits w3 21 18, digest := leAt b 32 8, repeatStamp := leAt b 40 8, arrival := leAt b 48 8, gen := bits w7 63 32 }

/-- Bytes padded with zeros to `n`. -/
def padTo (n : Nat) (b : Bytes) : Bytes := b ++ zeros (n - b.length)

/-- The slots of a run of blocks (R121): the data field, then the metadata field, zeros where no block stands. -/
def slotsOfBlocks (v : Volume) (bs : List (Bytes × Bytes)) : Bytes :=
  let per := 4096 / lbafData v.lbaf
  (List.range (slotsFor v.lbaf bs.length)).flatMap fun j =>
    let mine := (bs.drop (j * per)).take per
    padTo 4096 (mine.flatMap Prod.fst) ++ padTo 128 (mine.flatMap Prod.snd)

/-- Block `i` of a write command with its metadata; PRACT makes the head build the protection information (R70). -/
def writeBlock (v : Volume) (a : PiArgs) (data metaBuf : Bytes) (i : Nat) : Bytes × Bytes :=
  if piStripped v a then
    let d := slice data (i * lbafData v.lbaf) (lbafData v.lbaf)
    (d, withPi v d [] a.appTag (a.refVal + i))
  else
    let d := blockData v data i
    let m := blockMeta v data metaBuf i
    (d, if a.pract && v.piType != 0 then withPi v d m a.appTag (a.refVal + i) else m)

/-- The slots of `n` blocks of a command from block `first` (R121). -/
def slotImage (v : Volume) (a : PiArgs) (data metaBuf : Bytes) (first n : Nat) : Bytes :=
  slotsOfBlocks v ((List.range n).map fun k => writeBlock v a data metaBuf (first + k))

/-- The lowest gap of `n` slots below `cap`, among runs in rising order (R121). -/
def firstFit (cap n : Nat) : Nat → Tab Nat → Option Nat
  | lo, [] => if lo + n ≤ cap then some lo else none
  | lo, (a, k) :: rest => if lo + n ≤ a then some lo else firstFit cap n (max lo (a + k)) rest

/-- The runs of the own data area in use, by first slot: its own pieces, and the copies of pieces that a move made the partner's (R116). -/
def State.runs (s : State) : Tab Nat :=
  let own := s.gly.own.foldl (fun t e => if e.2.dataIn && !e.2.isForeign && decide (0 < e.2.slotCnt) then Tab.put t e.2.slot e.2.slotCnt else t) []
  s.gly.mirror.foldl (fun t e => if decide (movedDesc ≤ e.1) && decide (0 < e.2.slotCnt) then Tab.put t e.2.slot e.2.slotCnt else t) own

/-- Slots of the own data area (R120, R121). -/
def State.slotCap (s : State) : Nat := s.galleyGib * 2 ^ 30 / 4224

/-- Own data slots that hold unreleased pieces, which GLY_USED reports. -/
def State.glyUsed (s : State) : Nat := (s.runs.map Prod.snd).sum

/-- The volume that a piece is written to: its namespace's, or the one that an internal channel names (R337, R338). -/
def State.pieceVolNum (s : State) (p : Piece) : Nat := if p.volume = 0 then (s.ns p.nsid).volume else p.volume

/-- The record of the volume that a piece is written to. -/
def State.pieceVol (s : State) (p : Piece) : Volume := Tab.get {} s.vols (s.pieceVolNum p)

/-- Replaces an own piece. -/
def State.setPiece (s : State) (d : Nat) (p : Piece) : State :=
  { s with gly := { s.gly with own := Tab.put s.gly.own d p } }

/-- The FWD_ID of the forwarded command that a piece belongs to, or 0. -/
def State.pieceFwd (s : State) (p : Piece) : Nat :=
  match p.task.bind s.task? with
  | some t => if isInbound t.ctx then t.fwdId else 0
  | none => 0

/-- Sends a piece to the partner (R124, R349): its slots in runs of at most 15, then its descriptor. A repeat piece goes as its descriptor only (R24). -/
def State.mirrorPiece (s : State) (d : Nat) (p : Piece) : State :=
  let chunks := if p.slotCnt = 0 then [] else chunksOf (15 * 4224) p.data
  let s := s.sendAll ((chunks.zipIdx).map fun c => .anv .mirrorData pairChan [p.slot + 15 * c.2, c.1.length / 4224] c.1)
  s.anvil .mirrorDesc pairChan [d, s.pieceFwd p] p.desc

/-- Whether pieces are mirrored now: when Paired, and from step 4 of Joining on (Table 16.5). -/
def State.mirrors (s : State) : Bool := s.paired || s.gly.mirroring

/-- The grains that a piece covers whole, by grain index of the volume (R151). -/
def Piece.wholeGrains (p : Piece) : List Nat :=
  let d := lbafData p.lbaf
  let lo := (p.slba * d + 8191) / 8192
  let hi := (p.slba + p.nlb) * d / 8192
  (List.range (hi - lo)).map (lo + ·)

/-- Every grain that a piece touches. -/
def Piece.allGrains (p : Piece) : List Nat :=
  let d := lbafData p.lbaf
  let lo := p.slba * d / 8192
  let hi := ((p.slba + p.nlb) * d + 8191) / 8192
  (List.range (hi - lo)).map (lo + ·)

/-- The data bytes of one whole grain of a piece. -/
def Piece.grainData (p : Piece) (g : Nat) : Bytes :=
  let d := lbafData p.lbaf
  (List.range (8192 / d)).flatMap fun i => p.block (g * 8192 / d + i)

/-- The metadata bytes of the LBAs of one whole grain of a piece. -/
def Piece.grainMeta (p : Piece) (g : Nat) : List Bytes :=
  let d := lbafData p.lbaf
  (List.range (8192 / d)).map fun i => p.blockMeta (g * 8192 / d + i)

/-- The application tag in one block's metadata. -/
def appTagOf (v : Volume) (m : Bytes) : Nat := beNat (slice (piBytes v m) (if v.guard64 then 8 else 2) 2)

/-- Whether a grain carries a trailer (Table 7.2). -/
def hasTrailer (v : Volume) (ms : List Bytes) : Bool :=
  if lbafMeta v.lbaf = 0 then false
  else if v.piType = 1 then !(ms.all fun m => appTagOf v m == appTagOf v (ms.headD []))
  else true

/-- The grains of a piece that map to the zero grain (R183): all bytes zero and no trailer; every grain of a Write Zeroes or deallocate piece. [DEDUCED: notes/assumptions/55.md] -/
def Piece.zeroes (p : Piece) (v : Volume) : List Nat :=
  match p.kind with
  | .zeroes => p.wholeGrains
  | .deallocate => p.wholeGrains
  | _ => p.wholeGrains.filter fun g => allZero (p.grainData g) && !hasTrailer v (p.grainMeta g)

/-- The slots that a run of blocks of a piece would take, with no volume but its format. -/
def Piece.runSlots (p : Piece) (lba n : Nat) : Bytes :=
  slotsOfBlocks { lbaf := p.lbaf } ((List.range n).map fun i => (p.block (lba + i), p.blockMeta (lba + i)))

/-- Whether a piece is made of whole grains alone. -/
def Piece.isWhole (p : Piece) : Bool := !p.wholeGrains.isEmpty && p.wholeGrains.length * 8192 == p.nlb * lbafData p.lbaf

/-- Whether a run of `n` blocks lies inside a piece. -/
def Piece.holdsRun (p : Piece) (lba n : Nat) : Bool := decide (p.slba ≤ lba) && decide (lba + n ≤ p.slba + p.nlb)

/-- Where a piece of whole grains repeats another (R24, R151): the first LBA of the run of whole grains there whose slots are byte for byte the same. -/
def Piece.runOf (q p : Piece) : Option Nat :=
  let d := lbafData q.lbaf
  if q.lbaf ≠ p.lbaf ∨ q.kind = .repeated then none
  else (q.wholeGrains.map fun g => g * 8192 / d).find? fun a => q.holdsRun a p.nlb && q.runSlots a p.nlb == p.data

/-- Repeat detection (R24): the first grain's CRC-64 is in the repeat table, taken in within the last 100 ms, and names an earlier grain still held in both galleys, and from there on every grain of the piece is byte for byte the same. De-duplication never crosses a realm or an algorithm (R181). [DEDUCED: notes/assumptions/31.md] -/
def State.repeatOf (s : State) (p : Piece) : Option Piece :=
  let v := s.pieceVol p
  let near := s.gly.repeats.filter fun e => decide (s.now ≤ e.time + 100000000) && e.crc == crc64 (p.grainData (p.wholeGrains.headD 0))
  if !p.isWhole || !s.mirrors then none
  else near.findSome? fun e => (Tab.find s.gly.own e.desc).filter fun q =>
    let w := s.pieceVol q
    q.stamp == e.stamp && q.mirrorAck && q.kind != .repeated && q.lbaf == p.lbaf && decide (0 < q.slotCnt) && v.realm == w.realm &&
      ((s.classOf v.cls).map (·.alg)) == ((s.classOf w.cls).map (·.alg)) && q.holdsRun e.lba p.nlb && q.runSlots e.lba p.nlb == p.data

/-- Takes the grains of a piece into the repeat table of 4,194,304 entries, which covers 100 ms (R24); those of a repeat piece name the piece whose slots hold them. [DEDUCED: notes/assumptions/31.md] -/
def State.noteRepeats (s : State) (d : Nat) (p : Piece) (source : Option (Nat × Piece)) : State :=
  let fresh := s.gly.repeats.filter fun e => decide (s.now ≤ e.time + 100000000)
  let (k, q, base) := match source.bind fun x => (x.2.runOf p).map fun a => (x.1, x.2, a) with
    | some x => x
    | none => (d, p, p.slba)
  let new := p.wholeGrains.map fun g => (⟨crc64 (p.grainData g), q.stamp, k, base + g * 8192 / lbafData p.lbaf - p.slba, s.now⟩ : RepeatEntry)
  { s with gly := { s.gly with repeats := (new ++ fresh).take 4194304 } }

/-- The piece that a repeat piece repeats, with its descriptor and the first LBA of the run there (R24, R151). -/
def State.repeatSource (s : State) (p : Piece) : Option (Nat × Piece × Nat) :=
  if p.kind ≠ .repeated ∨ p.repeatStamp = 0 then none
  else s.gly.own.findSome? fun e => if e.2.stamp = p.repeatStamp then (e.2.runOf p).map fun a => (e.1, e.2, a) else none

/-- A piece is lost (R150, R159): it is discarded here and at the partner, and its LBAs are listed with cause 4. -/
def State.loseOne (s : State) (d : Nat) : State :=
  match Tab.find s.gly.own d with
  | none => s
  | some p =>
    let s := (((s.discardPiece d).listLost p.nsid p.slba p.nlb 4).raise F.GLY_INT_STATUS_PIECE_LOST)
    if s.mirrors then s.anvil .release pairChan [d, p.gen] else s

/-- A piece whose slots are lost takes with it the repeat pieces whose bytes they hold (R24, R159). -/
def State.losePiece (s : State) (d : Nat) : State :=
  (d :: Tab.keysWhere s.gly.own fun _ p => (s.repeatSource p).any fun x => x.1 == d).foldl State.loseOne s

/-- Whether an own repeat piece still needs the slots of a piece: one that is not applied with durable records (R17, R24). -/
def State.isRepeated (s : State) (q : Piece) : Bool :=
  q.kind != .repeated && s.gly.own.any fun e => e.2.kind == .repeated && e.2.repeatStamp == q.stamp && !(e.2.applied && e.2.journalled) && (q.runOf e.2).isSome

/-- Writes bytes to the galley log (R129): whole 64 KiB positions on both plates of the pair, as GMP takes them. None while no pair with room is reserved. [DEDUCED: notes/assumptions/121.md] -/
def State.logWrite (s : State) (b : Bytes) : Option State :=
  let cs := (chunksOf 65536 (padTo (roundUp b.length 65536) b)).zipIdx
  let size := (s.gly.logPlates.head?.map fun w => 2 ^ (s.module w.1).plateLog2 / 65536).getD 0
  if s.gly.logPlates.length ≠ 2 ∨ size < s.gly.logPos + cs.length then none
  else
    let s := cs.foldl (fun s c => s.gly.logPlates.foldl (fun (s : State) w => s.gmpSend w.1 { op := Gmp.write, plate := w.2, offset := (s.gly.logPos + c.2) * 1024, length := 65536 } c.1 .plain) s) s
    some { s with gly := { s.gly with logPos := s.gly.logPos + cs.length } }

/-- A piece and its descriptor go to the galley log, while pieces are published on flash (R129). [DEDUCED: notes/assumptions/121.md] -/
def State.logPiece (s : State) (d : Nat) : State :=
  match Tab.find s.gly.own d with
  | none => s
  | some p =>
    if p.inLog || !p.dataIn || p.commit || s.ackWhere != .flash then s
    else match s.logWrite (p.desc ++ p.data) with
      | none => s
      | some s => s.setPiece d { p with inLog := true }

/-- The slots and descriptor of a piece once it has a run: data, DIGEST, ARRIVAL, DATA_IN and the zero-grain marks (R121, R123, R124, R183); the piece then goes to the partner. A repeat piece keeps no slots, and its DIGEST is that of the slots it repeats (R24). [DEDUCED: notes/assumptions/31.md] -/
def State.takeIn (s : State) (d slot : Nat) (p : Piece) (img : Bytes) : State :=
  let v := s.pieceVol p
  let p := { p with data := img, slot := slot, arrival := s.now, dataIn := true }
  let p := { p with digest := crc64 img }
  let p := match if p.kind == .write then s.repeatOf p else none with
    | some q => { p with kind := .repeated, repeatStamp := q.stamp, slot := 0, slotCnt := 0 }
    | none => p
  let p := { p with zeroGrains := p.zeroes v }
  let s := s.noteRepeats d p ((s.repeatSource p).map fun x => (x.1, x.2.1))
  let s := { (s.setPiece d p) with gly := { (s.setPiece d p).gly with waiting := s.gly.waiting.filter (· != d) } }
  (if s.mirrors then s.mirrorPiece d p else s).logPiece d

/-- Puts a piece at the galley's input (R121). -/
def State.pieceWaits (s : State) (d : Nat) : State :=
  if s.gly.waiting.contains d then s else { s with gly := { s.gly with waiting := s.gly.waiting ++ [d] } }

/-- Gives a piece the lowest-numbered free run that is long enough (R121), once all its data has arrived. Without one, or behind a piece that waits, it waits at the galley's input. [DESIGN CHOICE: notes/assumptions/109.md] -/
def State.placePiece (s : State) (d : Nat) (p : Piece) (img : Bytes) : State :=
  if p.slotCnt = 0 then s.takeIn d 0 p img
  else if s.gly.waiting.headD d != d then s.pieceWaits d
  else match firstFit s.slotCap p.slotCnt 0 s.runs with
    | none => s.pieceWaits d
    | some slot => s.takeIn d slot p img

/-- A piece's data lands (R121, R124). A piece of an internal channel brings its slots with it. -/
def State.landPiece (s : State) (d : Nat) : State :=
  match Tab.find s.gly.own d with
  | none => s
  | some p =>
    if p.dataIn then s
    else if p.repl.isSome then s.placePiece d p p.data
    else match p.task.bind s.task? with
      | none => s
      | some t =>
        let first := (t.cmd.ranges.head?.map fun r => p.slba - r.1).getD 0
        if p.kind == .zeroes || p.kind == .deallocate then s.takeIn d 0 p []
        else if !t.complete then s
        else s.placePiece d p (slotImage (s.pieceVol p) t.cmd.pi t.data t.cmd.metaBuf first p.nlb)

/-- PIECE_DATA_LAND (R121). `buf` is what a PCIe read of the host's buffer brings with it; empty when the data came otherwise. [DESIGN CHOICE: notes/assumptions/26.md] -/
def execPieceDataLand (d : Nat) (buf : Bytes) (s : State) : Out1 :=
  let s := match (Tab.find s.gly.own d).bind (·.task) with
    | some n => s.hostBuffer n buf
    | none => s
  .next (s.landPiece d)

/-- A run long enough for the oldest waiting piece is free (R121). -/
def execGalleyRunAvailable (s : State) : Out1 :=
  match s.gly.waiting with
  | [] => .next s
  | d :: _ => .next (s.landPiece d)

/-- The local DRAM write of a piece completes (R124). -/
def execLocalDramWriteComplete (d : Nat) (s : State) : Out1 :=
  match Tab.find s.gly.own d with
  | some p => if p.dataIn then .next (s.setPiece d { p with localDone := true }) else .next s
  | none => .next s

/-- Whether a synchronous session still owes its target a piece (R340). [DEDUCED: notes/assumptions/96.md] -/
def State.pieceOwed (s : State) (d : Nat) : Bool := s.ste.sessions.any fun e => e.2.out.any fun o => o.pieces.contains d

/-- An applied piece whose journal records are durable frees its descriptor and slots, and the partner its copy (R124). A piece that a WRITE_ACK does not cover yet is kept (R340), and so is one whose slots a repeat piece still needs (R24). [DEDUCED: notes/assumptions/31.md, notes/assumptions/96.md] -/
def execPieceRelease (d : Nat) (s : State) : Out1 :=
  match Tab.find s.gly.own d with
  | some p =>
    if p.applied && p.journalled && !s.pieceOwed d && !s.isRepeated p then
      let s := s.dropPiece d
      if s.mirrors then .next (s.anvil .release pairChan [d, p.gen]) else .next s
    else .next s
  | none => .next s

/-- Both galley-log modules must confirm a piece before it is published on flash (R129); `module2` names which of the two confirmed. A piece that has not gone to the log goes to it now. -/
def execGalleyLogConfirm (d : Nat) (module2 : Bool) (s : State) : Out1 :=
  match Tab.find s.gly.own d with
  | some p =>
    if p.dataIn ∧ s.ackWhere = .flash then
      (if p.inLog then .next (s.setPiece d { p with logged := setBits p.logged (bit module2) (bit module2) 1 }) else .next (s.logPiece d))
    else .next s
  | none => .next s

/-- STATUS goes to the partner once a second (R127, Table 16.3): mode, flags, E, E_req, E_cov and the time base. -/
def execStatusSendTimer (s : State) : Out1 :=
  let flags := bit (s.on F.ANV_PAIR_PARKED) + 2 * bit (s.on F.GLY_VAULT_UNUSABLE)
  if s.on F.ANV_CTRL_ENABLE then
    .next (s.anvil .status pairChan [s.fm.mode.code, flags, s.energy, joulesUp s.eReq, joulesUp s.eCov, s.now])
  else .next s

/-- No STATUS has arrived for 3 s: the partner's E counts as 0 (R127). -/
def execPartnerStatusTimeout (s : State) : Out1 :=
  if s.gly.peer.seen ∧ s.gly.lastStatus + 3000000000 ≤ s.now then
    .next ({ s with gly := { s.gly with peer := { s.gly.peer with e := 0, seen := false } } }).galleyEval
  else .next s

/-- The head leaves unprotected-galley mode (R128): its cause has been false, with the margin for an energy cause, for 60 s; a mode entered when Forming ended does not wait (R131). [DEDUCED: notes/assumptions/36.md] -/
def execUnprotModeExit (s : State) : Out1 :=
  let s := s.galleyEval
  match s.gly.unprot, s.gly.calmSince with
  | some _, some t0 =>
    if s.gly.unprotAtForming ∨ t0 + 60000000000 ≤ s.now then
      .next ({ s with gly := { s.gly with unprot := none, calmSince := none, unprotAtForming := false, logOld := s.gly.logOld ++ s.gly.logPlates, logPlates := [] } }).galleyEval
    else .next s
  | _, _ => .next s

/-- GLY_CTRL.FORCE_UNPROT (Table 6.9): while 1 the head runs in unprotected-galley mode. -/
def execForceUnprotWrite (v : Bool) (s : State) : Out1 := .next (s.wr F.GLY_CTRL_FORCE_UNPROT (bit v)).galleyEval

/-- E is taken as 0 until three good reads in a row (R131). -/
def State.packLost (s : State) : State :=
  (({ s with gly := { s.gly with good := 0 } }).setEnergy 0 true).raise F.GLY_INT_STATUS_BELLOWS

/-- Whether the head reads the pack: from Forming step 4 on (R131). -/
def State.bellowsOn (s : State) : Bool := s.serving || s.fm.mode == .halted || (s.fm.mode == .forming && decide (3 ≤ s.fm.formStep))

/-- The pack has been silent for 3 s (R131): what was read before it no longer counts towards three good reads in a row. -/
def State.packSilent (s : State) : State :=
  if s.now < s.gly.lastAnswer + 3000000000 then s
  else if s.on F.GLY_BELLOWS_STALE then { s with gly := { s.gly with good := 0 } }
  else s.packLost

/-- A transfer of the pack failed PEC (R130, R131): three in a row lose the pack. -/
def State.pecFail (s : State) : State :=
  let s := { s with gly := { s.gly with pecFails := s.gly.pecFails + 1, good := 0, lastAnswer := s.now } }
  if 3 ≤ s.gly.pecFails && !s.on F.GLY_BELLOWS_STALE then s.packLost else s

/-- The address of the pack on its bus (R130). -/
def bellowsAddr : Nat := 0x5A

/-- The once-a-second read of ENERGY and STATUS (R130, R131): a PEC failure counts, three in a row or STATUS bit 1 lose the pack, and three good reads in a row bring it back. -/
def execBellowsPoll (energy status : Nat) (pecOk : Bool) (s : State) : Out1 :=
  if !s.bellowsOn then .next s else
  let s := ((s.packSilent).send (.bellows bellowsAddr 0x10 0)).send (.bellows bellowsAddr 0x11 0)
  if !pecOk then .next s.pecFail
  else
    let s := ({ s with gly := { s.gly with pecFails := 0, lastAnswer := s.now } }).wr F.GLY_BELLOWS_STATUS status
    if bitOf status 1 then .next s.packLost
    else
      let good := s.gly.good + 1
      let s := { s with gly := { s.gly with good := good } }
      let e := match s.gly.loadCap with
        | some c => min c energy
        | none => energy
      if s.on F.GLY_BELLOWS_STALE && decide (good < 3) then .next s
      else .next (s.setEnergy e false)

/-- The pack has not answered for 3 s (R131). -/
def execBellowsTimeout (s : State) : Out1 := .next (if s.bellowsOn then s.packSilent else s)

/-- A dump set, A or B. -/
def State.dumpSet (s : State) (b : Bool) : DumpSet := if b then s.gly.setB else s.gly.setA

/-- Replaces a dump set. -/
def State.setDump (s : State) (b : Bool) (d : DumpSet) : State :=
  { s with gly := if b then { s.gly with setB := d } else { s.gly with setA := d } }

/-- The blocks of a released set are erased for the next dump (R134, R145); a set that is not released stays as it is. -/
def execVaultSetErase (b : Bool) (s : State) : Out1 :=
  if (s.dumpSet b).released then .next (s.setDump b { released := true, erased := true, seq := (s.dumpSet b).seq }) else .next s

/-- The background 6+1 rewrite of the reserved area ends (R133). -/
def execVaultRestripeDone (s : State) : Out1 :=
  .next ({ s with gly := { s.gly with restripe := false } })

/-- Whether a piece restored as descriptor `d` of generation `gen` is safe (R145): applied with durable records, or standing again in both galleys, whichever head owns it now; one that is gone has been released. -/
def State.pieceSafe (s : State) (d gen : Nat) : Bool :=
  let mine (k : Nat) : Option Piece := (Tab.find s.gly.own k).filter fun p => p.gen == gen
  let theirs (k : Nat) : Option Piece := (Tab.find s.gly.mirror k).filter fun p => p.gen == gen
  match (mine d).orElse fun _ => mine (flipDesc d) with
  | some p => (p.applied && p.journalled) || (p.mirrorAck && s.paired)
  | none => ((theirs d).isNone && (theirs (flipDesc d)).isNone) || s.paired

/-- Whether every piece restored from a set is safe (R145), own and mirror pieces alike. -/
def State.restoredSafe (s : State) (b : Bool) : Bool :=
  ((s.dumpSet b).own ++ (s.dumpSet b).mirror).all fun e => s.pieceSafe e.1 e.2.gen

/-- The release mark of a dump set is written (R145): its restored pieces are safe and a checkpoint stands, or Table 6.8 did not need it and Joining has ended. -/
def execDumpSetRelease (b : Bool) (s : State) : Out1 :=
  let d := s.dumpSet b
  let needed := s.gly.restored == some b && !s.gly.unneeded
  if d.released ∨ !d.written then .next s
  else if (needed && s.restoredSafe b && s.gly.ckptSince) || (!needed && s.inMode [.paired, .solo, .handback, .activation]) then
    .next (({ (s.setDump b { d with released := true }) with gly := { (s.setDump b { d with released := true }).gly with restored := if s.gly.restored == some b then none else s.gly.restored } }))
  else .next s

end Sys2Proof.Machine
end

