-- ==== Sys2Proof/Machine/Tables.lean ====
section
/-! DEFINITION. Matrix's tables as they are laid out: grain-table entries, fingerprint records, overflow counters, index buckets and filter blocks (R186 to R193). -/

namespace Sys2Proof.Machine

/-- Whether an entry's state is one in which it names a sort (Table 9.2). -/
def GrainState.placed : GrainState → Bool
  | .live | .deferred | .lost => true
  | _ => false

/-- A grain-table entry as its 16 bytes (Table 9.2). -/
def Grain.words (e : Grain) : Bytes :=
  let w := match e.state with
    | .isAlias => e.aliasOf
    | .free => e.nextFree
    | .inFlight | .deferredPending => 0
    | _ => e.addr
  leBytes w 8 ++ leBytes ((if e.state.placed then e.units else 0) * 2 ^ 56 + e.gen * 2 ^ 40 + e.state.code * 2 ^ 37 + e.fpalg * 2 ^ 35 + bit e.ovf * 2 ^ 34 + bit e.noindex * 2 ^ 33 + e.refcnt) 8

/-- Where an entry stands in its half's grain table (R186). -/
def grainEntryAt (index : Nat) : Nat := index * 16

/-- A fingerprint record (R187): zero where the grain has none, as Deferred, Alias and NOINDEX grains do. -/
def Grain.fpRecord (e : Grain) : Bytes := e.fp.getD (zeros 32)

/-- A counter of the overflow table (R189, Table 13.5): the count, then zero. -/
def Grain.ovfCounter (e : Grain) : Bytes := leBytes (if e.ovf then e.wide else 0) 8 ++ zeros 8

/-- An index entry as its 48 bytes (Table 9.5). -/
def IndexEntry.bytes (e : IndexEntry) : Bytes :=
  let b := e.fp ++ leBytes e.gid 8 ++ leBytes (e.realm * 2 ^ 20 + e.fpalg * 2 ^ 18) 4
  b ++ leBytes (crc32c b) 4

/-- Entries in one bucket (R193). -/
def bucketEntries : Nat := 84

/-- One bucket as its 4,096 bytes (R193): the header's fields in the order in which R193 names them, then the entries; the CRC stands as zero while it is taken. [DESIGN CHOICE: notes/assumptions/128.md] -/
def bucketBytes (num seq next : Nat) (es : List IndexEntry) : Bytes :=
  let head (crc : Nat) := leBytes num 8 ++ leBytes es.length 1 ++ leBytes seq 8 ++ leBytes next 8 ++ leBytes crc 4 ++ zeros 35
  let body := es.flatMap IndexEntry.bytes
  let rest := body ++ zeros (4032 - body.length)
  head (crc32c (head 0 ++ rest)) ++ rest

/-- The index entries of one bucket of 4,096 bytes; none when its CRC fails. [DEDUCED: notes/assumptions/133.md] -/
def entriesOf (b : Bytes) : List IndexEntry :=
  let n := leAt b 8 1
  if b.length ≠ 4096 ∨ leAt b 25 4 ≠ crc32c (b.take 25 ++ zeros 4 ++ b.drop 29) then []
  else (List.range n).map fun i =>
    let e := slice b (64 + 48 * i) 48
    ⟨e.take 32, leAt e 32 8, leAt e 40 4 / 2 ^ 20, bits (leAt e 40 4) 19 18⟩

/-- The runs of at most 84 entries in which a bucket chain lies: the bucket's own, and one for each overflow bucket (R193). -/
def bucketRuns : Nat → List IndexEntry → List (List IndexEntry)
  | 0, _ => []
  | n + 1, l => if l.length ≤ bucketEntries then [l] else l.take bucketEntries :: bucketRuns n (l.drop bucketEntries)

/-- The buckets of a half as (bucket number, bytes): the primary ones, and behind their range the overflow buckets, numbered in the order of the buckets that they continue (R193, Table 13.5). [DESIGN CHOICE: notes/assumptions/128.md] -/
def bucketImages (slots : Nat) (bs : Tab Bucket) : List (Nat × Bytes) :=
  let top := (slots + 63) / 64
  (bs.foldl (fun (acc : Nat × List (Nat × Bytes)) b =>
    let runs := bucketRuns (b.2.entries.length + 1) b.2.entries
    let spare := runs.length - 1
    let nums := b.1 :: (List.range spare).map (acc.1 + ·)
    let out := (nums.zip runs).zipIdx.map fun x => (x.1.1, bucketBytes x.1.1 b.2.seq (if x.2 < spare then acc.1 + x.2 else 0) x.1.2)
    (acc.1 + spare, acc.2 ++ out)) (top, [])).2

/-- A bucket rebuilt from the fingerprint table and the grain table (R193). -/
def State.rebuiltBucket (s : State) (hb : Bool) (num : Nat) : List IndexEntry :=
  (s.half hb).grains.filterMap fun g =>
    match g.2.fp with
    | some fp => if g.2.state ≠ .free ∧ (filterPlace (s.halfSlots hb) fp).1 / 64 = num then some ⟨fp, mkGid hb g.2.gen g.1, g.2.realm, g.2.fpalg⟩ else none
    | none => none

/-- The fingerprints of a filter in the order of their home slots, and within a run of their remainders. -/
def filterSorted (f : List (Nat × Nat)) : List (Nat × Nat) :=
  f.foldl (fun l p => l.takeWhile (fun q => decide (q.1 * 2 ^ 18 + q.2 ≤ p.1 * 2 ^ 18 + p.2)) ++ [p] ++ l.dropWhile fun q => decide (q.1 * 2 ^ 18 + q.2 ≤ p.1 * 2 ^ 18 + p.2)) []

/-- Where a rank-and-select quotient filter puts its remainders: (slot, home slot, remainder), each at its home slot or the first slot behind the remainders before it (R191). -/
def filterLayout (f : List (Nat × Nat)) : List (Nat × Nat × Nat) :=
  ((filterSorted f).foldl (fun (acc : Nat × List (Nat × Nat × Nat)) p => let at_ := max acc.1 p.1; (at_ + 1, acc.2 ++ [(at_, p.1, p.2)])) (0, [])).2

/-- A filter block as its 64 bytes (Table 9.4). -/
def filterBlock (f : List (Nat × Nat)) (block : Nat) : Bytes :=
  let l := filterLayout f
  let first := block * 24
  let ends (x : Nat × Nat × Nat) : Bool := !(l.any fun y => y.2.1 == x.2.1 && decide (x.1 < y.1))
  let mask (p : Nat → Bool) : Nat := ((List.range 24).map fun i => bit (p (first + i)) * 2 ^ i).sum
  let reach := ((l.filter fun x => decide (x.2.1 ≤ first)).map fun x => x.1).foldl max 0
  let rems := ((List.range 24).map fun i => ((l.find? fun x => x.1 == first + i).map (·.2.2)).getD 0 * 2 ^ (18 * i)).sum
  leBytes (reach - first) 2 ++ leBytes (mask fun n => l.any fun x => x.2.1 == n) 3 ++ leBytes (mask fun n => l.any fun x => x.1 == n && ends x) 3 ++ leBytes rems 54 ++ zeros 2

/-- What a filter answers about a fingerprint (R191): maybe present, where its home slot holds its remainder. -/
def filterMaybe (slots : Nat) (f : List (Nat × Nat)) (fp : Bytes) : Bool := f.contains (filterPlace slots fp)

end Sys2Proof.Machine
end

