-- ==== Sys2Proof/Machine/Matrix.lean ====
section
/-! DEFINITION. Matrix: lookups, counts, queries between heads, half loads and catch-up (R181 to R202). -/

namespace Sys2Proof.Machine

/-- The half of a fingerprint (R182). -/
def fpHalf (fp : Bytes) : Bool := bitOf (byteAt fp 0) 7

/-- Changes the state of a half, with HALF_CHG (Table 9.9). -/
def State.halfTo (s : State) (h : Bool) (st : HalfState) : State :=
  if (s.half h).state = st then s
  else (s.setHalf h { s.half h with state := st }).raise F.MTX_INT_STATUS_HALF_CHG

/-- The lowest unallocated index or the head of the free chain, with the generation it takes (R185), as an ALLOC record. -/
def State.allocRec (s : State) (hb : Bool) : Nat × JRec :=
  let h := s.half hb
  if h.freeHead = 0 then
    let g := mkGid hb 0 (h.hwm + 1)
    (g, .alloc g 0)
  else
    let e := Tab.get {} h.grains h.freeHead
    let g := mkGid hb (e.gen + 1) h.freeHead
    (g, .alloc g e.nextFree)

/-- Allocates a grain ID in a half with the records that follow its ALLOC (R185): a new mark goes to the persistent state every 2^24 allocations. -/
def State.allocate (s : State) (hb : Bool) (more : Nat → List JRec) : Nat × State :=
  let (g, r) := s.allocRec hb
  let mark := allocMark (s.half hb).hwm
  let s := s.mtxJournal (r :: more g)
  (g, if mark < allocMark (s.half hb).hwm then s.shareState 9 (bit hb) else s)

/-- Adds a pin of a head for a piece (R190). -/
def State.pin (s : State) (g head piece : Nat) : State := s.modGrain g fun e => { e with pins := (head, piece) :: e.pins }

/-- The loads at which a filter alarms, closes and reopens (R192). -/
def State.filterCheck (s : State) (hb : Bool) : State :=
  let h := s.half hb
  let n := h.filter.length
  let high := h.slots != 0 && decide (90 * h.slots ≤ 100 * n)
  let s := if high && !h.high then (s.raise F.MTX_INT_STATUS_FILTER_HIGH).alarm .mtx .filterFull 0 [bit hb, n] else s
  let full := h.slots != 0 && decide (95 * h.slots ≤ 100 * n)
  let s := if full && !h.closed then s.raise F.MTX_INT_STATUS_FILTER_FULL else s
  let closed := if full then true else if 100 * n < 93 * h.slots then false else h.closed
  s.setHalf hb { s.half hb with high := high, closed := closed }

/-- RESULT codes of Table 9.7. -/
inductive MtxResult
  | found | new | adopt | full | deferred | done | stale | nofp | invalid
deriving DecidableEq, Repr

/-- RESULT codes as numbers (Table 9.7). -/
def MtxResult.code : MtxResult → Nat
  | .found => 0 | .new => 1 | .adopt => 2 | .full => 3 | .deferred => 4 | .done => 5 | .stale => 6 | .nofp => 7 | .invalid => 15

/-- Index entries of a bucket chain that carry a fingerprint, realm and algorithm (R194). -/
def State.matching (s : State) (fp : Bytes) (realm alg : Nat) : List IndexEntry :=
  let h := s.half (fpHalf fp)
  (Tab.get {} h.buckets ((filterPlace (s.halfSlots (fpHalf fp)) fp).1 / 64)).entries.filter fun e => e.fp == fp && e.realm == realm && e.fpalg == alg

/-- Whether an index entry matches a grain that a lookup may return (R194). -/
def State.entryLive (s : State) (e : IndexEntry) : Bool :=
  match s.grain? e.gid with
  | some g => g.state == .inFlight || g.state == .live
  | none => false

/-- Whether lookups of a half are deferred: it is Loading or Borrowed, or Matrix is not enabled (R194, Table 9.9). -/
def State.defers (s : State) (hb : Bool) : Bool :=
  (s.half hb).state == .loading || (s.half hb).state == .borrowed || !s.on F.MTX_CTRL_ENABLE

/-- Adds an index to the deferred ranges of its half (R199). -/
def addRange (i : Nat) (l : List (Nat × Nat)) : List (Nat × Nat) :=
  match l.reverse with
  | (a, b) :: rest => if b + 1 = i then (rest.reverse) ++ [(a, i)] else l ++ [(i, i)]
  | [] => [(i, i)]

/-- A grain joins the deferred ranges of its half, which stand in the persistent state (R199). -/
def State.deferGrain (s : State) (g : Nat) : State :=
  let hb := gidHalf g
  (s.setHalf hb { s.half hb with deferred := addRange (gidIndex g) (s.half hb).deferred }).shareState 10 (bit hb)

/-- Allocates a grain as NOINDEX in a half (R192, R197): counted, In flight, placed by `head`. [DEDUCED: notes/assumptions/40.md] -/
def State.allocNoindex (s : State) (hb : Bool) (realm alg head piece : Nat) : Nat × State :=
  let (g, s) := s.allocate hb fun _ => []
  let s := s.inc F.MTX_NOINDEX_CNT_NOINDEX
  (g, (s.modGrain g fun e => { e with noindex := true, placer := some head, realm := realm, fpalg := alg }).pin g head piece)

/-- A lookup at the holder of a half (R194). [DEDUCED: notes/assumptions/40.md] -/
def State.lookup (s : State) (fp : Bytes) (realm alg head piece : Nat) : MtxResult × Nat × State :=
  let hb := fpHalf fp
  let s := s.inc F.MTX_LOOKUP_CNT_LOCAL
  if s.defers hb then
    let (g, s) := s.allocate hb fun _ => []
    let s := s.modGrain g fun e => { e with state := .deferredPending, placer := some head, realm := realm, fpalg := alg }
    (.deferred, g, (s.deferGrain g).pin g head piece)
  else
    let maybe := filterMaybe (s.halfSlots hb) (s.half hb).filter fp
    let cand := if maybe then s.matching fp realm alg else []
    let stale := cand.takeWhile fun e => !s.entryLive e
    let hit := cand.find? s.entryLive
    let dels := stale.map fun e => JRec.indexDel e.fp e.gid e.realm e.fpalg
    match hit with
    | some e =>
      let s := ((s.mtxJournal dels).inc F.MTX_FOUND_CNT_FOUND).pin e.gid head piece
      let g := s.grainAt e.gid
      if g.state = .inFlight ∧ g.placer = none then
        (.adopt, e.gid, s.modGrain e.gid fun e => { e with placer := some head })
      else (.found, e.gid, s)
    | none =>
      let s := if maybe then s.inc F.MTX_FOUND_CNT_FALSE_POS else s
      let s := (s.mtxJournal dels).filterCheck hb
      if (s.half hb).closed then
        let (g, s) := s.allocNoindex hb realm alg head piece
        (.full, g, s)
      else
        let (g, s) := s.allocate hb fun g => [.indexIns fp g realm alg]
        let s := s.modGrain g fun e => { e with placer := some head }
        (.new, g, (s.pin g head piece).filterCheck hb)

/-- Whether a local lookup would need a new grain ID (R303). -/
def State.wouldBeNew (s : State) (fp : Bytes) (realm alg : Nat) : Bool :=
  s.defers (fpHalf fp) || !((s.matching fp realm alg).any s.entryLive)

/-- The records that add `d` to a count (R188, R189): it moves into the overflow table at 0xFFFF_FFFF and back below 2^31. -/
def Grain.refRecs (e : Grain) (g : Nat) (d : Int) : List JRec :=
  if !e.ovf && decide ((0xFFFFFFFF : Int) ≤ e.refcnt + d) then [.ovf g (e.refcnt + d).toNat]
  else if e.ovf && decide ((e.wide : Int) + d < 2 ^ 31) then [.ref g d, .ovf g 0]
  else [.ref g d]

/-- The records that change a grain's references; a change through an Alias changes both counts (R200). [DEDUCED: notes/assumptions/40.md] -/
def State.refRecs (s : State) (g : Nat) (d : Int) : List JRec :=
  match s.grain? g with
  | none => []
  | some e => e.refRecs g d ++ if e.state = .isAlias then (s.grainAt e.aliasOf).refRecs e.aliasOf d else []

/-- Adds to a count at the holder, and frees what reaches 0 (R188). -/
def State.addRef (s : State) (g : Nat) (d : Int) (after : List After := []) : State :=
  let recs := s.refRecs g d
  let s := if recs.any fun r => match r with | .ovf _ n => n != 0 | _ => false then s.raise F.MTX_INT_STATUS_OVERFLOW else s
  let t := s.target g
  let s := s.mtxJournal recs after
  if d < 0 then (if t = g then s.freeIfDead g else (s.freeIfDead g).freeIfDead t) else s

/-- Records the grain that a lookup gave for one grain of a piece; a FOUND grain of a strict class still has to be compared (R197). -/
def State.noteGrain (s : State) (d g gid : Nat) (strict : Bool) : State :=
  match Tab.find s.gly.own d with
  | none => s
  | some p => s.setPiece d { p with grains := p.grains ++ [(g, gid)], verify := if strict then p.verify ++ [gid] else p.verify }

/-- The class of a piece's volume: its fingerprint algorithm and whether it verifies strictly. -/
def State.pieceClass (s : State) (p : Piece) : Option FormeClass := s.classOf (s.pieceVol p).cls

/-- The grains of a piece that need a grain ID: those it touches that do not map to the zero grain. -/
def Piece.needs (p : Piece) : List Nat := p.allGrains.filter fun g => !p.zeroGrains.contains g

/-- Whether no record may be written yet for the grains of a piece (R150): its DIGEST does not match its slots. -/
def Piece.digestOk (p : Piece) : Bool := crc64 p.data == p.digest

/-- A lookup at this head for one grain of a piece (R194, R197, R303): before publication, rows 2 and 3 of the ladder fail the command of a new grain. -/
def State.runLookup (s : State) (d g : Nat) (fp : Bytes) (realm alg : Nat) : State :=
  match Tab.find s.gly.own d with
  | none => s
  | some p =>
    match s.rowStatus, p.commit, s.wouldBeNew fp realm alg with
    | some st, false, true => (match p.task with
      | some n => s.failData n (.internal st)
      | none => s)
    | _, _, _ =>
      let (r, gid, s) := s.lookup fp realm alg s.head d
      s.noteGrain d g gid (((s.pieceClass p).map (·.strict)).getD false && r == .found && p.kind != .repeated)

/-- A 64-byte request read into its fields (Table 9.6). -/
structure MtxReq where
  op : Nat
  realm : Nat
  alg : Nat
  units : Nat
  rsv : Nat
  tag : Nat
  gid : Nat
  addr : Nat
  w3 : Nat
  fp : Bytes
deriving DecidableEq, Repr

/-- Reads a request or a response. [DEDUCED: notes/assumptions/39.md] -/
def mtxReq (b : Bytes) : MtxReq :=
  let w := leAt b 0 8
  { op := bits w 63 60, realm := bits w 59 48, alg := bits w 47 46, units := bits w 45 38, rsv := bits w 37 32, tag := bits w 31 0,
    gid := leAt b 8 8, addr := leAt b 16 8, w3 := leAt b 24 8, fp := slice b 32 32 }

/-- Whether the fields that an operation does not use are zero (R198). [DEDUCED: notes/assumptions/39.md] -/
def MtxReq.ok (q : MtxReq) : Bool :=
  let fpZero := allZero q.fp
  q.rsv == 0 && match q.op with
  | 1 => q.units == 0 && q.gid == 0 && q.addr == 0 && q.w3 == 0
  | 2 => q.realm == 0 && q.alg == 0 && q.w3 == 0 && fpZero
  | 3 => q.realm == 0 && q.alg == 0 && q.units == 0 && q.addr == 0 && q.w3 / 2 ^ 32 == 0 && fpZero
  | 4 => q.realm == 0 && q.alg == 0 && q.units == 0 && q.addr == 0 && q.w3 == 0 && fpZero
  | 5 => q.realm == 0 && q.alg == 0 && fpZero
  | 6 => q.realm == 0 && q.alg == 0 && q.units == 0 && q.addr == 0 && q.w3 == 0 && fpZero
  | 7 => q.units == 0 && q.addr == 0
  | 8 => q.realm == 0 && q.alg == 0 && q.units == 0 && q.gid == 0 && q.addr == 0 && q.w3 == 0 && fpZero
  | _ => false

/-- Answers a query on its channel; the entry leaves its task slot, so its credit goes back (R198, R347). -/
def State.mtxAnswer (s : State) (chan tag gid : Nat) (r : MtxResult) (seq : Nat := 0) (fp : Bytes := []) : State :=
  (s.anvil .matrixResp chan [] (mtxBytes r.code 0 0 0 tag gid 0 seq fp)).anvil .credit chan [1]

/-- What a row does with a query that arrives from a partner that is heard (R357): INVALID when a reserved field is not zero, nothing when the request is of another operation or this head does not hold the half. -/
def State.mtxServe (s : State) (op chan : Nat) (req : Bytes) (half : MtxReq → Bool) (act : MtxReq → State → State) : State :=
  s.hear 0x40 fun s =>
    let q := mtxReq req
    if req.length ≠ 64 ∨ q.op ≠ op then s
    else if !q.ok then s.mtxAnswer chan q.tag q.gid .invalid
    else if !s.holdsHalf (half q) then s
    else act q s

/-- A LOOKUP query from the partner (R198). -/
def execMtxLookup (chan : Nat) (req : Bytes) (s : State) : Out1 :=
  .next (s.mtxServe 1 chan req (fun q => fpHalf q.fp) fun q s =>
    let (r, g, s) := s.lookup q.fp q.realm q.alg s.peer 0
    s.mtxAnswer chan q.tag g r (if r = .found ∨ r = .adopt then 0 else s.hth.journal.seq))

/-- Records the address of a placed grain at its holder (R196): Deferred when its lookup was deferred, Live otherwise. -/
def State.placeGrain (s : State) (g addr units : Nat) (after : List After) : State :=
  let e := s.grainAt g
  let st := if e.state = .deferredPending ∨ e.state = .deferred then GrainState.deferred else GrainState.live
  (s.mtxJournal [.place g addr units st e.fpalg e.noindex] after).modGrain g fun e => { e with placer := none }

/-- A PLACE query (R196): DONE once the record is durable, STALE when the grain does not wait for the requester's placement. -/
def execMtxPlace (chan : Nat) (req : Bytes) (s : State) : Out1 :=
  .next (s.mtxServe 2 chan req (fun q => gidHalf q.gid) fun q s =>
    if s.awaits q.gid s.peer then s.placeGrain q.gid q.addr q.units [.answer chan q.tag q.gid 5]
    else s.mtxAnswer chan q.tag q.gid .stale)

/-- A REF query (R188, R190): adds DELTA, and with DELTA positive releases that many of the requester's pins. -/
def execMtxRef (chan : Nat) (req : Bytes) (s : State) : Out1 :=
  .next (s.mtxServe 3 chan req (fun q => gidHalf q.gid) fun q s =>
    let d : Int := if 2 ^ 31 ≤ q.w3 then (q.w3 : Int) - 2 ^ 32 else q.w3
    match s.grain? q.gid with
    | none => s.mtxAnswer chan q.tag q.gid .stale
    | some _ =>
      let s := s.addRef q.gid d [.answer chan q.tag q.gid 5]
      if 0 < d then s.unpin q.gid s.peer d.toNat else s)

/-- An UNPIN query (R190): a placer that gives up its pin leaves the grain to the next requester. -/
def execMtxUnpin (chan : Nat) (req : Bytes) (s : State) : Out1 :=
  .next (s.mtxServe 4 chan req (fun q => gidHalf q.gid) fun q s =>
    let s := s.unpin q.gid s.peer 1
    let s := if s.awaits q.gid s.peer then s.modGrain q.gid fun e => { e with placer := none } else s
    (s.freeIfDead q.gid).mtxAnswer chan q.tag q.gid .done)

/-- Whether an entry still holds an address (Table 9.7). -/
def State.holdsAddr (s : State) (g old : Nat) : Bool :=
  match s.grain? g with
  | some e => (e.state == .live || e.state == .deferred || e.state == .lost) && e.addr == old
  | none => false

/-- A MOVE query (Table 9.7): it writes ADDR only while the entry holds OLD_ADDR. [DEDUCED: notes/assumptions/39.md] -/
def execMtxMove (chan : Nat) (req : Bytes) (s : State) : Out1 :=
  .next (s.mtxServe 5 chan req (fun q => gidHalf q.gid) fun q s =>
    if s.holdsAddr q.gid q.w3 then
      s.mtxJournal [.move q.gid q.w3 q.addr (if q.units = 0 then (s.grainAt q.gid).units else q.units)] [.answer chan q.tag q.gid 5]
    else s.mtxAnswer chan q.tag q.gid .stale)

/-- A FETCH_FP query (Table 9.7): the fingerprint record, or NOFP when it is zero. -/
def execMtxFetchFp (chan : Nat) (req : Bytes) (s : State) : Out1 :=
  .next (s.mtxServe 6 chan req (fun q => gidHalf q.gid) fun q s =>
    match (s.grain? q.gid).bind (·.fp) with
    | some fp => s.mtxAnswer chan q.tag q.gid .done 0 fp
    | none => s.mtxAnswer chan q.tag q.gid .nofp)

/-- An INDEX_DELTA (R201): the loader applies an insert or a removal only when its journal sequence is above that of the bucket. [DEDUCED: notes/assumptions/39.md] -/
def execMtxIndexDelta (chan : Nat) (req : Bytes) (s : State) : Out1 :=
  .next (s.hear 0x40 fun s =>
    let q := mtxReq req
    if req.length ≠ 64 ∨ q.op ≠ 7 then s
    else if !q.ok then s.mtxAnswer chan q.tag q.gid .invalid
    else
      let hb := fpHalf q.fp
      let h := s.half hb
      let b := Tab.get {} h.buckets ((filterPlace (s.halfSlots hb) q.fp).1 / 64)
      let s := if h.state == .loading && decide (b.seq < q.w3) then
          (if q.gid ≠ 0 then s.indexInsert ⟨q.fp, q.gid, q.realm, q.alg⟩ q.w3
          else (s.matching q.fp q.realm q.alg).foldl (fun s e => s.indexRemove e q.w3) s)
        else s
      s.mtxAnswer chan q.tag q.gid .done)

/-- Takes the records that follow a HANDOFF into a half: pins, placers and deferred ranges, with the mark it allocates from (R201). -/
def State.takeHalf (s : State) (hb : Bool) (hwm : Nat) (pins : List (Nat × Nat)) (placers : List (Nat × Nat)) (deferred : List (Nat × Nat)) : State :=
  let h := s.half hb
  let s := s.setHalf hb { h with hwm := hwm + 2 ^ 24, deferred := deferred, peerHolds := false }
  let s := pins.foldl (fun s p => s.pin p.1 p.2 0) s
  placers.foldl (fun s p => s.modGrain p.1 fun e => { e with placer := some p.2 }) s

/-- A HANDOFF (R201): a head that was loading the half takes it over as Loaded; one that was not holds it as Borrowed. [DEDUCED: notes/assumptions/39.md] -/
def execMtxHandoff (chan : Nat) (req : Bytes) (half : Bool) (hwm : Nat) (pins placers deferred : List (Nat × Nat)) (s : State) : Out1 :=
  .next (s.hear 0x40 fun s =>
    let q := mtxReq req
    if req.length ≠ 64 ∨ q.op ≠ 8 then s
    else if !q.ok then s.mtxAnswer chan q.tag q.gid .invalid
    else
      let was := (s.half half).state
      let s := s.takeHalf half hwm pins placers deferred
      let s := if was = .loaded ∨ was = .loading then s else s.halfTo half .borrowed
      s.mtxAnswer chan q.tag q.gid .done)

/-- Steps 2 and 3 of applying a piece follow once no REF query of step 1 is out (Table 13.8); Publish.lean gives them. A response to a REF counts one down. [DEDUCED: notes/assumptions/97.md] -/
def State.refDone (s : State) (d : Nat) : State :=
  match Tab.find s.gly.own d with
  | some p => s.setPiece d { p with refs := p.refs - 1 }
  | none => s

/-- The codes of a LOOKUP response. -/
def lookupResult : Nat → Option MtxResult
  | 0 => some .found | 1 => some .new | 2 => some .adopt | 3 => some .full | 4 => some .deferred | _ => none

/-- A response arrives (R198): the query of its TAG ends and its result is used. -/
def State.mtxResponse (s : State) (resp : Bytes) : State :=
  let r := mtxReq resp
  match s.mtx.outstanding.find? fun q => q.tag == r.tag with
  | none => s
  | some q =>
    let s := { s with mtx := { s.mtx with outstanding := s.mtx.outstanding.filter fun (x : Query) => x.tag != r.tag } }
    match q.op with
    | 1 =>
      (match lookupResult r.op, (s.queryPiece q).bind fun d => (Tab.find s.gly.own d).map fun p => (d, p) with
      | some res, some (d, p) =>
        let fresh := res == .new || res == .full || res == .deferred
        let s := if fresh && (s.grain? r.gid).isNone then
            s.modGrain r.gid fun _ => { state := if res = .deferred then .deferredPending else .inFlight, gen := gidGen r.gid, noindex := res == .full, placer := some s.head, realm := q.realm, fpalg := q.fpalg }
          else if res = .adopt then s.modGrain r.gid fun e => { e with placer := some s.head }
          else s
        let strict := ((s.pieceClass p).map (·.strict)).getD false && p.kind != .repeated
        (match s.rowStatus, p.commit, fresh, p.task with
        | some st, false, true, some n => (s.query { op := 4, tag := 0, gid := r.gid }).failData n (.internal st)
        | _, _, _, _ => s.noteGrain d q.index r.gid (strict && res == .found))
      | some _, none => s.query { op := 4, tag := 0, gid := r.gid }
      | none, _ => s)
    | 2 =>
      if r.op = 5 then
        let e := s.grainAt q.gid
        let st := if e.state = .deferredPending then GrainState.deferred else GrainState.live
        let s := s.modGrain q.gid fun e => { e with state := st, sheet := addrSheet q.addr, offset := addrOffset q.addr, units := q.units, placer := none }
        { (s.listSort q.gid q.addr q.units true) with mtx := { (s.listSort q.gid q.addr q.units true).mtx with placing := s.mtx.placing.map fun p => if p.1 = q.gid then (p.1, true) else p } }
      else { (s.listSort q.gid q.addr q.units false) with mtx := { (s.listSort q.gid q.addr q.units false).mtx with placing := s.mtx.placing.filter fun p => p.1 != q.gid } }
    | 3 => (match s.queryPiece q with
      | some d => s.refDone d
      | none => s)
    | 5 =>
      if r.op = 5 then s.applyRec 0 (.move q.gid q.old q.addr q.units) else s.listSort q.gid q.addr q.units false
    | 6 => if r.op = 5 then s.modGrain q.gid fun e => { e with fp := some r.fp } else s
    | _ => s

/-- The Free record of the oldest freed grain is durable: its index goes to the back of the free chain, unless its generation is spent (R185, R188). -/
def execFreeChainAppend (hb : Bool) (s : State) : Out1 :=
  let h := s.half hb
  match h.freed with
  | [] => .next s
  | i :: rest =>
    let s := s.setHalf hb { h with freed := rest }
    if (Tab.get {} h.grains i).gen = 0xFFFF then .next s
    else
      let h := s.half hb
      let grains := if h.freeTail = 0 then h.grains else Tab.modify {} h.grains h.freeTail fun e => { e with nextFree := i }
      let grains := Tab.modify {} grains i fun e => { e with nextFree := 0 }
      .next (s.setHalf hb { h with grains := grains, freeHead := if h.freeHead = 0 then i else h.freeHead, freeTail := i })

/-- A background removal (R195): the oldest freed grain leaves the filter and its bucket, and its fingerprint record is zeroed. -/
def execIndexRemoval (hb : Bool) (s : State) : Out1 :=
  let h := s.half hb
  match h.removal with
  | [] => .next s
  | e :: rest =>
    let s := s.setHalf hb { h with removal := rest }
    let s := s.mtxJournal [.indexDel e.fp e.gid e.realm e.fpalg]
    let g := s.grainAt e.gid
    let s := if g.state = .free ∧ g.gen = gidGen e.gid then s.modGrain e.gid fun e => { e with fp := none, realm := 0, fpalg := 0 } else s
    .next (s.filterCheck hb)

/-- A grain's sort is durable and its address durably recorded (R196): map changes that name it may go on. -/
def execGrainPlaced (g : Nat) (s : State) : Out1 :=
  if s.mtx.placing.contains (g, true) then
    .next { s with mtx := { s.mtx with placing := s.mtx.placing.filter fun p => p.1 != g } }
  else .next s

/-- Loading of a half starts (R199): its filter is empty and the half is Loading. A half that this head keeps as Borrowed is not loaded (R202). [DEDUCED: notes/assumptions/97.md] -/
def execHalfLoadStart (hb : Bool) (s : State) : Out1 :=
  let h := s.half hb
  if (h.state = .partner ∧ bit hb = s.head) ∨ h.state = .loading then
    let h := { h with filter := [], slots := s.loadSlots hb, closed := false, high := false, loadPct := 0, peerHolds := h.state == .partner && (s.half (!hb)).peerHolds }
    .next ((s.setHalf hb h).halfTo hb .loading)
  else .next s

/-- The grains of a half that are deferred and not yet caught up. -/
def State.deferLeft (s : State) (hb : Bool) : Nat :=
  Tab.count (s.half hb).grains fun _ e => e.state == .deferred || e.state == .deferredPending

/-- The requests that a HANDOFF carries after its header: pins and placers of the half as (grain ID, head). -/
def State.handoffRecords (s : State) (hb : Bool) : List (Nat × Nat) × List (Nat × Nat) :=
  let gs := (s.half hb).grains.map fun e => (mkGid hb e.2.gen e.1, e.2)
  (gs.flatMap fun e => e.2.pins.map fun p => (e.1, p.1), gs.filterMap fun e => e.2.placer.map fun p => (e.1, p))

/-- Sends HANDOFF for a half and stops holding it (R201). -/
def State.handOff (s : State) (hb : Bool) : State :=
  let h := s.half hb
  let (pins, placers) := s.handoffRecords hb
  let t := (s.mtx.nextTag + 1) % 2 ^ 32
  let s := { s with mtx := { s.mtx with nextTag := t } }
  let list (l : List (Nat × Nat)) : List Nat := l.length :: l.flatMap fun p => [p.1, p.2]
  let s := s.anvil .matrixReq 65532 ([bit hb, h.hwm] ++ list pins ++ list placers ++ list h.deferred) (mtxBytes 8 0 0 0 t 0 0 0 [])
  let s := s.setHalf hb { s.half hb with deltas := false }
  s.halfTo hb .partner

/-- A half load completes (R199, R200): the filter holds every index entry and the half is Loaded. The load of a lost partner's half starts when the takeover completes (R201). At the head that is returning the half, the partner's load is done and HANDOFF goes out. -/
def execHalfLoadDone (hb : Bool) (s : State) : Out1 :=
  let h := s.half hb
  if s.anv.takeover.isSome && bit hb != s.head then .next s
  else if h.state = .loading then
    let f := h.buckets.flatMap fun b => b.2.entries.map fun e => filterPlace (s.halfSlots hb) e.fp
    let s := (s.setHalf hb { h with filter := f, loadPct := 100 }).halfTo hb .loaded
    .next (s.filterCheck hb)
  else if h.state = .returning then .next (s.handOff hb)
  else .next s

/-- The lowest deferred grain of a half, in index order (R200). -/
def State.nextDeferred (s : State) (hb : Bool) : Option (Nat × Grain) := Tab.first (s.half hb).grains fun _ e => e.state == .deferred

end Sys2Proof.Machine
end

