-- ==== Sys2Proof/Machine/Pages.lean ====
section
/-! DEFINITION. Metadata as it stands on flash: the entries of Hearth's tables, map nodes, pages and checkpoints (R278, R281, R283 to R285, R288, R293, R304). -/

namespace Sys2Proof.Machine

/-- A sheet-table entry as its 256 bytes (Table 13.2). -/
def Sheet.entry (e : Sheet) : Bytes :=
  let w := e.state.code * 2 ^ 61 + bit e.isMap * 2 ^ 59 + e.head * 2 ^ 58 + (if e.isMap then 0 else e.cls) * 2 ^ 54 + e.width * 2 ^ 49 + e.plateLog2 * 2 ^ 44 + bit e.descale * 2 ^ 43 + e.writePoint
  let ms := e.members.flatMap fun p => leBytes (memberWord p) 4
  let b := leBytes w 8 ++ leBytes (e.live * 2 ^ 32 + e.dead) 8 ++ leBytes e.opened 8 ++ leBytes (if e.state = .opened then 0 else e.closed) 8 ++
    leBytes e.sorts.length 8 ++ zeros 24 ++ ms ++ zeros (128 - ms.length) ++ zeros 60
  b ++ leBytes (crc32c b) 4

/-- A record of a sort list as its 16 bytes (R283). -/
def SortRec.bytes (r : SortRec) : Bytes := leBytes r.gid 8 ++ leBytes (r.offset * 2 ^ 32 + r.units * 2 ^ 24) 8

/-- Wear of a module in per mille of its rated erase count (Table 13.16). -/
def State.wearOf (s : State) (m : Nat) : Nat :=
  let ps := s.hth.plates.filter fun p => p.1 / 2 ^ 25 == m
  let n := (s.module m).plates * (s.module m).rated
  if n = 0 then 0 else 1000 * (ps.map fun p => p.2.erases).sum / n

/-- The histogram of the last 30 days of a health record (R304). -/
def Health.month (h : Health) : List Nat := (List.range 168).map fun b => (h.days.map fun d => Tab.get 0 d b).sum

/-- A module record of 2,048 bytes (Table 13.17): number and state, spare and wear in per mille, plates total and retired, error counters, lifetime and 30-day histograms. [PRESUMED: notes/assumptions/20.md] -/
def Health.bytes (h : Health) (num state spare wear plates retired : Nat) : Bytes :=
  leBytes num 4 ++ leBytes state 4 ++ leBytes spare 2 ++ leBytes wear 2 ++ leBytes plates 4 ++ leBytes retired 4 ++
    (List.range 8).flatMap (fun c => leBytes (Tab.get 0 h.errors c) 8) ++ (List.range 168).flatMap (fun b => leBytes (Tab.get 0 h.life b) 4) ++
    h.month.flatMap (fun n => leBytes n 4) ++ zeros 620

/-- Plates of a module on record as Retired. -/
def State.retiredOf (s : State) (m : Nat) : Nat := (s.hth.plates.filter fun p => p.1 / 2 ^ 25 == m && p.2.state == .retired).length

/-- The health record of a module. -/
def State.moduleRecord (s : State) (m : Nat) : Bytes :=
  (Tab.get {} s.hth.health m).bytes m (s.module m).state.code (s.rd F.HTH_LADDER_SPARE) (s.wearOf m) (s.module m).plates (s.retiredOf m)

/-- The bytes of a page's header (Table 13.4) in a stripe of an epoch. -/
def Page.header (p : Page) (epoch : Nat) : Bytes :=
  let b := leBytes (p.type * 2 ^ 59 + p.level * 2 ^ 56 + p.object * 2 ^ 32 + p.head * 2 ^ 31) 8 ++ leBytes p.number 8 ++ leBytes p.seq 8 ++
    leBytes (epoch * 2 ^ 32) 8 ++ zeros 16 ++ leBytes (crc64 p.body) 8
  b ++ leBytes (crc32c b) 8

/-- A metadata page as it stands on flash (R284): 65 units. -/
def Page.bytes (p : Page) (epoch : Nat) : Bytes := p.header epoch ++ p.body


/-- Whether the bytes read for a page pass its CRCs and keep its reserved fields zero (R5, R284, R286). -/
def pageOk (b : Bytes) : Bool :=
  b.length == 4160 && leAt b 0x38 8 == crc32c (b.take 0x38) && leAt b 0x30 8 == crc64 (b.drop 64) &&
    bits (leAt b 0 8) 30 0 == 0 && leAt b 0x18 4 == 0 && allZero (slice b 0x20 16)

/-- A page read back from its bytes (Table 13.4). -/
def Page.ofBytes (b : Bytes) : Page :=
  let w := leAt b 0 8
  { type := bits w 63 59, level := bits w 58 56, object := bits w 55 32, head := bits w 31 31, number := leAt b 8 8, seq := leAt b 0x10 8, body := b.drop 64 }

/-- The body of a map node (Table 13.7). The VOLUME of a page that a family shares is the family ID. [DEDUCED: notes/assumptions/28.md] -/
def Volume.nodeBody (v : Volume) (level lo : Nat) (next : Option Nat) : Bytes :=
  let es : List Bytes :=
    if level = 0 then (extents (v.map.filter fun c => decide (lo ≤ c.1) && (next.all fun n => decide (c.1 < n)))).map fun x =>
      leBytes (x.1 * 2 ^ 24 + x.2.1) 8 ++ leBytes x.2.2.gid 8 ++ leBytes (x.2.2.tag * 2 ^ 48 + bit (x.2.2.gid == 0) * 2 ^ 40) 8
    else (v.nodes.filter fun x => x.1 + 1 == level && decide (lo ≤ x.2.1) && (next.all fun n => decide (x.2.1 < n))).map fun x =>
      leBytes (x.2.1 * 2 ^ 24) 8 ++ leBytes (v.pageNum x.1 x.2.1) 8
  let b := leBytes (v.family * 2 ^ 40 + level * 2 ^ 32 + es.length * 2 ^ 16) 8 ++ leBytes lo 8 ++ leBytes ((next.map (v.pageNum level)).getD 0) 8 ++ zeros 8 ++ es.flatten
  b ++ zeros (4096 - b.length)

/-- The content pages that hold items of one size, as (page number, body), each with the items that fall on it (Table 13.5). -/
def itemPages (per size : Nat) (items : Tab Bytes) : List (Nat × Bytes) :=
  ((items.map fun x => x.1 / per).eraseDups).map fun p => (p, (List.range per).flatMap (fun i => Tab.get (zeros size) items (p * per + i)) ++ zeros (4096 - per * size))

/-- A checkpoint as its 4,096 bytes (Table 13.10). -/
def Ckpt.bytes (c : Ckpt) (head : Nat) : Bytes :=
  let root (k : Nat) : Bytes := match c.roots.find? fun r => r.1 == k with
    | some r => leBytes r.2.1 8 ++ leBytes r.2.2 1 ++ zeros 7
    | none => zeros 16
  let opens := c.opens.flatMap fun p => leBytes (p.1 * 2 ^ 32 + p.2) 8
  let b := leBytes 0x504B4348 4 ++ leBytes 1 2 ++ leBytes head 1 ++ leBytes c.opens.length 1 ++ leBytes c.seq 8 ++ leBytes c.seqEnd 8 ++ leBytes c.stampHwm 8 ++
    leBytes c.epochMark 4 ++ leBytes c.pairEpoch 4 ++ leBytes c.hwm0 8 ++ leBytes c.hwm1 8 ++ zeros 8 ++ (List.range 16).flatMap root ++ opens ++ zeros (512 - opens.length) ++
    leBytes c.lostTotal 4 ++ leBytes c.freed 4 ++ leBytes c.copied 4 ++ leBytes c.takeovers 2 ++ zeros 2 ++ zeros 3240
  b ++ leBytes (crc64 b) 8

/-- Whether bytes are a checkpoint of a head: its CRC-64 passes, magic and version are right, and the reserved fields are zero (R5, R294, Table 13.10). -/
def ckptOk (head : Nat) (b : Bytes) : Bool :=
  b.length == 4096 && leAt b 0 4 == 0x504B4348 && leAt b 4 2 == 1 && byteAt b 6 == head && decide (byteAt b 7 ≤ 64) && allZero (slice b 0x38 8) &&
    ((List.range 16).all fun k => allZero (slice b (0x49 + 16 * k) 7)) && allZero (slice b 0x40 16) && allZero (slice b 0x120 32) && allZero (slice b 0x34E 2) &&
    allZero (slice b 0x350 3240) && leAt b 0xFF8 8 == crc64 (b.take 0xFF8)

/-- A checkpoint read back from its bytes (Table 13.10). -/
def Ckpt.ofBytes (b : Bytes) : Ckpt :=
  { seq := leAt b 8 8, seqEnd := leAt b 0x10 8, stampHwm := leAt b 0x18 8, epochMark := leAt b 0x20 4, pairEpoch := leAt b 0x24 4
    hwm0 := leAt b 0x28 8, hwm1 := leAt b 0x30 8
    roots := (List.range 16).filterMap fun k => if leAt b (0x40 + 16 * k) 8 = 0 then none else some (k, leAt b (0x40 + 16 * k) 8, byteAt b (0x48 + 16 * k))
    opens := (List.range (byteAt b 7)).map fun i => (leAt b (0x144 + 8 * i) 4, leAt b (0x140 + 8 * i) 4)
    lostTotal := leAt b 0x340 4, freed := leAt b 0x344 4, copied := leAt b 0x348 4, takeovers := leAt b 0x34C 2 }

end Sys2Proof.Machine
end

