-- ==== Sys2Proof/Machine/Stripes.lean ====
section
/-! DEFINITION. Stripes and sorts: parity arithmetic, chunk and sort layouts, packing, and reading sorts back (R152 to R155, R249 to R254, R282). -/

namespace Sys2Proof.Machine

/-- Multiplication by g = 2 in GF(2^8) with polynomial 0x11D (R254). -/
def gmul2 (b : Byte) : Byte := if b.msb then (b <<< 1) ^^^ 0x1D#8 else b <<< 1

/-- Multiplication in GF(2^8) (R254). -/
def gmul (a b : Byte) : Byte :=
  ((List.range 8).foldl (fun (acc : Byte × Byte) i => (if b.getLsbD i then acc.1 ^^^ acc.2 else acc.1, gmul2 acc.2)) (0#8, a)).1

/-- g^i (R254). -/
def gpow : Nat → Byte
  | 0 => 1#8
  | i + 1 => gmul2 (gpow i)

/-- The inverse in GF(2^8): the 254th power. -/
def ginv (b : Byte) : Byte := (List.range 254).foldl (fun acc _ => gmul acc b) 1#8

/-- Division in GF(2^8). -/
def gdiv (a b : Byte) : Byte := gmul a (ginv b)

/-- A column of `n` zero bytes xored with the given runs. -/
def xorAll (n : Nat) (rs : List Bytes) : Bytes := rs.foldl xorBytes (zeros n)

/-- P of the data roles (R254). -/
def parityP (n : Nat) (dat : List Bytes) : Bytes := xorAll n dat

/-- Q of the data roles (R254). -/
def parityQ (n : Nat) (dat : List Bytes) : Bytes := xorAll n ((dat.zipIdx).map fun p => p.1.map (gmul (gpow p.2)))

/-- Reconstruction of up to two missing roles (R254): sources in role order, D0 first, P at index d and Q at d + 1. With one role missing give it twice. -/
def reconstruct (n d x y : Nat) (src : List Bytes) : List Bytes :=
  let get (i : Nat) : Bytes := src.getD i (zeros n)
  let dat := (List.range d).map fun i => if i = x ∨ i = y then zeros n else get i
  let pxy := xorBytes (get d) (parityP n dat)
  let qxy := xorBytes (get (d + 1)) (parityQ n dat)
  let dat :=
    if d ≤ x then dat
    else if x = y ∨ y = d + 1 then dat.set x pxy
    else if y = d then dat.set x (qxy.map fun b => gdiv b (gpow x))
    else
      let dy := List.zipWith (fun q p => gdiv (q ^^^ gmul (gpow x) p) (gpow x ^^^ gpow y)) qxy pxy
      (dat.set y dy).set x (xorBytes pxy dy)
  let p := if x = d ∨ y = d then parityP n dat else get d
  let q := if x = d + 1 ∨ y = d + 1 then parityQ n dat else get (d + 1)
  dat ++ [p, q]

/-- Bytes of a chunk's body (R249). -/
def bodyLen : Nat := 65472

/-- Units of data in a stripe of width d (R250). -/
def stripeUnits (d : Nat) : Nat := 1023 * d

/-- Stripes of a sheet (R278). -/
def Sheet.stripes (e : Sheet) : Nat := 2 ^ (e.plateLog2 - 16)

/-- The role at a member of a stripe (R249): 0 to d − 1 data, d for P, d + 1 for Q. -/
def roleOf (d stripe member : Nat) : Nat :=
  let p := stripe % (d + 2)
  let q := (stripe + 1) % (d + 2)
  if member = p then d else if member = q then d + 1
  else member - (if p < member then 1 else 0) - (if q < member then 1 else 0)

/-- The member that holds a role of a stripe. -/
def memberOf (d stripe role : Nat) : Nat := ((List.range (d + 2)).find? fun m => roleOf d stripe m == role).getD 0

/-- ROLE of a chunk header (Table 12.2). -/
def roleCode (d role : Nat) : Nat := if role < d then 0 else if role = d then 1 else 2

/-- A chunk header (Table 12.2). -/
def chunkHeader (sheet stripe epoch member d role head : Nat) (rebuilt filler : Bool) (body : Bytes) : Bytes :=
  let code := if filler then 3 else roleCode d role
  let b := leBytes (sheet * 2 ^ 32 + stripe) 8 ++
    leBytes (epoch * 2 ^ 32 + member * 2 ^ 27 + code * 2 ^ 25 + d * 2 ^ 20 + (if role < d then role else 0) * 2 ^ 15 + head * 2 ^ 14 + bit rebuilt * 2 ^ 13 + 2 ^ 9) 8 ++
    leBytes (crc64 body) 8 ++ zeros 32
  b ++ leBytes (crc32c b) 8

/-- A whole chunk (R249). -/
def chunkBytes (sheet stripe epoch member d role head : Nat) (rebuilt filler : Bool) (body : Bytes) : Bytes :=
  chunkHeader sheet stripe epoch member d role head rebuilt filler body ++ body

/-- Whether a chunk stands by itself (R5, R252): both CRCs pass, VERSION is 1, and no reserved bit of its header is set. -/
def chunkOk (c : Bytes) : Bool :=
  c.length == 65536 && leAt c 0x38 8 == crc32c (c.take 0x38) && leAt c 0x10 8 == crc64 (c.drop 64) && bits (leAt c 8 8) 12 9 == 1 && bits (leAt c 8 8) 8 0 == 0 && allZero (slice c 0x18 32)

/-- Whether a chunk agrees with a stripe's SHEET, STRIPE, EPOCH and HEAD (R252). A filler chunk takes part in no parity. -/
def chunkAgrees (sheet stripe epoch head : Nat) (c : Bytes) : Bool :=
  chunkOk c && leAt c 0 8 == sheet * 2 ^ 32 + stripe && bits (leAt c 8 8) 63 32 == epoch && bits (leAt c 8 8) 14 14 == head && bits (leAt c 8 8) 26 25 != 3

/-- A sort's size in bytes (Table 7.3): header, cipher area, check field, padded to 64 bytes. -/
def sortSize (cipherLen : Nat) : Nat := roundUp (32 + cipherLen + 8) 64

/-- A sort (Tables 7.3 and 7.4) under an epoch, with the check field that a refine line's Proof unit appends (R161). -/
def SortBody.bytes (b : SortBody) (gid epoch : Nat) : Bytes :=
  let h := leBytes gid 8 ++ leBytes (b.volume * 2 ^ 40 + b.hint) 8 ++ leBytes (epoch * 2 ^ 32 + b.realm * 2 ^ 20 + b.length) 8 ++
    leBytes (b.keyGen * 2 ^ 16 + bit b.repaired * 2 ^ 25 + bit b.defer * 2 ^ 26 + bit b.comp * 2 ^ 27 + b.piType * 2 ^ 28 + b.trailerLen * 2 ^ 31 + b.lbaf * 2 ^ 40 + 2 ^ 44) 6
  let all := h ++ leBytes (crc16 h) 2 ++ b.cipher
  (passStream ⟨.crc64, .append⟩ (all ++ zeros (sortSize b.cipher.length - 8 - all.length))).getD []

/-- Units of a sort. -/
def SortBody.units (b : SortBody) : Nat := sortSize b.cipher.length / 64

/-- Whether a sort passes its check field and header checks (R153 to R155). -/
def sortOk (b : Bytes) : Bool :=
  let w3 := leAt b 0x18 8
  decide (64 ≤ b.length) && (passStream ⟨.crc64, .checkKeep⟩ b).isSome && bits w3 63 48 == crc16 (b.take 0x1E) && bits w3 47 44 == 1 &&
    bits w3 30 28 ≤ 3 && bits w3 24 24 == 0 && bits w3 15 0 == 0 && bits (leAt b 0x10 8) 19 16 == 0

/-- The fields of a sort read back (Table 7.4); the cipher area is LENGTH rounded up to 16 bytes. -/
def SortBody.ofBytes (b : Bytes) : SortBody :=
  let w1 := leAt b 8 8
  let w2 := leAt b 0x10 8
  let w3 := leAt b 0x18 8
  let len := bits w2 15 0
  { volume := bits w1 63 40, hint := bits w1 39 0, realm := bits w2 31 20, length := len, lbaf := bits w3 43 40, trailerLen := bits w3 39 31, piType := bits w3 30 28,
    comp := bitOf w3 27, defer := bitOf w3 26, repaired := bitOf w3 25, keyGen := bits w3 23 16, cipher := slice b 32 (roundUp len 16) }

/-- The open sheet of this head that serves a role for a class (R280). [DEDUCED: notes/assumptions/43.md] -/
def State.openSheet (s : State) (r : Role) (cls : Nat) : Option (Nat × Sheet) :=
  Tab.first s.hth.sheets fun _ e => e.state == .opened && e.head == s.head && e.role == r && (e.isMap || e.cls == cls)

/-- The next stripe epoch (R253): it skips 0, and the mark is journalled every 2^20 stripes. -/
def State.nextEpoch (s : State) : Nat × State :=
  let e := (s.hth.epoch + 1) % 2 ^ 32
  let e := if e = 0 then 1 else e
  let s := { s with hth := { s.hth with epoch := e } }
  (e, if e % 2 ^ 20 = 0 then State.shareState { s with hth := { s.hth with epochMark := e } } 8 0 else s)

/-- Stripes of this head between steps 2 and 5 of R260. -/
def State.inSteps (s : State) : Nat := (s.hth.flights.filter fun f => f.phase != .waitSlot && f.phase != .closeWritten).length

/-- An OPEN, CLOSE or VOID record (Table 12.5) as 32 bytes. -/
def sifBytes (sheet stripe epoch type d head agreed seq : Nat) : Bytes :=
  let b := leBytes (sheet * 2 ^ 32 + stripe) 8 ++ leBytes (epoch * 2 ^ 32 + type * 2 ^ 28 + d * 2 ^ 23 + head * 2 ^ 22) 8 ++ leBytes (agreed * 2 ^ 32) 8
  let all := b ++ zeros 4
  let body := b ++ leBytes (crc32c all) 4 ++ leBytes seq 4
  body

/-- Writes a record to the stripe-in-flight journal, mirrored to the partner (R261, R349). -/
def State.sifRecord (s : State) (sheet stripe epoch type d head agreed : Nat) : State :=
  let q := (s.hth.inflightSeq + 1) % 2 ^ 32
  let s := { s with hth := { s.hth with inflightSeq := q } }
  if s.paired || s.gly.mirroring then s.anvil .ring pairChan [1, 0xC0100000 + (q * 32) % 2 ^ 28] (sifBytes sheet stripe epoch type d head agreed q) else s

/-- Lets stripes that wait at step 2 write their OPEN records, at most 256 between steps 2 and 5 (R260). -/
def State.admitStripes (s : State) : State :=
  s.hth.flights.foldl (fun s f =>
    if f.phase == .waitSlot && decide (s.inSteps < 256) then
      let s := s.sifRecord f.sheet f.stripe f.epoch 1 f.width f.head 0
      { s with hth := { s.hth with flights := s.hth.flights.map fun (x : Flight) => if x.sheet = f.sheet ∧ x.stripe = f.stripe then { x with phase := .waitOpen, seq := s.hth.inflightSeq } else x } }
    else s) s

/-- Closes the open stripe of a sheet (R260 step 1, R282): units left count dead, and the stripe waits for its OPEN record. -/
def State.closeStripe (s : State) (id : Nat) : State :=
  let e := s.sheet id
  match e.cur with
  | none => s
  | some c =>
    let f : Flight := { sheet := id, stripe := c.stripe, epoch := c.epoch, width := e.width, head := s.head, phase := .waitSlot, sorts := c.sorts, confirmed := [], seq := 0 }
    let s := s.modSheet id fun e => { e with cur := none, dead := e.dead + (stripeUnits e.width - c.fill) }
    State.admitStripes { s with hth := { s.hth with flights := s.hth.flights ++ [f] } }

/-- Closes a sheet at its current stripe (R264, R299, Table 13.3). -/
def State.closeSheet (s : State) (id : Nat) : State :=
  let s := s.closeStripe id
  if (s.sheet id).state = .opened then s.journal [.sheet id .closed none (s.sheet id).head] else s

/-- Packs a sort or a page at the lowest free offset of the open stripe of a role's sheet (R282): one that does not fit closes the stripe and goes to the next one. None while no sheet of the role is open. -/
def State.packUnits (s : State) (r : Role) (cls gid : Nat) (why : PackFor) (body : PackBody) (units : Nat) : Option (Nat × State) :=
  match s.openSheet r cls with
  | none => none
  | some (id, e) =>
    let cap := stripeUnits e.width
    let s := match e.cur with
      | some c => if cap < c.fill + units then s.closeStripe id else s
      | none => s
    let e := s.sheet id
    match e.cur with
    | some c =>
      let off := c.stripe * cap + c.fill
      let c := { c with fill := c.fill + units, sorts := c.sorts ++ [⟨gid, off, units, why, body⟩] }
      some (mkAddr id off, s.modSheet id fun e => { e with cur := some c })
    | none =>
      if e.stripes ≤ e.next then none
      else
        let (ep, s) := s.nextEpoch
        let off := e.next * cap
        let c : OpenStripe := ⟨e.next, ep, units, s.now, [⟨gid, off, units, why, body⟩]⟩
        some (mkAddr id off, s.modSheet id fun e => { e with cur := some c, next := e.next + 1 })

/-- Packs a sort (R282). -/
def State.packSort (s : State) (r : Role) (cls gid : Nat) (why : PackFor) (body : SortBody) : Option (Nat × State) :=
  s.packUnits r cls gid why (.sort body) body.units

/-- What is packed, as bytes in a stripe of an epoch. -/
def Packed.bytes (p : Packed) (epoch : Nat) : Bytes :=
  match p.body with
  | .sort b => b.bytes p.gid epoch
  | .page g => g.bytes epoch

/-- The data of a stripe: its sorts and pages under the stripe's epoch, then zeros (R282). -/
def Flight.image (f : Flight) : Bytes :=
  let b := f.sorts.flatMap fun p => p.bytes f.epoch
  b ++ zeros (stripeUnits f.width * 64 - b.length)

/-- The bodies of a stripe's data roles (R250). -/
def Flight.dataBodies (f : Flight) : List Bytes :=
  let img := f.image
  (List.range f.width).map fun i => slice img (i * bodyLen) bodyLen

/-- What a place holds at a stripe: none when the position is unwritten, `some none` when it is unreadable. -/
def State.chunkOn (s : State) (w : Nat × Nat) (stripe : Nat) : Option Chunk := Tab.find ((s.dev w.1).plate w.2).chunks stripe

/-- What a member holds at a stripe: for a missing one, the chunk that its rebuild has already written on its spare, and otherwise nothing that can be read. [DEDUCED: notes/assumptions/27.md] -/
def State.chunkAt (s : State) (e : Sheet) (stripe member : Nat) : Option Chunk :=
  if e.missing.contains member then
    some (((e.spares.find? fun x => x.1 == member).bind fun x => s.chunkOn x.2 stripe).getD none)
  else s.chunkOn (e.members.getD member (0, 0)) stripe

/-- What a read of a member at a stripe finds: from the moment a module is set aside for the activation of its image, its chunks are left to reconstruction (R322). -/
def State.chunkRead (s : State) (e : Sheet) (stripe member : Nat) : Option Chunk :=
  if (s.module (e.members.getD member (0, 0)).1).excluded then some none else s.chunkAt e stripe member

/-- The bodies of a stripe in role order as the members give them; none where a chunk is missing, unwritten, unreadable or fails its CRCs. -/
def State.rolesAt (s : State) (id stripe : Nat) : List (Option Bytes) :=
  let e := s.sheet id
  (List.range (e.width + 2)).map fun r =>
    match s.chunkRead e stripe (memberOf e.width stripe r) with
    | some (some c) => if chunkOk c && leAt c 0 8 == id * 2 ^ 32 + stripe && bits (leAt c 8 8) 26 25 != 3 then some (c.drop 64) else none
    | _ => none

/-- The roles of a stripe that are missing. -/
def State.rolesMissing (s : State) (id stripe : Nat) : List Nat :=
  ((s.rolesAt id stripe).zipIdx).filterMap fun p => if p.1.isNone then some p.2 else none

/-- Every body of a stripe in role order, with up to two missing roles reconstructed (R254, R258); none when three or more are missing. -/
def State.stripeBodies (s : State) (id stripe : Nat) : Option (List Bytes) :=
  let e := s.sheet id
  let src := (s.rolesAt id stripe).map fun b => b.getD (zeros bodyLen)
  match s.rolesMissing id stripe with
  | [] => some src
  | [x] => some (reconstruct bodyLen e.width x x src)
  | [x, y] => some (reconstruct bodyLen e.width x y src)
  | _ => none

/-- The data roles of a stripe that a sort lies in (R250). -/
def State.sortRoles (s : State) (addr units : Nat) : List Nat :=
  let d := (s.sheet (addrSheet addr)).width
  let a := addrOffset addr % stripeUnits d
  (List.range d).filter fun r => decide (a < (r + 1) * 1023) && decide (r * 1023 < a + units)

/-- The stripe of its sheet that an address lies in (R250). -/
def State.stripeOf (s : State) (addr : Nat) : Nat := addrOffset addr / stripeUnits (s.sheet (addrSheet addr)).width

/-- A sort cut out of the bodies of its stripe in role order. -/
def State.cutSort (s : State) (addr units : Nat) (bs : List Bytes) : Bytes :=
  let d := (s.sheet (addrSheet addr)).width
  slice ((bs.take d).flatten) ((addrOffset addr % stripeUnits d) * 64) (units * 64)

/-- Whether a chunk that a sort lies in is missing. -/
def State.sortMissing (s : State) (addr units : Nat) : Bool :=
  (s.sortRoles addr units).any fun r => (s.rolesMissing (addrSheet addr) (s.stripeOf addr)).contains r

/-- The sort at an address, as its chunks hold it or reconstructed where one of them is missing. [DEDUCED: notes/assumptions/27.md] -/
def State.readSort (s : State) (addr units : Nat) : Option Bytes :=
  let id := addrSheet addr
  if stripeUnits (s.sheet id).width = 0 then none
  else
    let stripe := s.stripeOf addr
    (if s.sortMissing addr units then s.stripeBodies id stripe else some ((s.rolesAt id stripe).map fun b => b.getD (zeros bodyLen))).map (s.cutSort addr units)

/-- Plates of a module that are Free (Table 13.1). -/
def State.freePlates (s : State) (m : Nat) : Nat :=
  (s.module m).plates - (s.hth.plates.filter fun p => p.1 / 2 ^ 25 == m && p.2.state != .free).length

/-- The Free plate of a module with the fewest ERASES, ties to the lowest number (R300). -/
def State.pickPlate (s : State) (m : Nat) (avoid : List (Nat × Nat)) : Option Nat :=
  let listed := s.hth.plates.filter fun p => p.1 / 2 ^ 25 == m
  let bound := listed.length + avoid.length + 1
  let new := (List.range bound).find? fun i => decide (i < (s.module m).plates) && !(listed.any fun p => p.1 % 2 ^ 25 == i) && !avoid.contains (m, i)
  match new with
  | some i => some i
  | none =>
    (listed.foldl (fun best p =>
      if p.2.state != .free || avoid.contains (m, p.1 % 2 ^ 25) then best
      else match best with
        | some b => if p.2.erases < b.2.erases then some p else best
        | none => some p) none).map fun p => p.1 % 2 ^ 25

/-- The reshapes that this head runs: its own and, after a takeover, the partner's. -/
def State.reshapes (s : State) : List Reshape := s.imp.reshape.toList ++ s.imp.peerReshape.toList

/-- Modules marked for evacuation (R274): the marks of IMP_EVAC while or after a migration that they started. -/
def State.evacuated (s : State) (m : Nat) : Bool :=
  bitOf (s.rd (F.IMP_EVAC_MARK (m / 32))) (m % 32) && s.reshapes.any (·.migration)

/-- Modules that may give a plate to a new sheet (R251). -/
def State.usable (s : State) : List Nat :=
  s.admitted.filter fun m => !s.evacuated m && !(s.module m).excluded && !(s.module m).noCmd && decide (0 < s.freePlates m)

/-- Sheets that a module shares with any of the modules already chosen (R251). -/
def State.shared (s : State) (m : Nat) (chosen : List Nat) : Nat :=
  Tab.count s.hth.sheets fun _ e => e.members.any (fun w => w.1 == m) && e.members.any fun w => chosen.contains w.1

/-- The modules chosen one at a time for `n` members, `avoidMods` left out (R251): most free plates, then fewest shared sheets, then lowest number. -/
def State.pickModules (s : State) (avoidMods : List Nat) : Nat → List Nat → Option (List Nat)
  | 0, chosen => some chosen
  | n + 1, chosen =>
    let cand := s.usable.filter fun m => !chosen.contains m && !avoidMods.contains m
    match cand.foldl (fun best m =>
      match best with
      | none => some m
      | some b =>
        let fm := s.freePlates m
        let fb := s.freePlates b
        if fb < fm ∨ (fb = fm ∧ s.shared m chosen < s.shared b chosen) then some m else best) none with
    | none => none
    | some m => s.pickModules avoidMods n (chosen ++ [m])

/-- The modules chosen for `n` plates of one size (R251, R278): the size of the module that is first in the choice, or another size where that one has too few modules. [DEDUCED: notes/assumptions/43.md] -/
def State.chooseModules (s : State) (avoidMods : List Nat) (n : Nat) : Option (List Nat) :=
  let size (m : Nat) : Nat := (s.module m).plateLog2
  let sizes := (((s.pickModules avoidMods 1 []).getD [] ++ s.usable).map size).eraseDups
  sizes.findSome? fun z => s.pickModules (avoidMods ++ s.usable.filter fun m => size m != z) n []

end Sys2Proof.Machine
end

