-- ==== Sys2Proof/Machine/Capacity.lean ====
section
/-! DEFINITION. Capacity, missing members, lost stripes and the descaling order (R264, R271 to R273, R297 to R302). -/

namespace Sys2Proof.Machine

/-- A common multiple of every width 4 to 30, so that L is kept without rounding. -/
def widthScale : Nat := 2329089562800

/-- Plate size in bytes of the lowest admitted module. [DEDUCED: notes/assumptions/42.md] -/
def State.plateBytes (s : State) : Nat := (s.admitted.head?.map fun m => 2 ^ (s.module m).plateLog2).getD 0

/-- The smallest d of the LAYOUT section, the width of a map sheet (R280). -/
def State.mapWidth (s : State) : Nat :=
  let ds := ((s.fm.forme.map (·.classes)).getD []).map (·.d)
  ds.foldl min (ds.headD 4)

/-- Usable raw R in bytes (R301). -/
def State.rawBytes (s : State) : Nat :=
  (s.admitted.map fun m => ((s.module m).plates - (s.hth.plates.filter fun p => p.1 / 2 ^ 25 == m && p.2.state == .retired).length) * 2 ^ (s.module m).plateLog2).sum

/-- The metadata reserve M in bytes (R301): two galley-log and two anchor plates and two map sheets for each head. [DEDUCED: notes/assumptions/42.md] -/
def State.metaBytes (s : State) : Nat := (8 + 4 * (s.mapWidth + 2)) * s.plateBytes

/-- Live L in bytes times `widthScale` (R301). -/
def State.liveScaled (s : State) : Nat :=
  (s.hth.sheets.map fun e => if e.2.width = 0 then 0 else e.2.live * 64 * (e.2.width + 2) * (widthScale / e.2.width)).sum

/-- Hundredths of a byte of spare S (R301). -/
def State.spareNow (s : State) : Int := (98 * s.rawBytes : Int) - 100 * s.metaBytes - s.hth.userC

/-- Free plates' bytes. -/
def State.freeBytes (s : State) : Nat := (s.admitted.map fun m => s.freePlates m * 2 ^ (s.module m).plateLog2).sum

/-- Whether L is at or above `pm` per mille of U. -/
def State.fillAtLeast (s : State) (pm : Nat) : Bool :=
  s.hth.userC != 0 && decide (pm * s.hth.userC * widthScale ≤ 100000 * s.liveScaled)

/-- Whether L + M + 0.02 R exceeds R, or `pm` per mille of it (Table 13.14, row 3). -/
def State.overRaw (s : State) (pm : Nat) : Bool :=
  decide (pm * s.rawBytes * widthScale < 1000 * s.liveScaled + (1000 * s.metaBytes + 20 * s.rawBytes) * widthScale)

/-- The row that the figures call for, given the row in force: a row is left only when its condition has been false by half a percentage point (R302). [DEDUCED: notes/assumptions/42.md] -/
def State.rowFor (s : State) (row : Nat) : Nat :=
  if s.hth.userC = 0 then 0
  else if s.overRaw 1000 || (row == 3 && s.overRaw 995) then 3
  else if s.fillAtLeast 1000 || (decide (2 ≤ row) && s.fillAtLeast 995) then 2
  else if s.fillAtLeast 950 || (decide (1 ≤ row) && s.fillAtLeast 945) then 1
  else 0

/-- Brings HTH_LADDER up to date (R301, R302): entering a row sets its bit; row 1 gives the capacity alert event, row 3 an alarm. Available Spare below 10 % sets SPARE_LOW. [DEDUCED: notes/assumptions/47.md] -/
def State.ladderEval (s : State) : State :=
  let was := s.rd F.HTH_LADDER_ROW
  let row := s.rowFor was
  let fill := if s.hth.userC = 0 then 0 else min 4095 (100000 * s.liveScaled / (s.hth.userC * widthScale))
  let spare := if s.hth.spareC ≤ 0 then 0 else min 1000 (1000 * s.spareNow.toNat / s.hth.spareC.toNat)
  let s := ((s.wr F.HTH_LADDER_ROW row).wr F.HTH_LADDER_FILL fill).wr F.HTH_LADDER_SPARE spare
  let low := decide (0 < s.hth.spareC) && decide (spare < 100)
  let s := if low && !s.hth.spareLow then s.raise F.HTH_INT_STATUS_SPARE_LOW else s
  let s := (({ s with hth := { s.hth with spareLow := low } } : State).smartSet 0 low).smartSet 3 (row == 3)
  let s := if was < 1 ∧ 1 ≤ row then ((s.raise F.HTH_INT_STATUS_ROW1).logRec .hth 1 .capacity 0 ⟨0, 0⟩ [row]).asyncAll (.capacity 95) else s
  let s := if was < 2 ∧ 2 ≤ row then (s.raise F.HTH_INT_STATUS_ROW2).asyncAll (.capacity 100) else s
  if was < 3 ∧ row = 3 then (s.raise F.HTH_INT_STATUS_ROW3).alarm .hth .capacity 0x0502 [row] else s

/-- φ in per mille: the share of usable plates that are Free, the reserves left out (R298). -/
def State.phi (s : State) : Nat :=
  let reserve := s.rawBytes * 2 / 100 + s.metaBytes
  if s.rawBytes = 0 then 0 else (s.freeBytes - reserve) * 1000 / s.rawBytes

/-- The share of each back-end direction that descaling may take, in per cent (R298); no more than what a rebuild that runs leaves of it (R267). [DEDUCED: notes/assumptions/44.md] -/
def State.descaleShare (s : State) : Nat :=
  let share := if 60 ≤ s.phi then 5 else if s.phi < 20 then 50 else 5 + (60 - s.phi) * 45 / 40
  if s.on F.IMP_REBUILD_ACTIVE then min share (100 - s.rd F.IMP_REBUILD_SHARE) else share

/-- Whether refine takes new pieces: φ is at least 2 % (R298). With no plates known nothing is held back. -/
def State.refineTakes (s : State) : Bool := s.rawBytes == 0 || decide (20 ≤ s.phi)

/-- The sheet that a reshape has in transit (R275). -/
def Reshape.transit (r : Reshape) : Option Nat := if r.boundary < r.list.length then r.list[r.boundary]? else none

/-- A reshape whose transit starts again (Table 12.9). -/
def Reshape.restart (r : Reshape) : Reshape := { r with copies := [], movesOut := false, held := false, again := true }

/-- Whether a reshape runs: its boundary has not been written at the end of its list. -/
def Reshape.runs (r : Reshape) : Bool := decide (r.written < r.list.length)

/-- The own and the partner's reshape by turn: the own one first while it runs (Table 12.10, step 6). -/
def reshapeTurn (own theirs : Option Reshape) : Option Reshape × Option Reshape :=
  if own.any (·.runs) || theirs.isNone then (own, theirs) else (theirs, own)

/-- Whether a reshape has a sheet in transit or has passed it (R276). A sheet whose transit restarts is an ordinary candidate for rebuild. -/
def State.reshaped (s : State) (id : Nat) : Bool := s.reshapes.any fun r => (r.list.take (r.boundary + if r.again then 0 else 1)).contains id

/-- Sheets that wait for rebuild (R264, R276): own sheets with a missing member, two missing first, then in ascending order. -/
def State.rebuildQueue (s : State) : List Nat :=
  let q := Tab.keysWhere s.hth.sheets fun id e => e.head == s.head && !e.missing.isEmpty && (e.state == .closed || e.state == .opened) && !s.reshaped id && !e.descale
  (q.filter fun id => decide (2 ≤ (s.sheet id).missing.length)) ++ q.filter fun id => decide ((s.sheet id).missing.length < 2)

/-- Shows the rebuild in IMP_REBUILD and IMP_REBUILD_LEFT; REBUILD_DONE is set when no sheet is left. -/
def State.showRebuild (s : State) : State :=
  let q := s.rebuildQueue
  let crit := (q.filter fun id => decide (2 ≤ (s.sheet id).missing.length)).length
  let was := s.rd F.IMP_REBUILD_ACTIVE
  let s := ((s.wr F.IMP_REBUILD_ACTIVE (bit (!q.isEmpty))).wr F.IMP_REBUILD_CRITICAL (bit (crit != 0))).wr F.IMP_REBUILD_RELOCATE (bit (!s.imp.relocating.isEmpty))
  let s := (s.wr F.IMP_REBUILD_LEFT_SHEETS q.length).wr F.IMP_REBUILD_LEFT_CRITICAL crit
  if was = 1 ∧ q.isEmpty then s.raise F.IMP_INT_STATUS_REBUILD_DONE else s

/-- The rebuild of a sheet goes back to stripe 0 (R268, R269). -/
def State.rebuildAgain (s : State) (id : Nat) : State :=
  match s.imp.rebuild with
  | some r => if r.sheet = id then { s with imp := { s.imp with rebuild := some { r with stripe := 0 } } } else s
  | none => s

/-- Spares of a sheet are abandoned to be erased, and its rebuild starts again (R269). -/
def State.abandonSpares (s : State) (id : Nat) (bad : Nat × Nat → Bool) : State :=
  let gone := ((s.sheet id).spares.filter fun x => bad x.2).map Prod.snd
  if gone.isEmpty then s
  else
    let s := s.journal ((gone.filter fun w => (s.plateRec w.1 w.2).state == .member).map fun w => .plate w.1 w.2 { s.plateRec w.1 w.2 with state := .toErase, sheet := 0 })
    (s.modSheet id fun e => { e with spares := e.spares.filter fun x => !bad x.2 }).rebuildAgain id

/-- A member of a sheet goes missing (R264): an open sheet closes at its current stripe, and the sheet waits for rebuild. -/
def State.memberGone (s : State) (id member : Nat) : State :=
  let e := s.sheet id
  if e.missing.contains member || e.state == .free || e.state == .toErase then s
  else
    let s := (s.modSheet id fun e => { e with missing := e.missing ++ [member] }).rebuildAgain id
    let s := if e.state = .opened ∧ e.head = s.head then s.closeSheet id else s
    s.showRebuild

/-- Every member on a module goes missing (R264, R321). -/
def State.moduleGone (s : State) (m : Nat) : State :=
  let hit := s.hth.sheets.flatMap fun p => (p.2.members.zipIdx).filterMap fun w => if w.1.1 = m then some (p.1, w.2) else none
  hit.foldl (fun s h => s.memberGone h.1 h.2) s

/-- A plate is retired (R300): its record changes, and a member on it goes missing. -/
def State.retirePlate (s : State) (m p : Nat) : State :=
  let r := s.plateRec m p
  if r.state = .retired then s
  else
    let s := s.journal [.plate m p { r with state := .retired, sheet := 0 }]
    let s := if r.state = .member then
        (match ((s.sheet r.sheet).members.zipIdx).find? fun w => w.1 == (m, p) with
        | some w => s.memberGone r.sheet w.2
        | none => s.abandonSpares r.sheet fun w => w == (m, p))
      else s
    s.ladderEval

/-- The volumes whose maps name a grain. -/
def State.volumesOf (s : State) (g : Nat) : List Nat := Tab.keysWhere s.vols fun _ v => v.map.any fun c => c.2.gid == g

/-- Whether a replication session covers a family that names a grain with a fingerprint record (R272, R341). [DEDUCED: notes/assumptions/98.md] -/
def State.mendable (s : State) (g : Nat) : Bool :=
  ((s.grain? g).bind (·.fp)).isSome &&
    (s.volumesOf g).any fun v => s.ste.sessions.any fun e => e.2.state != .free && (Tab.get {} s.vols e.2.volume).family == (Tab.get {} s.vols v).family

/-- Lists in the health log every extent that names a grain (R272). [DEDUCED: notes/assumptions/98.md] -/
def State.listGrain (s : State) (g cause : Nat) : State :=
  s.vols.foldl (fun s v =>
    if v.2.nsid = 0 then s
    else v.2.map.foldl (fun s c =>
      if c.2.gid = g then s.listLost v.2.nsid (c.1 * 8192 / lbafData v.2.lbaf) (8192 / lbafData v.2.lbaf) cause else s) s) s

/-- A grain becomes Lost (Table 9.3), and its extents are listed with a cause (R272). [DEDUCED: notes/assumptions/98.md] -/
def State.loseGrain (s : State) (g cause : Nat) : State :=
  match s.grain? g with
  | none => s
  | some e => if e.state = .live ∨ e.state = .deferred then (s.modGrain g fun e => { e with state := .lost }).listGrain g cause else s

/-- A grain of a Mending lost stripe has been written afresh (R272): with none left the entry becomes Mended, and it is freed with the same durable batch. -/
def State.mended (s : State) (g : Nat) : State :=
  s.imp.lostStripes.foldl (fun s p =>
    if p.2.state = .mending ∧ p.2.grains.contains g then
      let e := { p.2 with grains := p.2.grains.filter (· != g) }
      if e.grains.isEmpty then s.journal [.lost p.1 (some { e with state := .mended }), .lost p.1 none]
      else s.journal [.lost p.1 (some e)]
    else s) s

/-- A grain of a Mending lost stripe cannot be mended (R272): every unmended grain of the entry becomes Lost, and so does the entry. -/
def State.mendFails (s : State) (g : Nat) : State :=
  s.imp.lostStripes.foldl (fun s p =>
    if p.2.state = .mending ∧ p.2.grains.contains g then
      p.2.grains.foldl (fun s x => s.loseGrain x 1) (s.journal [.lost p.1 (some { p.2 with state := .lost })])
    else s) s

/-- The live sorts of a sheet, or of one stripe of it (R283). -/
def State.liveSorts (s : State) (id : Nat) (stripe : Option Nat) : List SortRec :=
  (s.sheet id).sorts.filter fun r =>
    (match s.grain? r.gid with
      | some e => (e.state == .live || e.state == .deferred) && e.addr == mkAddr id r.offset
      | none => false) &&
    (match stripe with | some k => r.offset / stripeUnits (s.sheet id).width == k | none => true)

/-- The grains that lie wholly or partly in a missing data role of a stripe (R271). [DEDUCED: notes/assumptions/98.md] -/
def State.stripeGrains (s : State) (id stripe : Nat) : List Nat :=
  let e := s.sheet id
  let cap := stripeUnits e.width
  let gone := (s.rolesMissing id stripe).filter (· < e.width)
  ((s.liveSorts id (some stripe)).filter fun r =>
    let a := r.offset - stripe * cap
    gone.any fun d => decide (a < (d + 1) * 1023) && decide (d * 1023 < a + r.units)).map (·.gid)

/-- A stripe with three or more missing roles is entered in the lost-stripe table (R268, R271): Mending when a session covers its grains, Lost otherwise; a full table makes its grains Lost at once (R273). [DEDUCED: notes/assumptions/98.md] -/
def State.lostStripe (s : State) (id stripe : Nat) : State :=
  if s.imp.lostStripes.any fun p => p.2.sheet == id && p.2.stripe == stripe then s
  else
    let gs := s.stripeGrains id stripe
    let s := (s.raise F.IMP_INT_STATUS_STRIPE_LOST).inc F.IMP_LOST_CNT_TOTAL
    let s := s.alarm .imp .lostStripe 0 [id, stripe]
    match Tab.freeKey s.imp.lostStripes 0 1048576 with
    | none => gs.foldl (fun s g => s.loseGrain g 1) ((s.raise F.IMP_INT_STATUS_LOST_FULL).alarm .imp .lostStripe)
    | some k =>
      let miss := (s.rolesMissing id stripe).map (memberOf (s.sheet id).width stripe)
      let mend := gs.any s.mendable
      let s := s.journal [.lost k (some ⟨id, stripe, miss, if mend then .mending else .lost, s.head, gs.length, s.now, gs⟩)]
      if mend then s else gs.foldl (fun s g => s.loseGrain g 1) s

/-- The score of a sheet as a fraction, numerator and denominator (R297): (1 − f) · a / (1 + f). -/
def State.score (s : State) (e : Sheet) : Nat × Nat :=
  let c := e.stripes * stripeUnits e.width
  let a := (s.now - e.closed) / 1000000000
  ((c - e.live) * a, c + e.live)

/-- Sheets that descaling may choose: own, Closed, and not in transit (R297). -/
def State.descalable (s : State) : List (Nat × Sheet) :=
  s.hth.sheets.filter fun p => p.2.head == s.head && p.2.state == .closed &&
    !(s.reshapes.any fun r => r.transit == some p.1)

/-- The next work of descaling (Table 13.12, R298): its rank, the sheet, and a stripe for rank 1. -/
def State.descaleNext (s : State) : Option (Nat × Nat × Option Nat) :=
  let ok := s.descalable
  let inOk (id : Nat) : Bool := ok.any fun p => p.1 == id
  let pause := s.on F.HTH_CTRL_DESCALE_PAUSE
  match s.hth.front.find? fun f => inOk f.sheet with
  | some f => some (1, f.sheet, f.stripe)
  | none => match ok.find? fun p => p.2.live == 0 with
    | some p => some (2, p.1, none)
    | none => match s.imp.relocating.find? inOk with
      | some id => some (3, id, none)
      | none =>
        if pause then none
        else match s.hth.wear.filter inOk with
          | some id => some (4, id, none)
          | none =>
            let cand := ok.filter fun p => decide (s.phi < 60) || decide (4 * p.2.live ≤ p.2.stripes * stripeUnits p.2.width)
            (cand.foldl (fun best p =>
              let x := s.score p.2
              match best with
              | none => some (p.1, x)
              | some (b, y) => if y.1 * x.2 < x.1 * y.2 then some (p.1, x) else some (b, y)) none).map fun b => (5, b.1, none)

end Sys2Proof.Machine
end

