-- ==== Sys2Proof/Machine/Flush.lean ====
section
/-! DEFINITION. What a flush writes: the pages of the metadata objects, their directories, and the checkpoint on the anchor plates (R284 to R286, R293, R294). -/

namespace Sys2Proof.Machine

/-- Picks a plate on each chosen module, leaving out plates whose CLAIM was lost. [DEDUCED: notes/assumptions/43.md] -/
def State.pickPlates (s : State) (lost : List (Nat × Nat)) (ms : List Nat) : List (Nat × Nat) :=
  ms.filterMap fun m => (s.pickPlate m lost).map fun p => (m, p)

/-- Claims a plate with EXPECT taken from OWNER (R315). [DEDUCED: notes/assumptions/43.md] -/
def State.claimPlate (s : State) (w : Nat × Nat) : State :=
  let s := s.gmpSend w.1 { op := Gmp.ownerOp, plate := w.2 } [] .plain
  s.gmpSend w.1 { op := Gmp.claim, plate := w.2, expect := ((s.dev w.1).plate w.2).epoch } [] .plain

/-- Whether two pages are the same page of the same tree. -/
def PageSlot.same (x : PageSlot) (tree : Nat) (p : Page) : Bool :=
  x.tree == tree && x.page.type == p.type && x.page.level == p.level && x.page.number == p.number

/-- The live page of a tree at a level and number. -/
def State.pageSlot (s : State) (tree type level number : Nat) : Option PageSlot :=
  s.hth.pages.find? fun x => x.tree == tree && x.page.type == type && x.page.level == level && x.page.number == number

/-- Whether the stripe that holds an address is closed: it is neither being packed nor being written. -/
def State.stripeShut (s : State) (addr : Nat) : Bool :=
  let id := addrSheet addr
  let k := addrOffset addr / stripeUnits (s.sheet id).width
  !((s.sheet id).cur.any fun o => o.stripe == k) && !(s.hth.flights.any fun f => f.sheet == id && f.stripe == k)

/-- A page that no directory names any more: its units count dead (R326), once its stripe is closed and as long as no other directory names its address. -/
def State.retirePage (s : State) (x : PageSlot) : State :=
  let s := { s with hth := { s.hth with pages := s.hth.pages.filter (· != x) } }
  if (s.hth.pages.any fun y => y.addr == x.addr) || !s.stripeShut x.addr then s else s.deadUnits (addrSheet x.addr) pageUnits

/-- Enters the address of a page in its tree; the page that it replaces is retired. -/
def State.enterPage (s : State) (tree : Nat) (p : Page) (addr : Nat) : State :=
  let s := (s.hth.pages.filter fun x => x.same tree p).foldl State.retirePage s
  { s with hth := { s.hth with pages := s.hth.pages ++ [⟨tree, p, addr⟩] } }

/-- Packs a page into the open map sheet, or, for copy B of the key records, into the second one (R282, R285). -/
def State.packPage (s : State) (p : Page) : Option (Nat × State) :=
  s.packUnits (if p.type = 11 then .mapB else .map) 0 0 .page (.page p) pageUnits

/-- Writes one page of a tree where its body has changed: it takes the address that another volume of its family gave an equal page (R325), or is packed. False once no map sheet has room. -/
def State.putPage (acc : Bool × State) (x : Nat × Page) : Bool × State :=
  let s := acc.2
  let p := x.2
  let equal (y : PageSlot) : Bool := y.page.object == p.object && y.page.body == p.body
  if !acc.1 then acc
  else if s.hth.pages.any fun y => y.same x.1 p && equal y then acc
  else match s.hth.pages.find? fun y => p.type == 4 && y.same y.tree p && equal y with
    | some y => (true, s.enterPage x.1 y.page y.addr)
    | none => match s.packPage p with
      | some (addr, s) => (true, s.enterPage x.1 p addr)
      | none => (false, s)

/-- Depth of an object (R285): the least D for which 512^D covers the highest page number. -/
def depthFor (top : Nat) : Nat := (((List.range 7).map (· + 1)).find? fun d => decide (top < 512 ^ d)).getD 7

/-- The live pages of a tree at one level. -/
def State.treePages (s : State) (tree type level : Nat) : List PageSlot :=
  s.hth.pages.filter fun x => x.tree == tree && x.page.type == type && x.page.level == level

/-- The depth of a tree whose content pages stand; 0 when it has none. -/
def State.treeDepth (s : State) (tree type : Nat) : Nat :=
  match (s.treePages tree type 0).map fun x => x.page.number with
  | [] => 0
  | n :: rest => depthFor (rest.foldl max n)

/-- The directory pages of one level (R285): 512 addresses of the level below, 0 for a page that is absent. SEQ is the highest of the pages below. -/
def State.dirPages (s : State) (tree type level : Nat) : List (Nat × Page) :=
  let below := s.treePages tree type (level - 1)
  ((below.map fun x => x.page.number / 512).eraseDups).map fun n =>
    let mine := below.filter fun x => x.page.number / 512 == n
    let addrOf (i : Nat) : Nat := ((mine.find? fun x => x.page.number % 512 == i).map (·.addr)).getD 0
    (tree, { type := type, level := level, object := ((mine.head?).map fun x => x.page.object).getD 0, head := s.head, number := n,
             seq := (mine.map fun x => x.page.seq).foldl max 0, body := (List.range 512).flatMap fun i => leBytes (addrOf i) 8 })

/-- Writes the directory of a tree from level 1 upwards (R293 step 3); levels above its depth and pages with nothing below them go. -/
def State.putDirs (acc : Bool × State) (x : Nat × Nat) : Bool × State :=
  let d := acc.2.treeDepth x.1 x.2
  if !acc.1 then acc
  else
    let (ok, s) := (List.range d).foldl (fun (a : Bool × State) i => (a.2.dirPages x.1 x.2 (i + 1)).foldl State.putPage a) acc
    let stale (y : PageSlot) : Bool := y.tree == x.1 && y.page.type == x.2 && y.page.level != 0 &&
      (decide (d < y.page.level) || !(s.hth.pages.any fun z => z.tree == x.1 && z.page.type == x.2 && z.page.level + 1 == y.page.level && z.page.number / 512 == y.page.number))
    (ok, if ok then (s.hth.pages.filter stale).foldl State.retirePage s else s)

/-- The root address of a tree and its depth (R285). -/
def State.treeRoot (s : State) (tree type : Nat) : Nat × Nat :=
  let d := s.treeDepth tree type
  (((s.pageSlot tree type d 0).map (·.addr)).getD 0, d)

/-- The node pages of the volumes that this head writes (R285, R288, R323). -/
def State.nodePages (s : State) (i : Image) (e : Nat) : List (Nat × Page) :=
  (i.vols.filter fun v => v.2.holder == s.head && v.2.state != .free).flatMap fun v =>
    v.2.nodes.map fun x => (v.1, { type := 4, level := 0, object := v.2.family, head := s.head, number := v.2.pageNum x.1 x.2.1, seq := e, body := v.2.nodeBody x.1 x.2.1 x.2.2 })

/-- The content pages of a half: grain table, fingerprint table, overflow table and index buckets. -/
def State.halfPages (s : State) (i : Image) (hb : Bool) : List (Nat × Nat × Bytes) :=
  let gs := if hb then i.grains1 else i.grains0
  let bs := if hb then i.buckets1 else i.buckets0
  ((itemPages 256 16 (gs.map fun g => (g.1, g.2.words))).map fun x => (5, x)) ++
    ((itemPages 128 32 ((gs.filter fun g => g.2.fp.isSome).map fun g => (g.1, g.2.fpRecord))).map fun x => (6, x)) ++
    ((itemPages 256 16 ((gs.filter fun g => g.2.ovf).map fun g => (g.1, g.2.ovfCounter))).map fun x => (7, x)) ++
    (bucketImages (s.halfSlots hb) bs).map fun x => (8, x)

/-- The content pages of the objects that belong to no half and no volume (Table 13.5): sheets, plates, volume records, lost stripes, key records twice, sort lists and health. -/
def State.tablePages (s : State) (i : Image) : List (Nat × Nat × Bytes) :=
  let mine := i.sheets.filter fun e => e.1 / 2 ^ 31 == s.head
  let items (type per size : Nat) (t : Tab Bytes) : List (Nat × Nat × Bytes) := (itemPages per size t).map fun x => (type, x)
  let keys := i.keys.map fun k => (k.1, keyBytes k.1 (some k.2))
  items 1 16 256 (mine.map fun e => (e.1 % 2 ^ 31, e.2.entry)) ++ items 2 512 8 (i.plates.map fun p => (p.1, leBytes p.2.word 8)) ++
    items 3 64 64 ((i.vols.filter fun v => v.2.holder == s.head).map fun v => (v.1, volumeBytes v.1 v.2)) ++
    items 9 128 32 ((i.lostStripes.filter fun l => l.2.head == s.head).map fun l => (l.1, lostBytes (some l.2))) ++
    items 10 32 128 keys ++ items 11 32 128 keys ++
    (mine.flatMap fun e => items 12 256 16 ((e.2.sorts.zipIdx).map fun r => (e.1 % 2 ^ 31 * 2 ^ 29 + r.2, r.1.bytes))) ++
    s.hth.health.map fun h => (13, h.1, s.moduleRecord h.1 ++ zeros 2048)

/-- Every content page that this head's objects have, but for map nodes. -/
def State.contentPages (s : State) (i : Image) (e : Nat) : List (Nat × Page) :=
  let page (tree : Nat) (x : Nat × Nat × Bytes) : Nat × Page := (tree, { type := x.1, level := 0, object := 0, head := s.head, number := x.2.1, seq := e, body := x.2.2 })
  (s.tablePages i).map (page 0) ++ ([false, true].filter fun hb => s.holdsHalf hb).flatMap fun hb => (s.halfPages i hb).map (page (bit hb))

/-- The metadata objects after the batches up to a SEQ. -/
def State.imageUpTo (s : State) (i : Image) (bs : List Batch) (seqEnd : Nat) : Image :=
  ((s.loadImage i).replayBatches (bs.filter fun b => decide (b.seq ≤ seqEnd))).image

/-- SEQ of a page (Table 13.4): that of the last batch up to SEQ_END at which its body changed, and SEQ_END where none of them changed it. -/
def State.pageSeq (s : State) (pages : Image → List (Nat × Page)) (e : Nat) (x : Nat × Page) : Nat :=
  let bodyIn (i : Image) : Option Bytes := ((pages i).find? fun y => y.1 == x.1 && y.2.type == x.2.type && y.2.number == x.2.number).map (·.2.body)
  let start := s.hth.journal.image
  let trail := (s.hth.journal.ring.filter fun b => decide (b.seq ≤ e)).foldl (fun (a : Nat × Image × Option Bytes) b =>
    let i := s.imageUpTo a.2.1 [b] b.seq
    let now_ := bodyIn i
    (if now_ = a.2.2 then a.1 else b.seq, i, now_)) (e, start, bodyIn start)
  if trail.2.2 = some x.2.body then trail.1 else e

/-- Writes the pages of a list that have changed, each with its SEQ, and retires those of the named objects that are no longer in the list (R293 step 2). -/
def State.putPages (pages : Image → List (Nat × Page)) (types : List Nat) (e : Nat) (acc : Bool × State) : Bool × State :=
  let want := pages acc.2.hth.journal.next
  let gone := acc.2.hth.pages.filter fun y => y.page.level == 0 && types.contains y.page.type && !(want.any fun x => y.same x.1 x.2)
  let s := gone.foldl State.retirePage acc.2
  (want.map fun x => (x.1, { x.2 with seq := s.pageSeq pages e x })).foldl State.putPage (acc.1, s)

/-- The object codes but for that of map nodes. -/
def tableTypes : List Nat := [1, 2, 3, 5, 6, 7, 8, 9, 10, 11, 12, 13]

/-- The roots of the volumes' node objects go into their records (R285). -/
def State.takeRoots (s : State) (vols : Tab Volume) : Tab Volume :=
  vols.map fun v => (v.1, if v.2.holder = s.head then { v.2 with dirRoot := (s.treeRoot v.1 4).1, dirDepth := (s.treeRoot v.1 4).2 } else v.2)

/-- Writes every changed page and directory of a flush (R293 steps 2 and 3): map nodes first, whose roots the volume records then carry. False while a map sheet lacks room. -/
def State.putAll (s : State) (e : Nat) : Bool × State :=
  let trees := (s.hth.journal.next.vols.filter fun v => v.2.holder == s.head).map fun v => (v.1, 4)
  let acc := trees.foldl State.putDirs (State.putPages (fun i => s.nodePages i e) [4] e (true, s))
  if !acc.1 then acc
  else
    let s := acc.2
    let j := s.hth.journal
    let s := { s with hth := { s.hth with journal := { j with next := { j.next with vols := s.takeRoots j.next.vols } } } }
    let trees := tableTypes.flatMap fun t => if 5 ≤ t ∧ t ≤ 8 then ([false, true].filter fun hb => s.holdsHalf hb).map fun hb => (bit hb, t) else [(0, t)]
    trees.foldl State.putDirs (State.putPages (fun i => s.contentPages i e) tableTypes e (true, s))

/-- Takes two new anchor plates on two modules when there are none, a plate is full, or the module or plate of one has failed (R293). [DEDUCED: notes/assumptions/131.md] -/
def State.anchorsFor (s : State) : State :=
  let size := (s.hth.anchors.map fun a => 2 ^ (s.module a.1).plateLog2 / 4096).foldl min (2 ^ 18)
  let good := s.hth.anchors.all fun a => s.admitted.contains a.1 && (s.plateRec a.1 a.2).state == .anchor
  if s.hth.anchors.length = 2 ∧ s.hth.anchorPos + 16 ≤ size ∧ good then s
  else match s.chooseModules [] 2 with
    | none => s
    | some ms =>
      let ws := s.pickPlates [] ms
      if ws.length ≠ 2 then s
      else
        let old := s.hth.anchorOld.getD [] ++ s.hth.anchors
        let s := (ws.foldl State.claimPlate s).journal (ws.map fun w => .plate w.1 w.2 { s.plateRec w.1 w.2 with state := .anchor })
        { s with hth := { s.hth with anchors := ws, anchorPos := 0, anchorGen := s.hth.anchorGen + 1, anchorOld := some old } }

/-- The checkpoint of a flush (Table 13.10, R294): the marks, roots, open sheets and counters as they stand. -/
def State.ckptNow (s : State) (e : Nat) : Ckpt :=
  let own := bit (s.head == 1)
  let rootOf (t : Nat) : Nat × Nat := s.treeRoot (if 5 ≤ t ∧ t ≤ 8 then own else 0) t
  { seq := s.hth.journal.ckpt.seq + 1, seqEnd := e, stampHwm := s.chs.hwm, epochMark := s.hth.epochMark, pairEpoch := s.rd F.GMP_PAIR_EPOCH_EPOCH
    hwm0 := if s.holdsHalf false then s.mtx.half0.hwm else 0
    hwm1 := if s.holdsHalf true then s.mtx.half1.hwm else 0
    roots := (tableTypes.map fun t => (t, rootOf t)).filter fun r => r.2.1 != 0
    opens := (s.hth.sheets.filter fun (p : Nat × Sheet) => p.2.state == SheetState.opened && p.2.head == s.head).map fun (p : Nat × Sheet) => (p.1, p.2.writePoint)
    lostTotal := s.rd F.IMP_LOST_CNT_TOTAL, freed := s.rd F.HTH_DESCALE_CNT_SHEETS, copied := s.rd F.HTH_DESCALE_CNT_MOVED, takeovers := s.rd F.ANV_TAKEOVER_LAST_COUNT }

/-- Writes the checkpoint at the next free position of both anchor plates (R293 step 4), at the start of the 64 KiB that a WRITE takes. [DEDUCED: notes/assumptions/131.md] -/
def State.sendCkpt (s : State) (e : Nat) : State :=
  let s := s.anchorsFor
  if s.hth.anchors.length ≠ 2 then s
  else
    let c := s.ckptNow e
    let b := c.bytes s.head ++ zeros 61440
    let s := s.hth.anchors.foldl (fun (s : State) w => s.gmpSend w.1 { op := Gmp.write, plate := w.2, offset := s.hth.anchorPos / 16 * 1024, length := 65536 } b .anchor) s
    let j := s.hth.journal
    { s with hth := { s.hth with anchorPos := s.hth.anchorPos + 16, journal := { j with sent := some c, acks := [], next := { j.next with slots := s.hth.pages } } } }

/-- A flush goes on (R293): its changed pages and directories are packed, and once every stripe that holds a live page is closed its checkpoint goes to the anchors. It waits while no map sheet has room. -/
def State.flushStep (s : State) : State :=
  match s.hth.journal.flush with
  | none => s
  | some e =>
    if s.hth.journal.sent.isSome then s
    else
      let (ok, s) := s.putAll e
      if ok && s.hth.pages.all fun x => s.stripeShut x.addr then s.sendCkpt e else s

/-- The metadata on flash with what a lost partner's map journal still adds, whose records then leave the mirror control area (R287). While the partner is there they stay. [DEDUCED: notes/assumptions/9.md] -/
def State.foldLost (s : State) : Image × State :=
  let i := s.hth.journal.image
  if s.paired then (i, s)
  else
    let top := s.anv.ctl.ring.foldl (fun a b => max a b.seq) 0
    (s.imageUpTo i s.anv.ctl.ring top, { s with anv := { s.anv with ctl := { s.anv.ctl with ring := [] } } })

/-- Starts a flush, or leaves it due while one runs (R293): SEQ_END is the last record of the last complete durable batch, and the pages are written as they stood there. -/
def State.flushStart (s : State) : State :=
  let j := s.hth.journal
  match j.flush with
  | some _ => { s with hth := { s.hth with journal := { j with due := true } } }
  | none =>
    let e := s.rd F.HTH_JOURNAL_SEQ
    let i := s.imageUpTo s.foldLost.1 j.ring e
    let next := { i with vols := i.vols.map fun v => (v.1, v.2.numbered), slots := s.hth.pages }
    State.flushStep { s with hth := { s.hth with journal := { j with flush := some e, due := false, gathered := 0, lastFlush := s.now, next := next, sent := none, acks := [] } } }

/-- The new anchor pair is named in every module's anchor record, and the plates that it replaces become To erase (R293). -/
def State.nameAnchors (s : State) : State :=
  match s.hth.anchorOld, s.hth.anchors with
  | some old, [a, b] =>
    let rec_ : AnchorRec := ⟨s.hth.anchorGen, memberWord a, memberWord b⟩
    let s := s.admitted.foldl (fun s m => s.gmpSend m { op := Gmp.setAnchor, length := 64 } rec_.bytes .plain) s
    let s := s.journal ((old.filter fun w => (s.plateRec w.1 w.2).state == .anchor).map fun w => .plate w.1 w.2 { s.plateRec w.1 w.2 with state := .toErase })
    { s with hth := { s.hth with anchorOld := none } }
  | _, _ => s

/-- The checkpoint of a flush is durable (R293, R294): records up to SEQ_END stand in map sheets, their ring space is free, and a CKPT record follows. -/
def State.ckptDone (s : State) (e : Nat) (c : Ckpt) : State :=
  let (img, s) := s.foldLost
  let j := s.hth.journal
  let img := s.imageUpTo img j.ring e
  let rooted (v : Nat × Volume) : Nat × Volume := match Tab.find j.next.vols v.1 with
    | some w => (v.1, { v.2 with nums := w.nums, dirRoot := w.dirRoot, dirDepth := w.dirDepth })
    | none => v
  let img := { img with slots := j.next.slots, vols := img.vols.map rooted }
  let s := { s with
    vols := s.vols.map rooted
    hth := { s.hth with journal := { j with image := img, next := {}, ckpt := c, ckptAt := s.now, flush := none, sent := none, acks := [], ring := j.ring.filter fun b => decide (e < b.seq) } } }
  let s := (s.nameAnchors.wr F.HTH_CKPT_SEQ_END e).journal [.ckpt c.seq e (memberWord (s.hth.anchors.headD (0, 0))) (s.hth.anchorPos - 16)]
  ({ s with gly := { s.gly with ckptSince := true } } : State).sendWaiting

/-- The anchor plates that the modules' anchor records name for this head, those of the highest generation, with that generation (R293). [DEDUCED: notes/assumptions/131.md] -/
def State.namedAnchors (s : State) : Nat × List (Nat × Nat) :=
  let here := Tab.keysWhere s.gmp.mods fun _ m => m.state == .admitting || m.state == .admitted || m.state == .activating
  let recs := here.map fun m => if s.head = 0 then (s.dev m).anchor0 else (s.dev m).anchor1
  let best := recs.foldl (fun (b : AnchorRec) r => if b.gen < r.gen then r else b) {}
  (best.gen, if best.gen = 0 then [] else [best.a, best.b].map fun w => (w / 2 ^ 25, w % 2 ^ 25))

/-- The checkpoints that an anchor plate holds (R294). -/
def State.ckptsOn (s : State) (w : Nat × Nat) : List Ckpt :=
  ((s.dev w.1).plate w.2).chunks.filterMap fun c => (c.2.filter fun b => ckptOk s.head (b.take 4096)).map fun b => Ckpt.ofBytes (b.take 4096)

/-- Loads the checkpoint with the highest sequence that passes its CRC on either anchor (R294, Table 13.11): the durable one, or the one that a power failure caught on its way, whose pages are all written. Writing goes on behind the last position of either plate. [DEDUCED: notes/assumptions/9.md, notes/assumptions/131.md] -/
def State.loadCkpt (s : State) : State :=
  let (gen, ws) := s.namedAnchors
  let all := ws.flatMap s.ckptsOn
  let pos := (ws.map fun w => (((s.dev w.1).plate w.2).chunks.getLast?.map fun c => (c.1 + 1) * 16).getD 0).foldl max 0
  let s : State := { s with hth := { s.hth with anchors := ws, anchorGen := gen, anchorPos := pos } }
  let j := s.hth.journal
  match all.foldl (fun (b : Option Ckpt) c => match b with
      | some x => if x.seq < c.seq then some c else b
      | none => some c) none with
  | none => { s with hth := { s.hth with journal := { j with ckpt := {}, image := {}, next := {}, sent := none } } }
  | some c =>
    let new := j.sent.any fun x => x.seq == c.seq
    { s with hth := { s.hth with journal := { j with ckpt := c, image := if new then j.next else j.image, next := {}, sent := none } } }

end Sys2Proof.Machine
end

