-- ==== Sys2Proof/Machine/Lines.lean ====
section
/-! DEFINITION. Lines and the lanes bound to them: which cluster a lane stands in, which channel it is, and where a job may run (R15, R148). -/

namespace Sys2Proof.Machine

/-- Lanes of a station type in each cluster. -/
def Station.perCluster : Station → Nat
  | .punch => 6 | .swageC => 5 | .swageE => 10 | .temper => 4 | .proof => 28 | .imposition => 1

/-- The channel number of a station type's first lane: Swage numbers its expand lanes after its 40 compress lanes. -/
def Station.first : Station → Nat
  | .swageE => 40 | _ => 0

/-- The channel numbers of a station type's lanes. -/
def Station.lanes (t : Station) : List Nat := (List.range (t.perCluster * 8)).map (t.first + ·)

/-- The cluster of a lane. -/
def Station.cluster (t : Station) (lane : Nat) : Nat := (lane - t.first) / t.perCluster

/-- MB/s that one lane takes in (Table 1.11, R162, R257). -/
def Station.rate : Station → Nat
  | .punch => 6400 | .swageC => 6400 | .swageE => 6400 | .temper => 25600 | .proof => 102400 | .imposition => 102400

/-- A line that the head runs. -/
def State.line (s : State) (n : Nat) : Option RunLine := Tab.find s.fm.lines n

/-- The kind of a line (Table 2.5). -/
def State.lineKind (s : State) (n : Nat) : Option Nat := (s.line n).map (·.kind)

/-- The lowest line of a kind. -/
def State.lineOfKind (s : State) (k : Nat) : Option Nat := (s.fm.lines.find? fun l => l.2.kind == k).map Prod.fst

/-- The lanes of a station type that a line has in a cluster, lowest number first. -/
def RunLine.lanesIn (l : RunLine) (t : Station) (cluster : Nat) : List Nat :=
  ((l.lanes.filter fun b => b.typ == t && t.cluster b.lane == cluster).map (·.lane)).foldl (fun a n => a.takeWhile (· < n) ++ [n] ++ a.dropWhile (· < n)) []

/-- The line that a lane is bound to (R15). -/
def State.lineOfLane (s : State) (t : Station) (lane : Nat) : Option Nat :=
  (s.fm.lines.find? fun l => l.2.lanes.any fun b => b.typ == t && b.lane == lane).map Prod.fst

/-- The grain stages of a line kind (R148). -/
def grainStages : Nat → List Station
  | 0 => [.punch]
  | 1 => [.swageC, .temper, .proof]
  | 2 => [.proof, .temper, .swageE]
  | 3 => [.proof]
  | _ => []

/-- The clusters that hold every one of the given stages of a line (R148). -/
def RunLine.clusters (l : RunLine) (stages : List Station) : List Nat :=
  (List.range 8).filter fun c => stages.all fun t => !(l.lanesIn t c).isEmpty

/-- A Swage or Temper descriptor with its status word written back (Tables 10.6 and 11.7): STATUS, DONE, and OUT_LEN, which is 0 unless STATUS is 0. -/
def descBack (desc : Bytes) (st : Status) (outLen : Nat) : Bytes :=
  overlay desc 0x30 (leBytes (st * 2 ^ 48 + 2 ^ 47 + bits (leAt desc 0x30 8) 46 32 * 2 ^ 32 + if st = 0 then outLen else 0) 8)

/-- The cluster with the fewest queued jobs among those given, the lowest of equals (R148). -/
def State.leastLoaded (s : State) (cs : List Nat) : Option Nat :=
  let load (c : Nat) : Nat := Tab.count s.prf.jobs fun _ j => j.cluster == c
  cs.foldl (fun best c =>
    match best with
    | none => some c
    | some b => if load c < load b then some c else best) none

/-- Whether a lane has a job, by its channel kind (R389). -/
def State.laneHasJob (s : State) (kind lane : Nat) : Bool :=
  (s.prf.jobs.any fun j => j.2.lane == some ⟨kind, lane⟩) ||
    match kind with
    | 7 => (Tab.find s.pun.running lane).isSome
    | 8 => (Tab.find s.swg.running lane).isSome || s.swg.streams.any fun e => e.2.lane == some lane
    | 9 => (Tab.find s.tmp.running lane).isSome
    | 10 => (Tab.find s.imp.running lane).isSome
    | 11 => (Tab.get ({} : ProofUnit) s.prf.units lane).station.isSome || s.prf.regOpen.any fun r => r.unitNo == lane
    | _ => false

/-- Whether a lane can take the grain of a placed job (R148): it is in service, its station is enabled, and nothing runs on it. A placed job runs to completion while its line drains (R51). -/
def State.laneIdle (s : State) (t : Station) (lane : Nat) : Bool :=
  !s.laneFaulty t.kind lane && !(s.prf.jobs.any fun j => j.2.lane == some ⟨t.kind, lane⟩) &&
    match t with
    | .punch => s.on F.PUN_CTRL_ENABLE && (Tab.find s.pun.running lane).isNone
    | .swageC | .swageE => s.on F.SWG_CTRL_ENABLE && (Tab.find s.swg.running lane).isNone && !(s.swg.streams.any fun e => e.2.lane == some lane)
    | .temper => s.on F.TMP_CTRL_ENABLE && (Tab.find s.tmp.running lane).isNone
    | .proof => s.on F.PRF_CTRL_ENABLE && (Tab.get ({} : ProofUnit) s.prf.units lane).station.isNone && !(s.prf.regOpen.any fun r => r.unitNo == lane)
    | .imposition => s.on F.IMP_CTRL_ENABLE && (Tab.find s.imp.running lane).isNone

/-- Opens the station stream of a Proof unit (R161). -/
def State.stationOpen (s : State) (u : Nat) (x : Option Stream) : State :=
  { s with prf := { s.prf with units := Tab.modify {} s.prf.units u fun e => { e with station := x } } }

/-- The job on a lane: its tag, its last checkpoint as bytes of its segment taken in, and its line. A grain job counts by its own number. -/
def State.jobOn (s : State) (c : Chan) : Option (Nat × Nat × Nat) :=
  match s.prf.jobs.find? fun j => j.2.lane == some c with
  | some (n, j) => some (n, 0, j.line)
  | none => match c.kind with
    | 7 => (Tab.find s.pun.running c.index).map fun j => (j.tag, j.taken, j.line)
    | 8 => (Tab.find s.swg.running c.index).map fun j => (j.tag, 0, j.line)
    | 9 => (Tab.find s.tmp.running c.index).map fun j => (j.tag, 0, j.line)
    | 10 => (Tab.find s.imp.running c.index).map fun j => (j.tag, 0, j.line)
    | _ => none

/-- The domain of the steward that owns a channel (Table 17.1): that of its line where it has one. -/
def State.stewardOf (s : State) (c : Chan) : Nat :=
  match c.kind with
  | 1 | 2 | 5 => 1
  | 4 => 5
  | 6 | 14 => 0
  | 12 => 2
  | 3 | 10 | 13 => 4
  | k =>
    if k = 11 ∧ 224 ≤ c.index then 1
    else ((s.fm.lines.find? fun l => l.2.lanes.any fun b => b.typ.kind == k && b.lane == c.index).map fun l => l.2.domain).getD 0

/-- A lane gives up the stream blocks that are open on it (R219): each stream goes on from its last block boundary on any lane, and the input taken in since is given again. -/
def State.freeBlocks (s : State) (lane : Nat) : State :=
  { s with swg := { s.swg with streams := s.swg.streams.map fun e => (e.1, if e.2.lane = some lane then { e.2 with lane := none } else e.2) } }

/-- Takes the job of a lane away from it (R16): a spoiled job never waits, but goes back to its last checkpoint on a sibling. A Punch job that was saved waits with the jobs set aside, and any other job stands at the front of its station's queue; a grain job enters its stage again. -/
def State.jobOff (s : State) (c : Chan) : State :=
  let s := if c.kind = 11 then s.stationOpen c.index none else s
  let s := { s with prf := { s.prf with jobs := s.prf.jobs.map fun j => (j.1, if j.2.lane = some c then { j.2 with lane := none } else j.2) } }
  match c.kind with
  | 7 => (match Tab.find s.pun.running c.index with
    | none => s
    | some j =>
      let p := { s.pun with running := Tab.erase s.pun.running c.index }
      if j.second.isSome then { s with pun := { p with aside := p.aside ++ [(c.index / 6, j)] } }
      else { s with pun := { p with queued := (c.index / 6, { j with st := none }) :: p.queued } })
  | 8 => (match Tab.find s.swg.running c.index with
    | none => s
    | some j =>
      let cluster := if c.index < 40 then Station.cluster .swageC c.index else Station.cluster .swageE c.index
      { s with swg := { s.swg with running := Tab.erase s.swg.running c.index, queued := (cluster, j) :: s.swg.queued } }).freeBlocks c.index
  | 9 => (match Tab.find s.tmp.running c.index with
    | none => s
    | some j => { s with tmp := { s.tmp with running := Tab.erase s.tmp.running c.index, queued := (c.index / 4, { j with started := false, counter := 0 }) :: s.tmp.queued } })
  | 10 => (match Tab.find s.imp.running c.index with
    | none => s
    | some j => { s with imp := { s.imp with running := Tab.erase s.imp.running c.index, queued := j :: s.imp.queued } })
  | _ => s

/-- A channel has been found at fault (R16): its report names the job it spoiled, that job's last checkpoint and the steward who decides, and the job leaves the lane. The classification of R376 follows as CHANNEL_ERROR. [DESIGN CHOICE: notes/assumptions/30.md] -/
def State.report (s : State) (kind index : Nat) (st : Status) : State :=
  let c : Chan := ⟨kind, index⟩
  let j := s.jobOn c
  let r : FaultReport := { chan := c, status := st, job := j.map (·.1), checkpoint := (j.map (·.2.1)).getD 0, line := j.map (·.2.2), steward := s.stewardOf c }
  State.jobOff { s with flt := { s.flt with reported := s.flt.reported ++ [r] } } c

/-- Sets which lines drain (R51): those given, and no other. -/
def State.drain (s : State) (ids : List Nat) : State :=
  { s with fm := { s.fm with lines := s.fm.lines.map fun (l : Nat × RunLine) => (l.1, { l.2 with draining := ids.contains l.1 }) } }

/-- The group whose turn it is drains; while Takeover suspends the re-form, or in guard, no line drains (R50, R51, R54, R136). [DEDUCED: notes/assumptions/91.md] -/
def State.drainNext (s : State) : State :=
  match s.fm.reform with
  | some r => s.drain (if r.suspended || s.gly.supply.any (·.guard) then [] else r.groups.headD [])
  | none => s.drain []

end Sys2Proof.Machine
end

