-- ==== Sys2Proof/Machine/ImpJobs.lean ====
section
/-! DEFINITION. Imposition's jobs: descriptors, the queue of each line, outputs, and the jobs that a closed stripe and a rebuild make (R149, R254 to R258, R265). -/

namespace Sys2Proof.Machine

/-- An Imposition descriptor read into a job (Table 12.4), with the bytes of its sources in role order. -/
def impJob (desc : Bytes) (src : List Bytes) : ImpJob :=
  let w0 := leAt desc 0 8
  let w2 := leAt desc 0x10 8
  { tag := bits w0 63 32, line := bits w0 31 27, op := bits w0 26 24, cls := bits w0 23 22, width := bits w0 21 17, missX := bits w0 16 12, missY := bits w0 11 7,
    two := bitOf w0 6, off := bits w2 63 32, len := bits w2 31 0, src := src, desc := desc }

/-- Whether a descriptor is invalid (R256). -/
def impInvalid (desc : Bytes) (j : ImpJob) : Bool :=
  bits (leAt desc 0 8) 5 0 != 0 || decide (1 < j.op) || j.cls == 3 || decide (j.width < 4 ∨ 30 < j.width) ||
    decide (j.width + 1 < j.missX ∨ j.width + 1 < j.missY) || (j.two && decide (j.missY ≤ j.missX)) ||
    decide (j.off % 64 ≠ 0 ∨ j.len % 64 ≠ 0 ∨ j.len < 64 ∨ bodyLen < j.off + j.len) ||
    (j.op == 0 && (j.missX != 0 || j.missY != 0 || j.two)) || bits (leAt desc 0x28 8) 46 0 != 0

/-- A descriptor with what a job writes back (Table 12.4): STATUS, DONE and the CRCs of the outputs. -/
def impDone (desc : Bytes) (st : Status) (a b : Nat) : Bytes :=
  overlay desc 0x28 (leBytes (st * 2 ^ 48 + 2 ^ 47) 8 ++ leBytes a 8 ++ leBytes b 8)

/-- Writes back an Imposition result: the outputs at DST_A and DST_B, and the descriptor. -/
def State.impResult (s : State) (j : ImpJob) (st : Status) (a b : Bytes) : State :=
  let ca := if st = 0 then crc64 a else 0
  let cb := if st = 0 ∧ (j.op = 0 ∨ j.two) then crc64 b else 0
  let r : ImpResult := { tag := j.tag, status := st, outA := a, outB := b, crcA := ca, crcB := cb, desc := impDone j.desc st ca cb, dstA := leAt j.desc 0x18 8, dstB := leAt j.desc 0x20 8 }
  { s with imp := { s.imp with results := s.imp.results ++ [r] } }

/-- The units of a line that are in service and idle, lowest first. -/
def State.freeUnits (s : State) (line : Nat) : List Nat :=
  match s.line line with
  | none => []
  | some l => ((List.range 8).flatMap fun c => l.lanesIn .imposition c).filter fun u => !s.laneOff Kind.imposition u && (Tab.find s.imp.running u).isNone

/-- The first job of a line's queue: by CLASS, then by arrival (R257). [DEDUCED: notes/assumptions/32.md] -/
def State.impNext (s : State) (line : Nat) : Option ImpJob :=
  let q := s.imp.queued.filter fun j => j.line == line
  ((q.find? fun j => j.cls == 2).or (q.find? fun j => j.cls == 1)).or q.head?

/-- Starts the next job of a line on an idle unit. While IMP_CTRL.ENABLE is 0 only self-test jobs start, which are those of a line of kind 6. -/
def State.impTake (s : State) (line : Nat) : State :=
  if !s.on F.IMP_CTRL_ENABLE && s.lineKind line != some 6 then s
  else match s.impNext line, (s.freeUnits line).head? with
    | some j, some u => { s with imp := { s.imp with queued := s.imp.queued.erase j, running := Tab.put s.imp.running u j } }
    | _, _ => s

/-- The two outputs of a job over its range (R254): P and Q, or the missing roles. -/
def ImpJob.outputs (j : ImpJob) : Bytes × Bytes :=
  let src := j.src.map fun b => b.take j.len ++ zeros (j.len - b.length)
  if j.op = 0 then (parityP j.len (src.take j.width), parityQ j.len (src.take j.width))
  else
    let y := if j.two then j.missY else j.missX
    let all := reconstruct j.len j.width j.missX y src
    (all.getD j.missX [], if j.two then all.getD j.missY [] else [])

/-- Queues a job and lets its line's units take what they can (R257). -/
def State.impSubmit (s : State) (j : ImpJob) : State := State.impTake { s with imp := { s.imp with queued := s.imp.queued ++ [j] } } j.line


/-- The roles of a sort's stripe that its reconstruction takes as missing: those that are, and for a repair the sort's own (R165). -/
def State.reconRoles (s : State) (addr units : Nat) (repair : Bool) : List Nat :=
  let id := addrSheet addr
  (List.range ((s.sheet id).width + 2)).filter fun r => (s.rolesMissing id (s.stripeOf addr)).contains r || (repair && (s.sortRoles addr units).contains r)

/-- The bytes of a body that the reconstruction of a sort covers (R258): the part of the sort in the one chunk that it wants, or the whole body where it wants two. -/
def State.reconRange (s : State) (addr units : Nat) (gone : List Nat) : Nat × Nat :=
  match (s.sortRoles addr units).filter fun r => gone.contains r with
  | [r] =>
    let a := addrOffset addr % stripeUnits (s.sheet (addrSheet addr)).width
    let lo := max a (r * 1023)
    ((lo - r * 1023) * 64, (min (a + units) ((r + 1) * 1023) - lo) * 64)
  | _ => (0, bodyLen)

/-- The job that reconstructs a sort (R258): CLASS 2, on a line of kind 4. None when more than two roles are gone. [DESIGN CHOICE: notes/assumptions/125.md] -/
def State.reconJob (s : State) (gid addr units : Nat) (repair : Bool) : Option ImpJob :=
  let id := addrSheet addr
  let gone := s.reconRoles addr units repair
  let (off, len) := s.reconRange addr units gone
  let src := (s.rolesAt id (s.stripeOf addr)).map fun b => slice (b.getD (zeros bodyLen)) off len
  let job (x y : Nat) (two : Bool) : ImpJob :=
    { tag := 0, line := (s.lineOfKind 4).getD 0, op := 1, cls := 2, width := (s.sheet id).width, missX := x, missY := y, two := two, off := off, len := len, src := src, use := .recon gid repair }
  match gone with
  | [x] => some (job x 0 false)
  | [x, y] => some (job x y true)
  | _ => none

/-- Asks for the reconstruction of a grain's sort. False when parity cannot give it. -/
def State.askRecon (s : State) (gid addr units : Nat) (repair : Bool) : Bool × State :=
  match s.reconJob gid addr units repair with
  | none => (false, s)
  | some j => (true, State.impSubmit { s with imp := { s.imp with recon := Tab.put s.imp.recon gid ⟨addr, units, repair, none⟩ } } j)

/-- The outputs of a reconstruction job: the sort waits for the one that asked for it. -/
def State.reconDone (s : State) (j : ImpJob) (gid : Nat) (repair : Bool) (a b : Bytes) : State :=
  match Tab.find s.imp.recon gid with
  | none => s
  | some r =>
    if r.repair ≠ repair ∨ r.out.isSome then s
    else
      let src := (s.rolesAt (addrSheet r.addr) (s.stripeOf r.addr)).map fun b => b.getD (zeros bodyLen)
      let src := src.set j.missX (overlay (zeros bodyLen) j.off a)
      let src := if j.two then src.set j.missY (overlay (zeros bodyLen) j.off b) else src
      { s with imp := { s.imp with recon := Tab.put s.imp.recon gid { r with out := some (s.cutSort r.addr r.units src) } } }

/-- The line whose Imposition stage writes the stripes of a sheet (R149, R275): a line of kind 4 for a reshape's sheets, the class's refine line for the rest, and for a map sheet, which has no class, the lowest refine line. [DESIGN CHOICE: notes/assumptions/125.md] -/
def State.parityLine (s : State) (e : Sheet) : Nat :=
  (if e.role = .reshape then s.lineOfKind 4
  else if e.isMap then s.lineOfKind 1
  else ((s.classOf e.cls).map (·.refLine)).or (s.lineOfKind 1)).getD 0

/-- The stripe job of a closed stripe whose OPEN record is durable (R149, R260 step 3): P and Q over its data roles. [DESIGN CHOICE: notes/assumptions/125.md] -/
def State.stripeJob (s : State) (f : Flight) : ImpJob :=
  { tag := 0, line := s.parityLine (s.sheet f.sheet), op := 0, cls := 1, width := f.width, missX := 0, missY := 0, two := false, off := 0, len := bodyLen, src := f.dataBodies, use := .stripe f.sheet f.stripe }

/-- The job that reconstructs the missing roles of a stripe onto spares (R265), with `x` and `y` its missing roles and `bs` its bodies in role order. [DESIGN CHOICE: notes/assumptions/125.md] -/
def State.rebuildJob (s : State) (id stripe x y : Nat) (bs : List Bytes) : ImpJob :=
  { tag := 0, line := (s.lineOfKind 4).getD 0, op := 1, cls := 0, width := (s.sheet id).width, missX := x, missY := if x = y then 0 else y, two := x != y, off := 0, len := bodyLen, src := bs, use := .rebuild id stripe }

end Sys2Proof.Machine
end

