-- ==== Sys2Proof/Machine/SwageCode.lean ====
section
/-! DEFINITION. The Swage block format, bit for bit: predictors, counts, the coding table, sub-streams, and the head's own encoder (R203 to R212). -/

namespace Sys2Proof.Machine

/-- The hash of three bytes (R205). -/
def swHash (a b c : Nat) : Nat := ((a + 256 * b + 65536 * c) * 0x9E3779B1 % 2 ^ 32) / 2 ^ 20

/-- A byte of an array as a number. -/
def arrByte (x : Array Byte) (i : Nat) : Nat := (x.getD i 0).toNat

/-- The hash of the three bytes before position `i`. -/
def swKey (x : Array Byte) (i : Nat) : Nat := swHash (arrByte x (i - 3)) (arrByte x (i - 2)) (arrByte x (i - 1))

/-- The match prediction at position `i` with the table H, whose entries hold a position plus 1 (R205). -/
def swMatch (x : Array Byte) (h : Array Nat) (i : Nat) : Nat :=
  if i < 3 then 0
  else match h.getD (swKey x i) 0 with
    | 0 => 0
    | j + 1 =>
      if arrByte x (j - 3) = arrByte x (i - 3) ∧ arrByte x (j - 2) = arrByte x (i - 2) ∧ arrByte x (j - 1) = arrByte x (i - 1) then arrByte x j else 0

/-- The prediction of a code at position `i` (Table 10.2). -/
def swPredict (code stride : Nat) (x : Array Byte) (h : Array Nat) (i : Nat) : Nat :=
  match code with
  | 0 => 0
  | 1 => if i = 0 then 0 else arrByte x (i - 1)
  | 2 => if i < stride then 0 else arrByte x (i - stride)
  | _ => swMatch x h i

/-- H after position `i` (R205). -/
def swNote (x : Array Byte) (h : Array Nat) (i : Nat) : Array Nat := if i < 3 then h else h.setIfInBounds (swKey x i) (i + 1)

/-- The empty table H. -/
def swEmpty : Array Nat := Array.replicate 4096 0

/-- Tiles of a block of N bytes (R203). -/
def tilesOf (n : Nat) : Nat := (n + 255) / 256

/-- The residues of the four predictors at every position, in index order (R204). -/
def swResidues (stride : Nat) (x : Array Byte) : Array (List Nat) :=
  ((List.range x.size).foldl (fun (acc : Array (List Nat) × Array Nat) i =>
    let r := [0, 1, 2, 3].map fun c => (arrByte x i + 256 - swPredict c stride x acc.2 i) % 256
    (acc.1.push r, swNote x acc.2 i)) (#[], swEmpty)).1

/-- The bytes that residues and predictor codes rebuild (R205). -/
def swRebuild (stride : Nat) (codes : Array Nat) (r : Array Nat) : Array Byte :=
  ((List.range r.size).foldl (fun (acc : Array Byte × Array Nat) i =>
    let p := swPredict (codes.getD (i / 256) 0) stride acc.1 acc.2 i
    let x := acc.1.push (BitVec.ofNat 8 (r.getD i 0 + p))
    (x, swNote x acc.2 i)) (#[], swEmpty)).1

/-- The stride with the most repeats in the first 2,048 bytes; the lowest wins a tie (R211). -/
def swStride (x : Array Byte) : Nat :=
  let score (s : Nat) : Nat := ((List.range (min 2048 x.size)).filter fun i => decide (s ≤ i) && arrByte x i == arrByte x (i - s)).length
  ((List.range 64).foldl (fun (best : Nat × Nat) k => let v := score (k + 1); if best.2 < v then (k + 1, v) else best) (1, score 1)).1

/-- The cost of a residue (R211). -/
def swCost (r : Nat) : Nat := if r = 0 then 0 else 1 + (Nat.log2 (min r (256 - r)) + 1)

/-- The predictor code of every tile (R211). -/
def swCodes (res : Array (List Nat)) : Array Nat :=
  ((List.range (tilesOf res.size)).map fun t =>
    let idx := (List.range (min 256 (res.size - 256 * t))).map (256 * t + ·)
    let cost (c : Nat) : Nat := (idx.map fun i => swCost ((res.getD i []).getD c 0)).sum
    (([1, 2, 3].foldl (fun (best : Nat × Nat) c => let v := cost c; if v < best.2 then (c, v) else best) (0, cost 0)).1)).toArray

/-- The coding table from the counts of the 256 symbols (R208): symbol, bits and base of each entry. -/
def swTable (count : Array Nat) : Array (Nat × Nat × Nat) :=
  let sym := ((List.range 256).foldl (fun (acc : Array Nat × Nat) v =>
    (List.range (count.getD v 0)).foldl (fun (acc : Array Nat × Nat) _ => (acc.1.setIfInBounds acc.2 v, (acc.2 + 1283) % 2048)) acc) (Array.replicate 2048 0, 0)).1
  ((List.range 2048).foldl (fun (acc : Array (Nat × Nat × Nat) × Array Nat) u =>
    let v := sym.getD u 0
    let x := acc.2.getD v 0
    let nb := 11 - Nat.log2 x
    (acc.1.push (v, nb, x * 2 ^ nb - 2048), acc.2.setIfInBounds v (x + 1))) (#[], count)).1

/-- Reads one sub-stream of `n` residues (R209): none when a read runs below bit 0, or the state or the bits are not used up. -/
def swReadSub (table : Array (Nat × Nat × Nat)) (bs : Bytes) (n : Nat) : Option (List Nat) :=
  let last := byteAt bs (bs.length - 1)
  if bs.length < 2 ∨ last = 0 then none
  else
    let v := leAt bs 0 bs.length
    let q := 8 * (bs.length - 1) + Nat.log2 last
    if q < 11 then none
    else go v n ((v / 2 ^ (q - 11)) % 2048) (q - 11)
where
  /-- The residues from a state with `q` bits left. -/
  go (v : Nat) : Nat → Nat → Nat → Option (List Nat)
    | 0, state, q => if state = 0 ∧ q = 0 then some [] else none
    | n + 1, state, q =>
      let e := table.getD state (0, 0, 0)
      if q < e.2.1 then none
      else
        let q' := q - e.2.1
        (go v n (e.2.2 + (v / 2 ^ q') % 2 ^ e.2.1) q').map (e.1 :: ·)

/-- Bytes of a bit string with its end marker, padded to whole bytes (R212). -/
def swPadBits (v pos : Nat) : Bytes := leBytes (v + 2 ^ pos) ((pos + 8) / 8)

/-- Writes one sub-stream (R212). -/
def swWriteSub (table : Array (Nat × Nat × Nat)) (count : Array Nat) (rs : List Nat) : Bytes :=
  let spots (v : Nat) : Array Nat := ((List.range 2048).filter fun u => (table.getD u (0, 0, 0)).1 == v).toArray
  let all : Array (Array Nat) := ((List.range 256).map fun v => if count.getD v 0 = 0 then #[] else spots v).toArray
  let (x, num, pos) := rs.reverse.foldl (fun (acc : Nat × Nat × Nat) r =>
    let c := count.getD r 0
    let nb := ((List.range 12).find? fun k => decide (acc.1 / 2 ^ k < 2 * c)).getD 0
    (2048 + (all.getD r #[]).getD (acc.1 / 2 ^ nb - c) 0, acc.2.1 + (acc.1 % 2 ^ nb) * 2 ^ acc.2.2, acc.2.2 + nb)) (2048, 0, 0)
  swPadBits (num + (x - 2048) * 2 ^ pos) (pos + 11)

/-- The largest count, the lowest symbol on a tie. -/
def swLargest (count : Array Nat) : Nat :=
  ((List.range 256).foldl (fun (b : Nat × Nat) v => if b.2 < count.getD v 0 then (v, count.getD v 0) else b) (0, 0)).1

/-- Counts that add up to 2,048 from the occurrences of each symbol (R211). -/
def swCounts (occ : Array Nat) (n : Nat) : Array Nat :=
  let c : Array Nat := ((List.range 256).map fun v => if occ.getD v 0 = 0 then 0 else max 1 (occ.getD v 0 * 2048 / n)).toArray
  let sum := c.toList.sum
  let c := (List.range (sum - 2048)).foldl (fun (c : Array Nat) _ => let v := swLargest c; c.setIfInBounds v (c.getD v 0 - 1)) c
  (List.range (2048 - sum)).foldl (fun (c : Array Nat) _ => let v := swLargest c; c.setIfInBounds v (c.getD v 0 + 1)) c

/-- The count section (R207). -/
def swCountBytes (count : Array Nat) : Bytes :=
  let present := (List.range 256).filter fun v => decide (0 < count.getD v 0)
  let bitmap := (List.range 32).map fun b => BitVec.ofNat 8 ((List.range 8).foldl (fun a k => a + bit (decide (0 < count.getD (8 * b + k) 0)) * 2 ^ k) 0)
  bitmap ++ present.dropLast.flatMap fun v =>
    let c := count.getD v 0
    if c ≤ 128 then [BitVec.ofNat 8 (c - 1)] else [BitVec.ofNat 8 (128 + (c - 1) / 256), BitVec.ofNat 8 (c - 1)]

/-- Reads the counts of the present symbols but the last (R207): the counts and how many bytes they take; none when a count is not in its one encoding. -/
def swReadCounts : List Nat → Bytes → Option (List (Nat × Nat) × Nat)
  | [], _ => some ([], 0)
  | v :: vs, bs =>
    match bs with
    | [] => none
    | b :: rest =>
      if b.toNat < 128 then (swReadCounts vs rest).map fun r => ((v, b.toNat + 1) :: r.1, r.2 + 1)
      else match rest with
        | [] => none
        | lo :: rest =>
          let c := (b.toNat - 128) * 256 + lo.toNat + 1
          if c < 129 ∨ 2047 < c then none
          else (swReadCounts vs rest).map fun r => ((v, c) :: r.1, r.2 + 2)

/-- Every fourth element from `k` on. -/
def everyFourth (k : Nat) (r : Array Nat) : List Nat := (List.range ((r.size + 3 - k) / 4)).map fun j => r.getD (4 * j + k) 0

/-- The four sub-streams put together in index order (R206). -/
def interleave4 (n : Nat) (subs : List (List Nat)) : Array Nat :=
  let a := subs.map List.toArray
  ((List.range n).map fun i => (a.getD (i % 4) #[]).getD (i / 4) 0).toArray

/-- The predictor bytes of a block (Table 10.1). -/
def swPredBytes (codes : Array Nat) : Bytes :=
  (List.range ((codes.size + 3) / 4)).map fun b => BitVec.ofNat 8 ((List.range 4).foldl (fun a k => a + codes.getD (4 * b + k) 0 * 4 ^ k) 0)

/-- The block that the head emits for 1 to 65,536 bytes (R211, R212), and the predictor code of each tile. -/
def swEncode (inp : Bytes) : Bytes × Array Nat :=
  let x := inp.toArray
  let n := x.size
  let stride := swStride x
  let res := swResidues stride x
  let codes := swCodes res
  let r : Array Nat := ((List.range n).map fun i => (res.getD i []).getD (codes.getD (i / 256) 0) 0).toArray
  let head (mode l0 l1 l2 : Nat) : Bytes :=
    [BitVec.ofNat 8 (16 + 4 * mode), BitVec.ofNat 8 (stride - 1)] ++ leBytes (n - 1) 2 ++ leBytes l0 2 ++ leBytes l1 2 ++ leBytes l2 2 ++ swPredBytes codes
  if r.toList.all (· == r.getD 0 0) then (head 1 0 0 0 ++ [BitVec.ofNat 8 (r.getD 0 0)], codes)
  else
    let occ := r.toList.foldl (fun (a : Array Nat) v => a.setIfInBounds v (a.getD v 0 + 1)) (Array.replicate 256 0)
    let count := swCounts occ n
    let table := swTable count
    let subs := (List.range 4).map fun k => swWriteSub table count (everyFourth k r)
    let l (k : Nat) : Nat := (subs.getD k []).length
    (head 0 (l 0) (l 1) (l 2) ++ swCountBytes count ++ subs.flatten, codes)

/-- N of a block's header; none when it is too short to have one. -/
def swN (b : Bytes) : Option Nat := if b.length < 10 then none else some (leAt b 2 2 + 1)

/-- Decodes a block (R203 to R210); none when it breaks a condition of Table 10.3. -/
def swDecode (b : Bytes) : Option Bytes :=
  let f := byteAt b 0
  let n := leAt b 2 2 + 1
  let t := tilesOf n
  let np := (t + 3) / 4
  let mode := bits f 3 2
  let codes : Array Nat := ((List.range t).map fun i => bits (byteAt b (10 + i / 4)) (2 * (i % 4) + 1) (2 * (i % 4))).toArray
  let stray := t % 4 ≠ 0 ∧ byteAt b (10 + t / 4) / 4 ^ (t % 4) ≠ 0
  let stride := bits (byteAt b 1) 5 0 + 1
  let rest := b.drop (10 + np)
  if b.length < 10 + np ∨ bits f 7 4 ≠ 1 ∨ 1 < mode ∨ bits f 1 0 ≠ 0 ∨ bits (byteAt b 1) 7 6 ≠ 0 ∨ stray then none
  else if mode = 1 then
    match leAt b 4 6, rest with
    | 0, [v] => some (swRebuild stride codes (Array.replicate n v.toNat)).toList
    | _, _ => none
  else if rest.length < 32 then none
  else
    let present := (List.range 256).filter fun v => bitOf (byteAt rest (v / 8)) (v % 8)
    if present.length < 2 then none
    else match swReadCounts present.dropLast (rest.drop 32) with
      | none => none
      | some (cs, used) =>
        let sum := (cs.map Prod.snd).sum
        if 2047 < sum then none
        else
          let count := cs.foldl (fun (a : Array Nat) p => a.setIfInBounds p.1 p.2) ((Array.replicate 256 0).setIfInBounds (present.getLastD 0) (2048 - sum))
          let table := swTable count
          let body := rest.drop (32 + used)
          let l0 := leAt b 4 2
          let l1 := leAt b 6 2
          let l2 := leAt b 8 2
          if body.length < l0 + l1 + l2 then none
          else
            let subs := [(0, body.take l0), (1, slice body l0 l1), (2, slice body (l0 + l1) l2), (3, body.drop (l0 + l1 + l2))]
            match subs.mapM fun p => swReadSub table p.2 ((n + 3 - p.1) / 4) with
            | none => none
            | some rs => some (swRebuild stride codes (interleave4 n rs)).toList

end Sys2Proof.Machine
end

