-- ==== Sys2Proof/Machine/Aes.lean ====
section
/-! DEFINITION. AES-256 (FIPS 197) and the modes of Table 11.1 over it: XTS (IEEE 1619), GCM (SP 800-38D), CTR, CBC, CFB-128 and OFB (SP 800-38A), and the key wrap AES-KW (RFC 3394) (R225, R227, R233, R239, R243). -/

namespace Sys2Proof.Machine

/-- The substitution table of AES. -/
def aesSbox : List Byte :=
  [0x63#8, 0x7C#8, 0x77#8, 0x7B#8, 0xF2#8, 0x6B#8, 0x6F#8, 0xC5#8, 0x30#8, 0x01#8, 0x67#8, 0x2B#8, 0xFE#8, 0xD7#8, 0xAB#8, 0x76#8] ++
  [0xCA#8, 0x82#8, 0xC9#8, 0x7D#8, 0xFA#8, 0x59#8, 0x47#8, 0xF0#8, 0xAD#8, 0xD4#8, 0xA2#8, 0xAF#8, 0x9C#8, 0xA4#8, 0x72#8, 0xC0#8] ++
  [0xB7#8, 0xFD#8, 0x93#8, 0x26#8, 0x36#8, 0x3F#8, 0xF7#8, 0xCC#8, 0x34#8, 0xA5#8, 0xE5#8, 0xF1#8, 0x71#8, 0xD8#8, 0x31#8, 0x15#8] ++
  [0x04#8, 0xC7#8, 0x23#8, 0xC3#8, 0x18#8, 0x96#8, 0x05#8, 0x9A#8, 0x07#8, 0x12#8, 0x80#8, 0xE2#8, 0xEB#8, 0x27#8, 0xB2#8, 0x75#8] ++
  [0x09#8, 0x83#8, 0x2C#8, 0x1A#8, 0x1B#8, 0x6E#8, 0x5A#8, 0xA0#8, 0x52#8, 0x3B#8, 0xD6#8, 0xB3#8, 0x29#8, 0xE3#8, 0x2F#8, 0x84#8] ++
  [0x53#8, 0xD1#8, 0x00#8, 0xED#8, 0x20#8, 0xFC#8, 0xB1#8, 0x5B#8, 0x6A#8, 0xCB#8, 0xBE#8, 0x39#8, 0x4A#8, 0x4C#8, 0x58#8, 0xCF#8] ++
  [0xD0#8, 0xEF#8, 0xAA#8, 0xFB#8, 0x43#8, 0x4D#8, 0x33#8, 0x85#8, 0x45#8, 0xF9#8, 0x02#8, 0x7F#8, 0x50#8, 0x3C#8, 0x9F#8, 0xA8#8] ++
  [0x51#8, 0xA3#8, 0x40#8, 0x8F#8, 0x92#8, 0x9D#8, 0x38#8, 0xF5#8, 0xBC#8, 0xB6#8, 0xDA#8, 0x21#8, 0x10#8, 0xFF#8, 0xF3#8, 0xD2#8] ++
  [0xCD#8, 0x0C#8, 0x13#8, 0xEC#8, 0x5F#8, 0x97#8, 0x44#8, 0x17#8, 0xC4#8, 0xA7#8, 0x7E#8, 0x3D#8, 0x64#8, 0x5D#8, 0x19#8, 0x73#8] ++
  [0x60#8, 0x81#8, 0x4F#8, 0xDC#8, 0x22#8, 0x2A#8, 0x90#8, 0x88#8, 0x46#8, 0xEE#8, 0xB8#8, 0x14#8, 0xDE#8, 0x5E#8, 0x0B#8, 0xDB#8] ++
  [0xE0#8, 0x32#8, 0x3A#8, 0x0A#8, 0x49#8, 0x06#8, 0x24#8, 0x5C#8, 0xC2#8, 0xD3#8, 0xAC#8, 0x62#8, 0x91#8, 0x95#8, 0xE4#8, 0x79#8] ++
  [0xE7#8, 0xC8#8, 0x37#8, 0x6D#8, 0x8D#8, 0xD5#8, 0x4E#8, 0xA9#8, 0x6C#8, 0x56#8, 0xF4#8, 0xEA#8, 0x65#8, 0x7A#8, 0xAE#8, 0x08#8] ++
  [0xBA#8, 0x78#8, 0x25#8, 0x2E#8, 0x1C#8, 0xA6#8, 0xB4#8, 0xC6#8, 0xE8#8, 0xDD#8, 0x74#8, 0x1F#8, 0x4B#8, 0xBD#8, 0x8B#8, 0x8A#8] ++
  [0x70#8, 0x3E#8, 0xB5#8, 0x66#8, 0x48#8, 0x03#8, 0xF6#8, 0x0E#8, 0x61#8, 0x35#8, 0x57#8, 0xB9#8, 0x86#8, 0xC1#8, 0x1D#8, 0x9E#8] ++
  [0xE1#8, 0xF8#8, 0x98#8, 0x11#8, 0x69#8, 0xD9#8, 0x8E#8, 0x94#8, 0x9B#8, 0x1E#8, 0x87#8, 0xE9#8, 0xCE#8, 0x55#8, 0x28#8, 0xDF#8] ++
  [0x8C#8, 0xA1#8, 0x89#8, 0x0D#8, 0xBF#8, 0xE6#8, 0x42#8, 0x68#8, 0x41#8, 0x99#8, 0x2D#8, 0x0F#8, 0xB0#8, 0x54#8, 0xBB#8, 0x16#8]

/-- The inverse substitution table. -/
def aesInvSbox : List Byte :=
  [0x52#8, 0x09#8, 0x6A#8, 0xD5#8, 0x30#8, 0x36#8, 0xA5#8, 0x38#8, 0xBF#8, 0x40#8, 0xA3#8, 0x9E#8, 0x81#8, 0xF3#8, 0xD7#8, 0xFB#8] ++
  [0x7C#8, 0xE3#8, 0x39#8, 0x82#8, 0x9B#8, 0x2F#8, 0xFF#8, 0x87#8, 0x34#8, 0x8E#8, 0x43#8, 0x44#8, 0xC4#8, 0xDE#8, 0xE9#8, 0xCB#8] ++
  [0x54#8, 0x7B#8, 0x94#8, 0x32#8, 0xA6#8, 0xC2#8, 0x23#8, 0x3D#8, 0xEE#8, 0x4C#8, 0x95#8, 0x0B#8, 0x42#8, 0xFA#8, 0xC3#8, 0x4E#8] ++
  [0x08#8, 0x2E#8, 0xA1#8, 0x66#8, 0x28#8, 0xD9#8, 0x24#8, 0xB2#8, 0x76#8, 0x5B#8, 0xA2#8, 0x49#8, 0x6D#8, 0x8B#8, 0xD1#8, 0x25#8] ++
  [0x72#8, 0xF8#8, 0xF6#8, 0x64#8, 0x86#8, 0x68#8, 0x98#8, 0x16#8, 0xD4#8, 0xA4#8, 0x5C#8, 0xCC#8, 0x5D#8, 0x65#8, 0xB6#8, 0x92#8] ++
  [0x6C#8, 0x70#8, 0x48#8, 0x50#8, 0xFD#8, 0xED#8, 0xB9#8, 0xDA#8, 0x5E#8, 0x15#8, 0x46#8, 0x57#8, 0xA7#8, 0x8D#8, 0x9D#8, 0x84#8] ++
  [0x90#8, 0xD8#8, 0xAB#8, 0x00#8, 0x8C#8, 0xBC#8, 0xD3#8, 0x0A#8, 0xF7#8, 0xE4#8, 0x58#8, 0x05#8, 0xB8#8, 0xB3#8, 0x45#8, 0x06#8] ++
  [0xD0#8, 0x2C#8, 0x1E#8, 0x8F#8, 0xCA#8, 0x3F#8, 0x0F#8, 0x02#8, 0xC1#8, 0xAF#8, 0xBD#8, 0x03#8, 0x01#8, 0x13#8, 0x8A#8, 0x6B#8] ++
  [0x3A#8, 0x91#8, 0x11#8, 0x41#8, 0x4F#8, 0x67#8, 0xDC#8, 0xEA#8, 0x97#8, 0xF2#8, 0xCF#8, 0xCE#8, 0xF0#8, 0xB4#8, 0xE6#8, 0x73#8] ++
  [0x96#8, 0xAC#8, 0x74#8, 0x22#8, 0xE7#8, 0xAD#8, 0x35#8, 0x85#8, 0xE2#8, 0xF9#8, 0x37#8, 0xE8#8, 0x1C#8, 0x75#8, 0xDF#8, 0x6E#8] ++
  [0x47#8, 0xF1#8, 0x1A#8, 0x71#8, 0x1D#8, 0x29#8, 0xC5#8, 0x89#8, 0x6F#8, 0xB7#8, 0x62#8, 0x0E#8, 0xAA#8, 0x18#8, 0xBE#8, 0x1B#8] ++
  [0xFC#8, 0x56#8, 0x3E#8, 0x4B#8, 0xC6#8, 0xD2#8, 0x79#8, 0x20#8, 0x9A#8, 0xDB#8, 0xC0#8, 0xFE#8, 0x78#8, 0xCD#8, 0x5A#8, 0xF4#8] ++
  [0x1F#8, 0xDD#8, 0xA8#8, 0x33#8, 0x88#8, 0x07#8, 0xC7#8, 0x31#8, 0xB1#8, 0x12#8, 0x10#8, 0x59#8, 0x27#8, 0x80#8, 0xEC#8, 0x5F#8] ++
  [0x60#8, 0x51#8, 0x7F#8, 0xA9#8, 0x19#8, 0xB5#8, 0x4A#8, 0x0D#8, 0x2D#8, 0xE5#8, 0x7A#8, 0x9F#8, 0x93#8, 0xC9#8, 0x9C#8, 0xEF#8] ++
  [0xA0#8, 0xE0#8, 0x3B#8, 0x4D#8, 0xAE#8, 0x2A#8, 0xF5#8, 0xB0#8, 0xC8#8, 0xEB#8, 0xBB#8, 0x3C#8, 0x83#8, 0x53#8, 0x99#8, 0x61#8] ++
  [0x17#8, 0x2B#8, 0x04#8, 0x7E#8, 0xBA#8, 0x77#8, 0xD6#8, 0x26#8, 0xE1#8, 0x69#8, 0x14#8, 0x63#8, 0x55#8, 0x21#8, 0x0C#8, 0x7D#8]

/-- A byte through a substitution table. -/
def subByte (t : List Byte) (b : Byte) : Byte := t.getD b.toNat 0

/-- A byte times x modulo x^8 + x^4 + x^3 + x + 1. -/
def xtimes (b : Byte) : Byte := (b <<< 1) ^^^ (if b.msb then 0x1B else 0)

/-- The bytes of a block, by column and row, after each row has turned left by its number times `k`. -/
def shiftRows (k : Nat) (b : Bytes) : Bytes := (List.range 16).map fun i => b.getD ((i + 4 * k * (i % 4)) % 16) 0

/-- One byte of a column times the fixed matrix: twice the byte, three times the next, and the other two. -/
def mixByte (a b c d : Byte) : Byte := xtimes (a ^^^ b) ^^^ b ^^^ c ^^^ d

/-- Every column of a block through the matrix. -/
def mixColumns (b : Bytes) : Bytes :=
  (List.range 16).map fun i =>
    let at_ (k : Nat) := b.getD (i / 4 * 4 + (i + k) % 4) 0
    mixByte (at_ 0) (at_ 1) (at_ 2) (at_ 3)

/-- The inverse of the matrix, which is the matrix after each byte has taken four times its own sum with the byte across. -/
def invMixColumns (b : Bytes) : Bytes :=
  mixColumns ((List.range 16).map fun i =>
    let a := b.getD i 0
    a ^^^ xtimes (xtimes (a ^^^ b.getD (i / 4 * 4 + (i + 2) % 4) 0)))

/-- The next 32 bytes of a 256-bit key schedule, with the round constant that enters them. -/
def nextKeys (rc : Byte) (k : Bytes) : Bytes :=
  let w (i : Nat) := slice k (4 * i) 4
  let sub (b : Bytes) := b.map (subByte aesSbox)
  let g := sub ((w 7).drop 1 ++ (w 7).take 1)
  let a := xorBytes (xorBytes (w 0) g) [rc, 0, 0, 0]
  let b := xorBytes (w 1) a
  let c := xorBytes (w 2) b
  let d := xorBytes (w 3) c
  let e := xorBytes (w 4) (sub d)
  let f := xorBytes (w 5) e
  let h := xorBytes (w 6) f
  a ++ b ++ c ++ d ++ e ++ f ++ h ++ xorBytes (w 7) h

/-- `n` more pairs of round keys after a pair. -/
def moreKeys : Nat → Byte → Bytes → List Bytes
  | 0, _, _ => []
  | n + 1, rc, k =>
    let x := nextKeys rc k
    [x.take 16, x.drop 16] ++ moreKeys n (xtimes rc) x

/-- The 15 round keys of a 256-bit key. -/
def aesKeys (key : Bytes) : List Bytes := ([key.take 16, slice key 16 16] ++ moreKeys 7 1 key).take 15

/-- Encrypts a block under round keys. -/
def aesRounds (ks : List Bytes) (b : Bytes) : Bytes :=
  let s := ((ks.drop 1).take 13).foldl (fun s k => xorBytes (mixColumns (shiftRows 1 (s.map (subByte aesSbox)))) k) (xorBytes b (ks.getD 0 []))
  xorBytes (shiftRows 1 (s.map (subByte aesSbox))) (ks.getD 14 [])
/-- Decrypts a block under round keys. -/
def aesUnrounds (ks : List Bytes) (b : Bytes) : Bytes :=
  let back (s : Bytes) := (shiftRows 3 s).map (subByte aesInvSbox)
  let s := (((ks.drop 1).take 13).reverse).foldl (fun s k => invMixColumns (xorBytes (back s) k)) (xorBytes b (ks.getD 14 []))
  xorBytes (back s) (ks.getD 0 [])

/-- AES-256 of one block: key, block. [PRESUMED: notes/assumptions/132.md] -/
def aesBlock (key b : Bytes) : Bytes := aesRounds (aesKeys key) b

/-- The blocks of a text, the last one as short as it is. -/
def blocks16 (t : Bytes) : List Bytes := (List.range ((t.length + 15) / 16)).map fun i => slice t (16 * i) 16

/-- The XTS tweak times alpha, as a little-endian number. -/
def xtsNext (t : Nat) : Nat := (2 * t) % 2 ^ 128 ^^^ (if 2 ^ 127 ≤ t then 0x87 else 0)

/-- XTS over blocks from a tweak (R233): block j takes the tweak times alpha to the j. -/
def xtsBlocks (enc : Bool) (ks : List Bytes) : Nat → List Bytes → Bytes
  | _, [] => []
  | t, b :: rest =>
    let m := leBytes t 16
    xorBytes ((if enc then aesRounds else aesUnrounds) ks (xorBytes b m)) m ++ xtsBlocks enc ks (xtsNext t) rest

/-- XTS-AES-256 of whole blocks (R233): encrypt or decrypt, Key1 then Key2, the tweak, the text. [PRESUMED: notes/assumptions/132.md] -/
def xtsAes (enc : Bool) (key tweak text : Bytes) : Bytes :=
  xtsBlocks enc (aesKeys (key.take 32)) (leAt (aesBlock (slice key 32 32) tweak) 0 16) (blocks16 text)

/-- A 16-byte counter block with `i` added to its last 32 bits. -/
def ctrAt (iv : Bytes) (i : Nat) : Bytes := iv.take 12 ++ beBytes ((beNat (slice iv 12 4) + i) % 2 ^ 32) 4

/-- CTR from a first counter block (R239): the last 32 bits rise by 1 for each block. -/
def ctrText (ks : List Bytes) (iv text : Bytes) : Bytes :=
  ((blocks16 text).zipIdx).flatMap fun b => xorBytes b.1 (aesRounds ks (ctrAt iv b.2))

/-- CBC encryption of whole blocks. -/
def cbcSeal (ks : List Bytes) : Bytes → List Bytes → Bytes
  | _, [] => []
  | iv, b :: rest =>
    let c := aesRounds ks (xorBytes b iv)
    c ++ cbcSeal ks c rest

/-- CBC decryption of whole blocks. -/
def cbcOpen (ks : List Bytes) : Bytes → List Bytes → Bytes
  | _, [] => []
  | iv, b :: rest => xorBytes (aesUnrounds ks b) iv ++ cbcOpen ks b rest

/-- CFB-128, whose feedback is the cipher text. -/
def cfbText (ks : List Bytes) (dec : Bool) : Bytes → List Bytes → Bytes
  | _, [] => []
  | iv, b :: rest =>
    let c := xorBytes b (aesRounds ks iv)
    c ++ cfbText ks dec (if dec then b else c) rest

/-- OFB, whose feedback is the key stream. -/
def ofbText (ks : List Bytes) : Bytes → List Bytes → Bytes
  | _, [] => []
  | iv, b :: rest =>
    let o := aesRounds ks iv
    xorBytes b o ++ ofbText ks o rest

/-- The modes CTR, CBC, CFB-128 and OFB by their MODE code of Table 11.1: decrypt, key, first counter block or IV, text (R239). [PRESUMED: notes/assumptions/132.md] -/
def aesMode (mode : Nat) (dec : Bool) (key iv text : Bytes) : Bytes :=
  let ks := aesKeys key
  match mode with
  | 2 => ctrText ks iv text
  | 3 => if dec then cbcOpen ks iv (blocks16 text) else cbcSeal ks iv (blocks16 text)
  | 4 => cfbText ks dec iv (blocks16 text)
  | _ => ofbText ks iv (blocks16 text)

/-- GHASH's product of two 128-bit values, whose most significant bit is the coefficient of 1. -/
def ghashMul (x h : Nat) : Nat :=
  ((List.range 128).foldl (fun (a : Nat × Nat) i =>
    (if x.testBit (127 - i) then a.1 ^^^ a.2 else a.1, a.2 / 2 ^^^ (if a.2 % 2 = 1 then 0xE1 * 2 ^ 120 else 0))) (0, h)).1

/-- A text filled with zeros to whole blocks. -/
def padBlocks (b : Bytes) : Bytes := b ++ zeros ((16 - b.length % 16) % 16)

/-- The GCM tag of additional data and cipher text under a nonce of 12 bytes. -/
def gcmTag (ks : List Bytes) (nonce aad text : Bytes) : Bytes :=
  let h := beNat (aesRounds ks (zeros 16))
  let lens := beBytes (8 * aad.length) 8 ++ beBytes (8 * text.length) 8
  let x := (blocks16 (padBlocks aad ++ padBlocks text ++ lens)).foldl (fun a b => ghashMul (a ^^^ beNat b) h) 0
  xorBytes (beBytes x 16) (aesRounds ks (nonce ++ beBytes 1 4))

/-- AES-256-GCM encryption: key, nonce, additional data, plain text; cipher text and tag. [PRESUMED: notes/assumptions/132.md] -/
def gcmSeal (key nonce aad text : Bytes) : Bytes × Bytes :=
  let ks := aesKeys key
  let c := ctrText ks (nonce ++ beBytes 2 4) text
  (c, gcmTag ks nonce aad c)

/-- AES-256-GCM decryption: key, nonce, additional data, cipher text; plain text and the tag that it ought to have. [PRESUMED: notes/assumptions/132.md] -/
def gcmOpen (key nonce aad text : Bytes) : Bytes × Bytes :=
  let ks := aesKeys key
  (ctrText ks (nonce ++ beBytes 2 4) text, gcmTag ks nonce aad text)

/-- The steps of AES-KW from step number 1 on: for each, the register A and the block of R that it works on. -/
def wrapSteps (n : Nat) : List (Nat × Nat) := (List.range (6 * n)).map fun i => (i + 1, i % n)

/-- The default integrity check value of AES-KW (R227). -/
def wrapIv : Nat := 0xA6A6A6A6A6A6A6A6

/-- AES-KW (R227): the key-encryption key and the key to wrap, of whole 8-byte blocks. [PRESUMED: notes/assumptions/132.md] -/
def aesWrap (kek key : Bytes) : Bytes :=
  let ks := aesKeys kek
  let n := key.length / 8
  let (a, r) := (wrapSteps n).foldl (fun (x : Nat × List Bytes) t =>
    let b := aesRounds ks (beBytes x.1 8 ++ x.2.getD t.2 [])
    (beNat (b.take 8) ^^^ t.1, x.2.set t.2 (b.drop 8))) (wrapIv, (List.range n).map fun i => slice key (8 * i) 8)
  beBytes a 8 ++ r.flatten

/-- AES-KW's unwrap; none when the integrity check fails (R229). [PRESUMED: notes/assumptions/132.md] -/
def aesUnwrap (kek wrapped : Bytes) : Option Bytes :=
  let ks := aesKeys kek
  let n := wrapped.length / 8 - 1
  let (a, r) := ((wrapSteps n).reverse).foldl (fun (x : Nat × List Bytes) t =>
    let b := aesUnrounds ks (beBytes (x.1 ^^^ t.1) 8 ++ x.2.getD t.2 [])
    (beNat (b.take 8), x.2.set t.2 (b.drop 8))) (beNat (wrapped.take 8), (List.range n).map fun i => slice wrapped (8 * (i + 1)) 8)
  if n = 0 ∨ a ≠ wrapIv then none else some r.flatten

end Sys2Proof.Machine
end

