-- ==== Sys2Proof/Machine/Keys.lean ====
section
/-! DEFINITION. Keys by their handles: records, the realm's key-encryption key and generations (R226 to R231). -/

namespace Sys2Proof.Machine

/-- ASCII bytes of an info string. -/
def ascii (t : String) : Bytes := t.toList.map fun c => BitVec.ofNat 8 c.toNat

/-- A key handle as one number (R226): realm, purpose and generation, as TMP_KEY_SEL packs them. -/
def handle (realm purpose gen : Nat) : Nat := realm * 4096 + purpose * 256 + gen

/-- The realm of a handle. -/
def handleRealm (h : Nat) : Nat := h / 4096

/-- The purpose of a handle. -/
def handlePurpose (h : Nat) : Nat := h / 256 % 16

/-- The generation of a handle. -/
def handleGen (h : Nat) : Nat := h % 256

/-- KEK_r (Table 20.3). -/
def State.kek (s : State) (realm : Nat) : Bytes :=
  hkdf (s.fm.hallmark.prs.getD []) (beBytes realm 2) (ascii "REALM KEK") 32

/-- A key record; none when Free. -/
def State.keyRec (s : State) (h : Nat) : Option KeyRec := Tab.find s.tmp.keys h

/-- The plain key of a record: the unwrap of the first copy, or of the second when that fails its integrity check (R229). -/
def State.plainKey (s : State) (h : Nat) : Option Bytes :=
  match s.keyRec h with
  | none => none
  | some k =>
    let w := s.kek (handleRealm h)
    (aesUnwrap w k.wrapped).or (aesUnwrap w (k.second.getD k.wrapped))

/-- The generations of a realm and purpose that are not Free. -/
def State.gensOf (s : State) (realm purpose : Nat) : List Nat :=
  (Tab.keysWhere s.tmp.keys fun h _ => handleRealm h == realm && handlePurpose h == purpose).map handleGen

/-- The Current generation of a realm and purpose. -/
def State.currentGen (s : State) (realm purpose : Nat) : Option Nat :=
  (s.gensOf realm purpose).find? fun g => (s.keyRec (handle realm purpose g)).any fun k => k.state == .current

end Sys2Proof.Machine
end

