-- ==== Sys2Proof/Machine/Punch.lean ====
section
/-! DEFINITION. Punch: digest jobs, save slots and preemption (R168 to R180). -/

namespace Sys2Proof.Machine

/-- A Punch descriptor read into a job (Table 8.2), with the segment's bytes and the reference at CMP_ADDR. -/
def punchJob (desc seg ref : Bytes) : PunchJob :=
  let w0 := leAt desc 0 8
  let w2 := leAt desc 0x10 8
  { tag := bits w0 63 32, line := bits w0 31 27, alg := bits w0 26 24, keyed := bits w0 23 22, cls := bits w0 21 20, isFirst := bitOf w0 19, isLast := bitOf w0 18, cmp := bitOf w0 17, cmpOnly := bitOf w0 16, slot := bits w0 7 0,
    src := leAt desc 8 8, segLen := bits w2 63 32, key := handle (bits w2 31 20) (bits w2 19 16) (bits w2 15 8), dst := leAt desc 0x18 8, cmpAddr := leAt desc 0x20 8,
    desc := desc, seg := seg.take (bits w2 63 32), reference := ref }

/-- Whether a reserved field or code of a Punch descriptor is not zero (R171). -/
def punchReserved (desc : Bytes) : Bool :=
  let w0 := leAt desc 0 8
  bits w0 15 8 != 0 || decide (4 < bits w0 26 24) || bits w0 23 22 == 3 || bits w0 21 20 == 3 || bits (leAt desc 0x10 8) 7 0 != 0 ||
    bits (leAt desc 0x28 8) 45 0 != 0 || bits (leAt desc 0x30 8) 63 48 != 0 || leAt desc 0x38 8 != 0

/-- The save slot that a descriptor names in its cluster. [DEDUCED: notes/assumptions/32.md] -/
def State.punchSlot (s : State) (cluster : Nat) (j : PunchJob) : Option SaveSlot := Tab.find s.pun.slots (256 * cluster + j.slot)

/-- Whether a Punch descriptor is invalid (R171). A keyed job's purpose is one of the four codes of R169. [DEDUCED: notes/assumptions/32.md; DESIGN CHOICE: notes/assumptions/113.md] -/
def State.punchInvalid (s : State) (cluster : Nat) (desc : Bytes) (j : PunchJob) : Bool :=
  punchReserved desc || (j.keyed == 1 && j.alg == 4) || (j.keyed == 2 && j.alg != 4) || (j.cmpOnly && !j.cmp) || (j.cmp && !j.isLast) ||
    (j.keyed != 0 && decide (3 < handlePurpose j.key)) ||
    (!j.isFirst && !((s.punchSlot cluster j).any fun v => v.line == j.line && !v.preempted && v.alg == j.alg && v.keyed == j.keyed && v.key == j.key))

/-- Bytes of the message that stand in the job's save slot. -/
def State.punchCount (s : State) (cluster : Nat) (j : PunchJob) : Nat :=
  if j.isFirst then 0 else ((s.punchSlot cluster j).map (·.hs.count)).getD 0

/-- The used bytes of a save slot behind its header (Table 8.5): chaining state, key state, partial buffer and BLAKE3's stack, each at its place. -/
def HashState.slotBody (h : HashState) : Bytes :=
  let field (n : Nat) (b : Bytes) : Bytes := b.take n ++ zeros (n - b.length)
  field 256 h.chain ++ field 256 h.key ++ field 192 h.part ++ field 1280 h.stack.flatten

/-- The first 60 bytes of a save slot (Table 8.5). Table 8.5 gives the fields of each row and not their places in it. [DESIGN CHOICE: notes/assumptions/123.md] -/
def SaveSlot.header (v : SaveSlot) : Bytes :=
  ([v.alg, v.keyed, v.cls, v.line, if v.preempted then 2 else 1, v.hs.stack.length, v.hs.part.length, 0].flatMap fun x => leBytes x 1) ++
    leBytes v.hs.count 8 ++ leBytes (v.key * 256) 8 ++ leBytes (v.tag * 2 ^ 32 + v.core) 8 ++ leBytes (v.hs.chunk * 256 + v.hs.block) 8 ++ zeros 20

/-- SLOT_CRC of a context (R174): CRC-32C over bytes 0x000 to 0x03B and every byte that the header marks as used. -/
def SaveSlot.crcOver (v : SaveSlot) : Nat := crc32c (v.header ++ v.hs.chain ++ v.hs.key ++ v.hs.part ++ v.hs.stack.flatten)

/-- A save slot as its 2,048 bytes (Table 8.5). -/
def SaveSlot.bytes (v : SaveSlot) : Bytes := v.header ++ leBytes v.crc 4 ++ v.hs.slotBody

/-- The context of a job with a state of its message, as it is saved (R174). -/
def saveSlot (j : PunchJob) (core : Nat) (preempted : Bool) (h : HashState) : SaveSlot :=
  let v : SaveSlot := { line := j.line, alg := j.alg, keyed := j.keyed, cls := j.cls, key := j.key, tag := j.tag, core := core, preempted := preempted, hs := h }
  { v with crc := v.crcOver }

/-- Zeros a save slot and frees it (R175). -/
def State.freeSlotOf (s : State) (k : Nat) : State := { s with pun := { s.pun with slots := Tab.erase s.pun.slots k } }

/-- Frees the slot that a job holds since it was set aside (R178). -/
def State.freeSecond (s : State) (j : PunchJob) : State :=
  match j.second with
  | some k => s.freeSlotOf k
  | none => s

/-- Frees every slot that a job's message holds. -/
def State.freeMessage (s : State) (cluster : Nat) (j : PunchJob) : State :=
  (if j.isFirst then s else s.freeSlotOf (256 * cluster + j.slot)).freeSecond j

/-- A Punch descriptor with its result fields written back (Table 8.2); SLOT is written back when FIRST is 1 and LAST is 0. -/
def punchBack (desc : Bytes) (st : Status) (equal : Bool) (bytes : Nat) (slot : Option Nat) : Bytes :=
  let d := overlay desc 0x28 (leBytes (st * 2 ^ 48 + 2 ^ 47 + bit equal * 2 ^ 46 + bits (leAt desc 0x28 8) 45 0) 8)
  let d := overlay d 0x30 (leBytes (bytes + bits (leAt desc 0x30 8) 63 48 * 2 ^ 48) 8)
  match slot with
  | some k => overlay d 0 (leBytes k 1)
  | none => d

/-- Writes back a Punch result (Table 8.2). -/
def State.punchResult (s : State) (j : PunchJob) (st : Status) (digest : Option Bytes) (equal : Bool) (bytes : Nat) (slot : Option Nat) : State :=
  let r : PunchResult := { tag := j.tag, status := st, digest := digest, equal := equal, bytes := bytes, slot := slot.getD j.slot, desc := punchBack j.desc st equal bytes slot, dst := j.dst }
  { s with pun := { s.pun with results := s.pun.results ++ [r] } }

/-- Ends a Punch job with a failure status of Table 8.3. -/
def State.punchFail (s : State) (cluster : Nat) (j : PunchJob) (st : Status) : State :=
  let s := s.punchResult j st none false (s.punchCount cluster j) none
  if st = 0x0405 then ((s.freeMessage cluster j).inc F.PUN_FAIL_CNT_LOST).raise F.PUN_INT_STATUS_CTX_LOST
  else if st = 0x0406 then ((s.freeMessage cluster j).inc F.PUN_FAIL_CNT_LONG).raise F.PUN_INT_STATUS_DESC_INVALID
  else if st = 0x0603 then
    let s := { s with pun := { s.pun with held := s.pun.held ++ [(cluster, { j with st := none, taken := 0 })] } }
    (s.inc F.PUN_FAIL_CNT_KEY).raise F.PUN_INT_STATUS_KEY_UNAVAIL
  else (s.inc F.PUN_FAIL_CNT_INVALID).raise F.PUN_INT_STATUS_DESC_INVALID

/-- Whether a job will take a slot when its segment ends (R176): a first segment that is not the last. -/
def PunchJob.wantsSlot (j : PunchJob) : Bool := j.isFirst && !j.isLast

/-- Slots of a cluster that segmented messages hold, with those that first segments which have begun will take (R176). -/
def State.segHeld (s : State) (cluster : Nat) : Nat :=
  (s.pun.slots.filter fun e => e.1 / 256 == cluster && !e.2.preempted).length +
    (s.pun.running.filter fun e => e.1 / 6 == cluster && e.2.wantsSlot).length + (s.pun.aside.filter fun e => e.1 == cluster && e.2.wantsSlot).length

/-- Slots of a cluster that hold preempted jobs, of the 32 reserved ones (R176). -/
def State.rsvHeld (s : State) (cluster : Nat) : Nat := (s.pun.slots.filter fun e => e.1 / 256 == cluster && e.2.preempted).length

/-- The lowest free slot of a cluster. [DESIGN CHOICE: notes/assumptions/111.md] -/
def State.slotFree (s : State) (cluster : Nat) : Option Nat := Tab.freeKey s.pun.slots (256 * cluster) 256

/-- The cores of a line in a cluster that are in service. -/
def State.punchCores (s : State) (cluster line : Nat) : List Nat :=
  (((s.line line).map fun l => l.lanesIn .punch cluster).getD []).filter fun c => !s.isOut Kind.punch c

/-- The cores of a line in a cluster that run nothing. -/
def State.freeCores (s : State) (cluster line : Nat) : List Nat :=
  (s.punchCores cluster line).filter fun c => (Tab.find s.pun.running c).isNone && !s.laneOff Kind.punch c

/-- Whether a waiting job may start: its first segment finds an unreserved slot free (R176), and no other segment of its message is in progress. -/
def State.punchReady (s : State) (cluster : Nat) (j : PunchJob) : Bool :=
  let same (o : PunchJob) : Bool := !o.isFirst && o.slot == j.slot
  if j.isFirst then !(j.wantsSlot && decide (224 ≤ s.segHeld cluster))
  else !(s.pun.running.any fun e => e.1 / 6 == cluster && same e.2) && !(s.pun.aside.any fun e => e.1 == cluster && same e.2)

/-- The first job of a line that waits at a cluster's station and may start, by class and then by arrival (R178). -/
def State.punchNext (s : State) (cluster line : Nat) : Option PunchJob :=
  let q := ((s.pun.queued.filter fun e => e.1 == cluster && e.2.line == line).map Prod.snd).filter fun j => s.punchReady cluster j
  ((q.find? fun j => j.cls == 2).or (q.find? fun j => j.cls == 1)).or (q.find? fun _ => true)

/-- Whether the key cache can supply a job's key (R169). -/
def State.punchKeyHeld (s : State) (j : PunchJob) : Bool :=
  j.keyed == 0 || ((s.keyRec j.key).any fun k => k.tier && k.state != .destroying)

/-- The key state that a core still keeps for a job: that of the same handle, algorithm and mode (R169). -/
def State.keptKey (s : State) (core : Nat) (j : PunchJob) : Option HashState :=
  (Tab.find s.pun.lastKey core).bind fun k => if k.key = j.key ∧ k.alg = j.alg ∧ k.keyed = j.keyed then some k.start else none

/-- The state from which a segment starts on a core (R169, R172, R175), or the status that ends its job: 0x0603 when the key cannot be supplied and the core does not keep it, 0x0405 when the message's slot fails SLOT_CRC or ECC (`bad` names the slots that do), 0x0406 when the byte count would pass 2^48 − 1. -/
def State.punchBegin (s : State) (cluster core : Nat) (j : PunchJob) (bad : List Nat) : Except Status HashState :=
  if j.isFirst then
    if j.keyed = 0 then .ok (hashStart j.alg 0 [])
    else match s.keptKey core j with
      | some h => .ok h
      | none => match s.punchKeyHeld j, s.plainKey j.key with
        | true, some k => .ok (hashStart j.alg j.keyed k)
        | _, _ => .error 0x0603
  else match s.punchSlot cluster j with
    | none => .error 0x0405
    | some v =>
      if v.crc ≠ v.crcOver ∨ bad.contains (256 * cluster + j.slot) then .error 0x0405
      else if 2 ^ 48 - 1 < v.hs.count + j.segLen then .error 0x0406
      else .ok v.hs

/-- Puts a job on a core, which then keeps the key state of the message (R169). A context from a slot brings its outer state only, so the core keeps nothing of another key after it. -/
def State.punchRun (s : State) (core : Nat) (j : PunchJob) (h : HashState) : State :=
  let keep := if j.keyed = 0 ∨ (s.keptKey core j).isSome then s.pun.lastKey
    else if j.isFirst ∧ h.count = 0 then Tab.put s.pun.lastKey core ⟨j.key, j.alg, j.keyed, h⟩
    else Tab.erase s.pun.lastKey core
  { s with pun := { s.pun with running := Tab.put s.pun.running core { j with st := some h }, lastKey := keep } }

/-- Whether a job that was set aside comes before the first waiting one (R178): it stands at the front of its class. -/
def State.asideFirst (s : State) (cluster line cls : Nat) : Bool :=
  s.pun.aside.any fun e => e.1 == cluster && e.2.line == line && decide (cls ≤ e.2.cls)

/-- A free core of a line takes the first waiting job, unless a job that was set aside comes before it (R178). Which of several free cores takes it is not stated. [DESIGN CHOICE: notes/assumptions/112.md] -/
def State.punchTake (s : State) (cluster line : Nat) (bad : List Nat) : Option State :=
  if !s.on F.PUN_CTRL_ENABLE then none
  else match s.punchNext cluster line, (s.freeCores cluster line).head? with
    | some j, some c =>
      if s.asideFirst cluster line j.cls then none
      else
        let t : State := { s with pun := { s.pun with queued := s.pun.queued.erase (cluster, j) } }
        match s.punchBegin cluster c j bad with
        | .error st => some (t.punchFail cluster j st)
        | .ok h => some (t.punchRun c j h)
    | _, _ => none

/-- Bytes of its segment that a running job has taken in, by the progress given for its core; never fewer than at its latest save. [DEDUCED: notes/assumptions/35.md] -/
def doneOf (progress : List (Nat × Nat)) (core : Nat) (j : PunchJob) : Nat :=
  max j.taken (min j.segLen (((progress.find? fun p => p.1 == core).map Prod.snd).getD 0))

/-- The core that a waiting job of class `cls` preempts (R177): the lowest class, then the most bytes left, then the lowest number. [DEDUCED: notes/assumptions/35.md] -/
def State.victim (s : State) (cluster line cls : Nat) (progress : List (Nat × Nat)) : Option Nat :=
  let left (e : Nat × PunchJob) : Nat := e.2.segLen - doneOf progress e.1 e.2
  let cand := (s.punchCores cluster line).filterMap fun c =>
    match Tab.find s.pun.running c with
    | some j => if j.cls < cls ∧ 16384 ≤ left (c, j) ∧ j.preempted < 8 then some (c, j) else none
    | none => none
  (cand.foldl (fun b e =>
    match b with
    | none => some e
    | some x => if e.2.cls < x.2.cls ∨ (e.2.cls = x.2.cls ∧ left x < left e) then some e else some x) none).map Prod.fst

/-- A running job at its next block boundary (R174): the bytes of its segment taken in by then, and its state there. -/
def PunchJob.atBoundary (j : PunchJob) (done : Nat) : Nat × HashState :=
  let h := j.st.getD {}
  let base := h.count - j.taken
  let n := min j.segLen (roundUp (base + done) (hashBlockLen j.alg) - base)
  (n, hashAbsorb j.alg j.keyed h (slice j.seg j.taken (n - j.taken)))

/-- Saves the job of a core at its next block boundary and sets it aside (R176, R177): its context goes to a reserved slot, the one it already holds when it was set aside before. None without a reserved slot; `bump` counts it as a preemption. [DEDUCED: notes/assumptions/35.md] -/
def State.setAside (s : State) (core : Nat) (progress : List (Nat × Nat)) (bump : Nat) : Option State :=
  match Tab.find s.pun.running core with
  | none => none
  | some j =>
    let c := core / 6
    match j.second.or (if s.rsvHeld c < 32 then s.slotFree c else none) with
    | none => none
    | some k =>
      let (n, h) := j.atBoundary (doneOf progress core j)
      let j := { j with second := some k, taken := n, st := none, preempted := j.preempted + bump }
      some { s with pun := { s.pun with running := Tab.erase s.pun.running core, slots := Tab.put s.pun.slots k (saveSlot j core true h), aside := s.pun.aside ++ [(c, j)] } }

/-- A waiting job preempts a core when every core of its line in the cluster is busy (R177): the state after it, and whether it did. Without a reserved slot the preemption is skipped and the job waits. [DEDUCED: notes/assumptions/35.md] -/
def State.punchPreempt (s : State) (cluster line : Nat) (progress : List (Nat × Nat)) : State × Bool :=
  match s.punchNext cluster line with
  | none => (s, false)
  | some j =>
    if !s.on F.PUN_CTRL_ENABLE || !(s.freeCores cluster line).isEmpty || s.asideFirst cluster line j.cls then (s, false)
    else match s.victim cluster line j.cls progress with
      | none => (s, false)
      | some c => match s.setAside c progress 1 with
        | none => ((s.inc F.PUN_PREEMPT_CNT_SKIPPED).raise F.PUN_INT_STATUS_SLOTS_LOW, false)
        | some t => (t.inc F.PUN_PREEMPT_CNT_DONE, true)

/-- Lets the free cores of a line in a cluster take waiting jobs, and waiting jobs preempt busy cores, each a different one (R177). -/
def State.punchGo (cluster line : Nat) (progress : List (Nat × Nat)) (bad : List Nat) : Nat → State → State
  | 0, s => s
  | n + 1, s =>
    match s.punchTake cluster line bad with
    | some t => State.punchGo cluster line progress bad n t
    | none => match s.punchPreempt cluster line progress with
      | (t, true) => State.punchGo cluster line progress bad n t
      | (t, false) => t

/-- Starts what can start in a cluster, line by line: a slot that one line frees may be what a job of another line waits for (R176). -/
def State.punchKick (s : State) (cluster : Nat) (progress : List (Nat × Nat)) (bad : List Nat) : State :=
  s.fm.lines.foldl (fun s l => State.punchGo cluster l.1 progress bad (s.pun.queued.length + 1) s) s

/-- A Punch descriptor enters a station's queue (R169 to R172, R177). `progress` gives the bytes that running cores have taken in of their segments, `bad` the save slots that fail SLOT_CRC or ECC when they are read. [DEDUCED: notes/assumptions/35.md] -/
def execPunchJobSubmit (cluster : Nat) (desc seg ref : Bytes) (progress : List (Nat × Nat)) (bad : List Nat) (s : State) : Out1 :=
  let j := punchJob desc seg ref
  if s.punchInvalid cluster desc j then .next (s.punchFail cluster j 0x0407)
  else .next (State.punchKick { s with pun := { s.pun with queued := s.pun.queued ++ [(cluster, j)] } } cluster progress bad)

/-- A Punch job ends (R172 to R179): a LAST segment gives the digest and EQUAL and frees its slots; any other segment leaves its context in a save slot, which a first segment takes now. The slot that it held since it was set aside goes back. [DEDUCED: notes/assumptions/35.md] -/
def execPunchJobEnd (core : Nat) (progress : List (Nat × Nat)) (bad : List Nat) (s : State) : Out1 :=
  match Tab.find s.pun.running core with
  | none => .next s
  | some j =>
    let c := core / 6
    let h := hashAbsorb j.alg j.keyed (j.st.getD {}) (slice j.seg j.taken (j.segLen - j.taken))
    let s : State := { s with pun := { s.pun with running := Tab.erase s.pun.running core } }
    if j.isLast then
      let d := hashFinish j.alg j.keyed h
      let s := (s.freeMessage c j).punchResult j 0 (if j.cmpOnly then none else some d) (j.cmp && d == j.reference.take (hashLen j.alg)) h.count none
      .next ((s.inc F.PUN_JOB_CNT_COUNT).punchKick c progress bad)
    else
      let s := s.freeSecond j
      match (if j.isFirst then s.slotFree c else some (256 * c + j.slot)) with
      | none => .next s
      | some x =>
        let s := { s with pun := { s.pun with slots := Tab.put s.pun.slots x (saveSlot j core false h) } }
        let s := s.punchResult j 0 none false h.count (if j.isFirst then some (x % 256) else none)
        .next ((s.inc F.PUN_JOB_CNT_COUNT).punchKick c progress bad)

/-- The job set aside that comes first in a cluster on a line: the highest class, then the one set aside last, which stands at the front. -/
def State.asideNext (s : State) (cluster line : Nat) : Option PunchJob :=
  let q := ((s.pun.aside.filter fun e => e.1 == cluster && e.2.line == line).map Prod.snd).reverse
  ((q.find? fun j => j.cls == 2).or (q.find? fun j => j.cls == 1)).or (q.find? fun _ => true)

/-- A job set aside resumes on the first free core of its line while no job of a higher class waits (R178): from its saved context, key state with it, or with 0x0405 when its slot fails SLOT_CRC or ECC (R175). [DEDUCED: notes/assumptions/35.md] -/
def execPunchResume (cluster line : Nat) (progress : List (Nat × Nat)) (bad : List Nat) (s : State) : Out1 :=
  match s.asideNext cluster line, (s.freeCores cluster line).head? with
  | some j, some core =>
    if !s.on F.PUN_CTRL_ENABLE || (s.punchNext cluster line).any fun q => decide (j.cls < q.cls) then .next s
    else
      let s := { s with pun := { s.pun with aside := s.pun.aside.erase (cluster, j) } }
      let slot := j.second.bind fun k => (Tab.find s.pun.slots k).filter fun v => v.crc == v.crcOver && !bad.contains k
      match slot with
      | some v => .next ((s.punchRun core j v.hs).punchKick cluster progress bad)
      | none => .next ((s.punchFail cluster j 0x0405).punchKick cluster progress bad)
  | _, _ => .next s

/-- A fault of a core (R180): it is reported, and its job goes back to its latest save, or to the start of its segment. Where that job waits when no sibling is free is not stated. [DESIGN CHOICE: notes/assumptions/114.md] -/
def State.coreFault (s : State) (core : Nat) : State :=
  ((s.raise F.PUN_INT_STATUS_CORE_FAULT).report Kind.punch core 0).punchKick (core / 6) [] []

/-- A parity error of a core (R180). -/
def execPunchParityError (core : Nat) (s : State) : Out1 :=
  if 48 ≤ core ∨ s.isOut Kind.punch core then .next s else .next (s.coreFault core)

/-- The known-answer test of the selected core (R180); a failure is a fault of the lane. -/
def execPunchKatStart (pass : Bool) (s : State) : Out1 :=
  let c := s.rd F.PUN_CORE_SEL_CORE
  if pass ∨ 48 ≤ c ∨ s.isOut Kind.punch c then .next s
  else .next ((s.katFailed Kind.punch).coreFault c)

/-- Jobs that ended with 0x0603 are submitted again once their key is loaded (R169). -/
def State.punchResubmit (s : State) : State :=
  let back := s.pun.held.filter fun e => s.punchKeyHeld e.2 && (s.plainKey e.2.key).isSome
  let s := { s with pun := { s.pun with held := s.pun.held.filter (fun e => !back.contains e), queued := s.pun.queued ++ back } }
  (back.map Prod.fst).foldl (fun s c => s.punchKick c [] []) s

end Sys2Proof.Machine
end

