-- ==== Sys2Proof/Machine/Temper.lean ====
section
/-! DEFINITION. Temper: keys, nonces and cipher jobs (R225 to R248). -/

namespace Sys2Proof.Machine

/-- Writes a key record through the map journal (R227, Table 13.9). -/
def State.setKey (s : State) (h : Nat) (k : KeyRec) : State := s.journal [.key h (some k)]

/-- Makes a key record Free, and takes its key out of every tier (R228, R232). -/
def State.freeKey (s : State) (h : Nat) : State :=
  let s := s.journal [.key h none]
  { s with tmp := { s.tmp with
    counters := Tab.erase s.tmp.counters h
    stores := Tab.mapVals [] s.tmp.stores fun _ l => l.filter (· != h)
    slots := Tab.mapVals [] s.tmp.slots fun _ l => l.filter (· != h) }
           pun := { s.pun with lastKey := s.pun.lastKey.filter fun e => e.2.key != h } }

/-- The oldest generation: the one furthest behind the Current one, modulo 256. -/
def State.oldestGen (s : State) (realm purpose : Nat) : Option Nat :=
  match s.currentGen realm purpose with
  | none => (s.gensOf realm purpose).head?
  | some c => (s.gensOf realm purpose).foldl (fun b g =>
      match b with
      | none => some g
      | some x => if (c + 256 - x) % 256 < (c + 256 - g) % 256 then some g else some x) none

/-- Generations that a realm may hold of a purpose (Table 11.2). -/
def genLimit (purpose : Nat) : Nat :=
  match purpose with
  | 1 => 2 | 2 => 2 | 4 => 4 | 5 => 2 | 6 => 2 | _ => 1

/-- KEY_LEN of a purpose (Table 11.2). -/
def keyLen (purpose : Nat) : Nat := if purpose = 4 ∨ purpose = 7 then 64 else 32

/-- A new key from Hallmark's generator; a 64-byte key with equal halves is drawn again (R230). -/
def State.drawKey (s : State) (len : Nat) : Bytes × State :=
  let (b, s) := s.random len
  if len = 64 ∧ b.take 32 = b.drop 32 then s.random len else (b, s)

/-- Makes an Installing record Current and the old Current one Live (R230). -/
def State.install (s : State) (h : Nat) : State :=
  match s.keyRec h with
  | none => s
  | some k =>
    let s := match s.currentGen (handleRealm h) (handlePurpose h) with
      | some g => match s.keyRec (handle (handleRealm h) (handlePurpose h) g) with
        | some o => s.setKey (handle (handleRealm h) (handlePurpose h) g) { o with state := .live }
        | none => s
      | none => s
    s.setKey h { k with state := .current }

/-- Writes a new generation as Installing and sends its record to the partner with the map journal; in Solo the step completes at once (R230, R227). -/
def State.addKey (s : State) (realm purpose : Nat) : State :=
  let g := match s.currentGen realm purpose with
    | some c => (c + 1) % 256
    | none => 0
  let h := handle realm purpose g
  let (b, s) := s.drawKey (keyLen purpose)
  let w := aesWrap (s.kek realm) b
  let s := s.setKey h { state := .installing, len := keyLen purpose, wrapped := w }
  if s.inMode [.solo] then s.install h else s

/-- RESULT of TMP_KEY_CMD 1 before the key is made (R231): 1 at the generation limit or for a purpose that holds one generation, 3 while a sweep of the realm runs. [DEDUCED: notes/assumptions/33.md] -/
def State.createRefusal (s : State) (realm purpose : Nat) : Option Nat :=
  if purpose = 0 ∨ purpose = 3 ∨ purpose = 7 ∨ purpose = 8 then some 1
  else if 65536 ≤ s.tmp.keys.length then some 1
  else if purpose = 4 ∧ s.tmp.sweep.any (fun h => handleRealm h == realm) then some 3
  else if purpose = 4 ∧ 4 ≤ (s.gensOf realm 4).length then some 1
  else none

/-- Ends a TMP_KEY_CMD with a RESULT. [DEDUCED: notes/assumptions/33.md] -/
def State.keyResult (s : State) (r : Nat) : State := (s.wr F.TMP_KEY_CMD_RESULT r).wr F.TMP_KEY_CMD_BUSY 0

/-- Creates a generation, freeing the oldest one at the limit of purposes 1, 2, 5 and 6 (R231). [DEDUCED: notes/assumptions/33.md] -/
def State.createKey (s : State) (realm purpose : Nat) : State :=
  let s := if purpose ≠ 4 ∧ genLimit purpose ≤ (s.gensOf realm purpose).length then
      (match s.oldestGen realm purpose with
      | some g => s.freeKey (handle realm purpose g)
      | none => s)
    else s
  s.addKey realm purpose

/-- TMP_KEY_CMD 1 (R230, R231) for the realm and purpose of TMP_KEY_SEL; a reserved purpose is no key and changes nothing. [DEDUCED: notes/assumptions/33.md] -/
def execKeyCreate (s : State) : Out1 :=
  let r := s.rd F.TMP_KEY_SEL_REALM
  let p := s.rd F.TMP_KEY_SEL_PURPOSE
  if 8 < p ∨ s.on F.TMP_KEY_CMD_BUSY then .next s
  else match s.createRefusal r p with
    | some c => .next (s.keyResult c)
    | none =>
      let s := s.createKey r p
      if s.inMode [.solo] then .next (s.keyResult 0) else .next (s.wr F.TMP_KEY_CMD_BUSY 1)

/-- Moves a handle to the front of a list of at most `cap`; the last one that no running job holds leaves (R228). -/
def lruPut (cap : Nat) (busy : Nat → Bool) (h : Nat) (l : List Nat) : List Nat :=
  let r := l.filter (· != h)
  if r.length < cap then h :: r
  else match (r.reverse).find? fun x => !busy x with
    | some v => h :: r.filter (· != v)
    | none => r

/-- Whether a running job of a cluster uses a key. -/
def State.keyInUse (s : State) (cluster h : Nat) : Bool :=
  s.tmp.running.any fun e => e.1 / 4 == cluster && e.2.key == h

/-- The keys in a cluster's store (R228). -/
def State.store (s : State) (cluster : Nat) : List Nat := Tab.get [] s.tmp.stores cluster

/-- What a draw from a counter gives (R235, R237). -/
inductive Draw
  | value (v : Nat)
  | wait
  | exhausted
deriving DecidableEq, Repr

/-- This head's epoch in a key record (Table 11.3). -/
def State.epochOf (s : State) (k : KeyRec) : Nat := if s.head = 0 then k.epoch0 else k.epoch1

/-- A counter of this head. -/
def State.ctr (s : State) (h : Nat) : NonceCtr := Tab.get {} s.tmp.counters h

/-- Replaces a counter. -/
def State.setCtr (s : State) (h : Nat) (c : NonceCtr) : State := { s with tmp := { s.tmp with counters := Tab.set {} s.tmp.counters h c } }

/-- Draws one counter value (R235, R237): the first draw waits for the epoch, a value at or above HWM + 2^20 waits for the next mark, and 2^63 exhausts the key. -/
def State.draw (s : State) (h : Nat) (k : KeyRec) : Draw × State :=
  let c := s.ctr h
  if c.exhausted then (.exhausted, s)
  else if c.epochWait.isSome then (.wait, s)
  else if s.epochOf k = 0 ∨ !c.marked then (.wait, s.setCtr h { c with epochWait := some (max 1 (s.epochOf k)) })
  else if 2 ^ 63 ≤ c.next then (.exhausted, s.setCtr h { c with exhausted := true })
  else if c.hwm + 2 ^ 20 ≤ c.next then (.wait, s)
  else
    let n := c.next + 1
    let j := if c.hwm + 2 ^ 19 ≤ n ∧ c.journalling.isNone then some (c.hwm + 2 ^ 20) else c.journalling
    let warn := decide (2 ^ 60 ≤ n) && !c.warned
    let s := s.setCtr h { c with next := n, journalling := j, warned := c.warned || warn }
    let s := if warn then (s.raise F.TMP_INT_STATUS_KEY_WARN).alarm .tmp .keyWarn 0 [h] else s
    (.value c.next, s)

/-- Writes back what a Temper job comes to (Table 11.7, R242). -/
def State.cipherResult (s : State) (j : CipherJob) (st : Status) (counter : Nat) (out aux : Bytes) : State :=
  let n := if st = 0 then j.srcLen else 0
  let r : CipherResult := { tag := j.tag, status := st, outLen := n, counter := counter, out := out, aux := aux, dst := j.dst, desc := overlay (descBack j.desc st n) 0x38 (leBytes counter 8) }
  { s with tmp := { s.tmp with results := s.tmp.results ++ [r] } }

/-- Ends a Temper job with a failure status: counters, interrupt bits and the write-back of Table 11.9; 0x0602 and 0x0603 leave the job with its steward (R229, R237). [DEDUCED: notes/assumptions/34.md] -/
def State.cipherFail (s : State) (cluster : Nat) (j : CipherJob) (st : Status) : State :=
  let s := s.cipherResult j st 0 [] []
  let keep (s : State) : State := { s with tmp := { s.tmp with held := s.tmp.held ++ [(cluster, { j with started := false, counter := 0 })] } }
  if st = 0x0602 then keep ((s.inc F.TMP_FAIL_CNT_EXHAUSTED).raise F.TMP_INT_STATUS_KEY_EXHAUST)
  else if st = 0x0603 then keep (((s.inc F.TMP_FAIL_CNT_UNAVAIL).raise F.TMP_INT_STATUS_KEY_UNAVAIL).alarm .tmp .keyMissing 0x0603 [j.key])
  else (s.inc F.TMP_FAIL_CNT_INVALID).raise F.TMP_INT_STATUS_DESC_INVALID

/-- Starts the job that a pair has taken once its key is in the cluster store and, for an encryption that needs one, its counter value is drawn (R235, R246). [DEDUCED: notes/assumptions/34.md] -/
def State.cipherBegin (s : State) (pair : Nat) : State :=
  match Tab.find s.tmp.running pair with
  | none => s
  | some j =>
    let c := pair / 4
    if j.started || !(s.store c).contains j.key then s
    else match (s.keyRec j.key).filter fun k => k.state != .destroying with
      | none => ({ s with tmp := { s.tmp with running := Tab.erase s.tmp.running pair } } : State).cipherFail c j 0x0603
      | some k =>
        let (d, s) := if j.dec ∨ j.mode = 0 then (Draw.value 0, s) else s.draw j.key k
        match d with
        | .wait => s
        | .exhausted => ({ s with tmp := { s.tmp with running := Tab.erase s.tmp.running pair } } : State).cipherFail c j 0x0602
        | .value v =>
          { s with tmp := { s.tmp with
            running := Tab.put s.tmp.running pair { j with started := true, counter := v }
            stores := Tab.set [] s.tmp.stores c (lruPut 256 (s.keyInUse c) j.key (s.store c))
            slots := Tab.set [] s.tmp.slots pair (lruPut 4 (fun _ => false) j.key (Tab.get [] s.tmp.slots pair)) } }

/-- The first job of a line that waits at a cluster's station: CLASS, then arrival (R246). -/
def State.cipherNext (s : State) (cluster line : Nat) : Option CipherJob :=
  let q := (s.tmp.queued.filter fun e => e.1 == cluster && e.2.line == line).map Prod.snd
  ((q.find? fun j => j.cls == 2).or (q.find? fun j => j.cls == 1)).or (q.find? fun _ => true)

/-- The free pairs of a line in a cluster. -/
def State.freePairs (s : State) (l : RunLine) (cluster : Nat) : List Nat :=
  (l.lanesIn .temper cluster).filter fun p => (Tab.find s.tmp.running p).isNone && !s.laneOff Kind.temper p

/-- A free pair of a line takes its first job: a pair that holds the key in a slot, else the lowest-numbered (R246). While TMP_CTRL.ENABLE is 0 only self-test lines start jobs. -/
def State.cipherTake (s : State) (cluster line : Nat) : State :=
  match s.line line with
  | none => s
  | some l =>
    if !s.on F.TMP_CTRL_ENABLE && l.kind != 6 then s
    else match s.cipherNext cluster line with
      | none => s
      | some j =>
        let free := s.freePairs l cluster
        match (free.find? fun p => (Tab.get [] s.tmp.slots p).contains j.key).or free.head? with
        | none => s
        | some p =>
          ({ s with tmp := { s.tmp with
            queued := s.tmp.queued.erase (cluster, j)
            running := Tab.put s.tmp.running p j } }).cipherBegin p

/-- Lets every free pair of a cluster take a job. -/
def State.cipherKick (s : State) (cluster : Nat) : State :=
  (s.fm.lines.flatMap fun l => [l.1, l.1, l.1, l.1]).foldl (fun s l => s.cipherTake cluster l) s

/-- Whether a mode is allowed for a purpose (Table 11.1). -/
def modePurpose (mode purpose : Nat) : Bool :=
  match mode with
  | 0 => purpose == 4 || purpose == 7
  | 1 => purpose == 5 || purpose == 7
  | _ => purpose == 6 || purpose == 7

/-- Whether a line's kind allows a mode (R241). -/
def modeLine (mode : Nat) (kind : Option Nat) : Bool :=
  match kind with
  | none => false
  | some k => if mode = 0 then decide (k = 1 ∨ k = 2 ∨ k = 3 ∨ k = 5 ∨ k = 6) else decide (k = 5 ∨ k = 6)

/-- Whether SRC_LEN and AAD_LEN lie inside Table 11.8. -/
def cipherLenOk (mode len aad : Nat) : Bool :=
  match mode with
  | 0 => decide (16 ≤ len ∧ len ≤ 65536 ∧ len % 16 = 0 ∧ aad = 0)
  | 1 => decide (len ≤ 1048576 ∧ 1 ≤ aad + len)
  | 3 => decide (16 ≤ len ∧ len ≤ 1048576 ∧ len % 16 = 0 ∧ aad = 0)
  | _ => decide (1 ≤ len ∧ len ≤ 1048576 ∧ aad = 0)

/-- A Temper descriptor read into a job (Table 11.7), with the bytes at SRC and in the auxiliary record. -/
def cipherJob (desc src aux : Bytes) : CipherJob :=
  let w0 := leAt desc 0 8
  let w2 := leAt desc 0x10 8
  { tag := bits w0 63 32, line := bits w0 31 27, mode := bits w0 26 24, dec := bitOf w0 23, cls := bits w0 22 21, srcLen := bits w2 63 32,
    key := handle (bits w2 31 20) (bits w2 19 16) (bits w2 15 8), tweak := leAt desc 0x20 8, aadLen := bits (leAt desc 0x28 8) 63 48, src := src, aux := aux,
    dst := leAt desc 0x18 8, desc := desc }

/-- Whether a reserved field or code of a Temper descriptor is not zero (R241). -/
def cipherReserved (desc : Bytes) : Bool :=
  let w0 := leAt desc 0 8
  bits w0 20 0 != 0 || bits w0 22 21 == 3 || decide (5 < bits w0 26 24) || bits (leAt desc 0x10 8) 7 0 != 0 || bits (leAt desc 0x28 8) 47 0 != 0

/-- The status with which a submitted job ends at once: 0x0603 when its key is not held or is being destroyed (R229, R232), 0x0604 when the descriptor is invalid (R241). [DEDUCED: notes/assumptions/32.md] -/
def State.cipherRefusal (s : State) (desc : Bytes) (j : CipherJob) : Option Status :=
  if cipherReserved desc || !modePurpose j.mode (handlePurpose j.key) || !modeLine j.mode (s.lineKind j.line) || !cipherLenOk j.mode j.srcLen j.aadLen then some 0x0604
  else match s.keyRec j.key with
    | none => some 0x0603
    | some k =>
      if k.state = .destroying ∨ !k.tier then some 0x0603
      else if !j.dec ∧ k.state ≠ .current then some 0x0604
      else none

/-- A Temper descriptor is placed in a cluster's queue (R240, R241, R246). -/
def execTemperJobSubmit (cluster : Nat) (desc src aux : Bytes) (s : State) : Out1 :=
  let j := cipherJob desc src aux
  match s.cipherRefusal desc j with
  | some st => .next (s.cipherFail cluster j st)
  | none => .next (({ s with tmp := { s.tmp with queued := s.tmp.queued ++ [(cluster, j)] } }).cipherKick cluster)

/-- The nonce of an encryption (Table 11.4). -/
def State.nonce (s : State) (k : KeyRec) (pair counter : Nat) : Bytes :=
  beBytes (s.head * 2 ^ 15 + bit k.imported * 2 ^ 14 + pair) 2 ++ beBytes (s.epochOf k) 2 ++ beBytes counter 8

/-- The XTS tweak of a grain ID (R233). -/
def xtsTweak (gid : Nat) : Bytes := leBytes gid 8 ++ zeros 8

/-- The first counter block of CTR, or the IV of CBC, CFB-128 and OFB, from a nonce (R239). -/
def ivOf (mode : Nat) (key nonce : Bytes) : Bytes :=
  if mode = 2 then nonce ++ beBytes 1 4 else aesBlock key (nonce ++ zeros 4)

/-- The output and auxiliary record of a job whose two lanes agree (R233, R239, R240); none when a GCM tag differs from the received one (R243). -/
def State.cipherRun (s : State) (pair : Nat) (j : CipherJob) (k : KeyRec) (key : Bytes) : Option (Bytes × Bytes) :=
  let n := s.nonce k pair j.counter
  let text := (j.src.drop j.aadLen).take j.srcLen
  let aad := j.src.take j.aadLen
  match j.mode with
  | 0 => some (xtsAes (!j.dec) key (xtsTweak j.tweak) text, [])
  | 1 =>
    if j.dec then
      let (p, t) := gcmOpen key (j.aux.take 12) aad text
      if t = slice j.aux 16 16 then some (p, []) else none
    else
      let (c, t) := gcmSeal key n aad text
      some (c, n ++ zeros 4 ++ t)
  | m =>
    if j.dec then
      let iv := if m = 2 then j.aux.take 12 ++ beBytes 1 4 else j.aux.take 16
      some (aesMode m true key iv text, [])
    else
      let iv := ivOf m key n
      some (aesMode m false key iv text, padTo32 (if m = 2 then n else iv))
where
  /-- A nonce or IV as a 32-byte auxiliary record. -/
  padTo32 (b : Bytes) : Bytes := b ++ zeros (32 - b.length)

/-- A job of a pair at fault waits at the front of its cluster's queue (R16, R245). When its line has no other pair in the cluster, it is placed again in another one (R148); with no pair left anywhere its steward holds it. [DEDUCED: notes/assumptions/34.md] -/
def State.cipherAgain (s : State) (pair : Nat) : State :=
  let c := pair / 4
  match s.tmp.queued with
  | (q, j) :: rest =>
    let l := s.line j.line
    let here := ((l.map fun l => l.lanesIn .temper c).getD []).any fun p => p != pair && !s.laneFaulty Kind.temper p
    if q ≠ c ∨ here then s.cipherKick c
    else match s.leastLoaded (((l.map fun l => l.clusters [.temper]).getD []).filter fun k => k != c) with
      | some k => State.cipherKick { s with tmp := { s.tmp with queued := (k, j) :: rest } } k
      | none => { s with tmp := { s.tmp with queued := rest, held := s.tmp.held ++ [(c, j)] } }
  | [] => s

/-- A pair is at fault (R16, R245, R248): it is reported, and the job on it runs again elsewhere. -/
def State.pairFault (s : State) (pair : Nat) : State :=
  let busy := (Tab.find s.tmp.running pair).isSome
  let s := s.report Kind.temper pair 0
  if busy then s.cipherAgain pair else s

/-- A job ends after the checking lane's verification (R243 to R246). When the lanes disagree the output is discarded, the pair is reported, and the job runs again on another pair of its line in the cluster, or is placed again by its steward. [DEDUCED: notes/assumptions/34.md] -/
def execTemperJobEnd (pair : Nat) (lanesAgree : Bool) (s : State) : Out1 :=
  match Tab.find s.tmp.running pair with
  | none => .next s
  | some j =>
    if !j.started then .next s
    else
      let c := pair / 4
      if !lanesAgree then .next (((s.inc F.TMP_CHECK_CNT_COUNT).raise F.TMP_INT_STATUS_CHECK_FAIL).pairFault pair)
      else
        let s : State := { s with tmp := { s.tmp with running := Tab.erase s.tmp.running pair } }
        match s.keyRec j.key, s.plainKey j.key with
        | some k, some key =>
          (match s.cipherRun pair j k key with
          | some (out, aux) => .next (((s.cipherResult j 0 (if j.dec then 0 else j.counter) out aux).inc F.TMP_JOB_CNT_COUNT).cipherKick c)
          | none => .next ((((s.cipherResult j 0x0601 0 (zeros j.srcLen) []).inc F.TMP_FAIL_CNT_AUTH).raise F.TMP_INT_STATUS_AUTH).cipherKick c))
        | _, _ => .next ((s.cipherFail c j 0x0603).cipherKick c)

/-- The key unit brings a key into a cluster store (R228, R229): when neither copy unwraps, the jobs that wait for it end with 0x0603. A retired key unit unwraps nothing (R248). -/
def execKeyUnwrap (cluster h : Nat) (s : State) : Out1 :=
  if s.isOut Kind.keyUnit 0 then .next s
  else match s.plainKey h with
    | some _ =>
      let s := { s with tmp := { s.tmp with stores := Tab.set [] s.tmp.stores cluster (lruPut 256 (s.keyInUse cluster) h (s.store cluster)) } }
      .next ((List.range 4).foldl (fun s p => s.cipherBegin (cluster * 4 + p)) s).punchResubmit
    | none =>
      let waiting := s.tmp.running.filter fun e => e.1 / 4 == cluster && e.2.key == h && !e.2.started
      let s := { s with tmp := { s.tmp with running := s.tmp.running.filter fun e => !(e.1 / 4 == cluster && e.2.key == h && !e.2.started) } }
      .next ((waiting.foldl (fun s e => s.cipherFail cluster e.2 0x0603) s).cipherKick cluster)

/-- A new mark or epoch is durable (R235): the values it allows may be issued. -/
def State.nonceDurable (s : State) (h : Nat) : State :=
  let c := s.ctr h
  let s := match c.epochWait, s.keyRec h with
    | some e, some k =>
      let k := if s.head = 0 then { k with epoch0 := e } else { k with epoch1 := e }
      ((s.setKey h k).setCtr h { marked := true }).shareState 11 h
    | _, _ => match c.journalling with
      | some m => (s.setCtr h { c with hwm := m, journalling := none }).shareState 11 h
      | none => s
  (List.range 32).foldl (fun s p => s.cipherBegin p) s

/-- Jobs held for a key go back to their queues once a generation is Current: an encryption takes the new generation (R237). [DEDUCED: notes/assumptions/34.md] -/
def State.resubmit (s : State) (realm purpose gen : Nat) : State :=
  let mine (e : Nat × CipherJob) : Bool := handleRealm e.2.key == realm && handlePurpose e.2.key == purpose
  let back := (s.tmp.held.filter mine).map fun e => (e.1, if e.2.dec then e.2 else { e.2 with key := handle realm purpose gen })
  let s := { s with tmp := { s.tmp with held := s.tmp.held.filter fun e => !mine e, queued := s.tmp.queued ++ back } }
  (back.map Prod.fst).foldl State.cipherKick s

/-- Both heads hold a new record, which becomes Current (R230). -/
def State.keyConfirm (s : State) (h : Nat) : State :=
  match s.keyRec h with
  | some k =>
    if k.state = .installing then (((s.install h).keyResult 0).resubmit (handleRealm h) (handlePurpose h) (handleGen h)).punchResubmit else s
  | none => s

/-- TMP_KEY_CMD 2 (R231): the oldest data generation that is not Current becomes Sweeping; refused with RESULT 3 while a sweep of the realm runs. [DEDUCED: notes/assumptions/33.md] -/
def execKeySweep (s : State) : Out1 :=
  let r := s.rd F.TMP_KEY_SEL_REALM
  if s.tmp.sweep.any fun h => handleRealm h == r then .next (s.keyResult 3)
  else match s.oldestGen r 4 with
    | none => .next s
    | some g => match s.keyRec (handle r 4 g) with
      | some k =>
        if k.state = .live then
          .next (({ (s.setKey (handle r 4 g) { k with state := .sweeping }) with tmp := { (s.setKey (handle r 4 g) { k with state := .sweeping }).tmp with sweep := some (handle r 4 g) } }).keyResult 0)
        else .next s
      | none => .next s


/-- Whether a namespace belongs to a realm (R232). -/
def State.realmUsed (s : State) (realm : Nat) : Bool :=
  s.vols.any fun v => v.2.realm == realm && v.2.state != .free && v.2.nsid != 0

/-- TMP_KEY_CMD 3 (R232): every record of the realm becomes Destroying; refused with RESULT 2 while a namespace uses the realm. -/
def execKeyDestroy (s : State) : Out1 :=
  let r := s.rd F.TMP_KEY_SEL_REALM
  if s.realmUsed r then .next (s.keyResult 2)
  else
    let mine := s.tmp.keys.filter fun e => handleRealm e.1 == r
    if mine = [] then .next (s.keyResult 0)
    else .next ((s.journal (mine.map fun e => .key e.1 (some { e.2 with state := .destroying }))).wr F.TMP_KEY_CMD_BUSY 1)

/-- After the last job of the realm has ended, every tier is zeroed and the Destroying records are Free (R232). -/
def execKeyDestroyZero (realm : Nat) (s : State) : Out1 :=
  let mine := Tab.keysWhere s.tmp.keys fun h k => handleRealm h == realm && k.state == .destroying
  if mine = [] ∨ s.tmp.running.any (fun e => handleRealm e.2.key == realm) ∨ s.pun.running.any (fun e => e.2.keyed != 0 && handleRealm e.2.key == realm) then .next s
  else .next ((mine.foldl State.freeKey s).keyResult 0)

/-- The known-answer tests of the selected pair (R248): a failure sets KAT_FAIL and is a channel error. -/
def execTemperKatStart (pass : Bool) (s : State) : Out1 :=
  let p := s.rd F.TMP_PAIR_SEL_PAIR
  if pass ∨ s.isOut Kind.temper p then .next s
  else .next ((s.katFailed Kind.temper).pairFault p)

end Sys2Proof.Machine
end

