-- ==== Sys2Proof/Machine/Sorts.lean ====
section
/-! DEFINITION. Grains: their payloads, fingerprints and sorts (R151 to R155, R181). -/

namespace Sys2Proof.Machine

/-- The payload inside a sort (R152, R153, R210): decrypted under the key that its header names with the grain ID as the tweak, and expanded when COMP is 1; it is 8,192 + TRAILER_LEN bytes long. None when the key is gone or the payload is not valid. -/
def State.sortPlain (s : State) (gid : Nat) (b : Bytes) : Option Bytes :=
  let sb := SortBody.ofBytes b
  match s.plainKey (handle sb.realm 4 sb.keyGen) with
  | none => none
  | some key =>
    let plain := (xtsAes false key (xtsTweak gid) sb.cipher).take sb.length
    (if sb.comp then swDecode plain else some plain).filter fun p => p.length == 8192 + sb.trailerLen

/-- The payload of a grain's sort as stored, and expanded (R152, R153), where the sort passes its check field. -/
def State.payloadOf (s : State) (gid : Nat) : Option (SortBody × Bytes × Bytes) :=
  let t := s.target gid
  match s.grain? t with
  | none => none
  | some e =>
    match (s.readSort e.addr e.units).filter sortOk with
    | none => none
    | some b =>
      let sb := SortBody.ofBytes b
      let stored := (xtsAes false ((s.plainKey (handle sb.realm 4 sb.keyGen)).getD []) (xtsTweak t) sb.cipher).take sb.length
      (s.sortPlain t b).map fun p => (sb, stored, p)

/-- ALG and KEYED of Table 8.1 for a fingerprint algorithm of a class (R40): the three HMACs, and BLAKE3 keyed. -/
def fpMode : Nat → Nat × Nat
  | 0 => (0, 1)
  | 1 => (2, 1)
  | 2 => (3, 1)
  | _ => (4, 2)

/-- The fingerprint of a payload under the realm's purpose-0 key of generation 0 (R181); none while the realm has no such key. -/
def State.fingerprint (s : State) (realm alg : Nat) (pay : Bytes) : Option Bytes :=
  (s.plainKey (handle realm 0 0)).map fun key => digestOf (fpMode alg).1 (fpMode alg).2 key pay

/-- The published version of an LBA that a read stamped just above a piece would select in the galley (R106, R151). -/
def State.versionUpTo (s : State) (p : Piece) (lba : Nat) : Option Piece :=
  let floor := (s.lostAt p.nsid lba).map (·.stamp)
  (s.gly.own.foldl (fun (best : Option (Nat × Piece)) e =>
    if s.pieceVolNum e.2 == s.pieceVolNum p && e.2.commit && e.2.covers lba && decide (e.2.rank ≤ p.rank) && floor.all (fun x => decide (2 ^ 64 + x < e.2.rank)) then
      match best with
      | some b => if b.2.rank < e.2.rank then some e else best
      | none => some e
    else best) none).map Prod.snd

/-- The metadata that the head regenerates for an LBA without received metadata (R152, Table 7.7): PI over its data from an application tag and the LBA, zeros elsewhere. -/
def regenMeta (v : Volume) (dat : Bytes) (tag lba : Nat) : Bytes :=
  if v.piType = 0 then zeros (lbafMeta v.lbaf) else withPi v dat [] tag lba

/-- One block of a piece: its data and its metadata. A Write Zeroes or deallocate piece gives zeros and regenerated metadata (R152); a repeat piece gives the bytes of the slots it repeats (R151). -/
def State.blockOf (s : State) (p : Piece) (lba : Nat) : Bytes × Bytes :=
  let v := s.pieceVol p
  let z := zeros (lbafData v.lbaf)
  match p.kind with
  | .zeroes => (z, regenMeta v z p.tag lba)
  | .deallocate => (z, regenMeta v z 0 lba)
  | _ => (p.block lba, p.blockMeta lba)

/-- One block out of a grain's payload (R159, Table 7.7): its data, and its metadata from the trailer with the guard computed over the block, or regenerated from the extent's tag and the LBA. -/
def payloadBlock (v : Volume) (pay : Bytes) (tag lba : Nat) : Bytes × Bytes :=
  let d := lbafData v.lbaf
  let m := lbafMeta v.lbaf
  let i := lba - lba * d / 8192 * (8192 / d)
  let dat := slice pay (i * d) d
  if 8192 < pay.length then (dat, withGuard v dat (slice pay (8192 + i * m) m)) else (dat, regenMeta v dat tag lba)

/-- One block of the volume map (R151, R159). None while the sort of its grain cannot be read; a lost grain, whose LBAs are listed, gives zeros. [DEDUCED: notes/assumptions/55.md] -/
def State.mapBlock (s : State) (v : Volume) (lba : Nat) : Option (Bytes × Bytes) :=
  let c := Tab.get {} v.map (grainOf v lba)
  if c.gid = 0 ∨ (s.grain? (s.target c.gid)).any (fun e => e.state == .lost) then some (payloadBlock v (zeros 8192) c.tag lba)
  else (s.payloadOf c.gid).map fun x => payloadBlock v x.2.2 c.tag lba

/-- The blocks of one grain as the refine of a piece sees them (R151): the piece's own, then the versions that a read just above it would select, then the map. [DEDUCED: notes/assumptions/55.md] -/
def State.grainBlocks (s : State) (p : Piece) (g : Nat) : Option (List (Bytes × Bytes)) :=
  let d := lbafData p.lbaf
  (List.range (8192 / d)).mapM fun i =>
    let lba := g * (8192 / d) + i
    if p.covers lba then some (s.blockOf p lba)
    else match s.versionUpTo p lba with
      | some q => some (s.blockOf q lba)
      | none => s.mapBlock (s.pieceVol p) lba

/-- The payload of a grain (R152): its data bytes and, where Table 7.2 calls for one, its trailer of the blocks' metadata with the guards zeroed. -/
def State.grainPayload (s : State) (p : Piece) (g : Nat) : Option (Bytes × Bytes) :=
  let v := s.pieceVol p
  (s.grainBlocks p g).map fun bs =>
    let ms := bs.map Prod.snd
    (bs.flatMap Prod.fst, if hasTrailer v ms then ms.flatMap (zeroGuard v) else [])

/-- A sort of a payload (R152 to R154): compressed unless that ends in No Gain, a block of more than N − 64 bytes (Table 10.7), padded to 16 bytes and enciphered under the Current key of purpose 4. A Swage block that a replication source sent for the payload is stored as it is (R337). None while the realm has no such key. -/
def State.sortOfPayload (s : State) (v : Volume) (vol hint gid : Nat) (pay : Bytes) (defer repaired : Bool) (block : Bytes := []) : Option SortBody :=
  let enc := if !block.isEmpty && swDecode block == some pay then block else (swEncode pay).1
  let comp := decide (enc.length + 64 ≤ pay.length)
  let stored := if comp then enc else pay
  match s.currentGen v.realm 4 with
  | none => none
  | some gen =>
    (s.plainKey (handle v.realm 4 gen)).map fun key =>
      { volume := vol, hint := hint, realm := v.realm, length := stored.length, lbaf := v.lbaf, trailerLen := pay.length - 8192, piType := v.piType, comp := comp,
        defer := defer, repaired := repaired, keyGen := gen, cipher := xtsAes true key (xtsTweak gid) (padTo (roundUp stored.length 16) stored) }

/-- The sort of a grain of a piece. None while the grain's other bytes cannot be read or the realm has no key. -/
def State.sortOf (s : State) (p : Piece) (g gid : Nat) : Option SortBody :=
  (s.grainPayload p g).bind fun x => s.sortOfPayload (s.pieceVol p) (s.pieceVolNum p) g gid (x.1 ++ x.2) ((s.grainAt gid).state == .deferredPending) false p.swBlock

end Sys2Proof.Machine
end

