-- ==== Sys2Proof/Machine/Suspect.lean ====
section
/-! DEFINITION. Sorts that fail their check field: telling a corrupt check field from corrupt data, repairs, and units taken as the fault (R165 to R167, R258, R270). -/

namespace Sys2Proof.Machine

/-- The volume and the grain index that a sort header names for a grain (Table 7.4): as the failing header has them where its HCRC stands, and otherwise the first that the volume maps hold. [DEDUCED: notes/assumptions/126.md] -/
def State.grainHome (s : State) (gid : Nat) (b : Bytes) : Nat × Nat :=
  if bits (leAt b 0x18 8) 63 48 = crc16 (b.take 0x1E) then (bits (leAt b 8 8) 63 40, bits (leAt b 8 8) 39 0)
  else (s.vols.findSome? fun v => (v.2.map.find? fun c => c.2.gid == gid).map fun c => (v.1, c.1)).getD (0, 0)

/-- The rewritten sort of a repair (R165): its header from the grain table, the same cipher area, REPAIRED set. [DEDUCED: notes/assumptions/126.md] -/
def State.repairedBody (s : State) (gid : Nat) (b : Bytes) : SortBody :=
  let (vol, g) := s.grainHome gid b
  { SortBody.ofBytes b with volume := vol, hint := g, realm := (s.grainAt gid).realm, repaired := true }

/-- Rewrites a repaired sort in a new stripe (R165); at most one repair of a grain runs (R166). -/
def State.repairSort (s : State) (gid : Nat) (b : Bytes) : State :=
  let e := s.grainAt gid
  match s.packSort .refine (s.sheet e.sheet).cls gid (.move e.addr) (s.repairedBody gid b) with
  | none => s
  | some (addr, s) => { s with prf := { s.prf with repairs := Tab.put s.prf.repairs gid ⟨e.sheet, e.offset, addrSheet addr, addrOffset addr, 0⟩ } }

/-- One hour in ns. -/
def hourNs : Nat := 3600000000000

/-- A check failure later matched by fingerprint counts against the Proof unit (R167): three within one hour condemn it, and it is reported as a faulty channel. -/
def State.unitMiss (s : State) (u : Nat) : State :=
  let x : ProofUnit := Tab.get {} s.prf.units u
  let x := { x with misses := s.now :: x.misses.filter fun t => decide (s.now < t + hourNs) }
  let s := { s with prf := { s.prf with units := Tab.set {} s.prf.units u x } }
  if 3 ≤ x.misses.length ∧ !s.prf.condemned.contains u then
    (({ s with prf := { s.prf with condemned := s.prf.condemned ++ [u] } } : State).raise F.PRF_INT_STATUS_UNIT_FAULT).report Kind.proof u 0x0402
  else s


/-- A stripe goes to the front of the descaling queue, because its position cannot be written twice (R270). -/
def State.frontStripe (s : State) (id stripe : Nat) : State :=
  let f : FrontItem := ⟨id, some stripe⟩
  let s := if s.hth.front.contains f then s else { s with hth := { s.hth with front := s.hth.front ++ [f] } }
  s.wr F.HTH_DESCALE_FRONT (min 0x7FFF s.hth.front.length)

/-- What the check of a grain's sort comes to: the sort, a payload whose fingerprint proved it while its check field is repaired, a wait for a repair or for the partner's fingerprint record, or a stripe that parity cannot rebuild. -/
inductive Checked
  | sound (sort : Bytes)
  | proven (payload : Bytes)
  | waits
  | gone
deriving DecidableEq, Repr

/-- Reconstruction of a sort whose chunk or data is damaged (R165, R258): one job at a time is asked for, and the sort waits for it. Where parity cannot give the sort, its stripe is lost. -/
def State.reconSort (s : State) (gid : Nat) : Checked × State :=
  match s.grain? gid with
  | none => (.gone, s)
  | some e =>
    if (Tab.find s.imp.recon gid).any (·.repair) then (.waits, s)
    else
      let s := (s.inc F.PRF_SUSPECT_CNT_RECON).raise F.PRF_INT_STATUS_RECON
      match s.askRecon gid e.addr e.units true with
      | (true, s) => (.waits, s)
      | (false, s) => (.gone, s.lostStripe e.sheet (s.stripeOf e.addr))

/-- A check field is repaired (R165): counted, logged with 0x0402 and held against the unit that checked it; the sorts of a unit taken as the fault are not rewritten again (R167). -/
def State.checkRepaired (s : State) (gid unitNo : Nat) (b : Bytes) : State :=
  let s := s.unitMiss unitNo
  let s := ((s.inc F.PRF_REPAIR_CNT_REPAIRED).raise F.PRF_INT_STATUS_REPAIR).note .prf .checkRepair 0x0402 [gid]
  if s.prf.condemned.contains unitNo then s else s.repairSort gid b

/-- Asks the partner for the fingerprint record of a suspect grain of its half (R187, Table 9.7). -/
def State.askFp (s : State) (gid : Nat) (x : Suspect) : State :=
  State.query { s with prf := { s.prf with suspects := Tab.put s.prf.suspects gid x } } { op := 6, tag := 0, gid := gid }

/-- The payload of a suspect sort with its fingerprint, where the sort may be proven by one (R165): the header names the expected grain, DEFER is 0, and the payload is valid and has the length that TRAILER_LEN gives. -/
def State.suspectPlain (s : State) (gid : Nat) (b : Bytes) : Option (Bytes × Bytes) :=
  let sb := SortBody.ofBytes b
  if leAt b 0 8 ≠ gid ∨ sb.defer then none
  else match s.sortPlain gid b with
    | none => none
    | some p => (s.fingerprint sb.realm (s.grainAt gid).fpalg p).map fun fp => (p, fp)

/-- A sort that fails its check field (R165): when the fingerprint of its payload equals the recorded one, the payload is delivered and the check field repaired; anything else goes to parity. A record of the partner's half is asked for. At most one repair of a grain runs at a time, and a second job waits for its result (R166). -/
def State.suspectSort (s : State) (gid unitNo : Nat) (b : Bytes) : Checked × State :=
  match Tab.find s.prf.repairs gid with
  | some r => (.waits, { s with prf := { s.prf with repairs := Tab.put s.prf.repairs gid { r with waiters := r.waiters + 1 } } })
  | none =>
    if (Tab.find s.prf.suspects gid).isSome then (.waits, s)
    else
      let s := s.inc F.PRF_SUSPECT_CNT_SUSPECT
      match s.suspectPlain gid b with
      | none => s.reconSort gid
      | some (p, fp) =>
        if !s.holdsHalf (gidHalf gid) then (.waits, s.askFp gid ⟨unitNo, b, fp⟩)
        else if (s.grain? gid).any fun e => e.fp == some fp then (.proven p, s.checkRepaired gid unitNo b)
        else s.reconSort gid

/-- The partner's answer about a suspect grain (R165): an equal fingerprint repairs its check field, and anything else goes to parity. -/
def State.suspectAnswer (s : State) (gid : Nat) (fp : Option Bytes) : State :=
  match Tab.find s.prf.suspects gid with
  | none => s
  | some x =>
    let s := { s with prf := { s.prf with suspects := Tab.erase s.prf.suspects gid } }
    if fp = some x.fp then s.checkRepaired gid x.unitNo x.sort else (s.reconSort gid).2

/-- The Proof unit on which a line checks a sort (R161): its lowest idle one. None while all are busy, or where there is no such line. [DEDUCED: notes/assumptions/126.md] -/
def State.checkUnit (s : State) (line : Option Nat) : Option Nat :=
  match line.bind s.line with
  | none => none
  | some l => ((List.range 8).flatMap fun c => l.lanesIn .proof c).find? fun u => s.laneIdle .proof u

/-- The line that a class's reads run on (R40). -/
def State.readLine (s : State) (cls : Nat) : Option Nat := (s.classOf cls).map (·.rdLine)

/-- The Proof unit with which a read of a grain can start now: none while its class's read line drains (R52) or has no idle unit. -/
def State.readUnitNow (s : State) (gid : Nat) : Option Nat :=
  let line := s.readLine (s.sheet (s.grainAt (s.target gid)).sheet).cls
  if (line.bind s.line).any (·.draining) then none else s.checkUnit line

/-- The Proof unit that checks the sort of a grain read in for its class's read line (R161): the lowest idle one, or the lowest of all while none is idle, which the sort then waits for. [DEDUCED: notes/assumptions/126.md] -/
def State.readUnit (s : State) (gid : Nat) : Nat :=
  let line := s.readLine (s.sheet (s.grainAt gid).sheet).cls
  match s.checkUnit line with
  | some u => u
  | none => (((line.bind s.line).map fun l => (List.range 8).flatMap fun c => l.lanesIn .proof c).getD []).headD 0

/-- Whether a line has no Proof lane, so that what it moves is not checked there (R147). -/
def State.unchecked (s : State) (line : Option Nat) : Bool :=
  (line.bind s.line).any fun l => !(l.lanes.any fun b => b.typ == .proof)

/-- What the flash gives of a grain's sort: its bytes, its bytes as a repair rebuilt them, a wait for a reconstruction job, or nothing that parity could give. -/
inductive Fetched
  | stored (sort : Bytes)
  | rebuilt (sort : Bytes)
  | waits
  | gone
deriving DecidableEq, Repr

/-- Whether a chunk of a sort was found unreadable or spoiled outside a rebuild (R270). -/
def State.sortSpoiled (s : State) (e : Grain) : Bool :=
  let h := s.sheet e.sheet
  let k := s.stripeOf e.addr
  (s.sortRoles e.addr e.units).any fun r => (s.rolesMissing e.sheet k).contains r && !h.missing.contains (memberOf h.width k r)

/-- Reads the sort that a grain's entry names (R258, R270). A chunk that cannot be read is reconstructed under parity by a job that the sort waits for, and where its module is there, its stripe's live sorts go to the front of the descaling queue. A stripe that parity cannot give is lost. A result for an address that the grain has left is dropped. [DEDUCED: notes/assumptions/27.md] -/
def State.fetchSort (s : State) (gid : Nat) (e : Grain) : Fetched × State :=
  let spent : State := { s with imp := { s.imp with recon := Tab.erase s.imp.recon gid } }
  match Tab.find s.imp.recon gid with
  | some r =>
    if r.addr ≠ e.addr then (.waits, spent)
    else match r.out with
      | none => (.waits, s)
      | some b => (if r.repair then .rebuilt b else .stored b, spent)
  | none =>
    if s.sortMissing e.addr e.units then
      let s := if s.sortSpoiled e then s.frontStripe e.sheet (s.stripeOf e.addr) else s
      match s.askRecon gid e.addr e.units false with
      | (true, s) => (.waits, s)
      | (false, s) => (.gone, s.lostStripe e.sheet (s.stripeOf e.addr))
    else match s.readSort e.addr e.units with
      | some b => (.stored b, s)
      | none => (.gone, s.lostStripe e.sheet (s.stripeOf e.addr))

/-- A sort as its address holds it, with no check (R147). -/
def State.rawSort (s : State) (gid : Nat) : Checked × State :=
  match s.grain? gid with
  | none => (.gone, s)
  | some e => match s.fetchSort gid e with
    | (.stored b, s) => (.sound b, s)
    | (.rebuilt b, s) => (.sound b, s)
    | (.waits, s) => (.waits, s)
    | (.gone, s) => (.gone, s)

/-- The check of the sort that a grain's entry names (R155, R165). One that a repair rebuilt passes the check once more: then its stripe's live sorts go to the front of the descaling queue (R270), and otherwise the stripe is lost. -/
def State.checkSort (s : State) (gid unitNo : Nat) : Checked × State :=
  match s.grain? gid with
  | none => (.gone, s)
  | some e =>
    match s.fetchSort gid e with
    | (.stored b, s) => if sortOk b then (.sound b, s) else s.suspectSort gid unitNo b
    | (.rebuilt b, s) => if sortOk b then (.sound b, s.frontStripe e.sheet (s.stripeOf e.addr)) else (.gone, s.lostStripe e.sheet (s.stripeOf e.addr))
    | (.waits, s) => (.waits, s)
    | (.gone, s) => (.gone, s)

/-- A sort on its way through a line that copies it (R147, R299): checked and kept by an idle Proof unit, for which it waits, or passed as it is where the line has no Proof stage. -/
def State.passSort (s : State) (line : Option Nat) (gid : Nat) : Checked × State :=
  if s.unchecked line then s.rawSort gid
  else match s.checkUnit line with
    | none => (.waits, s)
    | some u => s.checkSort gid u

/-- The payload of a sort whose check field has passed. One that expands to none on two lanes is rebuilt from parity (R223); one that was rebuilt already, or whose key no copy gives, cannot be read, so its grain is lost (R229). -/
def State.soundPlain (s : State) (gid : Nat) (b : Bytes) (rebuilt : Bool) : Option Bytes × State :=
  let sb := SortBody.ofBytes b
  match s.sortPlain gid b with
  | some p => (some p, s)
  | none =>
    if rebuilt || (s.plainKey (handle sb.realm 4 sb.keyGen)).isNone then (none, s.loseGrain gid 1)
    else (none, (s.reconSort gid).2)

/-- The payload of a grain that a read or a compare needs (R152, R165). None while it waits, or once its stripe is lost. -/
def State.grainBytes (s : State) (gid unitNo : Nat) : Option Bytes × State :=
  let rebuilt := (Tab.find s.imp.recon gid).any (·.repair)
  match s.checkSort gid unitNo with
  | (.sound b, s) => s.soundPlain gid b rebuilt
  | (.proven p, s) => (some p, s)
  | (_, s) => (none, s)

end Sys2Proof.Machine
end

