-- ==== Sys2Proof/Machine/Hearth.lean ====
section
/-! DEFINITION. Hearth and the writing of stripes: sheets, the journal's flushes and checkpoints, the audit, descaling, wear and health (R260, R278 to R305). -/

namespace Sys2Proof.Machine

/-- The roles of sheets by number, as SHEET_OPEN names them. -/
def Role.ofCode : Nat → Role
  | 0 => .refine | 1 => .descale | 2 => .map | 3 => .mapB | 4 => .reshape | _ => .relocate

/-- Whether a role may take plates of the descaling reserve (R302). [DEDUCED: notes/assumptions/43.md] -/
def Role.mayReserve : Role → Bool
  | .reshape => false
  | _ => true

/-- The lowest free sheet ID of this head's half, an ID freed after the last checkpoint left out (R279). -/
def State.freeSheetId (s : State) : Nat :=
  let base := s.head * 2 ^ 31
  let blocked := (s.hth.freedIds.filter fun f => decide (s.hth.journal.ckpt.seqEnd < f.2)).map Prod.fst
  let n := s.hth.sheets.length + blocked.length + 1
  (((List.range n).map fun i => base + i + 1).find? fun id => (Tab.find s.hth.sheets id).isNone && !blocked.contains id).getD (base + n)

/-- Sheets this head has open. -/
def State.openCount (s : State) : Nat := Tab.count s.hth.sheets fun _ e => e.state == .opened && e.head == s.head

/-- SHEET_OPEN (R251, R279, R280): Hearth chooses d + 2 modules, claims a plate on each and journals SHEET_OPEN. `lost` lists plates whose CLAIM met 0x0308: they raise an alarm, and other plates are chosen (R315). No sheet opens while HTH_CTRL.ENABLE is 0, past 64 open sheets, or with too few modules (R266). [DEDUCED: notes/assumptions/43.md] -/
def execSheetOpen (role cls : Nat) (lost : List (Nat × Nat)) (s : State) : Out1 :=
  let r := Role.ofCode role
  let isMap := r == .map || r == .mapB
  let d := if isMap then s.mapWidth else ((s.classOf cls).map (·.d)).getD 0
  let s := lost.foldl (fun s w => (s.raise F.GMP_INT_STATUS_CLAIM_LOST).alarm .hth .moduleFault 0x0308 [w.1, w.2]) s
  let avoid := if r = .mapB then ((s.openSheet .map cls).map fun p => p.2.members.map Prod.fst).getD []
    else if r = .map then ((s.openSheet .mapB cls).map fun p => p.2.members.map Prod.fst).getD [] else []
  let reserveOk := r.mayReserve || decide (2 * s.rawBytes + 100 * (d + 2) * s.plateBytes ≤ 100 * s.freeBytes)
  if !s.on F.HTH_CTRL_ENABLE || decide (64 ≤ s.openCount) || d == 0 || (s.openSheet r cls).isSome || !reserveOk then .next s
  else match s.chooseModules avoid (d + 2) with
    | none => .next s
    | some ms =>
      let ws := s.pickPlates lost ms
      if ws.length ≠ d + 2 then .next s
      else
        let id := s.freeSheetId
        let s := ws.foldl State.claimPlate s
        let s := s.journal [.sheetOpen id isMap (if isMap then 0 else cls) d (s.module (ms.headD 0)).plateLog2 ws]
        .next (s.modSheet id fun e => { e with role := r, head := s.head }).flushStep

/-- The 500 µs timer of a stripe (R282). -/
def execStripeCloseTimer (sheet : Nat) (s : State) : Out1 :=
  match (s.sheet sheet).cur with
  | some c => if c.firstAt + 500000 ≤ s.now ∧ (s.sheet sheet).head = s.head then .next (s.closeStripe sheet) else .next s
  | none => .next s

/-- Changes a stripe in flight. -/
def State.modFlight (s : State) (sheet stripe : Nat) (f : Flight → Flight) : State :=
  { s with hth := { s.hth with flights := s.hth.flights.map fun x => if x.sheet = sheet ∧ x.stripe = stripe then f x else x } }

/-- A stripe in flight. -/
def State.flight (s : State) (sheet stripe : Nat) : Option Flight := s.hth.flights.find? fun f => f.sheet == sheet && f.stripe == stripe

/-- Sends one chunk to its module (R260 step 4). -/
def State.sendChunk (s : State) (sheet stripe member : Nat) (chunk : Bytes) : State :=
  match (s.sheet sheet).members[member]? with
  | none => s
  | some (m, p) => if (s.sheet sheet).missing.contains member then s
    else s.gmpSend m { op := Gmp.write, plate := p, offset := stripe * 1024, length := 65536 } chunk (.chunk sheet stripe member)

/-- What R262 finds at a member of an open stripe. -/
inductive Found
  | agrees | unwritten | spoiled
deriving DecidableEq, Repr

/-- The set that a member's chunk falls in (R262). A member that cannot be read counts as spoiled. [DEDUCED: notes/assumptions/54.md] -/
def State.found (s : State) (r : OpenRec) (member : Nat) : Found :=
  match s.chunkAt (s.sheet r.sheet) r.stripe member with
  | none => .unwritten
  | some none => .spoiled
  | some (some c) => if chunkAgrees r.sheet r.stripe r.epoch r.head c then .agrees else .spoiled

/-- Queues a sheet first for descaling (Table 12.6). -/
def State.frontSheet (s : State) (sheet : Nat) : State :=
  let f : FrontItem := ⟨sheet, none⟩
  { s with hth := { s.hth with front := if s.hth.front.contains f then s.hth.front else f :: s.hth.front } }

/-- The chunks of a stripe in flight, by member (R249, R250). -/
def Flight.chunk (f : Flight) (member : Nat) : Bytes :=
  let r := roleOf f.width f.stripe member
  let d := f.dataBodies
  chunkBytes f.sheet f.stripe f.epoch member f.width r f.head false false ((d ++ [parityP bodyLen d, parityQ bodyLen d]).getD r [])

/-- A stripe in flight of which fewer than d chunks can agree any more ends VOID (R312, Table 12.6): none of its sorts is placed, and each is packed again. A copy of descaling that lay in it is made again, and so are its pages. [DEDUCED: notes/assumptions/54.md] -/
def State.flightVoid (s : State) (f : Flight) : State :=
  let s := (s.sifRecord f.sheet f.stripe f.epoch 3 f.width f.head (f.confirmed.map (2 ^ ·)).sum).inc F.IMP_SETTLE_CNT_VOID
  let s := s.raise F.IMP_INT_STATUS_VOID
  let here (addr : Nat) : Bool := addrSheet addr == f.sheet && addrOffset addr / stripeUnits f.width == f.stripe
  let flights := s.hth.flights.filter fun (x : Flight) => !(x.sheet = f.sheet ∧ x.stripe = f.stripe)
  let pages := s.hth.pages.filter fun x => !here x.addr
  let descale := s.hth.descale.map fun d => { d with copies := d.copies.filter fun c => !here c.2.2 }
  let s : State := { s with hth := { s.hth with flights := flights, pages := pages, descale := descale } }
  let s := s.modSheet f.sheet fun e => { e with dead := e.dead + (f.sorts.map (·.units)).sum }
  let e := s.sheet f.sheet
  f.sorts.foldl (fun s p => match p.why with
    | .page => s
    | .move _ => s
    | _ => ((s.packUnits e.role e.cls p.gid p.why p.body p.units).map Prod.snd).getD s) s

/-- A WRITE of a stripe in flight has timed out (R312), and its position is settled by Table 12.6: an agreeing chunk counts as confirmed, an unwritten one is written again, and a spoiled one leaves the sheet first in the queue for descaling, or the stripe VOID once more than two are spoiled. [DEDUCED: notes/assumptions/54.md] -/
def State.writeTimedOut (s : State) (f : Flight) (c : GmpCmd) (member : Nat) : State :=
  let set (s : State) (f : Flight) : State := { s with hth := { s.hth with flights := s.hth.flights.map fun x => if x.sheet = f.sheet ∧ x.stripe = f.stripe then f else x } }
  match s.found ⟨f.sheet, f.stripe, f.epoch, f.width, f.head⟩ member with
  | .agrees => set s { f with confirmed := f.confirmed ++ [member] }
  | .unwritten => s.gmpSend ((s.sheet f.sheet).members.getD member (0, 0)).1 c (f.chunk member) (.chunk f.sheet f.stripe member)
  | .spoiled =>
    let f := { f with spoiled := f.spoiled ++ [member] }
    if f.spoiled.length ≤ 2 then (set s f).inc F.IMP_SETTLE_CNT_SPOILED |>.frontSheet f.sheet else s.flightVoid f

/-- The stripe job has given P and Q: the chunk headers are filled and all d + 2 chunks are sent (R260 steps 3 and 4). -/
def State.sendStripe (s : State) (sheet stripe : Nat) (p q : Bytes) : State :=
  match s.flight sheet stripe with
  | none => s
  | some f =>
    if f.phase ≠ .parity then s
    else
      let bodies := f.dataBodies ++ [p, q]
      let s := s.modFlight sheet stripe fun f => { f with phase := .sent }
      (List.range (f.width + 2)).foldl (fun s m =>
        let r := roleOf f.width stripe m
        s.sendChunk sheet stripe m (chunkBytes sheet stripe f.epoch m f.width r f.head false false (bodies.getD r []))) s

/-- A healthy Bellows for R125: one that is neither stale nor reports a fault. [DEDUCED: notes/assumptions/79.md] -/
def State.bellowsWell (s : State) : Bool := !s.on F.GLY_BELLOWS_STALE && !bitOf (s.rd F.GLY_BELLOWS_STATUS) 1

/-- Whether the partner's mirror control area holds a stripe-in-flight record (R261, R349): RING_ACK of the ring has come to its place. -/
def State.sifAcked (s : State) (q : Nat) : Bool :=
  let off := Tab.get 0 s.anv.ringAck 1
  decide (0xC0100000 ≤ off) && decide (((off - 0xC0100000) / 32 + 2 ^ 23 - q % 2 ^ 23) % 2 ^ 23 < 2 ^ 22)

/-- Whether a stripe-in-flight record is durable (R125, R261): in both control areas when Paired, and otherwise in the own one with a healthy Bellows, or while pieces are published on flash (R129). [DEDUCED: notes/assumptions/79.md] -/
def State.sifSafe (s : State) (q : Nat) : Bool := if s.paired then s.sifAcked q else s.bellowsWell || s.ackWhere == .flash

/-- The OPEN record of a stripe is durable (R149, R260 steps 2 and 3): its stripe job goes to the Imposition stage of its line, on any bound unit. [DESIGN CHOICE: notes/assumptions/125.md] -/
def execStripeOpenDurable (sheet stripe : Nat) (s : State) : Out1 :=
  match s.flight sheet stripe with
  | none => .next s
  | some f =>
    if f.phase ≠ .waitOpen ∨ !s.sifSafe f.seq then .next s
    else .next ((s.modFlight sheet stripe fun f => { f with phase := .parity }).impSubmit (s.stripeJob f))

/-- WRITE_POINT of a sheet: the lowest stripe without a CLOSE or VOID record (Table 13.2). -/
def State.writePoint (s : State) (sheet : Nat) : Nat :=
  let e := s.sheet sheet
  let open_ := (s.hth.flights.filter fun f => f.sheet == sheet && f.phase != .closeWritten).map (·.stripe) ++ (e.cur.map (·.stripe)).toList
  open_.foldl min e.next

/-- Reports the new address of one rewritten sort: to the own half by a MOVE record, to the partner by a MOVE query (Table 9.7). -/
def State.reportMove (s : State) (g old new units : Nat) : State :=
  if s.holdsHalf (gidHalf g) then s.mtxJournal [.move g old new units]
  else s.query { op := 5, tag := 0, gid := g, old := old, addr := new, units := units }

/-- Reports the placement of one sort whose stripe is closed: to the own half by a PLACE record, to the partner by a PLACE query (R196). Moves of descaling are reported with the batch of their sheet, those of mends and sweeps one by one (R231, R272). -/
def State.placeSort (s : State) (sheet : Nat) (p : Packed) : State :=
  match p.why with
  | .move _ => s
  | .page =>
    let addr := mkAddr sheet p.offset
    s.modSheet sheet fun e => if s.hth.pages.any fun x => x.addr == addr then { e with live := e.live + p.units } else { e with dead := e.dead + p.units }
  | .sweep old => s.reportMove p.gid old (mkAddr sheet p.offset) p.units
  | .mend old => (s.reportMove p.gid old (mkAddr sheet p.offset) p.units).mended p.gid
  | .place =>
    let addr := mkAddr sheet p.offset
    if s.holdsHalf (gidHalf p.gid) then
      if s.awaits p.gid s.head then
        let s := s.placeGrain p.gid addr p.units [.placed p.gid]
        { s with mtx := { s.mtx with placing := s.mtx.placing ++ [(p.gid, false)] } }
      else s.listSort p.gid addr p.units false
    else
      let s := { s with mtx := { s.mtx with placing := s.mtx.placing ++ [(p.gid, false)] } }
      s.query { op := 2, tag := 0, gid := p.gid, addr := addr, units := p.units }

/-- Closes a sheet whose last stripe is done (Table 13.3). -/
def State.sheetFull (s : State) (sheet : Nat) : State :=
  let e := s.sheet sheet
  if e.state = .opened ∧ e.stripes ≤ e.next ∧ e.cur = none ∧ !(s.hth.flights.any fun f => f.sheet == sheet) then
    s.journal [.sheet sheet .closed none e.head]
  else s

/-- The CLOSE record of a stripe is durable (R260, R261): its sorts are durable on flash, so they may be recorded as placed. -/
def State.closeDone (s : State) (f : Flight) : State :=
  let s := { s with hth := { s.hth with flights := s.hth.flights.filter fun (x : Flight) => !(x.sheet = f.sheet ∧ x.stripe = f.stripe) } }
  let wp := s.writePoint f.sheet
  let s := s.modSheet f.sheet fun e => { e with writePoint := wp }
  let s := f.sorts.foldl (fun s p => s.placeSort f.sheet p) s
  let s := ((s.admitStripes).sheetFull f.sheet).ladderEval
  if (s.sheet f.sheet).isMap then s.flushStep else s

/-- The stripes whose CLOSE record is now durable. -/
def State.closesDone (s : State) : State :=
  (s.hth.flights.filter fun f => f.phase == .closeWritten && s.sifSafe f.seq).foldl State.closeDone s

/-- Every module has confirmed its chunk (R260 step 5): the CLOSE record is written, and once it is durable the stripe's sorts may be recorded as placed. A missing member is left to rebuild, and a spoiled chunk to descaling (Table 12.6). -/
def execStripeChunksConfirmed (sheet stripe : Nat) (s : State) : Out1 :=
  match s.flight sheet stripe with
  | none => .next s
  | some f =>
    let need := (List.range (f.width + 2)).filter fun m => !(s.sheet sheet).missing.contains m && !f.spoiled.contains m
    if f.phase = .closeWritten then .next (if s.sifSafe f.seq then s.closeDone f else s)
    else if f.phase ≠ .sent ∨ !(need.all fun m => f.confirmed.contains m) then .next s
    else
      let s := s.sifRecord sheet stripe f.epoch 2 f.width f.head (f.confirmed.map (2 ^ ·)).sum
      let f := { f with phase := .closeWritten, seq := s.hth.inflightSeq }
      let s := (s.modFlight sheet stripe fun _ => f).admitStripes
      .next (if s.sifSafe f.seq then s.closeDone f else s)

/-- Whether the old sheet of a descaling run has every MOVE recorded: its batch is durable and no MOVE query for it is out (Table 13.13, step 2). -/
def State.movesDone (s : State) (sheet : Nat) : Bool :=
  !(s.mtx.outstanding.any fun q => q.op == 5 && addrSheet q.old == sheet) &&
    !(s.hth.journal.waiting.any fun b => b.after.any fun a => match a with | .moved x => x == sheet | _ => false)

/-- Step 3 of Table 13.13: the sheet becomes To erase, and the partner is asked for its clearance. [DEDUCED: notes/assumptions/44.md] -/
def State.toErase (s : State) (sheet : Nat) : State :=
  let s := s.journal [.sheet sheet .toErase none (s.sheet sheet).head]
  let s := s.modSheet sheet fun e => { e with movedAt := s.now, descale := false }
  if s.paired then s.anvil .clearance pairChan [sheet, 0] else s

/-- Goes on from step 2 to step 3 once the moves of the sheet in progress are recorded. Rank 1 work on a stripe leaves the sheet as it is (R270). -/
def State.descaleStep3 (s : State) : State :=
  match s.hth.descale with
  | none => s
  | some d =>
    if d.movesOut ∧ s.movesDone d.sheet then
      let whole := d.rank ≠ 1 ∨ !(s.hth.front.any fun f => f.sheet == d.sheet && f.stripe.isSome)
      let s := { s with hth := { s.hth with descale := none, front := s.hth.front.filter fun (f : FrontItem) => f.sheet != d.sheet, wear := if d.rank = 4 then none else s.hth.wear } }
      let s := { s with imp := { s.imp with relocating := s.imp.relocating.filter (· != d.sheet) } }
      let s := ((s.wr F.HTH_DESCALE_RANK 0).wr F.HTH_DESCALE_FRONT s.hth.front.length).showRebuild
      if whole then s.toErase d.sheet else s.modSheet d.sheet fun e => { e with descale := false }
    else s

/-- Ends a command of STE_CMD (R327): here with RESULT, STE_ARG1 and CMD_DONE, or at the partner that forwarded it. [DEDUCED: notes/assumptions/58.md] -/
def State.steDone (s : State) (fwd : Option Nat) (result arg : Nat) : State :=
  match fwd with
  | some f => s.anvil .result 65520 [f, result, arg, 0]
  | none => (((s.wr F.STE_CMD_RESULT result).wr F.STE_CMD_BUSY 0).wr F.STE_ARG1_RESULT arg).raise F.STE_INT_STATUS_CMD_DONE

/-- Acts on what waited for a batch (Table 13.8, R188, R196, Table 13.13). A piece whose EXTENT batch is durable is APPLIED, and the grains it replaced drop a reference. [DEDUCED: notes/assumptions/38.md] -/
def State.afterDurable (seq : Nat) (s : State) : After → State
  | .applied d =>
    match Tab.find s.gly.own d with
    | none => s
    | some p =>
      let s := s.setPiece d { p with applied := true, journalled := true, drops := [] }
      p.drops.foldl (fun s g => if s.holdsHalf (gidHalf g) then s.addRef g (-1) else s.query { op := 3, tag := 0, gid := g, old := 2 ^ 32 - 1 }) s
  | .placed g => { s with mtx := { s.mtx with placing := s.mtx.placing.map fun p => if p.1 = g then (g, true) else p } }
  | .freed g => s.setHalf (gidHalf g) { s.half (gidHalf g) with freed := (s.half (gidHalf g)).freed ++ [gidIndex g] }
  | .moved _ => s.descaleStep3
  | .transit => s
  | .finish n => s.finish n .success
  | .family f v => s.steDone f 0 v
  | .answer chan tag g r => (s.anvil .matrixResp chan [] (mtxBytes r 0 0 0 tag g 0 seq [])).anvil .credit chan [1]

/-- Takes two new galley-log plates on two modules when there are none or the pair is nearly full (R129). Pairs used before go To erase once no piece that went to them is left. [DEDUCED: notes/assumptions/121.md] -/
def State.logReserve (s : State) : State :=
  let s := if s.gly.logOld.isEmpty || s.gly.own.any fun p => p.2.inLog then s
    else { (s.journal (s.gly.logOld.map fun w => .plate w.1 w.2 { s.plateRec w.1 w.2 with state := .toErase })) with gly := { s.gly with logOld := [] } }
  let size := (s.gly.logPlates.head?.map fun w => 2 ^ (s.module w.1).plateLog2 / 65536).getD 0
  if s.gly.logPlates.length = 2 ∧ s.gly.logPos + 64 ≤ size then s
  else match s.chooseModules [] 2 with
    | none => s
    | some ms =>
      let ws := s.pickPlates [] ms
      if ws.length ≠ 2 then s
      else
        let s := (ws.foldl State.claimPlate s).journal (ws.map fun w => .plate w.1 w.2 { s.plateRec w.1 w.2 with state := .galleyLog })
        { s with gly := { s.gly with logOld := s.gly.logOld ++ s.gly.logPlates, logPlates := ws, logPos := 0 } }

/-- The oldest waiting batch goes to the galley log too, while pieces are published on flash (R129). [DEDUCED: notes/assumptions/121.md] -/
def State.logBatch (s : State) : State :=
  match s.hth.journal.waiting with
  | [] => s
  | b :: rest =>
    if b.inLog || s.ackWhere != .flash then s
    else match s.logReserve.logWrite b.bytes with
      | none => s
      | some t => { t with hth := { t.hth with journal := { t.hth.journal with waiting := { b with inLog := true } :: rest ++ t.hth.journal.waiting.drop (rest.length + 1) } } }

/-- Whether a batch is durable (R125): it stands in both control areas when Paired, and otherwise in the own one with a healthy Bellows. With neither, its confirmed copy in the galley log stands in (R129). [DEDUCED: notes/assumptions/79.md] -/
def State.batchSafe (s : State) (b : Batch) (logged : Bool) : Bool := if s.paired then b.held else s.bellowsWell || (b.inLog && logged)

/-- JOURNAL_BATCH_DURABLE (R125): the oldest waiting batch stands where durability asks for it; `logged` says that both galley-log modules have confirmed it (R129). A batch waits while the ring has no room (R292). [DEDUCED: notes/assumptions/38.md, notes/assumptions/79.md] -/
def execJournalBatchDurable (logged : Bool) (s : State) : Out1 :=
  let s := s.logBatch
  let j := s.hth.journal
  match j.waiting with
  | [] => .next s
  | b :: rest =>
    if journalLimit < (j.ring.map Batch.units).sum + b.units then .next (s.raise F.HTH_INT_STATUS_JOURNAL_FULL)
    else if !s.batchSafe b logged then .next s
    else
      let s := { s with hth := { s.hth with journal := { j with waiting := rest, ring := j.ring ++ [b] } } }
      let s := s.wr F.HTH_JOURNAL_SEQ b.seq
      .next (b.after.foldl (State.afterDurable b.seq) s).ladderEval

/-- The flush interval has passed, or 64 MiB of records have gathered (R125). -/
def execFlushIntervalTimer (s : State) : Out1 :=
  let ms := (s.fm.forme.map (·.flushMs)).getD 0
  if 1048576 ≤ s.hth.journal.gathered ∨ s.hth.journal.lastFlush + ms * 1000000 ≤ s.now then .next s.flushStart else .next s

/-- HTH_CTRL.FLUSH_NOW (R293). -/
def execFlushNow (s : State) : Out1 := .next s.flushStart

/-- CHECKPOINT_DURABLE (R293, R294): both anchors have confirmed the checkpoint of the flush that runs. One whose writes have ended without both confirmations is written again, on a new pair where an anchor has failed. A flush that fell due in the meantime starts. -/
def execCheckpointDurable (s : State) : Out1 :=
  match s.hth.journal.flush, s.hth.journal.sent with
  | some e, some c =>
    if s.hth.anchors.all fun w => s.hth.journal.acks.contains w.1 then
      let s := (s.ckptDone e c).logReserve
      .next (if s.hth.journal.due then s.flushStart else s)
    else if s.gmp.flying.any fun f => f.2.use == .anchor then .next s
    else .next (State.flushStep { s with hth := { s.hth with journal := { s.hth.journal with sent := none } } })
  | _, _ => .next s.flushStep

/-- HTH_CTRL.AUDIT_START (R296): while the audit runs no grain is freed. -/
def State.auditStart (s : State) : State :=
  if s.hth.audit.isSome then s else { s with hth := { s.hth with audit := some [] } }

/-- AUDIT_START (R296). -/
def execAuditStart (s : State) : Out1 := .next s.auditStart

/-- Every reference to grains that the volume maps make, counted over distinct leaf pages (R326). -/
def State.references (s : State) : List Nat :=
  (s.vols.foldl (fun (acc : List Nat × List Nat) v =>
    v.2.map.foldl (fun (acc : List Nat × List Nat) c =>
      let page := (v.2.pageAt c.1).2.1
      if c.2.gid = 0 ∨ (page ≠ 0 ∧ acc.1.contains page) then acc else (acc.1, c.2.gid :: acc.2)) acc |>
      fun (a : List Nat × List Nat) => (a.1 ++ v.2.pages.map Prod.snd, a.2)) ([], [])).2

/-- Grains of a half that may carry references. -/
def State.countedGrains (s : State) (hb : Bool) : List (Nat × Grain) :=
  ((s.half hb).grains.filter fun e => e.2.state == .live || e.2.state == .deferred || e.2.state == .lost || e.2.state == .isAlias).map fun e => (mkGid hb e.2.gen e.1, e.2)

/-- A grain's audited count: its own references and those of its aliases (R200). -/
def State.auditCount (s : State) (refs : List Nat) (g : Nat) : Nat :=
  let aliases := ((s.half false).grains ++ (s.half true).grains).filter fun e => e.2.state == .isAlias && e.2.aliasOf == g
  refs.count g + (aliases.map fun e => refs.count (mkGid (gidHalf g) e.2.gen e.1)).sum

/-- The audit ends (R296): every REFCNT takes its audited value, grains of the partner's half by REF queries, and grains whose count is 0 are freed. -/
def execAuditEnd (s : State) : Out1 :=
  match s.hth.audit with
  | none => .next s
  | some held =>
    let refs := s.references
    let own := ([false, true].filter fun h => s.holdsHalf h).flatMap s.countedGrains
    let other := ([false, true].filter fun h => !s.holdsHalf h).flatMap s.countedGrains
    let delta (g : Nat) (e : Grain) : Int := (s.auditCount refs g : Int) - e.count
    let recs := own.flatMap fun e => if delta e.1 e.2 = 0 then [] else e.2.refRecs e.1 (delta e.1 e.2)
    let out := other.filter fun e => delta e.1 e.2 ≠ 0 ∧ e.2.state ≠ .isAlias
    let sends := out.map fun e => (e.1, delta e.1 e.2)
    let s := { (s.mtxJournal recs) with hth := { (s.mtxJournal recs).hth with audit := none } }
    let s := sends.foldl (fun s x => s.query { op := 3, tag := 0, gid := x.1, old := twos 32 x.2 }) s
    let s := (own.map Prod.fst ++ held).foldl State.freeIfDead s
    .next ((s.raise F.HTH_INT_STATUS_AUDIT_DONE).note .hth .auditDone)

/-- Whether a moved sort may lose its DEFER mark: its grain is Live with a fingerprint record (R200). -/
def State.undefer (s : State) (g : Nat) (b : SortBody) : SortBody :=
  match s.grain? g with
  | some e => if e.state = .live ∧ e.fp.isSome then { b with defer := false } else b
  | none => b

/-- Copies one live sort into an open sheet of a role (Table 13.13, step 1, R165): it is read through a Proof stage in check-and-keep mode, and a sort that fails its check goes through the suspect step. No copy is made while the sort waits for a repair, cannot be rebuilt, or finds no open sheet. -/
def State.copySort (s : State) (r : Role) (cls id : Nat) (x : SortRec) : Option (Nat × Nat × Nat) × State :=
  let old := mkAddr id x.offset
  match s.passSort (s.lineOfKind (if r = .reshape then 4 else 3)) x.gid with
  | (.sound b, s) =>
    (match s.packSort r cls x.gid (.move old) (s.undefer x.gid (SortBody.ofBytes b)) with
    | none => (none, s)
    | some (addr, s) =>
      let u := s.hth.copiedUnits + x.units
      let s := s.inc F.HTH_DESCALE_CNT_MOVED (u / 16777216)
      (some (x.gid, old, addr), { s with hth := { s.hth with copiedUnits := u % 16777216 } }))
  | (_, s) => (none, s)

/-- Every sort that is being packed or written. -/
def State.packing (s : State) : List Packed :=
  (s.hth.sheets.flatMap fun e => (e.2.cur.map (·.sorts)).getD []) ++ s.hth.flights.flatMap (·.sorts)

/-- Whether a sort is encrypted under the data generation of a handle. -/
def SortBody.under (b : SortBody) (h : Nat) : Bool := b.realm == handleRealm h && b.keyGen == handleGen h

/-- Whether what is packed is a sort under the data generation of a handle. -/
def Packed.under (p : Packed) (h : Nat) : Bool :=
  match p.body with
  | .sort b => b.under h
  | .page _ => false

/-- The live sorts that a sweep of a generation has still to encrypt again, each with its sheet (R231). -/
def State.sweepLeft (s : State) (h : Nat) : List (Nat × SortRec) :=
  s.hth.sheets.flatMap fun e => ((s.liveSorts e.1 none).filter fun x =>
    (s.readSort (mkAddr e.1 x.offset) x.units).any fun b => (SortBody.ofBytes b).under h).map fun x => (e.1, x)

/-- Encrypts one sort again under the Current generation (R231): read through a Proof stage of its class's read line and packed for the refine line, its text as Swage left it. A sort that no copy of its old key opens is lost (R229). -/
def State.sweepSort (s : State) (h id : Nat) (x : SortRec) : State :=
  let cls := (s.sheet id).cls
  match s.currentGen (handleRealm h) 4 with
  | none => s
  | some g =>
    if s.packing.any fun p => p.gid == x.gid then s
    else match s.passSort (s.readLine cls) x.gid with
      | (.sound b, s) =>
        (match s.plainKey h, s.plainKey (handle (handleRealm h) 4 g) with
        | none, _ => s.loseGrain x.gid 1
        | _, none => s
        | some old, some new =>
          let body := s.undefer x.gid (SortBody.ofBytes b)
          let text := xtsAes false old (xtsTweak x.gid) body.cipher
          ((s.packSort .refine cls x.gid (.sweep (mkAddr id x.offset)) { body with keyGen := g, cipher := xtsAes true new (xtsTweak x.gid) text }).map Prod.snd).getD s)
      | (_, s) => s

/-- A sweep goes on or ends (R231): the sorts of the swept generation that are not yet on their way are encrypted again, and once none is left, placed or on its way, the record becomes Free. [DEDUCED: notes/assumptions/33.md] -/
def execKeySweepEnd (s : State) : Out1 :=
  match s.tmp.sweep with
  | none => .next s
  | some h =>
    let left := s.sweepLeft h
    if left ≠ [] then .next (left.foldl (fun s x => s.sweepSort h x.1 x.2) s)
    else if s.packing.any fun p => p.under h then .next s
    else
      let s := s.freeKey h
      .next { s with tmp := { s.tmp with sweep := none } }

/-- Copies the live sorts of a sheet that have no copy yet. -/
def State.copySorts (s : State) (r : Role) (id : Nat) (stripe : Option Nat) (done : List (Nat × Nat × Nat)) : List (Nat × Nat × Nat) × State :=
  ((s.liveSorts id stripe).filter fun x => !(done.any fun c => c.1 == x.gid)).foldl (fun (acc : List (Nat × Nat × Nat) × State) x =>
    match acc.2.copySort r (acc.2.sheet id).cls id x with
    | (none, s) => (acc.1, s)
    | (some c, s) => (acc.1 ++ [c], s)) (done, s)

/-- The addresses in a map sheet, or in one stripe of it, that directories name. -/
def State.livePages (s : State) (id : Nat) (stripe : Option Nat) : List Nat :=
  ((s.hth.pages.filter fun x => addrSheet x.addr == id && stripe.all fun k => addrOffset x.addr / stripeUnits (s.sheet id).width == k).map (·.addr)).eraseDups

/-- Copies the live pages of a map sheet to the open one: every directory that names a page takes its new address (R326), which the next flush writes. [DEDUCED: notes/assumptions/44.md] -/
def State.copyPages (s : State) (id : Nat) (stripe : Option Nat) (done : List (Nat × Nat × Nat)) : List (Nat × Nat × Nat) × State :=
  (s.livePages id stripe).foldl (fun (acc : List (Nat × Nat × Nat) × State) old =>
    match (acc.2.hth.pages.find? fun x => x.addr == old).bind fun x => acc.2.packPage x.page with
    | none => acc
    | some (addr, s) =>
      let s := s.deadUnits id pageUnits
      (acc.1 ++ [(0, old, addr)], { s with hth := { s.hth with pages := s.hth.pages.map fun (x : PageSlot) => if x.addr = old then { x with addr := addr } else x } })) (done, s)

/-- Copies what is live in a sheet under descaling (Table 13.13, step 1): sorts, or the pages of a map sheet. -/
def State.copyLive (s : State) (id : Nat) (stripe : Option Nat) (done : List (Nat × Nat × Nat)) : List (Nat × Nat × Nat) × State :=
  if (s.sheet id).isMap then s.copyPages id stripe done else s.copySorts .descale id stripe done

/-- Whether anything live in a sheet has no copy yet. -/
def State.copiesLeft (s : State) (id : Nat) (stripe : Option Nat) (copies : List (Nat × Nat × Nat)) : Bool :=
  if (s.sheet id).isMap then !(s.livePages id stripe).isEmpty
  else (s.liveSorts id stripe).any fun x => !(copies.any fun c => c.1 == x.gid)

/-- Whether the stripe of every copy is closed: none of them is still being packed or written. -/
def State.copiesClosed (s : State) (copies : List (Nat × Nat × Nat)) : Bool := copies.all fun c => s.stripeShut c.2.2

/-- The units of a grain's sort. -/
def State.unitsOf (s : State) (g : Nat) : Nat := (s.grainAt g).units

/-- One batch of MOVE records for the own half, and MOVE queries for the partner's half (Table 13.13, step 2). -/
def State.moveBatch (s : State) (copies : List (Nat × Nat × Nat)) (after : List After) (extra : List JRec) : State :=
  let mine := copies.filter fun c => s.holdsHalf (gidHalf c.1)
  let theirs := copies.filter fun c => !s.holdsHalf (gidHalf c.1)
  let recs := (mine.map fun c => JRec.move c.1 c.2.1 c.2.2 (s.unitsOf c.1)) ++ extra
  let s := s.mtxJournal recs after
  theirs.foldl (fun s c => s.query { op := 5, tag := 0, gid := c.1, old := c.2.1, addr := c.2.2, units := s.unitsOf c.1 }) s

/-- DESCALE_COPY_DONE (R297, R299): with no sheet in progress Hearth takes the next one of Table 13.12 and copies its live sorts or pages; once every copy's stripe is closed, one batch of MOVE records is made for its sorts, and with it recorded the sheet becomes To erase. [DEDUCED: notes/assumptions/44.md] -/
def execDescaleCopyDone (s : State) : Out1 :=
  let s := match s.hth.descale with
    | some _ => s
    | none => match s.descaleNext with
      | none => s
      | some (rank, id, _) =>
        let s := { s with hth := { s.hth with descale := some ⟨id, rank, [], false⟩ } }
        (s.modSheet id fun e => { e with descale := true }).wr F.HTH_DESCALE_RANK rank
  match s.hth.descale with
  | none => .next s
  | some d =>
    if d.movesOut then .next s.descaleStep3
    else
      let stripe := if d.rank = 1 then (s.hth.front.find? fun f => f.sheet == d.sheet).bind (·.stripe) else none
      let (copies, s) := s.copyLive d.sheet stripe d.copies
      let s := { s with hth := { s.hth with descale := some { d with copies := copies } } }
      if s.copiesLeft d.sheet stripe copies || !s.copiesClosed copies then .next s
      else
        let s := { s with hth := { s.hth with descale := some { d with copies := copies, movesOut := true } } }
        .next (s.moveBatch (copies.filter fun c => c.1 != 0) [.moved d.sheet] []).descaleStep3

/-- Whether a read of this head that resolved an address in a sheet before its moves is in progress (Table 13.13, step 4). [DEDUCED: notes/assumptions/44.md] -/
def State.readsSheet (s : State) (id : Nat) : Bool :=
  let e := s.sheet id
  s.stk.slots.any fun t => decide (t.2.arrival ≤ e.movedAt) && t.2.sources.any fun x =>
    match x.2 with
    | .grain g => e.sorts.any fun r => r.gid == g
    | _ => false

/-- Erases a plate; one whose ERASES has reached the rated count is retired instead (R300). -/
def State.erasePlate (s : State) (m p : Nat) (use : GmpUse) : State :=
  let r := s.plateRec m p
  let rated := (s.module m).rated
  if rated ≤ r.erases ∧ rated ≠ 0 then s.journal [.plate m p { r with state := .retired, sheet := 0 }]
  else
    let s := if ((s.dev m).plate p).owner = s.head then s else s.claimPlate (m, p)
    s.gmpSend m { op := Gmp.erase, plate := p } [] use

/-- The plates To erase that belong to no sheet, which this head owns or whose owner is lost: old anchor and galley-log plates and abandoned spares, once a checkpoint covers their records (R129, R269, R293). [DEDUCED: notes/assumptions/44.md] -/
def State.loosePlates (s : State) : List (Nat × Nat) :=
  let loose (t : Tab Plate) : List Nat := Tab.keysWhere t fun _ p => p.state == .toErase && p.sheet == 0
  (((loose s.hth.plates).filter fun k => (loose s.hth.journal.image.plates).contains k).map fun k => (k / 2 ^ 25, k % 2 ^ 25)).filter fun w => ((s.dev w.1).plate w.2).owner == s.head || !s.paired

/-- DESCALE_ERASE (Table 13.13, step 4): a checkpoint covers the records, no read of the sheet is in progress, and the partner has given clearance; then each plate is erased. Sheet 0, which is no sheet's ID, stands for the plates To erase that belong to no sheet. [DEDUCED: notes/assumptions/44.md] -/
def execDescaleErase (sheet : Nat) (s : State) : Out1 :=
  if sheet = 0 then .next (s.loosePlates.foldl (fun s w => s.erasePlate w.1 w.2 (.erase 0 0)) s) else
  let e := s.sheet sheet
  let cleared := !s.paired || s.hth.clearances.contains sheet
  if e.state = .toErase ∧ e.eraseSeq ≤ s.hth.journal.ckpt.seqEnd ∧ !s.readsSheet sheet ∧ cleared then
    let s := { s with hth := { s.hth with clearances := s.hth.clearances.filter (· != sheet) } }
    .next ((e.members.zipIdx).foldl (fun s w =>
      if (s.plateRec w.1.1 w.1.2).state == .member || (s.plateRec w.1.1 w.1.2).state == .toErase then s.erasePlate w.1.1 w.1.2 (.erase sheet w.2) else s) s)
  else .next s

/-- The sheet becomes Free once every member plate is Free or Retired (Table 13.3). -/
def State.sheetFreed (s : State) (id : Nat) : State :=
  let e := s.sheet id
  if e.state = .toErase ∧ e.members.all (fun w => (s.plateRec w.1 w.2).sheet != id || (s.plateRec w.1 w.2).state == .free || (s.plateRec w.1 w.2).state == .retired) then
    (s.journal [.sheet id .free none e.head]).inc F.HTH_DESCALE_CNT_SHEETS
  else s

/-- A plate of a sheet under erase has been erased: its record becomes Free with one more erase. -/
def State.plateErased (s : State) (id member : Nat) : State :=
  match (s.sheet id).members[member]? with
  | none => s
  | some (m, p) => ((s.journal [.plate m p { state := .free, erases := (s.plateRec m p).erases + 1, sheet := 0 }]).sheetFreed id).ladderEval

/-- A plate that belongs to no sheet has been erased. -/
def State.looseErased (s : State) (m p : Nat) : State :=
  if (s.plateRec m p).state = .toErase then (s.journal [.plate m p { state := .free, erases := (s.plateRec m p).erases + 1, sheet := 0 }]).ladderEval else s

/-- HTH_CTRL.DESCALE_PAUSE (R297). -/
def execDescalePauseWrite (v : Bool) (s : State) : Out1 := .next (s.wr F.HTH_CTRL_DESCALE_PAUSE (bit v))

/-- The erase counts of a module's plates that are not Retired, lowest and highest (R300). -/
def State.eraseRange (s : State) (m : Nat) : Nat × Nat :=
  let listed := s.hth.plates.filter fun p => p.1 / 2 ^ 25 == m && p.2.state != .retired
  let counts := listed.map fun p => p.2.erases
  let all := s.hth.plates.filter fun p => p.1 / 2 ^ 25 == m
  let low := if all.length < (s.module m).plates then 0 else counts.foldl min (counts.headD 0)
  (low, counts.foldl max 0)

/-- The Closed sheet whose member plate on a module has the fewest erases (R300). -/
def State.wearSheet (s : State) (m : Nat) : Option Nat :=
  let cand := s.descalable.filterMap fun p => ((p.2.members.find? fun w => w.1 == m).map fun w => (p.1, (s.plateRec w.1 w.2).erases))
  (cand.foldl (fun b c =>
    match b with
    | none => some c
    | some x => if c.2 < x.2 then some c else b) none).map Prod.fst

/-- The daily comparison of erase counts (R300): a module whose spread exceeds 10 % of its rated count queues one wear move. -/
def execWearCheck (s : State) : Out1 :=
  if s.now < s.hth.lastWear + 86400000000000 then .next s
  else
    let s := { s with hth := { s.hth with lastWear := s.now } }
    if s.hth.wear.isSome then .next s
    else match s.admitted.find? fun m => decide ((s.module m).rated < 10 * ((s.eraseRange m).2 - (s.eraseRange m).1)) && (s.wearSheet m).isSome with
      | none => .next s
      | some m => .next (({ s with hth := { s.hth with wear := s.wearSheet m } }).note .hth .wearMove 0 [m])

/-- Sets U and S_0 (R301). [DEDUCED: notes/assumptions/42.md] -/
def State.capSet (s : State) : State :=
  let u := 93 * (s.rawBytes - s.metaBytes)
  let s := { s with hth := { s.hth with userC := u } }
  ({ s with hth := { s.hth with spareC := s.spareNow } }).ladderEval

/-- HTH_CTRL.CAP_SET (R301). -/
def execCapSet (s : State) : Out1 := .next s.capSet

/-- The bin of a temperature (R304): 168 bins of 1 °C from −40 to 127. -/
def tempBin (t : Int) : Nat := (max 0 (min 167 (t + 40))).toNat

/-- Adds one minute to the bins of a health record (R304). -/
def Health.addMinute (h : Health) (day : Nat) (t : Int) : Health :=
  let b := tempBin t
  let days := if h.day = day ∧ !h.days.isEmpty then h.days else ([] :: h.days).take 30
  let days := match days with
    | [] => [Tab.modify 0 [] b (· + 1)]
    | d :: rest => Tab.modify 0 d b (· + 1) :: rest
  { h with life := Tab.modify 0 h.life b (· + 1), days := days, day := day }

/-- Once a minute: each admitted module's temperature, and the hottest for the array (R304). -/
def execHealthSample (s : State) : Out1 :=
  let day := s.now / 86400000000000
  let temps := s.admitted.map fun m => (m, (s.module m).temp)
  let health := temps.foldl (fun t x => Tab.modify {} t x.1 fun h => h.addMinute day x.2) s.hth.health
  match temps with
  | [] => .next s
  | x :: rest =>
    let hot := rest.foldl (fun a y => max a y.2) x.2
    .next { s with hth := { s.hth with health := health, array := s.hth.array.addMinute day hot } }

end Sys2Proof.Machine
end

