-- ==== Sys2Proof/Machine/Swage.lean ====
section
/-! DEFINITION. Swage jobs, streams and tests (R213 to R224). -/

namespace Sys2Proof.Machine

/-- A Swage descriptor read into a job (Table 10.6), with the SRC_LEN bytes at SRC. -/
def swageJob (desc src : Bytes) : SwageJob :=
  let w0 := leAt desc 0 8
  let w2 := leAt desc 0x10 8
  { tag := bits w0 63 32, line := bits w0 31 27, op := bits w0 26 24, flush := bitOf w0 23, fin := bitOf w0 22, force := bitOf w0 21,
    expect := bits w2 31 16, bsize := bits w2 15 13, space := bits (leAt desc 0x20 8) 63 32, ctx := leAt desc 0x28 8, src := src.take (bits w2 63 32),
    dst := leAt desc 0x18 8, desc := desc }

/-- Whether a reserved field of a Swage descriptor is not zero. -/
def swageReserved (desc : Bytes) : Bool :=
  bits (leAt desc 0 8) 20 0 != 0 || bits (leAt desc 0x10 8) 12 0 != 0 || bits (leAt desc 0x20 8) 31 0 != 0 || bits (leAt desc 0x30 8) 46 32 != 0 || leAt desc 0x38 8 != 0

/-- The station type that an OP runs on (R216). -/
def swageStation (op : Nat) : Station := if op % 2 = 0 then .swageC else .swageE

/-- Whether a dump is committed and not sealed (R137). -/
def State.dumping (s : State) : Bool := s.gly.dump.isSome

/-- Whether a guard under R136 is in force. -/
def State.inGuard (s : State) : Bool := s.gly.supply.any (·.guard)

/-- Whether a job of a line kind and OP is taken in the situation (Table 10.8). The lines of kind 6 are those of the Foreman management steward. While SWG_CTRL.ENABLE is 0 only its jobs start. [DEDUCED: notes/assumptions/48.md] -/
def State.swageTakes (s : State) (kind op : Nat) : Bool :=
  let grain := decide (op ≤ 1)
  let service := kind == 6 || (s.on F.SWG_CTRL_ENABLE && ((grain && (kind == 1 || kind == 2 || kind == 5)) || (!grain && s.inGuard)))
  if s.dumping then false
  else match s.fm.mode with
    | .forming => kind == 6
    | .recovery => kind == 6
    | .banked => false
    | .deepBanked => false
    | .dark => false
    | .halted => s.labMode && service
    | _ => service

/-- Whether a job ends at once with 0x0B04 (Table 10.7): a reserved field, an OP that Table 10.8 does not allow, BSIZE above 4, FORCE outside a self-test line, or SRC_LEN out of range. [DEDUCED: notes/assumptions/32.md] -/
def State.swageInvalid (s : State) (cluster : Nat) (desc : Bytes) (j : SwageJob) : Bool :=
  match s.line j.line with
  | none => true
  | some l =>
    swageReserved desc || decide (3 < j.op) || decide (4 < j.bsize) || (j.force && l.kind != 6) || !s.swageTakes l.kind j.op ||
      (j.op == 0 && (j.src.isEmpty || decide (65536 < j.src.length))) || (l.lanesIn (swageStation j.op) cluster).isEmpty

/-- Writes back a Swage result, with the counters and interrupt bits of its status (Table 10.7). -/
def State.swageEnds (s : State) (j : SwageJob) (st : Status) (out : Bytes) : State :=
  let r : SwageResult := { tag := j.tag, status := st, out := if st = 0 then out else [], dst := j.dst, desc := descBack j.desc st out.length }
  let s := { s with swg := { s.swg with results := s.swg.results ++ [r] } }
  match st with
  | 0x0B01 => s.inc F.SWG_RESULT_CNT_NO_GAIN
  | 0x0B02 => (s.inc F.SWG_RESULT_CNT_EXHAUSTED).raise F.SWG_INT_STATUS_EXHAUSTED
  | 0x0B03 => (s.inc F.SWG_FAIL_CNT_FORMAT).raise F.SWG_INT_STATUS_FORMAT_INVALID
  | 0x0B04 => (s.inc F.SWG_FAIL_CNT_DESC_INVALID).raise F.SWG_INT_STATUS_DESC_INVALID
  | 0x0B05 => (s.inc F.SWG_FAIL_CNT_STREAM_CHECK).raise F.SWG_INT_STATUS_STREAM_CHECK
  | _ => s

/-- Whether a lane holds an open stream block of another context (R219). -/
def State.holdsOther (s : State) (lane ctx : Nat) : Bool := s.swg.streams.any fun e => e.1 != ctx && e.2.lane == some lane

/-- The lane that a job may start on: the lane that holds its open block, else the lowest idle one of its line in the cluster (R148, R219). -/
def State.swageLane (s : State) (cluster : Nat) (j : SwageJob) : Option Nat :=
  match s.line j.line with
  | none => none
  | some l =>
    let kind6 := l.kind == 6
    let lanes := (l.lanesIn (swageStation j.op) cluster).filter fun n =>
      (Tab.find s.swg.running n).isNone && !s.laneOff Kind.swage n && j.former != some n && !s.holdsOther n (if j.op ≤ 1 then 2 ^ 64 else j.ctx)
    let held := if j.op = 2 then (Tab.find s.swg.streams j.ctx).bind (·.lane) else none
    if !s.swageTakes l.kind j.op && !kind6 then none
    else match held with
      | some n => if lanes.contains n then some n else none
      | none => lanes.head?

/-- Whether an earlier job of the same context record has not ended: the station runs the jobs of one record in submission order (R218). -/
def State.ctxBusy (s : State) (e : Nat × SwageJob) : Bool :=
  let same (j : SwageJob) : Bool := decide (2 ≤ e.2.op) && decide (2 ≤ j.op) && j.ctx == e.2.ctx
  (s.swg.running.any fun r => same r.2) || (s.swg.queued.find? fun q => same q.2).any fun q => q != e

/-- Starts the waiting jobs of a cluster that find a lane, in order of arrival. [DEDUCED: notes/assumptions/48.md] -/
def State.swageKick (s : State) (cluster : Nat) : State :=
  s.swg.queued.foldl (fun s e =>
    if e.1 ≠ cluster ∨ s.ctxBusy e then s
    else match s.swageLane cluster e.2 with
      | none => s
      | some n => { s with swg := { s.swg with queued := s.swg.queued.erase e, running := Tab.put s.swg.running n e.2 } }) s

/-- A Swage descriptor of one OP enters a cluster's queue and starts on a free lane (R213 to R216). A descriptor of another OP is not this row's. -/
def State.swageSubmit (s : State) (op cluster : Nat) (desc src : Bytes) : State :=
  let j := swageJob desc src
  if j.op ≠ op then s
  else if s.swageInvalid cluster desc j then s.swageEnds j 0x0B04 []
  else State.swageKick { s with swg := { s.swg with queued := s.swg.queued ++ [(cluster, j)] } } cluster

/-- A grain compress job (R215). -/
def execSwageGrainCompress (cluster : Nat) (desc src : Bytes) (s : State) : Out1 := .next (s.swageSubmit 0 cluster desc src)

/-- A grain expand job (R215). -/
def execSwageGrainExpand (cluster : Nat) (desc src : Bytes) (s : State) : Out1 := .next (s.swageSubmit 1 cluster desc src)

/-- A stream compress job (R218). -/
def execSwageStreamCompress (cluster : Nat) (desc src : Bytes) (s : State) : Out1 := .next (s.swageSubmit 2 cluster desc src)

/-- A stream expand job (R220). -/
def execSwageStreamExpand (cluster : Nat) (desc src : Bytes) (s : State) : Out1 := .next (s.swageSubmit 3 cluster desc src)

/-- What a grain compress job comes to (R215): its status, its block, and the predictor codes of its tiles. -/
def swCompress (j : SwageJob) : Status × Bytes × Array Nat :=
  let (b, codes) := swEncode j.src
  if !j.force && decide (j.src.length < b.length + 64) then (0x0B01, [], codes)
  else if j.space < b.length then (0x0B02, [], codes)
  else (0, b, codes)

/-- What a grain expand job comes to (R215). -/
def swExpand (j : SwageJob) : Status × Bytes :=
  match swN j.src with
  | none => (0x0B03, [])
  | some n =>
    if n - 1 ≠ j.expect then (0x0B03, [])
    else if j.space < n then (0x0B02, [])
    else match swDecode j.src with
      | some b => (0, b)
      | none => (0x0B03, [])

/-- Bytes of a stream's blocks: 4 KiB shifted by BSIZE (R217). -/
def blockSize (b : Nat) : Nat := 4096 * 2 ^ b

/-- A frame of a block (R217, R218): compressed when that is shorter, stored otherwise. -/
def swFrame (b : Bytes) : Bytes :=
  let e := (swEncode b).1
  let (t, body) := if e.length < b.length then (0, e) else (1, b)
  leBytes (crc32c b * 2 ^ 32 + t * 2 ^ 30 + body.length) 8 ++ body

/-- The stream header (Table 10.9). -/
def swStreamHead (bsize : Nat) : Bytes := leBytes 0x4D525453 4 ++ [0x10#8, BitVec.ofNat 8 bsize] ++ zeros 2

/-- What a stream compress job comes to (R218, R219): its output and the stream after it. -/
def swStreamOut (old : Option SwageStream) (j : SwageJob) : Bytes × Option SwageStream :=
  let st : SwageStream := old.getD ⟨j.bsize, [], 0xFFFFFFFF#32, none⟩
  let size := blockSize st.bsize
  let all := st.buf ++ j.src
  let crc := j.src.foldl crc32cByte st.crc
  let whole := all.length / size
  let full := (List.range whole).map fun i => slice all (i * size) size
  let tail := all.drop (whole * size)
  let flush := (j.flush || j.fin) && !tail.isEmpty
  let blocks := if flush then full ++ [tail] else full
  let out := (if old.isNone then swStreamHead st.bsize else []) ++ blocks.flatMap swFrame
  if j.fin then (out ++ leBytes ((~~~ crc).toNat * 2 ^ 32 + 2 ^ 31) 8, none)
  else (out, some { st with buf := if flush then [] else tail, crc := crc })

/-- Expands whole frames (R217, R220): the status, the output, and the stream after them; none once the end frame has passed. [DESIGN CHOICE: notes/assumptions/115.md] -/
def swFrames : Nat → SwageStream → Bytes → Status × Bytes × Option SwageStream
  | 0, st, _ => (0, [], some st)
  | fuel + 1, st, b =>
    if b.isEmpty then (0, [], some st)
    else
      let h := leAt b 0 8
      let t := bits h 31 30
      let n := bits h 16 0
      let body := slice b 8 n
      if b.length < 8 + n ∨ t = 3 ∨ bits h 29 17 ≠ 0 ∨ (t = 2 ∧ n ≠ 0) ∨ (t < 2 ∧ (n = 0 ∨ 65536 < n)) then (0x0B03, [], some st)
      else if t = 2 then
        if h / 2 ^ 32 = (~~~ st.crc).toNat ∧ b.length = 8 then (0, [], none)
        else if b.length ≠ 8 then (0x0B03, [], some st) else (0x0B05, [], some st)
      else
        let blk := if t = 1 then (if n ≤ blockSize st.bsize then some body else none)
          else match swN body with
            | some m => if m ≤ blockSize st.bsize then swDecode body else none
            | none => none
        match blk with
        | none => (0x0B03, [], some st)
        | some x =>
          if crc32c x ≠ h / 2 ^ 32 then (0x0B05, [], some st)
          else
            let (r, out, st') := swFrames fuel { st with crc := x.foldl crc32cByte st.crc } (b.drop (8 + n))
            (r, x ++ out, st')

/-- What a stream expand job comes to (R220). -/
def swStreamIn (old : Option SwageStream) (j : SwageJob) : Status × Bytes × Option SwageStream :=
  match old with
  | some st => swFrames (j.src.length + 1) st j.src
  | none =>
    if j.src.length < 8 ∨ leAt j.src 0 4 ≠ 0x4D525453 ∨ byteAt j.src 4 / 16 ≠ 1 ∨ 4 < byteAt j.src 5 ∨ leAt j.src 6 2 ≠ 0 then (0x0B03, [], none)
    else swFrames (j.src.length + 1) ⟨byteAt j.src 5, [], 0xFFFFFFFF#32, none⟩ (j.src.drop 8)

/-- Replaces the stream of a context record, or zeros the record. -/
def State.setStream (s : State) (ctx : Nat) (v : Option SwageStream) : State :=
  { s with swg := { s.swg with streams := match v with
      | some st => Tab.put s.swg.streams ctx st
      | none => Tab.erase s.swg.streams ctx } }

/-- Tiles of a block by predictor code (SWG_PRED_CNT). -/
def State.countTiles (s : State) (codes : Array Nat) : State :=
  let n (c : Nat) : Nat := (codes.toList.filter (· == c)).length
  (((s.inc F.SWG_PRED_CNT_ZERO (n 0)).inc F.SWG_PRED_CNT_LEFT (n 1)).inc F.SWG_PRED_CNT_STRIDE (n 2)).inc F.SWG_PRED_CNT_MATCH (n 3)

/-- A grain compress job ends on its lane (R215). -/
def State.endCompress (s : State) (j : SwageJob) : State :=
  let (st, out, codes) := swCompress j
  let s := s.swageEnds j st out
  if st = 0 ∨ st = 0x0B01 then
    ((s.inc F.SWG_BYTES_IN_COUNT j.src.length).inc F.SWG_BYTES_OUT_COUNT (if st = 0 then out.length else j.src.length)).countTiles codes
  else s

/-- A grain expand job ends on its lane (R215, R223): 0x0B03 on a sort whose check field passed is resubmitted once to another expand lane, and the first lane has a transient error when that succeeds. -/
def State.endExpand (s : State) (lane : Nat) (j : SwageJob) (sortOk : Bool) : State :=
  let (st, out) := swExpand j
  let read := decide (s.lineKind j.line = some 2 ∨ s.lineKind j.line = some 3)
  if st = 0x0B03 ∧ sortOk ∧ read ∧ j.former.isNone then
    { s with swg := { s.swg with queued := s.swg.queued ++ [(Station.swageE.cluster lane, { j with former := some lane })] } }
  else
    let s := s.swageEnds j st out
    match j.former with
    | some l => if st = 0 then s.report Kind.swage l 0x0B03 else s
    | none => s

/-- A stream job ends on its lane (R218 to R220); the open block of a line that drains is flushed (R219). A job that runs out of space leaves the stream as it was. -/
def State.endStream (s : State) (lane : Nat) (j : SwageJob) : State :=
  let old := Tab.find s.swg.streams j.ctx
  if j.op = 2 then
    let drains := (s.line j.line).any fun l => l.draining
    let (out, st) := swStreamOut old { j with flush := j.flush || drains }
    if j.space < out.length then s.swageEnds j 0x0B02 []
    else (s.setStream j.ctx (st.map fun v => { v with lane := if v.buf.isEmpty then none else some lane })).swageEnds j 0 out
  else
    let (r, out, st) := swStreamIn old j
    if r ≠ 0 then s.swageEnds j r []
    else if j.space < out.length then s.swageEnds j 0x0B02 []
    else (s.setStream j.ctx st).swageEnds j 0 out

/-- SWAGE_JOB_END (R214): `checkOk` is the outcome of a compress lane's third pass (R222), `sortOk` says that the sort of a grain expand job passed its check field. A job in progress when a dump is committed ends without output. A block that fails the check is discarded, and its job runs again from its first byte on a sibling lane. [DEDUCED: notes/assumptions/48.md] -/
def execSwageJobEnd (lane : Nat) (checkOk sortOk : Bool) (s : State) : Out1 :=
  match Tab.find s.swg.running lane with
  | none => .next s
  | some j =>
    let c := (swageStation j.op).cluster lane
    let t : State := { s with swg := { s.swg with running := Tab.erase s.swg.running lane } }
    if s.dumping then .next t
    else if !checkOk ∧ j.op % 2 = 0 then
      .next ((((s.inc F.SWG_FAIL_CNT_VERIFY).raise F.SWG_INT_STATUS_VERIFY_FAIL).report Kind.swage lane 0).swageKick c)
    else match j.op with
      | 0 => .next ((t.endCompress j).swageKick c)
      | 1 => .next ((t.endExpand lane j sortOk).swageKick c)
      | _ => .next ((t.endStream lane j).swageKick c)

/-- A known-answer test of a lane failed (R224): the lane is at fault, and its job runs again from its first byte on a sibling. -/
def State.swageFault (s : State) (lane : Nat) : State :=
  ((s.katFailed Kind.swage).report Kind.swage lane 0).swageKick ((if lane < 40 then Station.swageC else Station.swageE).cluster lane)

/-- SWG_CTRL.KAT_START (R224): the known-answer test of the selected lane; a failure is a channel error of that lane. Lanes above 119 are none. -/
def execSwageKatStart (pass : Bool) (s : State) : Out1 :=
  let n := s.rd F.SWG_LANE_SEL_LANE
  if pass ∨ 120 ≤ n ∨ s.isOut Kind.swage n then .next s
  else .next (s.swageFault n)

end Sys2Proof.Machine
end

