-- ==== Sys2Proof/Machine/Imposition.lean ====
section
/-! DEFINITION. Imposition: its jobs, rebuild, mending waits and reshape (R249 to R277). -/

namespace Sys2Proof.Machine

/-- The epoch and head that a stripe's chunks carry. -/
def State.stripeEpoch (s : State) (id stripe : Nat) : Nat × Nat :=
  let e := s.sheet id
  match (List.range (e.width + 2)).findSome? fun m => match s.chunkAt e stripe m with | some (some c) => some c | _ => none with
  | some c => (bits (leAt c 8 8) 63 32, bits (leAt c 8 8) 14 14)
  | none => (0, e.head)

/-- Whether any position of a stripe has been written. -/
def State.stripeWritten (s : State) (id stripe : Nat) : Bool :=
  let e := s.sheet id
  (List.range (e.width + 2)).any fun m => !e.missing.contains m && (s.chunkAt e stripe m).isSome

/-- Lets every idle lane take a job that waits (R51, R54). -/
def State.kickAll (s : State) (progress : List (Nat × Nat)) (bad : List Nat) : State :=
  let ids := s.fm.lines.map Prod.fst
  let s := (List.range 8).foldl (fun (s : State) c => ((s.punchKick c progress bad).swageKick c).cipherKick c) s
  ids.foldl (fun (s : State) id => (List.range 8).foldl (fun s _ => s.impTake id) s) s

/-- IMPOSITION_JOB_SUBMIT (R255 to R257): an invalid descriptor ends with 0x0408 and has no effect; a valid job is queued. -/
def execImpositionJobSubmit (desc : Bytes) (src : List Bytes) (s : State) : Out1 :=
  let j := impJob desc src
  if impInvalid desc j then .next (s.impResult j 0x0408 [] []) else .next (s.impSubmit j)

/-- The chunks that a rebuild job reconstructed go to the spares of their members with REBUILT set, and the rebuild goes on with the next stripe (R265). -/
def State.rebuildWrite (s : State) (j : ImpJob) (id stripe : Nat) (a b : Bytes) : State :=
  let e := s.sheet id
  let (ep, h) := s.stripeEpoch id stripe
  let s := e.spares.foldl (fun s x =>
    let r := roleOf e.width stripe x.1
    let body := if r = j.missX then a else if j.two ∧ r = j.missY then b else []
    if body.isEmpty || (s.chunkOn x.2 stripe).isSome then s
    else s.gmpSend x.2.1 { op := Gmp.write, plate := x.2.2, offset := stripe * 1024, length := 65536 } (chunkBytes id stripe ep x.1 e.width r h true false body) .plain) s
  match s.imp.rebuild with
  | some r => if r.sheet = id ∧ r.stripe = stripe then { s with imp := { s.imp with rebuild := some { r with stripe := stripe + 1 } } } else s
  | none => s

/-- What the outputs of an Imposition job are for: they are written back, they complete a stripe (R260 step 4), they are a rebuilt stripe's chunks (R265), or they give the sort that a read or a repair waits for (R258). -/
def State.impEffect (s : State) (j : ImpJob) (a b : Bytes) : State :=
  match j.use with
  | .submitted => s.impResult j 0 a b
  | .stripe sheet stripe => s.sendStripe sheet stripe a b
  | .rebuild sheet stripe => s.rebuildWrite j sheet stripe a b
  | .recon gid repair => s.reconDone j gid repair a b

/-- IMPOSITION_JOB_END (R257, R259): the outputs and their CRCs are written back, or go to the stripe that the job serves. When the two multiplier trees differ, the outputs are discarded, the unit is reported, and the job reruns from its first byte on another unit of its line. -/
def execImpositionJobEnd (u : Nat) (treesAgree : Bool) (s : State) : Out1 :=
  match Tab.find s.imp.running u with
  | none => .next s
  | some j =>
    if treesAgree then
      let (a, b) := j.outputs
      let s := { s with imp := { s.imp with running := Tab.erase s.imp.running u } }
      .next ((s.impEffect j a b).impTake j.line)
    else .next (((s.raise F.IMP_INT_STATUS_UNIT_FAULT).report Kind.imposition u 0).impTake j.line)

/-- A known-answer test of a unit failed (R259): it is reported, and its job runs on another unit of its line. -/
def State.impFault (s : State) (u : Nat) : State :=
  let line := (Tab.find s.imp.running u).map (·.line)
  let s := (s.katFailed Kind.imposition).report Kind.imposition u 0
  match line with
  | some l => s.impTake l
  | none => s

/-- IMP_KAT_START (R259): the known-answer test of the selected unit. -/
def execImpKatStart (pass : Bool) (s : State) : Out1 :=
  let u := s.rd F.IMP_UNIT_SEL_UNIT
  if pass ∨ s.isOut Kind.imposition u then .next s else .next (s.impFault u)

/-- MEMBER_MISSING (R264): the members on a module are missing. -/
def execMemberMissing (m : Nat) (s : State) : Out1 := .next (s.moduleGone m).ladderEval

/-- A spare for a missing member (R265, R278): a free plate of the sheet's plate size on the usable module, holding no other member of the sheet, with the most free plates. -/
def State.spareFor (s : State) (id : Nat) : Option (Nat × Nat) :=
  let e := s.sheet id
  let taken := e.members.map Prod.fst ++ e.spares.map fun x => x.2.1
  match (s.usable.filter fun m => !taken.contains m && (s.module m).plateLog2 == e.plateLog2).foldl (fun b m =>
    match b with
    | none => some m
    | some x => if s.freePlates x < s.freePlates m then some m else b) none with
  | none => none
  | some m => (s.pickPlate m []).map fun p => (m, p)

/-- Gives each missing member of a sheet a spare (R265); false when one finds none (R266). -/
def State.takeSpares (s : State) (id : Nat) : Bool × State :=
  (s.sheet id).missing.foldl (fun (acc : Bool × State) m =>
    let s := acc.2
    if (s.sheet id).spares.any fun x => x.1 == m then acc
    else match s.spareFor id with
      | none => (false, s)
      | some w =>
        let s := (s.claimPlate w).journal [.plate w.1 w.2 { s.plateRec w.1 w.2 with state := .member, sheet := id }]
        (acc.1, s.modSheet id fun e => { e with spares := e.spares ++ [(m, w)] })) (true, s)

/-- Whether the job of a stripe's rebuild waits or runs. -/
def State.rebuilding (s : State) (id stripe : Nat) : Bool :=
  (s.imp.queued.any fun j => j.use == .rebuild id stripe) || s.imp.running.any fun j => j.2.use == .rebuild id stripe

/-- Rebuilds one stripe (R265, R268): its missing roles are reconstructed by a job on a line of kind 4. With three or more roles missing the stripe is entered in the lost-stripe table, and the rebuild goes on with the next stripe; it also does where nothing was written. [DEDUCED: notes/assumptions/130.md] -/
def State.rebuildStripe (s : State) (r : Rebuild) : State :=
  let pass (s : State) : State := State.shareState { s with imp := { s.imp with rebuild := some { r with stripe := r.stripe + 1 } } } 13 0
  let src := (s.rolesAt r.sheet r.stripe).map fun b => b.getD (zeros bodyLen)
  if !s.stripeWritten r.sheet r.stripe then pass s
  else match s.rolesMissing r.sheet r.stripe with
    | [] => pass s
    | [x] => if s.rebuilding r.sheet r.stripe then s else s.impSubmit (s.rebuildJob r.sheet r.stripe x x src)
    | [x, y] => if s.rebuilding r.sheet r.stripe then s else s.impSubmit (s.rebuildJob r.sheet r.stripe x y src)
    | _ => pass (s.lostStripe r.sheet r.stripe)

/-- REBUILD_STRIPE (R264, R265): the next stripe of the sheet in progress, or of the first sheet in rebuild order; its job ends with IMPOSITION_JOB_END. A sheet that has moved into the two-missing group since comes first. -/
def execRebuildStripe (s : State) : Out1 :=
  match s.rebuildQueue with
  | [] => .next s
  | first :: rest =>
    let cur := match s.imp.rebuild with
      | some r => if (first :: rest).contains r.sheet then r else ⟨first, 0⟩
      | none => ⟨first, 0⟩
    match s.takeSpares cur.sheet with
    | (false, s) => .next { s with imp := { s.imp with rebuild := some cur } }
    | (true, s) =>
      if (s.sheet cur.sheet).next ≤ cur.stripe then .next { s with imp := { s.imp with rebuild := some cur } }
      else .next (State.rebuildStripe { s with imp := { s.imp with rebuild := some cur } } cur)

/-- REBUILD_SHEET_DONE (R265): the last stripe is done, so the member table changes through one batch and the sheet is whole again. -/
def execRebuildSheetDone (s : State) : Out1 :=
  match s.imp.rebuild with
  | none => .next s
  | some r =>
    let e := s.sheet r.sheet
    if e.missing.isEmpty || e.spares.length < e.missing.length || decide (r.stripe < e.next) then .next s
    else
      let s := s.journal (e.spares.map fun x => .sheet r.sheet e.state (some x) e.head)
      let s := s.modSheet r.sheet fun e => { e with missing := [], spares := [] }
      .next (State.showRebuild (State.shareState { s with imp := { s.imp with rebuild := none } } 13 0))

/-- REBUILD_RELOCATE (R266): no spare can be found for a sheet, so its live sorts are relocated by descaling. -/
def execRebuildRelocate (id : Nat) (s : State) : Out1 :=
  if s.rebuildQueue.contains id ∧ (s.spareFor id).isNone ∧ !s.imp.relocating.contains id then
    .next (State.showRebuild { s with imp := { s.imp with relocating := s.imp.relocating ++ [id] } })
  else .next s

/-- Every 100 ms (R267): rebuild is given the greater of its floor and what hosts leave, in per cent. -/
def execRebuildShareSample (used : Nat) (s : State) : Out1 :=
  let floor := (s.fm.forme.map (·.rebuildFloor)).getD 10
  .next ((s.wr F.IMP_REBUILD_SHARE (max floor (100 - used))).wr F.IMP_REBUILD_FLOOR floor)

/-- A read has waited 2 s for a mend (R272): it fails with 0x0403. [DEDUCED: notes/assumptions/53.md] -/
def execMendWaitTimeout (slot : Nat) (s : State) : Out1 :=
  match s.imp.waits.find? fun w => w.slot == slot with
  | none => .next s
  | some w =>
    if w.since + 2000000000 ≤ s.now then
      let s := { s with imp := { s.imp with waits := s.imp.waits.filter fun (x : MendWait) => x.slot != slot } }
      .next (s.finish slot (.internal 0x0403))
    else .next s

/-- The own sheets that have a member on a module, in ascending order. -/
def State.sheetsOn (s : State) (mark : Nat → Bool) : List Nat :=
  Tab.keysWhere s.hth.sheets fun _ e => e.head == s.head && e.state != .toErase && e.members.any fun w => mark w.1

/-- Shows the reshape in IMP_RESHAPE_STATUS and IMP_BOUNDARY. -/
def State.showReshape (s : State) : State :=
  match s.imp.reshape with
  | none => s.wr F.IMP_RESHAPE_STATUS_STATE 0
  | some r =>
    let st := if r.list.length ≤ r.written then 0 else if r.held then 3 else if r.paused then 2 else 1
    let s := ((s.wr F.IMP_RESHAPE_STATUS_STATE st).wr F.IMP_RESHAPE_STATUS_KIND (bit r.migration)).wr F.IMP_RESHAPE_STATUS_CLASS r.cls
    let s := (s.wr F.IMP_RESHAPE_STATUS_OLD_D r.oldD).wr F.IMP_RESHAPE_STATUS_NEW_D r.newD
    (s.wr F.IMP_BOUNDARY_LIST_LEN r.list.length).wr F.IMP_BOUNDARY_BOUNDARY r.boundary


/-- Whether this head runs a reshape. -/
def State.reshapeRuns (s : State) : Bool := s.reshapes.any (·.runs)

/-- Gives the turn to the other of two reshapes while that one runs (Table 12.10, step 6). -/
def State.swapReshape (s : State) : State :=
  match s.imp.peerReshape with
  | some p => if p.runs then State.showReshape { s with imp := { s.imp with reshape := some p, peerReshape := s.imp.reshape } } else s
  | none => s

/-- Whether a rebuild is to be done that is not one by relocation (R276). -/
def State.rebuildRuns (s : State) : Bool := s.rebuildQueue.any fun id => !s.imp.relocating.contains id

/-- Starts a reshape with its list (R274); open sheets on the list close first. -/
def State.reshapeStart (s : State) (r : Reshape) : State :=
  let s := r.list.foldl (fun s id => if (s.sheet id).state == .opened then s.closeSheet id else s) s
  let r := { r with paused := s.on F.IMP_CTRL_RESHAPE_PAUSE }
  let s := (State.shareState { s with imp := { s.imp with reshape := some r } } 14 0).showReshape
  if r.list.isEmpty then s.raise F.IMP_INT_STATUS_RESHAPE_DONE else s

/-- A width change (R274): Forming finished with a class whose d differs from the width of its sheets. -/
def State.widthReshape (s : State) : State :=
  if s.reshapeRuns then s
  else
    let cs := (s.fm.forme.map (·.classes)).getD []
    match cs.findSome? fun c =>
      let l := Tab.keysWhere s.hth.sheets fun _ e => e.head == s.head && !e.isMap && e.cls == c.id && e.width != c.d && e.state != .toErase
      if l.isEmpty then none else some (c, l) with
    | none => s
    | some (c, l) => s.reshapeStart { list := l, migration := false, cls := c.id, oldD := (s.sheet (l.headD 0)).width, newD := c.d }

/-- RESHAPE_MIGRATE_CMD (R274): IMP_RESHAPE_CMD 1 starts a migration off the marked modules; RESULT 1 while a reshape runs, 2 when no module is marked. -/
def execReshapeMigrateCmd (s : State) : Out1 :=
  let marked (m : Nat) : Bool := bitOf (s.rd (F.IMP_EVAC_MARK (m / 32))) (m % 32)
  if s.reshapeRuns then .next (s.wr F.IMP_RESHAPE_CMD_RESULT 1)
  else if !((List.range 128).any marked) then .next (s.wr F.IMP_RESHAPE_CMD_RESULT 2)
  else .next ((s.reshapeStart { list := s.sheetsOn marked, migration := true }).wr F.IMP_RESHAPE_CMD_RESULT 0)

/-- Whether the moves of the sheet in transit are recorded. -/
def State.transitDone (s : State) (sheet : Nat) : Bool :=
  !(s.mtx.outstanding.any fun q => q.op == 5 && addrSheet q.old == sheet) && !(s.hth.journal.waiting.any fun b => b.after.any fun a => a == .transit)

/-- Moves the boundary past the sheet in transit once its moves are recorded (R275 step 2). -/
def State.passBoundary (s : State) : State :=
  match s.imp.reshape with
  | none => s
  | some r =>
    match r.transit with
    | some id =>
      if r.movesOut ∧ s.transitDone id then
        let s := s.modSheet id fun e => { e with movedAt := s.now }
        let r := { r with boundary := r.boundary + 1, copies := [], movesOut := false, moveSeq := s.hth.journal.seq, again := false }
        (State.shareState { s with imp := { s.imp with reshape := some r } } 14 (bit r.peers)).showReshape.swapReshape
      else s
    | none => s

/-- RESHAPE_SHEET_CHECKPOINT (R275, R276): the live sorts of the sheet in transit are copied into a new-layout sheet; once every copy's stripe is closed, one batch writes the MOVEs and the boundary. A sheet that descaling has emptied is passed. [DEDUCED: notes/assumptions/44.md] -/
def execReshapeSheetCheckpoint (s : State) : Out1 :=
  match s.imp.reshape with
  | none => .next s
  | some r =>
    match r.transit with
    | none => .next s
    | some id =>
      if r.held then .next s
      else if r.movesOut then .next s.passBoundary
      else
        let (copies, s) := if r.paused || s.rebuildRuns then (r.copies, s) else s.copySorts .reshape id none r.copies
        let s := { s with imp := { s.imp with reshape := some { r with copies := copies } } }
        let left := (s.liveSorts id none).any fun x => !(copies.any fun c => c.1 == x.gid)
        if left || !s.copiesClosed copies then .next s
        else
          let s := { s with imp := { s.imp with reshape := some { r with copies := copies, movesOut := true } } }
          .next (s.moveBatch copies [.transit] []).passBoundary

/-- Whether a reshape's boundary is to be written now (R275 step 3): 256 sheets have passed, or the list has ended, and a flush covers their moves. -/
def State.boundaryDue (s : State) (r : Reshape) : Bool :=
  decide ((r.written + 256 ≤ r.boundary ∨ (r.boundary = r.list.length ∧ r.written < r.boundary)) ∧ r.moveSeq ≤ s.hth.journal.ckpt.seqEnd)

/-- Writes the boundary of the reshape whose turn it is: the old sheets below it become To erase. At the end of its list the other reshape takes its turn, and another class that still has sheets of an old width starts one (R274). -/
def State.boundaryWrite (s : State) (r : Reshape) : State :=
  let old := (r.list.take r.boundary).drop r.written
  let s := old.foldl (fun s id => if (s.sheet id).state == .closed then s.toErase id else s) s
  let s := (State.shareState { s with imp := { s.imp with reshape := some { r with written := r.boundary } } } 14 (bit r.peers)).showReshape
  if r.boundary = r.list.length then ((s.raise F.IMP_INT_STATUS_RESHAPE_DONE).swapReshape).widthReshape else s

/-- RESHAPE_BOUNDARY_WRITE (R275 step 3, Table 12.10): the boundary of the reshape whose turn it is, or of the other one, is written. -/
def execReshapeBoundaryWrite (s : State) : Out1 :=
  match s.imp.reshape, s.imp.peerReshape with
  | some r, p =>
    if s.boundaryDue r then .next (s.boundaryWrite r)
    else (match p with
      | some x => if s.boundaryDue x then .next (s.swapReshape.boundaryWrite x) else .next s
      | none => .next s)
  | none, _ => .next s

/-- IMP_CTRL.RESHAPE_PAUSE (R276). -/
def execReshapePauseWrite (v : Bool) (s : State) : Out1 :=
  let s := s.wr F.IMP_CTRL_RESHAPE_PAUSE (bit v)
  match s.imp.reshape with
  | none => .next s
  | some r => .next ({ s with imp := { s.imp with reshape := some { r with paused := v } } }).showReshape

end Sys2Proof.Machine
end

