-- ==== Sys2Proof/Machine/Lookup.lean ====
section
/-! DEFINITION. Lookups of a piece's grains, strict verification and catch-up (R181, R183, R194, R197, R200). -/

namespace Sys2Proof.Machine

/-- The Galley engine marks a grain whose bytes are all zero and that carries no trailer (R183); it then maps to the zero grain. [DEDUCED: notes/assumptions/55.md] -/
def State.markZero (s : State) (d g : Nat) : State :=
  match Tab.find s.gly.own d with
  | none => s
  | some p =>
    match s.grainPayload p g with
    | none => s
    | some (dat, tr) => if p.dataIn && p.needs.contains g && allZero dat && tr.isEmpty then s.setPiece d { p with zeroGrains := p.zeroGrains ++ [g] } else s

/-- What a repeat piece takes for one of its grains from the piece it repeats (R197): nothing when it repeats none, a wait until the grain is looked up there, or the grain ID. [DEDUCED: notes/assumptions/31.md] -/
def State.inherited (s : State) (p : Piece) (g : Nat) : Option (Option Nat) :=
  (s.repeatSource p).map fun x =>
    let per := lbafData p.lbaf
    let off := (x.2.2 + (g * 8192 / per - p.slba)) * per / 8192
    (x.2.1.grains.find? fun e => e.1 == off).map Prod.snd

/-- Looks one grain of a piece up by the fingerprint of its payload (R181, R194, R198): here, or at the partner where that holds the half. It waits while the grain's other bytes cannot be read and while the realm has no key. -/
def State.lookupGrain (s : State) (d g : Nat) (p : Piece) : State :=
  let realm := (s.pieceVol p).realm
  let alg := ((s.pieceClass p).map (·.alg)).getD 0
  match s.grainPayload p g with
  | none => s
  | some (dat, tr) =>
    if allZero dat && tr.isEmpty then s.markZero d g
    else match s.fingerprint realm alg (dat ++ tr) with
      | none => s
      | some fp =>
        if s.holdsHalf (fpHalf fp) then s.runLookup d g fp realm alg
        else if s.mtx.outstanding.any fun q => q.op == 1 && q.piece == some (d, p.gen) && q.index == g then s
        else (s.inc F.MTX_LOOKUP_CNT_REMOTE).query { op := 1, tag := 0, fp := fp, realm := realm, fpalg := alg, piece := some (d, p.gen), index := g }

/-- MATRIX_LOOKUP: one grain of a piece (R181, R194, R198). Before publication it runs only in rows 2 and 3 of the ladder, where a new grain fails the command (R303). A repeat piece takes the grains of the piece that it repeats, pinned and without a verification; one of the partner's half is pinned there by a lookup (R197). No record is written while the piece's DIGEST does not match (R150). [DEDUCED: notes/assumptions/31.md, notes/assumptions/97.md] -/
def execMatrixLookup (d g : Nat) (s : State) : Out1 :=
  match Tab.find s.gly.own d with
  | none => .next s
  | some p =>
    if !p.dataIn || !p.needs.contains g || p.grains.any (fun x => x.1 == g) || !p.digestOk then .next s
    else if !p.commit && (s.rowStatus.isNone || p.kind == .zeroes || p.kind == .deallocate) then .next s
    else match s.inherited p g with
      | some none => .next s
      | some (some gid) =>
        if s.holdsHalf (gidHalf gid) && (s.grain? gid).any (fun e => e.state != .lost) then .next ((s.pin gid s.head d).noteGrain d g gid false)
        else .next (s.lookupGrain d g p)
      | none => .next (s.lookupGrain d g p)

/-- Strict verification found unequal payloads (R197): the pin is dropped, the payload is stored as a grain with NOINDEX, and a collision is counted. [DEDUCED: notes/assumptions/40.md] -/
def State.collide (s : State) (d g gid : Nat) (p : Piece) : State :=
  let here := s.holdsHalf (gidHalf gid)
  let s := if here then (s.unpinPiece gid s.head d).freeIfDead gid else s.query { op := 4, tag := 0, gid := gid }
  let (n, s) := s.allocNoindex (if here then gidHalf gid else !gidHalf gid) (s.pieceVol p).realm (((s.pieceClass p).map (·.alg)).getD 0) s.head d
  let s := s.setPiece d { p with verify := p.verify.erase gid, grains := p.grains.map fun x => if x.1 = g then (g, n) else x }
  ((s.inc F.MTX_NOINDEX_CNT_COLLISION).raise F.MTX_INT_STATUS_COLLISION).alarm .mtx .collision 0 [gid]

/-- The byte comparison of a FOUND grain (R197): once it is placed it is read through its class's read line and compared with the payload of the piece's grain. It waits while that line has no unit free for it or one of the payloads cannot be read. [DEDUCED: notes/assumptions/40.md] -/
def execStrictVerify (d g : Nat) (s : State) : Out1 :=
  match Tab.find s.gly.own d with
  | none => .next s
  | some p =>
    match p.grains.find? fun x => x.1 == g with
    | none => .next s
    | some (_, gid) =>
      if !p.verify.contains gid || !s.grainPlaced gid then .next s
      else match s.readUnitNow gid, s.grainPayload p g with
        | some u, some (dat, tr) =>
          (match s.grainBytes (s.target gid) u with
          | (none, s) => .next s
          | (some pay, s) => if pay = dat ++ tr then .next (s.setPiece d { p with verify := p.verify.erase gid }) else .next (s.collide d g gid p))
        | _, _ => .next s

/-- The records by which the catch-up of a deferred grain ends (R200), with whether it merged: an Alias of the grain found, whose count may pass into the overflow table (R189), or Live with its fingerprint indexed, or Live without one while the filter takes no inserts (R192). [DEDUCED: notes/assumptions/40.md] -/
def State.catchupRecs (s : State) (hb : Bool) (g : Nat) (e : Grain) (fp : Bytes) (realm : Nat) : Bool × List JRec :=
  let own := s.matching fp realm e.fpalg
  match own.find? fun x => x.gid == g with
  | some _ => (false, [.indexDel fp g realm e.fpalg, .indexIns fp g realm e.fpalg])
  | none => match own.find? s.entryLive with
    | some x =>
      let t := s.grainAt x.gid
      let wide := !t.ovf && decide (0xFFFFFFFF ≤ t.refcnt + e.count)
      (true, .aliasTo g x.gid e.count :: if wide then [.ovf x.gid (t.refcnt + e.count)] else [])
    | none =>
      if (s.half hb).closed then (false, [.place g e.addr e.units .live e.fpalg true])
      else (false, [.indexIns fp g realm e.fpalg])

/-- A deferred grain has been caught up (R200). -/
def State.catchUp (s : State) (hb : Bool) (g : Nat) (e : Grain) (fp : Bytes) (realm : Nat) : State :=
  let (merged, recs) := s.catchupRecs hb g e fp realm
  let s := if recs.any fun r => match r with | .ovf .. => true | _ => false then s.raise F.MTX_INT_STATUS_OVERFLOW else s
  let s := if recs.any fun r => match r with | .place .. => true | _ => false then s.inc F.MTX_NOINDEX_CNT_NOINDEX else s
  let s := (s.mtxJournal recs).inc (if merged then F.MTX_CATCHUP_CNT_MERGED else F.MTX_CATCHUP_CNT_INDEXED)
  let s := s.filterCheck hb
  if s.deferLeft hb = 0 then
    ((s.setHalf hb { s.half hb with deferred := [] }).shareState 10 (bit hb)).raise F.MTX_INT_STATUS_CATCHUP_DONE
  else s

/-- CATCHUP_GRAIN (R200): the lowest deferred grain of a Loaded half is read and checked on its class's read line, decrypted and expanded, and its fingerprint computed on the fingerprint line and looked up. [DEDUCED: notes/assumptions/40.md] -/
def execCatchupGrain (hb : Bool) (s : State) : Out1 :=
  if (s.half hb).state ≠ .loaded then .next s
  else match s.nextDeferred hb with
    | none => .next s
    | some (i, e) =>
      let g := mkGid hb e.gen i
      match s.readUnitNow g with
      | none => .next s
      | some u =>
        match s.checkSort g u with
        | (.sound b, s) =>
          let realm := (SortBody.ofBytes b).realm
          (match (s.sortPlain g b).bind (s.fingerprint realm e.fpalg) with
          | none => .next s
          | some fp => .next (s.catchUp hb g e fp realm))
        | (_, s) => .next s

end Sys2Proof.Machine
end

