-- ==== Sys2Proof/Machine/Access.lean ====
section
/-! DEFINITION. Bad accesses and what answers in each power state (R434 to R438). -/

namespace Sys2Proof.Machine

/-- Records a bad access (R434): its source, kind and address, with ACC_ERR; COUNT is held at its top. [DEDUCED: notes/assumptions/11.md] -/
def State.badAccess (s : State) (source kind addr : Nat) : State :=
  (((((s.wr F.FOR_ACC_ERR_SOURCE source).wr F.FOR_ACC_ERR_KIND kind).incHeld F.FOR_ACC_ERR_COUNT).wr F.FOR_ACC_ERR_ADDR addr).raise F.FOR_INT_STATUS_ACC_ERR)

/-- The description of the register at an address, where one starts there. -/
def regAt (addr : Nat) : Option RegDesc :=
  regMap.find? fun r => r.addr == addr || (decide (r.addr ≤ addr) && decide (0 < r.stride) && (addr - r.addr) % r.stride == 0 && decide ((addr - r.addr) / r.stride < r.count))

/-- The block of an address (Table 21.1): its 512 KiB window. -/
def blockBase (addr : Nat) : Nat := addr / 2 ^ 19 * 2 ^ 19

end Sys2Proof.Machine
end

