-- ==== Sys2Proof/Machine/Proof.lean ====
section
/-! DEFINITION. Proof units: register-mode streams and known-answer tests (R161 to R164). -/

namespace Sys2Proof.Machine

/-- A Proof unit. -/
def State.proofUnit (s : State) (u : Nat) : ProofUnit := Tab.get {} s.prf.units u

/-- The check of a code of PRF_RSTREAM.CHECK; 3 is no check (R163). -/
def checkOf : Nat → Option Check
  | 0 => some .crc16 | 1 => some .crc32c | 2 => some .crc64 | _ => none

/-- The code of a check. -/
def Check.code : Check → Nat
  | .crc16 => 0 | .crc32c => 1 | .crc64 => 2

/-- Opens the register stream on its unit (R163): OPENED follows, and PRF_RRESULT is no longer kept; until the next CLOSE it reads 0. [DESIGN CHOICE: notes/assumptions/110.md] -/
def State.prfStart (s : State) (r : RegStream) : State :=
  ((({ s with prf := { s.prf with regOpen := some r, regPending := none } }).wr F.PRF_RSTREAM_PENDING 0).wr F.PRF_RSTREAM_OPENED 1).wr F.PRF_RRESULT_RESULT 0

/-- OPEN of PRF_RSTREAM (R163): refused with ERR while a register stream is open or pending, on a retired unit, or with CHECK 3; it waits with PENDING behind a station stream. -/
def State.prfOpen (s : State) : State :=
  let u := s.rd F.PRF_UNIT_SEL_UNIT
  match checkOf (s.rd F.PRF_RSTREAM_CHECK) with
  | none => s.raise F.PRF_RSTREAM_ERR
  | some c =>
    if s.prf.regOpen.isSome || s.prf.regPending.isSome || s.isOut Kind.proof u then s.raise F.PRF_RSTREAM_ERR
    else if (s.proofUnit u).station.isSome then
      ({ s with prf := { s.prf with regPending := some ⟨u, c, []⟩ } }).wr F.PRF_RSTREAM_PENDING 1
    else s.prfStart ⟨u, c, []⟩

/-- CLOSE of PRF_RSTREAM (R163): an open stream latches its check value; a pending open is withdrawn; with neither, ERR. -/
def State.prfClose (s : State) : State :=
  match s.prf.regOpen with
  | some r => (({ s with prf := { s.prf with regOpen := none } }).wr F.PRF_RSTREAM_OPENED 0).wr F.PRF_RRESULT_RESULT (checkValue r.check r.fed)
  | none => match s.prf.regPending with
    | some _ => ({ s with prf := { s.prf with regPending := none } }).wr F.PRF_RSTREAM_PENDING 0
    | none => s.raise F.PRF_RSTREAM_ERR

/-- A write to PRF_RSTREAM with OPEN set and CHECK given. -/
def execPrfOpen (check : Nat) (s : State) : Out1 := .next (s.wr F.PRF_RSTREAM_CHECK check).prfOpen

/-- A write to PRF_RSTREAM with CLOSE set. -/
def execPrfClose (s : State) : Out1 := .next s.prfClose

/-- A write that sets both OPEN and CLOSE acts as CLOSE and then OPEN (R163). -/
def execPrfCloseOpen (check : Nat) (s : State) : Out1 := .next ((s.wr F.PRF_RSTREAM_CHECK check).prfClose).prfOpen

/-- The station stream of a unit closes, and a register stream that waited for it opens (R163). -/
def State.stationClose (s : State) (u : Nat) : State :=
  let s := s.stationOpen u none
  match s.prf.regPending with
  | some r => if r.unitNo = u then s.prfStart r else s
  | none => s

/-- PRF_PENDING_OPEN (R163): the station stream on a unit closes. -/
def execPrfPendingOpen (u : Nat) (s : State) : Out1 := .next (s.stationClose u)

/-- Feeds bytes to the register stream (R163): a write of 1, 2 or 4 bytes, least significant byte first; any other width is a bad access and sets ERR, and so does a write with no stream open. -/
def State.prfFeed (s : State) (source width value : Nat) : State :=
  if width = 1 ∨ width = 2 ∨ width = 4 then
    match s.prf.regOpen with
    | some r => { s with prf := { s.prf with regOpen := some { r with fed := r.fed ++ leBytes value width } } }
    | none => s.raise F.PRF_RSTREAM_ERR
  else (s.badAccess source 2 R.PRF_RDATA).raise F.PRF_RSTREAM_ERR

/-- A write to PRF_RDATA (R163, R434). -/
def execPrfRdataWrite (width value : Nat) (s : State) : Out1 := .next (s.prfFeed 0 width value)

/-- The known-answer test of the selected unit (R164): a failure sets KAT_FAIL and goes to the unit's steward as a channel error. -/
def execPrfKatStart (pass : Bool) (s : State) : Out1 :=
  let u := s.rd F.PRF_UNIT_SEL_UNIT
  if pass ∨ s.isOut Kind.proof u then .next s
  else .next ((s.katFailed Kind.proof).report Kind.proof u 0)

end Sys2Proof.Machine
end

