-- ==== Sys2Proof/Machine/Forme.lean ====
section
/-! DEFINITION. Reading a forme and checking it (R27 to R43, R147, R148), and the signatures that Hallmark verifies (R31, R422). -/

namespace Sys2Proof.Machine

/-- The reason of the first check that fails, in the order given. -/
def firstFail (l : List (Bool × Nat)) : Option Nat := (l.find? fun c => c.1).map Prod.snd

/-- Whether a value lies outside its limits. -/
def outside (v lo hi : Nat) : Bool := decide (v < lo ∨ hi < v)

/-- The key of a signing slot; none when the slot is empty or revoked (R422). -/
def State.slotKey (s : State) (slot : Nat) : Option Bytes :=
  let f := s.fm.hallmark.fuses
  let key : Bytes := match slot with
    | 0 => Config.romSignKey
    | 1 => f.signKey1
    | 2 => f.signKey2
    | _ => f.signKey3
  if 3 < slot || bitOf f.signRevoke slot || (slot != 0 && allZero key) then none else some key

/-- Whether a signature block of R31 verifies over the bytes before it. -/
def State.signed (s : State) (msg block : Bytes) : Bool :=
  match s.slotKey (byteAt block 0) with
  | some k => Config.ecdsaVerify k (sha384 msg) (slice block 8 96)
  | none => false

/-- The sections between header and signature block, as type, flags and bytes (R27, R29); none when a length is wrong. -/
def sectionsOf : Nat → Bytes → Option (List (Nat × Nat × Bytes))
  | 0, _ => some []
  | fuel + 1, b =>
    let n := leAt b 4 4
    if b.isEmpty then some []
    else if b.length < 8 ∨ n < 8 ∨ n % 8 ≠ 0 ∨ b.length < n then none
    else (sectionsOf fuel (b.drop n)).map ((leAt b 0 2, leAt b 2 2, b.take n) :: ·)

/-- The line records that follow a line count (R38), each with its binding records. -/
def lineRecs : Nat → Bytes → List Bytes
  | 0, _ => []
  | n + 1, b =>
    let k := 8 + 8 * byteAt b 3
    b.take k :: lineRecs n (b.drop k)

/-- The line records of a LINES section. -/
def linesIn (b : Bytes) : List Bytes := lineRecs (byteAt b 8) (b.drop 16)

/-- The binding records of a line record. -/
def bindsIn (r : Bytes) : List Bytes := (List.range (byteAt r 3)).map fun i => slice r (8 + 8 * i) 8

/-- The class records of a LAYOUT section (R40). -/
def classesIn (b : Bytes) : List Bytes := (List.range (byteAt b 8)).map fun i => slice b (16 + 16 * i) 16

/-- The root port records of a PORTS section: first lane and width code (R33). -/
def rootsIn (b : Bytes) : List (Nat × Nat) := (List.range (byteAt b 0x10)).map fun i => (byteAt b (0x18 + 2 * i), byteAt b (0x19 + 2 * i))

/-- The length that a known section's content gives it (R33 to R43). -/
def sectionLen (t : Nat) (b : Bytes) : Nat :=
  match t with
  | 1 => 24 + roundUp (2 * byteAt b 0x10) 8
  | 3 => 24
  | 6 => 16 + ((linesIn b).map fun r => 8 + 8 * byteAt r 3).sum
  | 7 => 16 + 16 * byteAt b 8
  | _ => 16

/-- The station type of a binding record's code (R38). -/
def stationCode (c : Nat) : Option Station :=
  match c with
  | 1 => some .punch | 2 => some .swageC | 3 => some .swageE | 4 => some .temper | 5 => some .proof | 6 => some .imposition | _ => none

/-- The lanes that a binding record names. -/
def maskBits (mask : Nat) : List Nat := (List.range 32).filter fun i => bitOf mask i

/-- The global number of a lane of a station type in a cluster (Table 17.1). -/
def Station.laneAt (t : Station) (cluster i : Nat) : Nat := t.first + t.perCluster * cluster + i

/-- The limits of R38 for a LINES section. -/
def linesChecks (b : Bytes) : List (Bool × Nat) :=
  let rs := linesIn b
  let bs := rs.flatMap bindsIn
  let lanes := bs.flatMap fun x => (maskBits (leAt x 4 4)).map fun i => (byteAt x 1, byteAt x 2, i)
  [(outside (byteAt b 8) 1 32, 8),
    (rs.any fun r => outside (byteAt r 0) 0 31 || outside (byteAt r 1) 0 6 || outside (byteAt r 2) 0 6 || outside (byteAt r 3) 1 64 || outside (byteAt r 4) 0 3, 8),
    (bs.any fun x => outside (byteAt x 0) 0 7 || (stationCode (byteAt x 1)).isNone || outside (byteAt x 2) 0 7, 8),
    (bs.any fun x => (stationCode (byteAt x 1)).any fun t => decide (2 ^ t.perCluster ≤ leAt x 4 4), 8),
    (!decide (rs.map fun r => byteAt r 0).Nodup, 9), (!decide lanes.Nodup, 9)]

/-- The limits of one section (R33 to R43) with the reasons of Table 2.7. [DEDUCED: notes/assumptions/85.md] -/
def sectionChecks (t : Nat) (b ports : Bytes) : List (Bool × Nat) :=
  let u (o n : Nat) : Nat := leAt b o n
  match t with
  | 1 =>
    let rs := rootsIn b
    [(outside (u 0xF 1) 0 1 || outside (u 0x10 1) 1 64, 8), (rs.any fun r => outside r.1 0 63 || outside r.2 0 4 || r.1 % 2 ^ r.2 != 0, 8),
      (!decide (rs.flatMap fun r => (List.range (2 ^ r.2)).map (r.1 + ·)).Nodup, 9)]
  | 2 => [(outside (u 8 1) 10 30 || outside (u 9 1) 8 16 || outside (u 10 1) 10 20 || outside (u 11 1) 0 4, 8)]
  | 3 => [(outside (u 8 4) 1 640 || outside (u 0xC 2) 32 64 || !(u 0xE 2 == 0 || u 0xE 2 == 64) || outside (u 0x14 2) 1 64, 8)]
  | 4 => [(outside (u 8 4) 1024 65472 || u 8 4 % 64 != 0, 8),
      ((List.range 2).any fun p => byteAt ports (0xC + p) % 2 == 0 && u (0xC + p) 1 != 0, 8)]
  | 5 => [(outside (u 8 2) 16 128 || u 8 2 % 16 != 0 || outside (u 0xA 2) 100 1000, 8)]
  | 6 => linesChecks b
  | 7 =>
    let cs := classesIn b
    [(outside (u 8 1) 1 16, 8),
      (cs.any fun c => outside (byteAt c 0) 0 15 || outside (byteAt c 1) 4 30 || outside (byteAt c 2) 12 21 || outside (byteAt c 3) 0 3, 8),
      (!decide (cs.map fun c => byteAt c 0).Nodup, 9)]
  | 8 => [(outside (u 8 1) 0 1 || outside (u 9 1) 0 1 || outside (u 0xC 2) 1 4096, 8)]
  | 9 => [(outside (u 9 1) 1 50 || outside (u 0xA 2) 0 1440 || u 8 1 % 4 == 2, 8)]
  | 10 => [(outside (u 8 1) 1 7 || outside (u 9 1) 2 32 || outside (u 0xA 1) 2 50 || outside (u 0xC 2) 1 168, 8)]
  | _ => []

/-- Whether a reserved field of a known section is not zero (R29 to R43). The bits of a one-byte field that its table leaves unnamed count as reserved. [DESIGN CHOICE: notes/assumptions/104.md] -/
def sectionResv (t : Nat) (b : Bytes) : Bool :=
  let z (o n : Nat) : Bool := leAt b o n != 0
  let hi (o k : Nat) : Bool := decide (2 ^ k ≤ byteAt b o)
  match t with
  | 1 => ((List.range 4).any fun p => bits (byteAt b (8 + p)) 6 2 != 0) || hi 0xC 1 || hi 0xD 1 || hi 0xE 1 || z 0x11 7
  | 2 => z 0xC 4
  | 3 => z 0x16 2
  | 4 => z 0xE 2
  | 5 => z 0xC 4
  | 6 => z 9 7 || (linesIn b).any fun r => leAt r 5 3 != 0 || (bindsIn r).any fun x => byteAt x 3 != 0
  | 7 => z 9 7 || (classesIn b).any fun c => decide (2 ≤ byteAt c 7) || leAt c 8 8 != 0
  | 8 => hi 0xA 2 || z 0xB 1 || z 0xE 2
  | 9 => hi 8 2 || z 0xC 4
  | _ => hi 0xB 2 || z 0xE 2

/-- The known section types (Table 2.2). -/
def sectionTypes : List Nat := [1, 2, 3, 4, 5, 6, 7, 8, 9, 10]

/-- Whether a known type is Dynamic (Table 2.2). -/
def dynamicType (t : Nat) : Bool := t == 6 || t == 9 || t == 10

/-- A line record read into its fields. -/
def lineOf (r : Bytes) : FormeLine :=
  ⟨byteAt r 0, byteAt r 1, byteAt r 2, byteAt r 4,
    (bindsIn r).map fun x => ⟨byteAt x 0, (stationCode (byteAt x 1)).getD .punch, byteAt x 2, leAt x 4 4⟩⟩

/-- A class record read into its fields. -/
def classRec (c : Bytes) : FormeClass :=
  ⟨byteAt c 0, byteAt c 1, byteAt c 2, byteAt c 3, byteAt c 4, byteAt c 5, byteAt c 6, bitOf (byteAt c 7) 0⟩

/-- A checked forme read into its fields. -/
def formeOf (b : Bytes) (secs : List (Nat × Nat × Bytes)) (ignored : Bool) : Forme :=
  let sec (t : Nat) : Bytes := ((secs.find? fun x => x.1 == t).map fun x => x.2.2).getD []
  let u (t o n : Nat) : Nat := leAt (sec t) o n
  let body (t : Nat) : Bytes := (sec t).drop 8
  { version := leAt b 4 2, id := leAt b 8 8, minAnvil := leAt b 0x18 2, minGmp := leAt b 0x1A 2, minRepl := leAt b 0x1C 2, minOhm := leAt b 0x1E 2, minFw := leAt b 0x20 4
    eth := (List.range 4).map fun p => u 1 (8 + p) 1, front := (List.range 2).map fun p => u 1 (0xC + p) 1 % 2
    mgmt := bitOf (u 1 0xE 1) 0, i3c := u 1 0xF 1 == 1, roots := rootsIn (sec 1)
    smithClk := u 2 8 1, stationClk := u 2 9 1, fabricClk := u 2 10 1, rate := u 2 11 1
    filterGib := u 3 8 4, fwGib := u 3 0xC 2, repeatMib := u 3 0xE 2, cacheGib := u 3 0x10 4, spillGib := u 3 0x14 2
    tasks := u 4 8 4, vfs := [u 4 0xC 1, u 4 0xD 1], galleyGib := u 5 8 2, flushMs := u 5 0xA 2
    lines := (linesIn (sec 6)).map lineOf, classes := (classesIn (sec 7)).map classRec
    head := u 8 8 1, gapHold := u 8 9 1 == 1, bundles := u 8 0xA 1 % 4, realms := u 8 0xC 2
    bankOk := bitOf (u 9 8 1) 0, deepOk := bitOf (u 9 8 1) 1, loadPct := u 9 9 1, bankMin := u 9 0xA 2
    retries := u 10 8 1, perHour := u 10 9 1, rebuildFloor := u 10 0xA 1, lab := bitOf (u 10 0xB 1) 0, loadTest := bitOf (u 10 0xB 1) 1, strikeHours := u 10 0xC 2
    statics := (sectionTypes.filter fun t => !dynamicType t).flatMap sec
    pairBodies := body 5 ++ body 7 ++ overlay (body 8) 0 [0]
    ignored := ignored }

/-- Reads and checks a forme (R27 to R43) on a head that runs firmware version `fw`: the forme, or a reason of Table 2.7. Hallmark verifies the signature before any field beyond the header is read. [DEDUCED: notes/assumptions/85.md] -/
def State.readForme (s : State) (fw : Nat) (b : Bytes) : Except Nat Forme :=
  let total := leAt b 0x10 4
  let sigAt := total - 104
  let header : List (Bool × Nat) :=
    [(leAt b 0 4 != 0x454D5246 || decide (b.length < 64), 1), (leAt b 4 2 / 256 != 1, 2), (leAt b 6 2 != 0xB0, 3),
      (total != b.length || total % 8 != 0 || decide (total < 168), 4), (!s.signed (b.take sigAt) (b.drop sigAt), 5), (decide (fw < leAt b 0x20 4), 0xD)]
  match firstFail header with
  | some r => .error r
  | none =>
    match sectionsOf b.length (slice b 64 (sigAt - 64)) with
    | none => .error 4
    | some secs =>
      let types := secs.map Prod.fst
      let known := secs.filter fun x => sectionTypes.contains x.1
      let ports := ((secs.find? fun x => x.1 == 1).map fun x => x.2.2).getD []
      let resv := leAt b 0x16 2 != 0 || leAt b 0x24 28 != 0 || leAt b (sigAt + 1) 7 != 0 || (secs.any fun x => decide (4 ≤ x.2.1)) || known.any fun x => sectionResv x.1 x.2.2
      let minor := leAt b 4 2 % 256
      let checks : List (Bool × Nat) :=
        [(secs.length != leAt b 0x14 2 || known.any fun x => sectionLen x.1 x.2.2 != x.2.2.length, 4),
          (!decide (types.Pairwise (· < ·)), 7), (secs.any fun x => !sectionTypes.contains x.1 && !bitOf x.2.1 1, 6),
          (!decide (known.map Prod.fst = sectionTypes) || known.any fun x => bitOf x.2.1 0 != dynamicType x.1, 7),
          (leAt b 8 8 == 0 || (resv && minor == 0), 8)]
      match firstFail (checks ++ known.flatMap fun x => sectionChecks x.1 x.2.2 ports) with
      | some r => .error r
      | none => .ok (formeOf b known (resv && minor != 0))

/-- The steward domain and the station types of a line kind (Table 2.5). -/
def kindRule : Nat → Nat × List Station
  | 0 => (3, [.punch])
  | 1 => (4, [.swageC, .temper, .proof, .imposition])
  | 2 => (4, [.proof, .temper, .swageE])
  | 3 => (4, [.proof])
  | 4 => (4, [.imposition, .proof])
  | 5 => (6, [.punch, .swageC, .swageE, .temper, .proof])
  | _ => (0, [.punch, .swageC, .swageE, .temper, .proof, .imposition])

/-- The stage orders that a line kind allows (Table 7.1); none for kinds 5 and 6, whose stages come in any order. -/
def stageOrders : Nat → Option (List (List Station))
  | 0 => some [[.punch]]
  | 1 => some [[.swageC, .temper, .proof, .imposition]]
  | 2 => some [[.proof, .temper, .swageE]]
  | 3 => some [[.proof]]
  | 4 => some [[.imposition], [.imposition, .proof]]
  | _ => none

/-- Whether a line keeps the stage rules of R38, the kind rules of R39 and R147, and the placement rule of R148. -/
def FormeLine.kindOk (l : FormeLine) : Bool :=
  let n := (l.binds.map (·.stage)).eraseDups.length
  let stages := (List.range n).map fun g => (l.binds.filter fun b => b.stage == g).map (·.typ)
  let rule := kindRule l.kind
  let order := stages.map fun ts => ts.headD .punch
  l.domain == rule.1 && l.binds.all (fun b => rule.2.contains b.typ) && l.binds.all (fun b => decide (b.stage < n)) &&
    stages.all (fun ts => !ts.isEmpty && ts.all (· == ts.headD .punch)) &&
    (match stageOrders l.kind with | some os => os.contains order | none => true) &&
    (decide (3 < l.kind) || (List.range 8).any fun c => (grainStages l.kind).all fun t => l.binds.any fun b => b.typ == t && b.cluster == c && b.mask != 0)

/-- Whether the lines and the class references stand (R38 to R40, R147, R148); reason 0x0B when not. -/
def Forme.linesOk (f : Forme) : Bool :=
  let kindOf (id : Nat) : Option Nat := (f.lines.find? fun l => l.id == id).map (·.kind)
  f.lines.all FormeLine.kindOk && (List.range 5).all (fun k => f.lines.any fun l => l.kind == k) &&
    f.classes.all fun c => kindOf c.fpLine == some 0 && kindOf c.refLine == some 1 && kindOf c.rdLine == some 2

/-- The channels of the lanes that a binding names. -/
def Bind.lanes (b : Bind) : List Nat := (maskBits b.mask).map (b.typ.laneAt b.cluster)

/-- Binds the lines of a forme (R46): a lane that is out, or that a line in `keep` holds, gives way to the first unbound lane of its station type from cluster 0 upwards. None when no such lane is left. The answer lists the lines and the replaced lanes as station type, old and new lane. -/
def State.bindLines (s : State) (f : Forme) (ls : List FormeLine) (keep : List (Station × Nat)) : Option (List (Nat × RunLine) × List (Station × Nat × Nat)) :=
  let named := ls.flatMap fun l => l.binds.flatMap fun b => b.lanes.map fun n => (b.typ, n)
  let slots := ls.flatMap fun l => l.binds.flatMap fun b => b.lanes.map fun n => (l.id, b.stage, b.typ, n)
  let step (acc : Option (List (Nat × BoundLane) × List (Station × Nat × Nat))) (x : Nat × Nat × Station × Nat) :=
    acc.bind fun a =>
      let (id, g, t, n) := x
      if !s.isOut t.kind n && !keep.contains (t, n) then some (a.1 ++ [(id, ⟨g, t, n⟩)], a.2)
      else
        let used (m : Nat) : Bool := named.contains (t, m) || keep.contains (t, m) || s.isOut t.kind m || a.2.any fun r => r.1 == t && r.2.2 == m
        (t.lanes.find? fun m => !used m).map fun m => (a.1 ++ [(id, ⟨g, t, m⟩)], a.2 ++ [(t, n, m)])
  (slots.foldl step (some ([], []))).map fun a =>
    (ls.map fun l => (l.id, ⟨l.kind, l.domain, l.priority, (a.1.filter fun x => x.1 == l.id).map Prod.snd, f.id, false⟩), a.2)

end Sys2Proof.Machine
end

