-- ==== Sys2Proof/Machine/Image.lean ====
section
/-! DEFINITION. Framed blocks, slots, manifests and what makes an image valid (R407 to R409), and the activation pointer (R415). -/

namespace Sys2Proof.Machine

/-- Content bytes in a whole framed block (R407). -/
def blockContent : Nat := 65532

/-- Whether a framed block has a length that R407 allows and its CRC-32C is right. -/
def blockOk (b : Bytes) : Bool :=
  let n := b.length
  decide (8 ≤ n ∧ n ≤ 65536) && n % 4 == 0 && crc32c (b.take (n - 4)) == leAt b (n - 4) 4

/-- A whole Swage stream expanded (R217); none when it is not a valid stream. -/
def unpackStream (b : Bytes) : Option Bytes :=
  if b.length < 8 ∨ leAt b 0 4 ≠ 0x4D525453 ∨ byteAt b 4 / 16 ≠ 1 ∨ 4 < byteAt b 5 ∨ leAt b 6 2 ≠ 0 then none
  else match swFrames (b.length + 1) ⟨byteAt b 5, [], 0xFFFFFFFF#32, none⟩ (b.drop 8) with
    | (0, out, none) => some out
    | _ => none

/-- The content that a slot holds, as far as its blocks have arrived. -/
def Slot.content (x : Slot) : Bytes := x.blocks.flatMap fun b => b.2.take (b.2.length - 4)

/-- How many framed blocks the image in a slot has, once block 0 gives the content length. -/
def Slot.blockCount (x : Slot) : Option Nat :=
  (Tab.find x.blocks 0).map fun b => (leAt b 0x10 4 + blockContent - 1) / blockContent

/-- The blocks still missing (UPD_STAGE.MISSING); 0 while their number is not known. [DEDUCED: notes/assumptions/67.md] -/
def Slot.missing (x : Slot) : Nat :=
  (x.blockCount.map fun n => ((List.range n).filter fun k => (Tab.find x.blocks k).isNone).length).getD 0

/-- Bytes of the header and the part table (R408). -/
def manifestLen (c : Bytes) : Nat := 64 + 96 * leAt c 0x14 2

/-- The manifest hash, which names the image (R408). -/
def manifestHash (c : Bytes) : Bytes := sha384 (c.take (manifestLen c))

/-- The part entries (Table 19.2). -/
def manifestParts (c : Bytes) : List Bytes := (List.range (leAt c 0x14 2)).map fun i => slice c (64 + 96 * i) 96

/-- The stored bytes of a part. -/
def partStored (c p : Bytes) : Bytes := slice c (leAt p 8 8) (leAt p 4 4)

/-- The bytes of a part, unpacked when it is a Swage stream. -/
def partBytes (c p : Bytes) : Option Bytes :=
  let b := partStored c p
  if bitOf (byteAt p 1) 0 then (unpackStream b).filter fun x => x.length == leAt p 0x10 4 else some b

/-- The forme part of an image. -/
def imageForme (c : Bytes) : Bytes :=
  (((manifestParts c).find? fun p => byteAt p 0 == 5).bind (partBytes c)).getD []

/-- Whether a part entry keeps Table 19.2 and its bytes match its digest. [DEDUCED: notes/assumptions/70.md] -/
def partOk (c p : Bytes) : Bool :=
  let off := leAt p 8 8
  let len := leAt p 4 4
  off % 64 == 0 && decide (off + len ≤ c.length) && decide (byteAt p 1 < 2) && leAt p 2 2 == 0 && leAt p 0x58 8 == 0 &&
    (bitOf (byteAt p 1) 0 || leAt p 0x10 4 == len) && (byteAt p 0 == 6 || allZero (slice p 0x18 16)) &&
    sha384 (partStored c p) == slice p 0x28 48

/-- Whether types 1 to 5 each appear once, type 6 at most 32 times, and no other. [DEDUCED: notes/assumptions/70.md] -/
def typesOk (ts : List Nat) : Bool :=
  (List.range 5).all (fun t => ts.count (t + 1) == 1) && decide (ts.count 6 ≤ 32) && ts.all fun t => decide (1 ≤ t ∧ t ≤ 6)

/-- Whether a slot can be booted: every block of its image is present and passes, and the manifest passes all of R409 but the checks on the forme, which Forming step 3 makes. [DEDUCED: notes/assumptions/70.md] -/
def State.slotVerifies (s : State) (x : Slot) : Bool :=
  let c := x.content
  let n := manifestLen c
  x.blockCount.isSome && x.missing == 0 && (x.blocks.all fun b => blockOk b.2) && c.length == leAt c 0x10 4 &&
    leAt c 0 4 == 0x464E414D && leAt c 4 2 / 256 == 1 && leAt c 6 2 == 0xB0 && decide (s.fm.hallmark.fuses.svnMin ≤ leAt c 0xC 4) &&
    decide (leAt c 0x10 4 ≤ 536772612) && leAt c 0x16 2 == 0 && allZero (slice c 0x20 32) && leAt c (n + 1) 7 == 0 &&
    s.signed (c.take n) (slice c n 104) && typesOk ((manifestParts c).map fun p => byteAt p 0) && (manifestParts c).all (partOk c)

/-- The status of verifying the image in a slot (R409): 0, 0x0807, or 0x0808 when `peerMajor` is the Anvil major that the partner in service runs and the image's is not one that it accepts. -/
def State.verifyImage (s : State) (x : Slot) (peerMajor : Option Nat) : Status :=
  let c := x.content
  let forme : Bool := match s.readForme (leAt c 8 4) (imageForme c) with
    | .ok _ => true
    | .error _ => false
  if !(s.slotVerifies x && forme) then 0x0807
  else if peerMajor.any fun m => leAt c 0x18 2 / 256 != m then 0x0808
  else 0

/-- The activation pointer that governs (R415): the valid copy with the higher SEQ. -/
def State.pointer (s : State) : Option Pointer :=
  match s.upd.ptr0, s.upd.ptr1 with
  | some a, some b => if a.seq < b.seq then some b else some a
  | some a, none => some a
  | none, p => p

/-- Writes the activation pointer (R415): SEQ rises by 1, and the copy that does not govern takes it. [DEDUCED: notes/assumptions/69.md] -/
def State.writePointer (s : State) (p : Pointer) : State :=
  let q := { p with seq := (s.pointer.map (·.seq)).getD 0 + 1 }
  let first := match s.upd.ptr0, s.upd.ptr1 with
    | some a, some b => decide (a.seq < b.seq)
    | some _, none => false
    | none, _ => true
  { s with upd := if first then { s.upd with ptr0 := some q } else { s.upd with ptr1 := some q } }

/-- The active slot (R415). -/
def State.activeSlot (s : State) : Bool := (s.pointer.map (·.active)).getD false

/-- The staging slot: the one that the pointer does not name as ACTIVE, or A without a pointer (R419). -/
def State.stagingSlot (s : State) : Bool := (s.pointer.map fun p => !p.active).getD false

/-- The slot of a name: false is A. -/
def State.slot (s : State) (b : Bool) : Slot := if b then s.upd.slotB else s.upd.slotA

/-- Replaces a slot. -/
def State.setSlot (s : State) (b : Bool) (x : Slot) : State :=
  { s with upd := if b then { s.upd with slotB := x } else { s.upd with slotA := x } }

/-- The pointer with another slot active; HASH_ACTIVE and HASH_OTHER follow the slots (Table 19.5). [DEDUCED: notes/assumptions/70.md] -/
def Pointer.toSlot (p : Pointer) (b : Bool) : Pointer :=
  if p.active = b then p else { p with active := b, hashActive := p.hashOther, hashOther := p.hashActive }

end Sys2Proof.Machine
end

