-- ==== Sys2Proof/Machine/Queues.lean ====
section
/-! DEFINITION. Queue creation and deletion, features and reservations, tokens, posting and drains (R67, R72, R77, R87 to R96). -/

namespace Sys2Proof.Machine

/-- An admin command waiting to run in a slot, with no feature or field that the head does not support (R67). -/
def State.adminTask (s : State) (n : Nat) (op : Opcode) : Option Task :=
  (s.task? n).filter fun t => t.cmd.op == op && (t.state == .fetched || t.state == .held) && t.cmd.unsupported.isNone

/-- I/O queues that a function's controller may hold (Table 3.4), which bounds its queue IDs. -/
def queueLimit (fn : Nat) : Nat := if fn = 0 then 1024 else 256

/-- MSI-X vectors of a function (Table 3.4). -/
def vectorLimit (fn : Nat) : Nat := if fn = 0 then 2048 else 64

/-- Whether a controller already holds a queue of an ID. [PRESUMED: notes/assumptions/16.md] -/
def State.queueOf (s : State) (cntlid qid : Nat) (cq : Bool) : Option Nat :=
  ((Tab.first s.stk.ctxs fun k c => !isChannel k && c.kind == .io && c.cntlid == cntlid && c.state != .empty && c.state != .retired &&
    (if cq then c.hasCq && c.cqid == qid else c.hasSq && c.hqid == qid)).map Prod.fst)

/-- Create I/O Completion Queue (R63, R77, R78): an Empty context becomes the home context, Live with no submission queue. A queue ID of 0, one in use or one above the limit of the function is an Invalid Queue Identifier too, and a vector above its limit an Invalid Interrupt Vector. [PRESUMED: notes/assumptions/16.md] -/
def execCreateIoCq (slot cqid base size vector : Nat) (ien pc : Bool) (aggrThr aggrTime : Nat) (s : State) : Out1 :=
  match s.adminTask slot .createCq with
  | none => .next s
  | some t =>
    let a := s.ctx t.ctx
    if cqid = 0 ∨ queueLimit a.fn < cqid ∨ (s.queueOf a.cntlid cqid true).isSome then .next (s.finish slot .queueInvalid)
    else if vectorLimit a.fn ≤ vector then .next (s.finish slot .vectorInvalid)
    else match s.emptyCtx with
      | none => .next (s.finish slot .queueInvalid)
      | some c =>
        let q : Ctx := { state := .live, kind := .io, transport := a.transport, cntlid := a.cntlid, port := a.port, fn := a.fn, cqid := cqid, cqBase := base, cqSize := size, cqHome := c, vector := vector, ien := ien, pc := pc, hasCq := true, aggrThr := aggrThr, aggrTime := aggrTime }
        .next ((s.setCtx c q).finish slot .success)

/-- The arbitration class of a creation priority: 0 Urgent, 1 High, 2 Medium, any other Low (Table 4.4). [PRESUMED: notes/assumptions/16.md] -/
def prioClass (prio : Nat) : Nat := if prio ≤ 2 then prio + 2 else 5

/-- Create I/O Submission Queue (R63, R77, R78): placed in the home context when that holds none, and otherwise in a context of its own; a completion queue held by no Live home context is Completion Queue Invalid. [PRESUMED: notes/assumptions/16.md] -/
def execCreateIoSq (slot qid cqid base size prio : Nat) (pc : Bool) (s : State) : Out1 :=
  match s.adminTask slot .createSq with
  | none => .next s
  | some t =>
    let a := s.ctx t.ctx
    if qid = 0 ∨ queueLimit a.fn < qid ∨ (s.queueOf a.cntlid qid false).isSome then .next (s.finish slot .queueInvalid)
    else match s.queueOf a.cntlid cqid true with
      | none => .next (s.finish slot .cqInvalid)
      | some h =>
        let q := s.ctx h
        if q.state ≠ .live then .next (s.finish slot .cqInvalid)
        else if !q.hasSq then
          .next ((s.setCtx h { q with hasSq := true, hqid := qid, sqBase := base, sqSize := size, arb := prioClass prio, sqHead := 0, sqTail := 0, nextSeq := 0, postSeq := 0 }).finish slot .success)
        else match s.emptyCtx with
          | none => .next (s.finish slot .queueInvalid)
          | some c =>
            let v : Ctx := { state := .live, kind := .io, transport := a.transport, cntlid := a.cntlid, port := a.port, fn := a.fn, hqid := qid, sqBase := base, sqSize := size, cqHome := h, arb := prioClass prio, pc := pc, hasSq := true }
            .next ((s.setCtx c v).finish slot .success)

/-- Delete I/O Submission Queue (R92): the queue drains as cause 1, and the command completes when the drain does. -/
def execDeleteIoSq (slot qid : Nat) (s : State) : Out1 :=
  match s.adminTask slot .deleteSq with
  | none => .next s
  | some t =>
    match s.queueOf (s.ctx t.ctx).cntlid qid false with
    | none => .next (s.finish slot .queueInvalid)
    | some c =>
      let s := s.setTask slot { t with state := .dispatched }
      .next (s.drainCtx 1 (.deleteSq slot) c)

/-- Delete I/O Completion Queue (R77): refused with Invalid Queue Deletion while a submission queue names it; otherwise the home context returns to Empty. -/
def execDeleteIoCq (slot cqid : Nat) (s : State) : Out1 :=
  match s.adminTask slot .deleteCq with
  | none => .next s
  | some t =>
    match s.queueOf (s.ctx t.ctx).cntlid cqid true with
    | none => .next (s.finish slot .queueInvalid)
    | some h =>
      if s.stk.ctxs.any fun e => e.2.hasSq && e.2.cqHome == h then .next (s.finish slot .queueDeletion)
      else .next ((s.setCtx h {}).finish slot .success)

/-- A Namespace Attribute Changed event (Table 3.5), with its entry in the Changed Namespace List. -/
def State.nsEvent (s : State) (cntlid nsid : Nat) : State :=
  let s := { s with stk := { s.stk with changedNs := if s.stk.changedNs.contains nsid then s.stk.changedNs else s.stk.changedNs ++ [nsid] } }
  s.send (.asyncEvent cntlid (.nsChanged nsid))

/-- Attaches a namespace to a controller (R67, R93). -/
def execNsAttach (slot nsid cntlid : Nat) (s : State) : Out1 :=
  match s.adminTask slot .nsAttach with
  | none => .next s
  | some _ =>
    if (s.ns nsid).state = .unused then .next (s.finish slot .invalidNs)
    else
      let s := s.modCtrl cntlid fun c => { c with attached := if c.attached.contains nsid then c.attached else c.attached ++ [nsid] }
      .next ((s.nsEvent cntlid nsid).finish slot .success)

/-- The commands for a namespace that a controller's queues hold unposted, as context and sequence; attachment commands act on the attachment and not on the namespace (R93). [DEDUCED: notes/assumptions/23.md] -/
def State.nsHeldAt (s : State) (cntlid nsid : Nat) : List (Nat × Nat) :=
  (s.stk.slots.filter fun p => (s.ctx p.2.ctx).cntlid == cntlid && p.2.cmd.nsid == nsid && p.2.cmd.op != .nsAttach && p.2.cmd.op != .nsDetach && !isChannel p.2.ctx).map
    fun p => (p.2.ctx, p.2.seq)

/-- Detaches a namespace (R93): later fetches for it fail, and the command completes once every command for it that the controller fetched earlier has been posted. Until then it stays held, with those commands in `behind`. -/
def execNsDetach (slot nsid cntlid : Nat) (s : State) : Out1 :=
  match s.adminTask slot .nsDetach with
  | none => .next s
  | some t =>
    let first := t.state == .fetched
    let s := s.modCtrl cntlid fun c => { c with attached := c.attached.filter (· != nsid) }
    let held := s.nsHeldAt cntlid nsid
    let left := if first then held else t.behind.filter held.contains
    if left ≠ [] then .next (s.setTask slot { t with state := .held, behind := left })
    else .next ((s.nsEvent cntlid nsid).finish slot .success)

/-- Keep Alive restarts the association's timer (R67). -/
def execKeepAlive (slot : Nat) (s : State) : Out1 :=
  match s.adminTask slot .keepAlive with
  | none => .next s
  | some t => .next ((s.modCtrl (s.ctx t.ctx).cntlid fun c => { c with keepAliveAt := s.now }).finish slot .success)

/-- Set Features, Arbitration (R87): the burst and the three weights; `wrr` says that the controller selected weighted round robin. [PRESUMED: notes/assumptions/16.md] -/
def execSetFeaturesArbitration (slot burst hpw mpw lpw : Nat) (wrr : Bool) (s : State) : Out1 :=
  match s.adminTask slot .setArbitration with
  | none => .next s
  | some t =>
    .next ((s.modCtrl (s.ctx t.ctx).cntlid fun c => { c with burst := burst, hpw := hpw, mpw := mpw, lpw := lpw, wrr := wrr }).finish slot .success)

/-- What the Reservation Notification log tells the other hosts of a namespace after a change (Table 3.5): 1 a registration was preempted, 2 the reservation was released, 3 the reservation was preempted (NVMe 2.0). [PRESUMED: notes/assumptions/17.md] -/
def Reservation.notices (old new : Reservation) (host : Nat) : List (Nat × Nat) :=
  let regd (r : Reservation) (h : Nat) : Bool := r.regs.any fun p => p.1 == h
  let others := (old.regs.map Prod.fst).filter fun h => h != host
  let gone := (others.filter fun h => !regd new h).map fun h => (1, h)
  let freed := if old.holder.isSome && new.holder.isNone then (others.filter fun h => regd new h).map fun h => (2, h) else []
  let taken := match old.holder, new.holder with
    | some h, some g => if h != g && h != host then [(3, h)] else []
    | _, _ => []
  gone ++ freed ++ taken

/-- Adds a change's notices to the Reservation Notification log. [PRESUMED: notes/assumptions/17.md] -/
def State.resvNotices (s : State) (nsid host : Nat) (old new : Reservation) : State :=
  (old.notices new host).foldl (fun s e =>
    { s with stk := { s.stk with nextNotice := s.stk.nextNotice + 1, notices := s.stk.notices ++ [⟨s.stk.nextNotice + 1, e.1, nsid, e.2⟩] } }) s

/-- Runs a reservation command (R72): at the owner it changes the state, which is mirrored over Anvil in the persistent-state ring; at the other head it is forwarded before any data. [PRESUMED: notes/assumptions/17.md] -/
def State.resvRun (s : State) (n : Nat) (op : Opcode) (f : Nat → Reservation → Result × Reservation) : State :=
  match s.adminTask n op with
  | none => s
  | some t =>
    if !isInbound t.ctx && !(s.ctrl (s.ctx t.ctx).cntlid).attached.contains t.cmd.nsid then s.finish n .invalidNs
    else match (s.ns t.cmd.nsid).state with
      | .unused => s.finish n .invalidNs
      | .remote => s.forward n
      | .releasing => s.forward n
      | .loc =>
        let old := Tab.get {} s.stk.resv t.cmd.nsid
        let (r, v) := f t.cmd.host old
        let s := if v = old then s
          else ({ s with stk := { s.stk with resv := Tab.set {} s.stk.resv t.cmd.nsid v } }).ringState 0 t.cmd.nsid
        (s.resvNotices t.cmd.nsid t.cmd.host old v).finish n r
      | _ => s.setTask n { t with state := .held }

/-- The key a host is registered with. -/
def Reservation.keyOf (r : Reservation) (host : Nat) : Option Nat := (r.regs.find? fun p => p.1 == host).map Prod.snd

/-- A reservation released because its holder left (NVMe 2.0). -/
def Reservation.drop (r : Reservation) (p : Nat → Nat → Bool) : Reservation :=
  let regs := r.regs.filter fun e => !p e.1 e.2
  let gone := match r.holder with
    | some h => !(regs.any fun e => e.1 == h)
    | none => false
  let allReg := decide (r.rtype = 5 ∨ r.rtype = 6)
  { r with
    regs := regs
    holder := if gone then (if allReg then regs.head?.map Prod.fst else none) else r.holder
    rtype := if gone && (!allReg || regs.isEmpty) then 0 else r.rtype
    gen := r.gen + 1 }

/-- The persistence that a Reservation Register asks for: 2 clears it, 3 sets it, any other value leaves it (Table 3.5, NVMe 2.0). [PRESUMED: notes/assumptions/17.md] -/
def Reservation.persist (r : Reservation) (cptpl : Nat) : Reservation :=
  if cptpl = 2 then { r with ptpl := false } else if cptpl = 3 then { r with ptpl := true } else r

/-- Reservation Register: action 0 registers, 1 unregisters, 2 replaces the key (NVMe 2.0). [PRESUMED: notes/assumptions/17.md] -/
def registerResv (action cur new cptpl : Nat) (ignoreKey : Bool) (host : Nat) (r : Reservation) : Result × Reservation :=
  let k := r.keyOf host
  let ok := ignoreKey || k == some cur
  let r := if k.isSome || action = 0 then r.persist cptpl else r
  match action with
  | 0 => if k.isNone then (.success, { r with regs := r.regs ++ [(host, new)], gen := r.gen + 1 })
         else if k = some new then (.success, r) else (.resvConflict, r)
  | 1 => if k.isNone || !ok then (.resvConflict, r) else (.success, r.drop fun h _ => h == host)
  | 2 => if (k.isNone && !ignoreKey) || !ok then (.resvConflict, r)
         else (.success, { r with regs := r.regs.filter (fun e => e.1 != host) ++ [(host, new)], gen := r.gen + 1 })
  | _ => (.invalidField, r)

/-- Reservation Acquire: action 0 acquires, 1 and 2 preempt (NVMe 2.0). [PRESUMED: notes/assumptions/17.md] -/
def acquireResv (action rtype cur pre : Nat) (host : Nat) (r : Reservation) : Result × Reservation :=
  if rtype = 0 ∨ 6 < rtype ∨ 2 < action then (.invalidField, r)
  else if r.keyOf host ≠ some cur then (.resvConflict, r)
  else if action = 0 then
    match r.holder with
    | none => (.success, { r with holder := some host, rtype := rtype })
    | some h => if (h = host ∨ r.rtype = 5 ∨ r.rtype = 6) ∧ r.rtype = rtype then (.success, r) else (.resvConflict, r)
  else
    let held := r.holder.any fun h => r.keyOf h == some pre || ((r.rtype == 5 || r.rtype == 6) && pre == 0)
    let v := r.drop fun h k => h != host && (k == pre || (held && pre == 0))
    if held then (.success, { v with holder := some host, rtype := rtype }) else (.success, v)

/-- Reservation Release: action 0 releases, 1 clears (NVMe 2.0). [PRESUMED: notes/assumptions/17.md] -/
def releaseResv (action rtype cur : Nat) (host : Nat) (r : Reservation) : Result × Reservation :=
  if r.keyOf host ≠ some cur then (.resvConflict, r)
  else match action with
    | 0 =>
      let mine := r.holder.any fun h => h == host || r.rtype == 5 || r.rtype == 6
      if !mine then (.success, r)
      else if r.rtype ≠ rtype then (.invalidField, r)
      else (.success, { r with holder := none, rtype := 0 })
    | 1 => (.success, { r with regs := [], holder := none, rtype := 0, gen := r.gen + 1 })
    | _ => (.invalidField, r)

/-- Reservation Register (R72). [PRESUMED: notes/assumptions/17.md] -/
def execReservationRegister (slot action cur new cptpl : Nat) (ignoreKey : Bool) (s : State) : Out1 :=
  .next (s.resvRun slot .resRegister (registerResv action cur new cptpl ignoreKey))

/-- Reservation Acquire (R72). [PRESUMED: notes/assumptions/17.md] -/
def execReservationAcquire (slot action rtype cur pre : Nat) (s : State) : Out1 :=
  .next (s.resvRun slot .resAcquire (acquireResv action rtype cur pre))

/-- Reservation Release (R72). [PRESUMED: notes/assumptions/17.md] -/
def execReservationRelease (slot action rtype cur : Nat) (s : State) : Out1 :=
  .next (s.resvRun slot .resRelease (releaseResv action rtype cur))

/-- Reservation Report (R72): the same answer at either head. [PRESUMED: notes/assumptions/17.md] -/
def execReservationReport (slot : Nat) (s : State) : Out1 :=
  match s.adminTask slot .resReport with
  | none => .next s
  | some t =>
    if (s.ns t.cmd.nsid).state = .unused ∨ (!isInbound t.ctx ∧ !(s.ctrl (s.ctx t.ctx).cntlid).attached.contains t.cmd.nsid) then .next (s.finish slot .invalidNs)
    else .next ((s.send (.resvReport t.ctx t.cmd.cid (Tab.get {} s.stk.resv t.cmd.nsid))).finish slot .success)

/-- A command that uses an unsupported opcode, feature or field value (R67): it completes with Invalid Command Opcode or Invalid Field in Command and has no effect. A command that is supported is left alone. [PRESUMED: notes/assumptions/20.md] -/
def execUnsupportedCommand (slot : Nat) (s : State) : Out1 :=
  match s.task? slot with
  | none => .next s
  | some t =>
    match t.cmd.unsupported with
    | some r => if t.state == .fetched then .next (s.failData slot r) else .next s
    | none => .next s

/-- A token is issued to a stamped command that still needs data, and to an admin command that does (R88): over NVMe/TCP by R2T, on an inbound channel by DATA_REQ. With no tag free the command waits. -/
def execTokenIssue (slot : Nat) (s : State) : Out1 :=
  match s.task? slot with
  | none => .next s
  | some t =>
    let q := s.ctx t.ctx
    let stamped := t.state == .stamped || t.state == .dispatched || (q.transport == .tcp && (match t.state with | .forwarded _ => true | _ => false)) || (!t.cmd.op.isStamped && (t.state == .fetched || t.state == .held))
    if !stamped || t.complete || t.token.isSome || !(q.transport == .tcp || isInbound t.ctx) || t.cmd.inCapsule then .next s
    else match s.takeTag with
      | none => .next s
      | some (tag, s) =>
        let k := Tab.get {} s.stk.tokens tag
        let k := { k with slot := some slot, conn := q.xportRef, cccid := t.cmd.cid, next := t.data.length, stop := t.need }
        let s := { s with stk := { s.stk with tokens := Tab.put s.stk.tokens tag k } }
        let s := (s.setTask slot { t with token := some tag }).modCtx t.ctx fun c => { c with tokensOut := c.tokensOut + 1 }
        let len := t.need - t.data.length
        if isInbound t.ctx then .next (s.anvil .dataReq (s.chanNow t.ctx - 16) [t.fwdId, s.fwdBase t + t.data.length, len, tag, k.gen])
        else .next (s.send (.r2t q.xportRef tag t.cmd.cid t.data.length len))

/-- The finished command of a context whose turn to post has come (R94). -/
def State.postable (s : State) (c : Nat) : Option (Nat × Task) :=
  Tab.first s.stk.slots fun _ t => t.ctx == c && t.state.isDone && t.acks.isEmpty && (t.discard || t.seq == (s.ctx c).postSeq)

/-- Signals a PCIe completion queue's MSI-X vector when its threshold is reached, or at once when IEN is set and AGGR_THR is 0 (R96). -/
def State.signal (s : State) (home : Nat) : State :=
  let h := s.ctx home
  if h.transport ≠ .pcie then s
  else
    let n := h.unsignalled + 1
    if h.ien && (h.aggrThr == 0 || decide (h.aggrThr < n)) then (s.setCtx home { h with unsignalled := 0 }).send (.msix home h.vector)
    else s.setCtx home { h with unsignalled := n }

/-- Whether the hold policy keeps completions back (R364): from step 2 to step 11 of a takeover. -/
def State.holdsPosts (s : State) : Bool := s.fm.mode == .takeover && (s.fm.forme.map (·.gapHold)).getD false

/-- When the completion of a context's turn became postable (R94): when its command ended, or when the completion ahead of it was posted. -/
def State.readyAt (s : State) (c : Nat) (t : Task) : Nat := max t.doneAt (s.ctx c).postedAt

/-- Whether the next completion of a context goes ahead of those of every other submission queue that shares its completion queue (R94): they go in the order in which each became postable. -/
def State.postsFirst (s : State) (c : Nat) (t : Task) : Bool :=
  s.stk.ctxs.all fun e => e.1 == c || e.2.cqHome != (s.ctx c).cqHome || !e.2.hasSq ||
    match s.postable e.1 with
    | some (_, u) => u.discard || decide (s.readyAt c t ≤ s.readyAt e.1 u)
    | none => true

/-- Posts one completion in submission order (R94 to R98): the NVMe status of R97, an error log entry for a failure, the entry in the completion queue with its phase, and the interrupt. A discarded command ends without a posting (Table 4.3). -/
def execCompletionPost (ctx : Nat) (s : State) : Out1 :=
  match s.postable ctx with
  | none => .next s
  | some (n, t) =>
    match t.state with
    | .done r =>
      if s.holdsPosts then .next s
      else if t.discard then .next (s.dropTask n)
      else if !completesHost r.internalStatus || !s.postsFirst ctx t then .next s
      else
        let v := nvmeOf t.cmd.op r
        let q := s.ctx ctx
        let home := q.cqHome
        let phase := (s.ctx home).phase
        let s := (s.logError t r).dropTask n
        let s := s.modCtx ctx fun c => { c with postSeq := (c.postSeq + 1) % 2 ^ 32, outstanding := c.outstanding - 1, postedAt := s.stk.order }
        let s := { s with stk := { s.stk with order := s.stk.order + 1 } }
        let s := s.modCtx home fun h =>
          let wrap := h.cqTail == h.cqSize
          { h with cqReserved := h.cqReserved - 1, cqTail := if wrap then 0 else h.cqTail + 1, phase := if wrap then !h.phase else h.phase }
        .next ((s.send (.completion ctx t.cmd.cid v.sct v.sc v.dnr t.dword0 q.sqHead q.hqid phase)).signal home)
    | _ => .next s

/-- The coalescing time of a completion queue expires (R96). [PRESUMED: notes/assumptions/16.md] -/
def execMsixCoalesceTimer (ctx : Nat) (s : State) : Out1 :=
  let h := s.ctx ctx
  if h.transport = .pcie ∧ h.ien ∧ 0 < h.unsignalled then .next ((s.setCtx ctx { h with unsignalled := 0 }).send (.msix ctx h.vector)) else .next s

/-- What the end of a context's drain completes (Table 4.3). [DEDUCED: notes/assumptions/23.md] -/
def State.drainEvent (s : State) (ctx : Nat) (q : Ctx) : DrainEvent → State
  | .deleteSq n => s.finish n .success
  | .channel => s
  | _ =>
    let left := s.stk.ctxs.any fun e => e.1 != ctx && e.2.cntlid == q.cntlid && !isChannel e.1 && (e.2.state == .draining || (e.2.state == .faulted && s.slotsOf e.1 != []))
    if left then s
    else
      let s := s.modCtrl q.cntlid fun c => { c with rdy := false, draining := false }
      let d := s.ctrl q.cntlid
      if d.fabric || d.fn = 0 || s.stk.vfEnable.contains d.port then s else s.vfsGone d.port

/-- The last posting or discard of a drain is done (R92, Table 4.2): a home context whose completion queue still exists becomes Live with the completion queue only, and any other context Empty. [DEDUCED: notes/assumptions/23.md] -/
def execDrainComplete (ctx : Nat) (s : State) : Out1 :=
  let q := s.ctx ctx
  if q.state ≠ .draining ∨ s.slotsOf ctx ≠ [] then .next s
  else
    let s := if q.drainCause = 1 ∧ q.hasCq ∧ q.cqHome = ctx then
        s.setCtx ctx { q with state := .live, hasSq := false, drainCause := 0, drainTime := 0, hqid := 0, sqSize := 0, sqHead := 0, sqTail := 0 }
      else
        let ring := if q.transport == .pcie || isChannel ctx then 0 else (q.sqSize + 1) * 64
        { (s.setCtx ctx {}) with stk := { (s.setCtx ctx {}).stk with spillReserved := s.stk.spillReserved - ring } }
    match Tab.find s.stk.drains ctx with
    | none => .next (s.raise F.STK_INT_STATUS_DRAIN_DONE)
    | some ev =>
      let s := { s with stk := { s.stk with drains := Tab.erase s.stk.drains ctx } }
      .next ((s.drainEvent ctx q ev).raise F.STK_INT_STATUS_DRAIN_DONE)

/-- STK_CTRL.FETCH_HOLD stops or resumes fetching from classes 1 to 5 (R118). -/
def execFetchHoldWrite (v : Bool) (s : State) : Out1 := .next (s.wr F.STK_CTRL_FETCH_HOLD (bit v))

/-- STK_QCMD 1: closes the selected packet channel, a drain of cause 5 (R92). -/
def execStkQcmdCloseChannel (qid : Nat) (s : State) : Out1 :=
  if isChannel qid then .next (s.drainCtx 5 .channel qid) else .next s

/-- The lowest spare context that is Empty (R78, R81): a spare is any Empty task-queue context while spares are left. [PRESUMED: notes/assumptions/16.md] -/
def State.spareCtx (s : State) : Option Nat :=
  if s.rd F.STK_QCOUNT_SPARES = 0 then none
  else (List.range s.taskQueues).find? fun c => (s.ctx c).state == .empty

/-- Re-homes a Faulted context to a spare (R81): the entry is copied with the pointer words of the shadow, commands in slots, the spill ring and the connection follow, and the old context is Retired. With no spare the queue stays Faulted, with an alarm. -/
def State.rehome (s : State) (c : Nat) (cause : Nat := 1) (errors : Nat := 0) (st : Status := 0) : State :=
  let q := s.ctx c
  if q.state != .faulted then s
  else match s.spareCtx with
    | none => s.alarm .stk .noSibling 0x0A02 [c]
    | some d =>
      let copy := q.fromShadow q.word18 q.word20
      let s := s.setCtx d { copy with state := q.former, cqHome := if q.cqHome = c then d else q.cqHome }
      let s := s.setCtx c { state := .retired }
      let s := { s with stk := { s.stk with
        slots := s.stk.slots.map fun (p : Nat × Task) => (p.1, if p.2.ctx == c then { p.2 with ctx := d } else p.2)
        ctxs := s.stk.ctxs.map fun (p : Nat × Ctx) => (p.1, if p.2.cqHome == c then { p.2 with cqHome := d } else p.2)
        conns := s.stk.conns.map fun (p : Nat × Conn) => (p.1, if p.2.live && p.2.cntlid != 0 && p.2.ctx == c then { p.2 with ctx := d } else p.2)
        cache := s.stk.cache.filter (· != c)
        spill := (match Tab.find s.stk.spill c with
          | some l => Tab.put (Tab.erase s.stk.spill c) d l
          | none => s.stk.spill)
        drains := (match Tab.find s.stk.drains c with
          | some e => Tab.put (Tab.erase s.stk.drains c) d e
          | none => s.stk.drains) } }
      (s.dec F.STK_QCOUNT_SPARES).putOut ⟨Kind.context, c⟩ cause errors st

/-- STK_QCMD 2: re-homes the selected Faulted context (R81). -/
def execStkQcmdRehome (qid : Nat) (s : State) : Out1 :=
  .next (s.rehome qid 1 (Tab.get ({} : Window) s.flt.windows (Chan.key ⟨Kind.context, qid⟩)).count)

/-- The CLEAR bit of STK_SLOTS_HWM or CHS_LOCKS_HWM: the mark takes the current use (R8). -/
def execHwmClear (locks : Bool) (s : State) : Out1 :=
  if locks then .next (s.wr F.CHS_LOCKS_HWM_HWM s.locksUsed) else .next (s.wr F.STK_SLOTS_HWM_HWM s.slotsUsed)

end Sys2Proof.Machine
end

