-- ==== Sys2Proof/Machine/Namespaces.lean ====
section
/-! DEFINITION. Namespace Management and the log pages (R67, R68, R305). -/

namespace Sys2Proof.Machine

/-- Whether this head forwards what hosts ask of it: it stands by (R368), or its mode forwards commands (Table 1.7). -/
def State.forwards (s : State) : Bool := s.on F.ANV_PAIR_STANDBY || s.inMode [.joining, .activation]

/-- The lowest free VOLUME number; a snapshot being taken has its own already. -/
def State.freeVolume (s : State) : Option Nat :=
  Tab.freeKey (s.ste.snaps.foldl (fun t (w : SnapWait) => Tab.put t w.volume {}) s.vols) 1 16777215

/-- The lowest Unused NSID, 1 to 16,384. [DESIGN CHOICE: notes/assumptions/105.md] -/
def State.freeNsid (s : State) : Option Nat := ((List.range 16384).map (· + 1)).find? fun n => (s.ns n).state == .unused

/-- The code of an LBA format (Table 6.3). -/
def lbafOf (blockSize metaSize : Nat) : Option Nat :=
  if ¬ (blockSize = 512 ∨ blockSize = 4096) ∨ ¬ (metaSize = 0 ∨ metaSize = 8 ∨ metaSize = 16) then none
  else some ((if blockSize = 512 then 0 else 3) + metaSize / 8)

/-- The class and realm of a create (Table 3.8). -/
def NsArgs.classRealm (a : NsArgs) : Nat × Nat := if a.valid then (a.classId, a.realm) else (0, 0)

/-- Whether a create's settings are ones that the head serves (R67, R68): a listed class, a realm below the limit, a listed format, and protection information that its metadata can hold. [DEDUCED: notes/assumptions/50.md] -/
def State.createOk (s : State) (a : NsArgs) : Bool :=
  let c := a.classRealm
  let pi := if a.guard64 then 16 else 8
  (s.classOf c.1).isSome && decide (c.2 < (s.fm.forme.map (·.realms)).getD 0) && (lbafOf a.blockSize a.metaSize).isSome &&
    decide (a.piType ≤ 3) && (a.piType == 0 || decide (pi ≤ a.metaSize)) && decide (0 < a.lbas)

/-- Makes the keys of purposes 0 and 4 that a realm lacks (R68, R230). [DEDUCED: notes/assumptions/50.md] -/
def State.realmKeys (s : State) (realm : Nat) : State :=
  [0, 4].foldl (fun s p => if (s.gensOf realm p).isEmpty then s.addKey realm p else s) s

/-- Whether a realm has its Current keys of purposes 0 and 4 (R68). [DEDUCED: notes/assumptions/50.md] -/
def State.hasKeys (s : State) (realm : Nat) : Bool := (s.currentGen realm 0).isSome && (s.currentGen realm 4).isSome

/-- The record of a new namespace's volume (R68), with one leaf page of its own. -/
def State.newVolume (s : State) (a : NsArgs) (nsid num : Nat) (t : Task) : Volume :=
  let c := a.classRealm
  { nsid := nsid, realm := c.2, cls := c.1, state := .live, holder := s.head, lbaf := (lbafOf a.blockSize a.metaSize).getD 0, piType := a.piType,
    ext := a.extended, piFirst := a.piFirst, guard64 := a.guard64, lbas := a.lbas, family := num,
    fwdId := if isInbound t.ctx then t.fwdId else 0, fwdHead := if isInbound t.ctx then s.peer else 0, pages := [(0, s.hth.nextPage)] }

/-- Makes a namespace Local at this head (R68). -/
def State.ownNs (s : State) (nsid num cls : Nat) : State :=
  s.modNs nsid fun _ => { state := .loc, owner := s.head, cls := cls, volume := num }

/-- NS_CREATE (R68): forwarded by a head that stands by or forwards; Invalid Field in Command for a class, realm or setting that is not served. While the realm's keys of purposes 0 and 4 are being made the command waits. It completes with the NSID once its VOLUME record is durable. [DEDUCED: notes/assumptions/50.md; DESIGN CHOICE: notes/assumptions/105.md] -/
def execNsCreate (slot : Nat) (a : NsArgs) (s : State) : Out1 :=
  match s.adminTask slot .nsCreate with
  | none => .next s
  | some t =>
    if !isInbound t.ctx && s.forwards then .next (s.forward slot)
    else if !s.createOk a then .next (s.finish slot .invalidField)
    else match s.freeNsid, s.freeVolume with
      | some nsid, some num =>
        let realm := a.classRealm.2
        let s := s.realmKeys realm
        if !s.hasKeys realm then .next (s.setTask slot { t with state := .held })
        else
          let v := s.newVolume a nsid num t
          let s := s.setTask slot { t with state := .dispatched, dword0 := nsid }
          let s := { s with hth := { s.hth with nextPage := s.hth.nextPage + 1 } }
          .next ((s.journal [.volume num v v.fwdId v.fwdHead] [.finish slot]).ownNs nsid num v.cls)
      | _, _ => .next (s.finish slot .invalidNs)

/-- Whether a stamped command for a namespace has not been posted. -/
def State.nsBusy (s : State) (nsid : Nat) : Bool := s.stk.slots.any fun p => p.2.cmd.nsid == nsid && p.2.cmd.op.isStamped

/-- NS_DELETE (R68): at the owner, once every command for the namespace has been posted. Its volume keeps its record without a namespace until Stereotype deletes it (Table 15.2); pieces not yet applied still go to it. [DEDUCED: notes/assumptions/45.md] -/
def execNsDelete (slot : Nat) (s : State) : Out1 :=
  match s.adminTask slot .nsDelete with
  | none => .next s
  | some t =>
    let n := t.cmd.nsid
    let e := s.ns n
    match e.state with
    | .unused => .next (s.finish slot .invalidNs)
    | .remote => .next (s.forward slot)
    | .releasing => .next (s.forward slot)
    | .loc =>
      if s.nsBusy n then .next (s.setTask slot { t with state := .held })
      else
        let v := { s.volOf n with nsid := 0, holder := s.head, map := [], pages := [] }
        let ctrls := Tab.keysWhere s.stk.ctrls fun _ c => c.attached.contains n
        let s := { s with gly := { s.gly with own := s.gly.own.map fun (p : Nat × Piece) => (p.1, if p.2.nsid == n ∧ p.2.volume = 0 then { p.2 with volume := e.volume } else p.2) } }
        let s := s.journal [.volume e.volume v 0 0] [.finish slot]
        let s := (s.setTask slot { t with state := .dispatched }).modNs n fun _ => {}
        let s := { s with stk := { s.stk with resv := Tab.erase s.stk.resv n }, lost := s.lost.filter fun (x : LostExtent) => x.nsid != n }
        .next (ctrls.foldl (fun s c => (s.modCtrl c fun c => { c with attached := c.attached.filter (· != n) }).nsEvent c n) s)
    | _ => .next (s.setTask slot { t with state := .held })

/-- The ANA state that this head reports for a namespace (R69): 1 Optimized at its owner, 2 Non-optimized otherwise. -/
def State.anaState (s : State) (nsid : Nat) : Nat := if (s.ns nsid).state = .loc ∨ (s.ns nsid).state = .acquiring then 1 else 2

/-- The array record of the Hearth health log (Table 13.17). -/
def State.arrayRecord (s : State) : Bytes :=
  s.hth.array.bytes 0xFF 0 (s.rd F.HTH_LADDER_SPARE) ((s.admitted.map s.wearOf).foldl max 0) ((s.admitted.map fun m => (s.module m).plates).sum) ((s.admitted.map s.retiredOf).sum)

/-- An entry of the lost-extent list as its 32 bytes (Table 13.17). -/
def LostExtent.bytes (e : LostExtent) : Bytes :=
  leBytes e.nsid 4 ++ zeros 4 ++ leBytes e.slba 8 ++ leBytes e.nlb 4 ++ leBytes e.cause 1 ++ zeros 3 ++ leBytes e.time 8

/-- The Hearth health log 0xC0 (Table 13.17): the header, the array record, module records and lost extents. [PRESUMED: notes/assumptions/20.md] -/
def State.hearthLog (s : State) : Bytes :=
  let ms := s.admitted
  let ls := s.lost.filter (·.listed)
  let head := leBytes 1 2 ++ leBytes ms.length 2 ++ leBytes ls.length 4 ++ leBytes (s.rd F.HTH_LOST_EXT_OVERFLOW) 2 ++ leBytes (s.rd F.HTH_LADDER_FILL) 2 ++ leBytes (s.rd F.HTH_LADDER_SPARE) 2 ++ leBytes (s.rd F.HTH_LADDER_ROW) 1
  head ++ zeros 49 ++ s.arrayRecord ++ ms.flatMap s.moduleRecord ++ ls.flatMap LostExtent.bytes

/-- The namespaces of the pair that are in use. -/
def State.allNs (s : State) : List Nat := Tab.keysWhere s.chs.ns fun _ e => e.state != .unused

/-- The firmware version of a slot's verified manifest; 0 when the slot holds none. -/
def Slot.version (x : Slot) : Nat := if x.verified then leAt x.content 8 4 else 0

/-- The Firmware Slot log (R67, R73): the active slot, the one that the next reset activates, and the versions of slots 1 and 2. [PRESUMED: notes/assumptions/20.md] -/
def State.slotLog (s : State) : List Nat :=
  let next := match s.pointer with
    | some p => if p.state = .pending then bit p.pendingSlot + 1 else 0
    | none => 0
  [bit s.activeSlot + 1, next, s.upd.slotA.version, s.upd.slotB.version]

/-- The commands that the head supports, admin commands last, as the Commands Supported and Effects log lists them (Table 3.5). -/
def supportedOps : List Opcode :=
  [.read, .write, .writeZeroes, .deallocate, .flush, .compare, .fusedCompare, .fusedWrite, .verify, .resRegister, .resAcquire, .resRelease, .resReport,
    .createCq, .createSq, .deleteCq, .deleteSq, .nsCreate, .nsDelete, .nsAttach, .nsDetach, .getLogPage, .keepAlive, .setArbitration, .fwDownload, .fwCommit, .identify]

/-- Whether a command changes user data or namespaces, as the Commands Supported and Effects log says beside it: 1 data, 2 the namespace inventory, 0 neither. [PRESUMED: notes/assumptions/20.md] -/
def opEffect (o : Opcode) : Nat :=
  if o.isWriteMode then 1 else if ([.nsCreate, .nsDelete, .nsAttach, .nsDetach] : List Opcode).contains o then 2 else 0

/-- The Reservation Notification log of a host (Table 3.5): the oldest notice for it, and how many more there are; zeros when there is none. [PRESUMED: notes/assumptions/20.md; DESIGN CHOICE: notes/assumptions/116.md] -/
def State.noticeLog (s : State) (host : Nat) : List Nat :=
  match s.stk.notices.filter fun n => n.host == host with
  | [] => [0, 0, 0, 0]
  | n :: rest => [n.num, n.kind, rest.length, n.nsid]

/-- Data of a controller or a namespace as Identify reports it: what R57, R63, R67 and R71 say that the head reports, in this order. A namespace has its size, format, PI settings, ANAGRPID, NAWUN, NAWUPF, NACWU, NABSN, NABSPF and NABO. [DESIGN CHOICE: notes/assumptions/116.md] -/
def State.identifyNs (s : State) (nsid : Nat) : List Nat :=
  let v := s.volOf nsid
  let unit := s.unitBlocks nsid - 1
  [v.lbas, v.lbaf, bit v.ext, v.piType, bit v.piFirst, bit v.guard64, nsid, unit, unit, unit, unit, unit, 0]

/-- AWUN and AWUPF (R71): the smallest unit among the classes of the forme, in blocks of 4,096 bytes, minus 1. [DESIGN CHOICE: notes/assumptions/116.md] -/
def State.awun (s : State) : Nat :=
  let us := ((s.fm.forme.map (·.classes)).getD []).map fun c => 2 ^ c.atomLog2
  us.foldl min (us.headD 524288) / 4096 - 1

/-- A controller as Identify reports it: its ID, the number of namespaces and ANAGRPMAX, both 16,384 (R57), AWUN, AWUPF, and the I/O queues and vectors of its function (Table 3.4). [DESIGN CHOICE: notes/assumptions/116.md] -/
def State.identifyCtrl (s : State) (cntlid : Nat) : List Nat :=
  [cntlid, 16384, 16384, s.awun, s.awun, queueLimit (s.ctrl cntlid).fn, vectorLimit (s.ctrl cntlid).fn]

/-- An Identify of a namespace attached to the controller (CNS 0) or of the controller itself (CNS 1), both with the one subsystem NQN (R57). The table has no row of its own for it, so GET_LOG_PAGE serves it. [DESIGN CHOICE: notes/assumptions/116.md] -/
def State.identifyRun (s : State) (slot : Nat) (t : Task) (cns : Nat) : State :=
  let c := (s.ctx t.ctx).cntlid
  let answer (vals : List Nat) : State := (s.send (.identify t.ctx t.cmd.cid cns Config.subsystemNqn [vals])).finish slot .success
  match cns with
  | 0 => if (s.ctrl c).attached.contains t.cmd.nsid then answer (s.identifyNs t.cmd.nsid) else s.finish slot .invalidNs
  | 1 => answer (s.identifyCtrl c)
  | _ => s.finish slot .invalidField

/-- The NVMe registers of a controller in BAR0 by their offsets (R63, NVMe 2.0): VS, CC.EN, CSTS.RDY, AQA, ASQ and ACQ. [DESIGN CHOICE: notes/assumptions/116.md] -/
def Ctrl.bar0 (c : Ctrl) (off : Nat) : Option Nat :=
  match off with
  | 0x08 => some 0x00020000
  | 0x14 => some (bit c.enabled)
  | 0x1C => some (bit c.rdy)
  | 0x24 => some (c.acqSize * 65536 + c.asqSize)
  | 0x28 => some c.asq
  | 0x30 => some c.acq
  | _ => none

/-- The content of a supported log page; none for any other identifier (Table 3.5). [PRESUMED: notes/assumptions/20.md] -/
def State.logPage (s : State) (host lid : Nat) : Option (List (List Nat)) :=
  match lid with
  | 0x01 => some (s.stk.errors.map fun e => [e.ctx, e.cid, e.nsid, e.internal, e.sct, e.sc])
  | 0x02 => some [[s.stk.smart, s.rd F.HTH_LADDER_SPARE / 10, 10, min 255 ((s.admitted.map s.wearOf).foldl max 0 / 10), s.rd F.FOR_TEMP_HOT]]
  | 0x03 => some [s.slotLog]
  | 0x04 => some [s.stk.changedNs]
  | 0x05 => some (supportedOps.map fun o => [o.num, 1, opEffect o])
  | 0x09 => some [[s.rd F.HTH_LADDER_SPARE / 10, min 255 ((s.admitted.map s.wearOf).foldl max 0 / 10), s.hth.array.written]]
  | 0x0C => some (s.allNs.map fun n => [n, s.anaState n])
  | 0x80 => some [s.noticeLog host]
  | 0xC0 => some [s.hearthLog.map (·.toNat)]
  | _ => none

/-- The part of a log page that a command's offset and length fields take (R305); all of it where they are not given. [PRESUMED: notes/assumptions/20.md] -/
def HostCmd.window (c : HostCmd) (vals : List Nat) : List Nat :=
  match c.ranges.head? with
  | some (off, len) => (vals.drop off).take len
  | none => vals

/-- Takes the oldest notice of a host out of the Reservation Notification log, once it has been read. [PRESUMED: notes/assumptions/20.md] -/
def State.noticeRead (s : State) (host : Nat) : State :=
  { s with stk := { s.stk with notices := s.stk.notices.eraseP fun n => n.host == host } }

/-- GET_LOG_PAGE (R67, R97, R305): a listed log page goes to the host, any other identifier is Invalid Field in Command. Reading the Changed Namespace List clears it, and reading a reservation notice removes it. An Identify is served here too, with its CNS as `lid`. [PRESUMED: notes/assumptions/20.md] -/
def execGetLogPage (slot lid : Nat) (s : State) : Out1 :=
  match s.adminTask slot .getLogPage, s.adminTask slot .identify with
  | none, none => .next s
  | none, some t => .next (s.identifyRun slot t lid)
  | some t, _ =>
    match s.logPage t.cmd.host lid with
    | none => .next (s.finish slot .invalidField)
    | some vals =>
      let s := s.send (.logPage t.ctx t.cmd.cid lid (if lid = 0xC0 then vals.map t.cmd.window else vals))
      let s := if lid = 4 then { s with stk := { s.stk with changedNs := [] } } else s
      let s := if lid = 0x80 then s.noticeRead t.cmd.host else s
      .next (s.finish slot .success)

end Sys2Proof.Machine
end

