-- ==== Sys2Proof/Machine/Repl.lean ====
section
/-! DEFINITION. Replication records and sessions: framing, sealing, what a synchronous source owes, and loss of a connection (R331 to R341). -/

namespace Sys2Proof.Machine

/-- A session. -/
def State.sess (s : State) (k : Nat) : Session := Tab.get {} s.ste.sessions k

/-- Replaces a session; a free one is not listed. -/
def State.setSess (s : State) (k : Nat) (e : Session) : State :=
  { s with ste := { s.ste with sessions := Tab.set {} s.ste.sessions k e } }

/-- Changes a session. -/
def State.modSess (s : State) (k : Nat) (f : Session → Session) : State := s.setSess k (f (s.sess k))

/-- TYPE of a record (Table 15.6). -/
def ReplType.code : ReplType → Nat
  | .hello => 1 | .helloAck => 2 | .keys => 3 | .deltaBegin => 4 | .extents => 5 | .fpList => 6 | .have => 7 | .grains => 8 | .segmentEnd => 9
  | .segmentAck => 10 | .deltaEnd => 11 | .deltaAck => 12 | .write => 13 | .writeAck => 14 | .syncMark => 15 | .mendReq => 16 | .mendData => 17 | .close => 18 | .error => 19

/-- A record type by its code. -/
def ReplType.ofCode : Nat → ReplType
  | 1 => .hello | 2 => .helloAck | 3 => .keys | 4 => .deltaBegin | 5 => .extents | 6 => .fpList | 7 => .have | 8 => .grains | 9 => .segmentEnd
  | 10 => .segmentAck | 11 => .deltaEnd | 12 => .deltaAck | 13 => .write | 14 => .writeAck | 15 => .syncMark | 16 => .mendReq | 17 => .mendData | 18 => .close | _ => .error

/-- A record header (Table 15.5). -/
def replHeader (version type keyGen session bodyLen seq : Nat) : Bytes :=
  leBytes 0x434C5052 4 ++ leBytes version 2 ++ [BitVec.ofNat 8 type, BitVec.ofNat 8 keyGen] ++ leBytes session 4 ++ leBytes bodyLen 4 ++ leBytes seq 8 ++ zeros 8

/-- The Temper pair that seals replication records: the lowest one bound to a line of kind 5. [DEDUCED: notes/assumptions/49.md] -/
def State.replPair (s : State) : Nat :=
  (((s.fm.lines.filter fun l => l.2.kind == 5).flatMap fun l => (l.2.lanes.filter fun b => b.typ == .temper).map (·.lane)).head?).getD 0

/-- Sends a clear record (R334): types 1 to 3. -/
def State.replClear (s : State) (k : Nat) (t : ReplType) (body : Bytes) : State :=
  let e := s.sess k
  (s.modSess k fun e => { e with sent := e.sent + body.length }).send (.repl k t [] (replHeader e.version t.code 0 e.id body.length 0 ++ body))

/-- Marks what a session owes for a stamp as having left with a record of a SEQ (R338). -/
def Session.sentOut (e : Session) (stamp seq now : Nat) : Session :=
  if stamp = 0 then e else { e with out := e.out.map fun o => if o.stamp = stamp then { o with seq := seq, sentAt := now } else o }

/-- Seals one record and sends it (R334): none while the key gives no counter value. A key refused with 0x0602 is replaced by a new generation (R339). [DEDUCED: notes/assumptions/49.md] -/
def State.seal (s : State) (k : Nat) (o : ReplOut) : Option State × State :=
  let e := s.sess k
  match s.currentGen e.realm 5 with
  | none => (none, s)
  | some g =>
    let h := handle e.realm 5 g
    match s.keyRec h, s.plainKey h with
    | some kr, some key =>
      (match s.draw h kr with
      | (.value v, s) =>
        let seq := e.seqOut + 1
        let hdr := replHeader e.version o.type g e.id o.body.length seq
        let n := s.nonce kr s.replPair v
        let (c, t) := gcmSeal key n hdr o.body
        let s := s.modSess k fun e => { (e.sentOut o.stamp seq s.now) with seqOut := seq, sent := e.sent + o.body.length, outq := e.outq.drop 1 }
        (some (s.send (.repl k (ReplType.ofCode o.type) [] (hdr ++ n ++ c ++ t))), s)
      | (.wait, s) => (none, s)
      | (.exhausted, s) =>
        let making := (s.gensOf e.realm 5).any fun g => (s.keyRec (handle e.realm 5 g)).any fun r => r.state == .installing
        (none, if making then s else s.createKey e.realm 5))
    | _, _ => (none, s)

/-- Sends the waiting records of a session in order, as far as they can be sealed. -/
def State.drainList (k : Nat) : List ReplOut → State → State
  | [], s => s
  | o :: rest, s =>
    match s.seal k o with
    | (some s, _) => State.drainList k rest s
    | (none, s) => s

/-- Sends what waits on a session whose connection is keyed. -/
def State.replDrain (s : State) (k : Nat) : State :=
  let e := s.sess k
  if !e.link || !e.keyed then s else State.drainList k e.outq s

/-- Queues a sealed record and sends what can be sent. -/
def State.replPost (s : State) (k : Nat) (t : ReplType) (body : Bytes) (stamp : Nat := 0) : State :=
  (s.modSess k fun e => { e with outq := e.outq ++ [⟨t.code, body, stamp⟩] }).replDrain k

/-- Adds a stamped item to what a session owes, in stamp order. -/
def insertOut (o : SyncOut) : List SyncOut → List SyncOut
  | [] => [o]
  | x :: rest => if o.stamp < x.stamp then o :: x :: rest else x :: insertOut o rest

/-- The data of a piece as WRITE carries it: each block's data, then its metadata as received. A repeat piece takes them from the slots it repeats (R24). -/
def Piece.writeData (p : Piece) : Bytes :=
  (List.range p.nlb).flatMap fun i => p.block (p.slba + i) ++ p.blockMeta (p.slba + i)

/-- KIND of a WRITE record (Table 15.6). -/
def PieceKind.replKind : PieceKind → Nat
  | .zeroes => 1 | .deallocate => 2 | _ => 0

/-- The bodies of the WRITE records of one piece (R338): records hold at most 1 MiB less 32 bytes of its data, the last with END. -/
def Piece.writeBodies (p : Piece) : List Bytes :=
  let chunks := if p.kind.replKind = 0 then chunksOf 1048544 p.writeData else [[]]
  (chunks.zipIdx).map fun c => leBytes p.slba 8 ++ leBytes p.nlb 4 ++ [BitVec.ofNat 8 p.kind.replKind, BitVec.ofNat 8 (bit (c.2 + 1 == chunks.length))] ++ c.1

/-- Sends the WRITE records of one stamp, or the sync mark that stands there (R338). -/
def State.sendOut (s : State) (k : Nat) (o : SyncOut) : State :=
  match o.mark with
  | some (id, snap) => s.replPost k .syncMark (leBytes id 8 ++ leBytes snap 4) o.stamp
  | none =>
    let bodies := o.pieces.flatMap fun d => ((Tab.find s.gly.own d).map Piece.writeBodies).getD []
    (bodies.zipIdx).foldl (fun s b => s.replPost k .write b.1 (if b.2 + 1 = bodies.length then o.stamp else 0)) s

/-- Whether records of a stamp are already sealed or queued. -/
def Session.posted (e : Session) (o : SyncOut) : Bool := o.seq != 0 || e.outq.any fun x => x.stamp == o.stamp

/-- The namespace of a session's volume, which is 0 for a working volume. [DEDUCED: notes/assumptions/58.md] -/
def State.sessNs (s : State) (k : Nat) : Nat := (Tab.get {} s.vols (s.sess k).volume).nsid

/-- Sends what an In sync session owes, in stamp order (R338): a stamp leaves once every lower-stamped write-mode command of the namespace is published or discarded. [DEDUCED: notes/assumptions/51.md] -/
def State.syncSend (s : State) (k : Nat) : State :=
  let e := s.sess k
  if e.state ≠ .inSync ∨ !e.keyed then s
  else
    let ready := e.out.takeWhile fun o => s.flushReady (s.sessNs k) o.stamp
    ready.foldl (fun s o => if (s.sess k).posted o then s else s.sendOut k o) s

/-- The source sessions that take the writes of a volume: those whose switch snapshot lies below the stamp (R338). [DEDUCED: notes/assumptions/51.md] -/
def State.syncSessions (s : State) (vol stamp : Nat) : List Nat :=
  Tab.keysWhere s.ste.sessions fun _ e => e.sync && !e.isTarget && e.volume == vol && e.switching && decide (e.switchStamp < stamp) &&
    (e.state == .inSync || e.state == .held || e.state == .catchingUp)

/-- Ends the wait of completed commands for acknowledgements that no session still asks for; a forwarded command's RESULT goes out then (R338, R348). [DEDUCED: notes/assumptions/96.md] -/
def State.settleAcks (s : State) : State :=
  s.stk.slots.foldl (fun s p =>
    if isInbound p.2.ctx ∧ p.2.acks = [] then
      (match p.2.state with
      | .done r => s.finish p.1 r
      | _ => s)
    else s) s

/-- Releases the completions that wait for a session (R338, R339): those of the stamps that `p` accepts. [DEDUCED: notes/assumptions/51.md] -/
def State.releaseAcks (s : State) (k : Nat) (p : Nat → Bool) : State :=
  let drop (t : Task) : Task :=
    let left := t.acks.filter fun a => !(a.1 == k && p a.2)
    if left.length = t.acks.length then t else { t with acks := left, doneAt := max t.doneAt s.stk.order }
  let s := { s with stk := { s.stk with order := s.stk.order + 1, slots := s.stk.slots.map fun (e : Nat × Task) => (e.1, drop e.2) } }
  s.settleAcks

/-- A synchronous session becomes Broken (R339): held completions post, and nothing more is owed. -/
def State.breakSync (s : State) (k : Nat) : State :=
  let s := s.modSess k fun e => { e with state := .broken, out := [], outq := [], switching := false, switchStamp := 0, delta := none, started := false }
  (((s.releaseAcks k fun _ => true).raise F.STE_INT_STATUS_SYNC_BROKEN).alarm .ste .sessionBroken 0 [k])

/-- The body of HELLO or HELLO_ACK without its signature (Table 15.6). -/
def helloBody (version realm segment : Nat) (nonce pub : Bytes) : Bytes :=
  leBytes version 2 ++ leBytes realm 2 ++ leBytes segment 4 ++ nonce ++ pub

/-- Sends HELLO or HELLO_ACK with a fresh nonce, ephemeral key and signature (R332). The signature is what Hallmark gives, a value the model leaves open. [DEDUCED: notes/assumptions/49.md] -/
def State.sendHello (s : State) (k : Nat) (t : ReplType) (version : Nat) : State :=
  let (nonce, s) := s.random 32
  let (scalar, s) := s.random 48
  let (sig, s) := s.random 96
  let pub := Config.ecdh scalar []
  let e := s.sess k
  let s := s.setSess k { e with version := version, myNonce := nonce, myKey := scalar, seqOut := 0, seqIn := 0 }
  s.replClear k t (helloBody version e.realm e.segment nonce pub ++ sig)

/-- A source connects and sends HELLO with the highest version it has, 1.0 (R331, R333, R340). -/
def State.connect (s : State) (k : Nat) : State :=
  (s.modSess k fun e => { e with link := true, keyed := false, state := if e.state = .broken ∨ e.state = .held then e.state else .connecting }).sendHello k .hello 0x0100

/-- A connection is lost or refused (R334, R339, R340): a synchronous session that held completions breaks or holds by its policy, and a source connects again. -/
def State.replDown (s : State) (k : Nat) (again : Bool) : State :=
  let e := s.sess k
  if e.state = .free then s
  else
    let s := s.setSess k { e with link := false, keyed := false, outq := [], parts := [], out := e.out.map fun o => { o with seq := 0 }, started := false }
    let s := s.raise F.STE_INT_STATUS_SESSION_DOWN
    let was := e.state == .inSync || (e.state == .catchingUp && e.switching)
    let s := if e.sync && !e.isTarget && was then
        (if e.strict then s.modSess k fun e => { e with state := .held } else s.breakSync k)
      else if e.state = .held ∨ e.state = .broken then s
      else s.modSess k fun e => { e with state := .connecting }
    if again && !e.isTarget then s.connect k else s

/-- Sends ERROR with a code and closes the connection (R333, R334). ERROR is a sealed record once the session is keyed; before that it goes in the clear. -/
def State.replError (s : State) (k code : Nat) (again : Bool) : State :=
  let e := s.sess k
  let s := if !e.keyed then s.replClear k .error (leBytes code 2) else s.replPost k .error (leBytes code 2)
  s.replDown k again

/-- The fields of a record header, read from a record. -/
structure ReplHead where
  ok : Bool
  version : Nat
  type : Nat
  keyGen : Nat
  session : Nat
  len : Nat
  seq : Nat
deriving DecidableEq, Repr

/-- Reads a record header (Table 15.5): `ok` is its magic, its limits and its reserved bytes. -/
def replHead (b : Bytes) : ReplHead :=
  { ok := decide (32 ≤ b.length) && leAt b 0 4 == 0x434C5052 && allZero (slice b 24 8) && decide (leAt b 12 4 ≤ 1048576),
    version := leAt b 4 2, type := byteAt b 6, keyGen := byteAt b 7, session := leAt b 8 4, len := leAt b 12 4, seq := leAt b 16 8 }

/-- The body of a clear record of a type, when its header allows it (R334). -/
def clearBody (t : ReplType) (b : Bytes) : Option Bytes :=
  let h := replHead b
  if h.ok && h.type == t.code && h.keyGen == 0 && h.seq == 0 && b.length == 32 + h.len then some (b.drop 32) else none

/-- What the opening of a sealed record gives. -/
inductive Opened
  | body (b : Bytes)
  | sequence
  | tag
  | other
deriving DecidableEq, Repr

/-- Opens a sealed record of a type on a session (R334): a record of another type, session or version is not this row's; one out of sequence or whose tag fails is refused. -/
def State.openRecord (s : State) (k : Nat) (t : ReplType) (b : Bytes) : Opened :=
  let e := s.sess k
  let h := replHead b
  if !e.link || !e.keyed || !h.ok || h.type != t.code || h.session != e.id || h.version != e.version || b.length != 60 + h.len then .other
  else if h.seq ≠ e.seqIn + 1 then .sequence
  else match s.plainKey (handle e.realm 5 h.keyGen) with
    | none => .tag
    | some key =>
      let (p, g) := gcmOpen key (slice b 32 12) (b.take 32) (slice b 44 h.len)
      if g = slice b (44 + h.len) 16 then .body p else .tag

/-- Serves a sealed record of a type (R334): its body goes to `act`, and a record out of sequence or with a bad tag is answered with ERROR 3 or 4 and closes the connection. -/
def State.serve (s : State) (k : Nat) (t : ReplType) (b : Bytes) (act : Bytes → State → State) : State :=
  match s.openRecord k t b with
  | .other => s
  | .sequence => s.replError k 3 true
  | .tag => (s.alarm .ste .tagFail 0x0601 [k]).replError k 4 true
  | .body p => act p (s.modSess k fun e => { e with seqIn := e.seqIn + 1 })

/-- A new mark or epoch is durable (R235): the values it allows may be issued, and records that waited for one are sealed. -/
def execNonceHwmDurable (h : Nat) (s : State) : Out1 :=
  let s := s.nonceDurable h
  .next ((Tab.keysWhere s.ste.sessions fun _ e => e.realm == handleRealm h).foldl State.replDrain s)

/-- The keys that KEYS carries, wrapped under the transfer key (R332). -/
def State.keysBody (s : State) (k : Nat) : Bytes :=
  let r := (s.sess k).realm
  let xfer := (s.plainKey (handle r 8 0)).getD []
  [1, 2, 5].flatMap fun p =>
    let g := (s.currentGen r p).getD 0
    BitVec.ofNat 8 g :: aesWrap xfer ((s.plainKey (handle r p g)).getD [])

/-- Both heads hold a new key record, which becomes Current (R230). A new purpose-5 generation goes to the peers of the realm's source sessions in KEYS, and waiting records are sealed under it (R339). -/
def execKeyInstallConfirm (h : Nat) (s : State) : Out1 :=
  let s := s.keyConfirm h
  let keyed := Tab.keysWhere s.ste.sessions fun _ e => e.realm == handleRealm h && e.link && e.keyed
  if handlePurpose h = 5 then
    .next (keyed.foldl (fun s k => (if (s.sess k).isTarget then s else s.replClear k .keys (s.keysBody k)).replDrain k) s)
  else .next s

end Sys2Proof.Machine
end

