-- ==== Sys2Proof/Machine/Publish.lean ====
section
/-! DEFINITION. Publishing and applying pieces, grain jobs and the answers of Matrix (R105, R124, R148 to R152, R289). -/

namespace Sys2Proof.Machine

/-- Whether a piece stands where Table 6.4 asks for it (R124, R127, R129): in both galleys, in the own one, or on flash. -/
def State.pieceDurable (s : State) (p : Piece) : Bool :=
  p.dataIn && p.localDone && match s.ackWhere with
  | .both => p.mirrorAck
  | .own => true
  | .flash => p.logged == 3

/-- Whether both bundles are down while the partner lives, so that publications are held (R359). -/
def State.pubHeld (s : State) : Bool := s.paired && s.rd F.ANV_BUNDLE_STATE0 != 2 && s.rd F.ANV_BUNDLE_STATE1 != 2

/-- Sets COMMIT on a piece, with the commit notice to the partner (R124 steps 4 and 5). -/
def State.commitPiece (s : State) (d : Nat) : State :=
  match Tab.find s.gly.own d with
  | none => s
  | some p =>
    let s := s.setPiece d { p with commit := true }
    if s.mirrors then s.anvil .commit pairChan [d, p.gen] else s

/-- Whether every piece of a command may be published (R105, R303): GLY_CTRL.ENABLE is set, all are durable, and in rows 2 and 3 all their grains looked up. -/
def State.mayPublish (s : State) (ds : List Nat) : Bool :=
  s.on F.GLY_CTRL_ENABLE && ds.all fun d => (Tab.find s.gly.own d).any fun p =>
    !p.commit && s.pieceDurable p && (s.rowStatus.isNone || p.kind == .zeroes || p.kind == .deallocate || p.needs.all fun g => p.grains.any fun x => x.1 == g)

/-- Hands a published command to the synchronous sessions of its volume (R338); its completion waits for those that hold it. -/
def State.syncPublish (s : State) (n : Nat) (t : Task) : State :=
  let vol := (s.ns t.cmd.nsid).volume
  (s.syncSessions vol t.stamp).foldl (fun s k =>
    let held := (s.sess k).state == .inSync || (s.sess k).state == .held
    let s := s.modSess k fun e => { e with out := insertOut { stamp := t.stamp, pieces := t.pieces, sentAt := s.now } e.out }
    if held then s.modTask n fun t => { t with acks := t.acks ++ [(k, t.stamp)] } else s) s

/-- Ends a published command (R105, R112, R338): an inbound one whose acknowledgements are out keeps its slot until they arrive. -/
def State.finishPublished (s : State) (n : Nat) (t : Task) : State :=
  let acks := ((s.task? n).map (·.acks)).getD []
  let s := match t.fusedWith with
    | some c => s.finish c .success
    | none => s
  if isInbound t.ctx && !acks.isEmpty then
    ((s.freeToken n).release n).markDone n .success
  else s.finish n .success

/-- Publishes the command of a piece: all its pieces become visible together (R105). -/
def State.publishTask (s : State) (n : Nat) : State :=
  match s.task? n with
  | none => s
  | some t =>
    if t.state != .dispatched || !t.complete || t.pieces.isEmpty || !s.mayPublish t.pieces then s
    else
      let s := t.pieces.foldl State.commitPiece s
      let s := (s.syncPublish n t).finishPublished n t
      (s.syncSessions (s.ns t.cmd.nsid).volume t.stamp).foldl State.syncSend s

/-- The lowest SEQ among the pieces of a session that are not published, or one past the last record. -/
def State.unpublishedSeq (s : State) (k : Nat) : Nat :=
  s.gly.own.foldl (fun a p => match p.2.repl with
    | some (j, q) => if j = k ∧ !p.2.commit then min a q else a
    | none => a) ((s.sess k).seqIn + 1)

/-- The channel number under which the pieces of replica indexes stand, past those of the 16 sessions (R336). [DEDUCED: notes/assumptions/133.md] -/
def indexChan : Nat := 16

/-- Publishes a piece of an internal channel (R337, R338): the pieces of a segment together, once its digest has matched, with SEGMENT_ACK; a piece of a WRITE by itself, with WRITE_ACK for all records below the first one not published; a bucket of a replica index by itself (R336). [DEDUCED: notes/assumptions/133.md] -/
def State.publishRepl (s : State) (d k : Nat) : State :=
  let e := s.sess k
  if k = indexChan then (if s.mayPublish [d] then s.commitPiece d else s) else
  match e.delta with
  | some x =>
    if x.pieces.contains d then
      (match x.ready with
      | some n =>
        if s.mayPublish x.pieces then
          let s := x.pieces.foldl State.commitPiece s
          let s := s.modSess k fun e => { e with segment := n, delta := some { x with pieces := [], ready := none, exts := [], digests := [], have_ := [], grains := [], bodies := [] } }
          s.replPost k .segmentAck (leBytes n 4 ++ [0#8])
        else s
      | none => s)
    else s
  | none =>
    if s.mayPublish [d] then
      let s := s.commitPiece d
      s.replPost k .writeAck (leBytes (s.unpublishedSeq k - 1) 8)
    else s

/-- PIECE_PUBLISH (R105, R110, R124): the command of the piece is published as soon as every piece of it is durable under Table 6.4. -/
def execPiecePublish (d : Nat) (s : State) : Out1 :=
  if s.pubHeld then .next s
  else match Tab.find s.gly.own d with
    | none => .next s
    | some p =>
      match p.repl, p.task with
      | some (k, _), _ => .next (s.publishRepl d k)
      | none, some n => .next (s.publishTask n)
      | none, none => .next s

/-- Whether two pieces touch a common grain of one volume. -/
def State.sharesGrain (s : State) (p q : Piece) : Bool :=
  s.pieceVolNum p == s.pieceVolNum q && p.allGrains.any fun g => q.allGrains.contains g

/-- Whether R107 and the hold of a snapshot allow a piece to be applied (R107, R328): every overlapping earlier entry is applied, no Read or CAW lock below it overlaps, no earlier overlapping write is still unpublished, and no snapshot of its volume with a lower stamp is being taken. -/
def State.mayApply (s : State) (d : Nat) (p : Piece) : Bool :=
  (s.gly.own.all fun q => q.1 == d || q.2.applied || decide (p.rank ≤ q.2.rank) || !s.sharesGrain p q.2) &&
  (p.isForeign || !(s.chs.locks.any fun l => decide (l.2.stamp < p.stamp) && l.2.nsid == p.nsid && decide (l.2.slba < p.slba + p.nlb) && decide (p.slba < l.2.slba + l.2.nlb))) &&
  !(s.ste.snaps.any fun w => w.source == s.pieceVolNum p && decide (w.stamp < p.stamp) && !p.isForeign)

/-- The application tag that a map extent keeps for a grain without trailer (Table 7.7): that of its first block under PI type 1. -/
def State.tagOf (s : State) (p : Piece) (g : Nat) : Nat :=
  let v := s.pieceVol p
  if v.piType ≠ 1 then 0
  else
    let lba := g * 8192 / lbafData p.lbaf
    if p.covers lba then
      (match p.kind with
      | .zeroes => p.tag
      | .deallocate => 0
      | _ => appTagOf v (p.blockMeta lba))
    else (Tab.get {} v.map g).tag

/-- What a piece makes of each grain index that it touches: the new cell, and whether the range is removed (R288). -/
def State.newCells (s : State) (p : Piece) : List (Nat × Cell × Bool) :=
  p.allGrains.map fun g =>
    if p.zeroGrains.contains g then
      (g, ⟨0, if p.kind = .zeroes then p.tag else if p.kind = .deallocate then 0 else s.tagOf p g⟩, p.kind == .deallocate)
    else (g, ⟨((p.grains.find? fun x => x.1 == g).map Prod.snd).getD 0, s.tagOf p g⟩, false)

/-- Cells as EXTENT records: neighbours with running grain IDs, equal tags and equal flags make one (R288). -/
def extentRecs (vol : Nat) (cells : List (Nat × Cell × Bool)) : List JRec :=
  let runs := cells.foldl (fun (acc : List (Nat × Nat × Cell × Bool)) c =>
    match acc with
    | (g, n, x, r) :: rest =>
      if c.1 = g + n ∧ c.2.1.tag = x.tag ∧ c.2.2 = r ∧ (x.gid = 0 ∧ c.2.1.gid = 0 ∨ x.gid ≠ 0 ∧ c.2.1.gid = x.gid + n) then (g, n + 1, x, r) :: rest
      else (c.1, 1, c.2.1, c.2.2) :: acc
    | [] => [(c.1, 1, c.2.1, c.2.2)]) []
  runs.reverse.map fun r => .extent vol r.1 r.2.1 r.2.2.1.tag (r.2.2.1.gid == 0) r.2.2.2 r.2.2.1.gid

/-- How often each grain ID stands in a list. -/
def tally (l : List Nat) : List (Nat × Nat) := (l.eraseDups).map fun g => (g, l.count g)

/-- The grain IDs of the shared pages that a piece changes: a page that another directory names is copied, and the copy names each of them once more (R326). -/
def State.copiedPages (s : State) (p : Piece) : List Nat :=
  let vol := s.pieceVolNum p
  let v := s.pieceVol p
  let pages := (p.allGrains.map fun g => v.pageAt g).eraseDups
  (pages.filter fun x => s.pageShared vol x.2.1).flatMap fun x => (v.cellsFrom x.1 x.2.2).filterMap fun c => if c.2.gid = 0 then none else some c.2.gid

/-- A new piece of an internal channel under the next stamp (R336 to R338). [DEDUCED: notes/assumptions/133.md] -/
def State.newPiece (s : State) (p : Piece) : Option (Nat × State) :=
  match s.freeDesc with
  | none => none
  | some d =>
    let gen := (Tab.get 0 s.gly.gens d + 1) % 2 ^ 32
    let st := s.rd F.CHS_LAST_STAMP_STAMP + 1
    let s := (s.wr F.CHS_LAST_STAMP_STAMP st).stampMark
    let s := { s with gly := { s.gly with own := Tab.put s.gly.own d { p with stamp := st, gen := gen }, gens := Tab.set 0 s.gly.gens d gen } }
    some (d, s.landPiece d)

/-- Changes a bucket of a realm's replica index and writes it to the index's volume on an internal channel (R193, R336). [DEDUCED: notes/assumptions/133.md] -/
def State.putBucket (s : State) (realm num : Nat) (b : Bucket) : State :=
  let vol := ((s.ste.sessions.find? fun x => x.2.realm == realm && x.2.indexVol != 0).map fun x => x.2.indexVol).getD 0
  let s : State := { s with ste := { s.ste with index := Tab.set {} s.ste.index (realm * 2 ^ 40 + num) b } }
  match Tab.find s.vols vol with
  | none => s
  | some v =>
    let p : Piece := { stamp := 0, nsid := 0, cls := v.cls, owner := s.head, kind := .write, nlb := 1, slba := num, slotCnt := slotsFor v.lbaf 1, lbaf := v.lbaf,
                       data := slotsOfBlocks v [(bucketBytes num b.seq 0 b.entries, [])], volume := vol, repl := some (indexChan, 0) }
    ((s.newPiece p).map Prod.snd).getD s

/-- Inserts a list digest into the replica index of a realm (R336, R337): an insert into a full bucket of 84 entries is dropped and counted. -/
def State.replicaInsert (s : State) (realm : Nat) (fp : Bytes) (gid : Nat) : State :=
  let n := Tab.get 0 s.ste.indexBuckets realm
  if n = 0 ∨ fp.isEmpty ∨ gid = 0 then s
  else
    let key := realm * 2 ^ 40 + leAt fp 8 8 % n
    let b := Tab.get {} s.ste.index key
    let old := b.entries.filter fun e => e.fp != fp
    if 84 ≤ old.length then s.inc F.STE_INDEX_CNT_DROPPED
    else s.putBucket realm (leAt fp 8 8 % n) { b with entries := old ++ [⟨fp, gid, realm, 3⟩] }

/-- Steps 2 and 3 of Table 13.8 for a piece whose REF changes are made: the EXTENT batch, with the grains it replaces to drop once the batch is durable. LBAs written again leave the lost-extent list (R305), and the list digest of a replicated grain enters the replica index. -/
def State.applyExtents (s : State) (d : Nat) : State :=
  match Tab.find s.gly.own d with
  | none => s
  | some p =>
    if !p.applying || p.refs != 0 then s
    else
      let v := s.pieceVol p
      let cells := s.newCells p
      let drops := cells.filterMap fun c => let old := (Tab.get {} v.map c.1).gid; if old ≠ 0 ∧ old ≠ c.2.1.gid then some old else none
      let s := s.setPiece d { p with applying := false, drops := drops, journalled := false }
      let s := if p.isForeign then s else { s with lost := s.lost.flatMap fun (e : LostExtent) => if e.stamp < p.stamp then e.without p.nsid p.slba p.nlb else [e] }
      let s := s.journal (extentRecs (s.pieceVolNum p) cells) [.applied d]
      s.replicaInsert v.realm p.listFp ((p.grains.head?.map Prod.snd).getD 0)

/-- PIECE_APPLY (R107, R150, R289): step 1 of Table 13.8 for a placed piece that nothing holds back. Grain IDs that the map already holds there give their pins back. -/
def execPieceApply (d : Nat) (s : State) : Out1 :=
  match Tab.find s.gly.own d with
  | none => .next s
  | some p =>
    let placed := p.needs.all fun g => (p.grains.find? fun x => x.1 == g).any fun x => s.grainPlaced x.2
    if !p.commit || !p.dataIn || !p.digestOk || s.changesMap d p || !placed || p.verify != [] || s.journalFull || !s.mayApply d p then .next s
    else
      let v := s.pieceVol p
      let named := (s.newCells p).filter fun c => c.2.1.gid != 0
      let fresh := named.filter fun c => (Tab.get {} v.map c.1).gid != c.2.1.gid
      let same := named.filter fun c => (Tab.get {} v.map c.1).gid == c.2.1.gid
      let adds := tally ((fresh.map fun c => c.2.1.gid) ++ s.copiedPages p)
      let mine := adds.filter fun a => s.holdsHalf (gidHalf a.1)
      let theirs := adds.filter fun a => !s.holdsHalf (gidHalf a.1)
      let s := s.setPiece d { p with applying := true, refs := theirs.length }
      let s := mine.foldl (fun s a => s.addRef a.1 a.2) s
      let s := named.foldl (fun s c => if s.holdsHalf (gidHalf c.2.1.gid) then s.unpinPiece c.2.1.gid s.head d else s) s
      let s := theirs.foldl (fun s a => s.query { op := 3, tag := 0, gid := a.1, old := a.2, piece := some (d, p.gen) }) s
      let s := same.foldl (fun s c => if s.holdsHalf (gidHalf c.2.1.gid) then s else s.query { op := 4, tag := 0, gid := c.2.1.gid }) s
      .next (s.applyExtents d)

/-- The response to a REF query lets the piece it served go on, one to a MOVE query a descaling or reshaping sheet, and one to a FETCH_FP query the suspect step of a sort (R165). -/
def State.afterResponse (s : State) (q : Query) (r : MtxReq) : State :=
  match q.op with
  | 3 => (match s.queryPiece q with
    | some d => s.applyExtents d
    | none => s)
  | 5 => (s.descaleStep3).passBoundary
  | 6 => s.suspectAnswer q.gid (if r.op = 5 then some r.fp else none)
  | _ => s

/-- MTX_RESPONSE (R198). -/
def execMtxResponse (resp : Bytes) (s : State) : Out1 :=
  .next (s.hear 0x40 fun s =>
    let q := s.mtx.outstanding.find? fun (x : Query) => x.tag == (mtxReq resp).tag
    let s := s.mtxResponse resp
    match q with
    | some q => s.afterResponse q (mtxReq resp)
    | none => s)

/-- The refine of one grain ends: its sort is packed into the refine sheet of its class (R148, R150, R298). None while it cannot be. [DEDUCED: notes/assumptions/55.md] -/
def State.refineGrain (s : State) (d g : Nat) : Option State :=
  match Tab.find s.gly.own d with
  | none => none
  | some p =>
    match p.grains.find? fun x => x.1 == g with
    | none => none
    | some (_, gid) =>
      if !p.digestOk ∨ !s.refineTakes ∨ (s.packing.any fun x => x.gid == gid) ∨ !((s.grain? gid).any fun e => e.placer == some s.head) then none
      else match s.sortOf p g gid with
        | none => none
        | some b => (s.packSort .refine (s.pieceVol p).cls gid .place b).map Prod.snd

/-- The stages that a job names as a mask over the station types, for lines of kind 5 (R148). -/
def stagesOf (mask : Nat) : List Station :=
  (([.punch, .swageC, .swageE, .temper, .proof, .imposition] : List Station).zipIdx).filterMap fun t => if bitOf mask t.2 then some t.1 else none

/-- The stages that a job of a line uses (R148). -/
def RunLine.jobStages (l : RunLine) (mask : Nat) : List Station := if l.kind = 5 then stagesOf mask else grainStages l.kind


/-- The direction in which a line kind opens its Proof streams (Table 7.1). -/
def directionOf : Nat → Direction
  | 1 => .append
  | 2 => .checkStrip
  | _ => .checkKeep

/-- Opens the station stream of a job that has reached the Proof stage of its line (R161). -/
def State.laneOpen (s : State) (l : RunLine) (c : Chan) : State :=
  if c.kind = Kind.proof then s.stationOpen c.index (some ⟨.crc64, directionOf l.kind⟩) else s

/-- A job takes the lowest idle lane of its stage in its cluster (R148); while every lane is busy it waits at the station's input. [DEDUCED: notes/assumptions/37.md] -/
def State.jobStage (s : State) (l : RunLine) (job : Nat) (j : GrainJob) : State :=
  match j.left with
  | [] => { s with prf := { s.prf with jobs := Tab.put s.prf.jobs job j } }
  | t :: _ =>
    match (l.lanesIn t j.cluster).find? fun n => s.laneIdle t n with
    | none => { s with prf := { s.prf with jobs := Tab.put s.prf.jobs job j } }
    | some n =>
      let c : Chan := ⟨t.kind, n⟩
      State.laneOpen { s with prf := { s.prf with jobs := Tab.put s.prf.jobs job { j with lane := some c } } } l c

/-- Places a grain job (R148): the least loaded cluster that holds every stage it uses takes it; with none it waits at its line's input, and 0x0A02 is raised. It waits there too while its line drains (R52). [DEDUCED: notes/assumptions/37.md] -/
def State.jobPlace (s : State) (job line mask d g : Nat) (l : RunLine) : State :=
  let st := l.jobStages mask
  if l.draining then { s with prf := { s.prf with held := Tab.put s.prf.held job line } }
  else match s.leastLoaded (l.clusters st) with
  | none =>
    let s := s.alarm .for_ .classShort 0x0A02 [line]
    { s with prf := { s.prf with held := Tab.put s.prf.held job line } }
  | some c => State.jobStage { s with prf := { s.prf with held := Tab.erase s.prf.held job } } l job { line := line, cluster := c, left := st, piece := d, grain := g }

/-- A placed job leaves its cluster. [DEDUCED: notes/assumptions/37.md] -/
def State.jobEnd (s : State) (job : Nat) : State := { s with prf := { s.prf with jobs := Tab.erase s.prf.jobs job } }

/-- What a job that has run every stage leaves (R148, R150, R183): a fingerprint job marks an all-zero grain, and a refine job packs the grain's sort, for which it waits while it cannot be packed. -/
def State.jobDone (s : State) (l : RunLine) (job : Nat) (j : GrainJob) : State :=
  match l.kind with
  | 0 => (s.markZero j.piece j.grain).jobEnd job
  | 1 => (match s.refineGrain j.piece j.grain with
    | some s => s.jobEnd job
    | none => s)
  | _ => s.jobEnd job

/-- The lane of a job has run its stage: its stream closes, and the job goes to the next stage or ends. -/
def State.jobNext (s : State) (l : RunLine) (job : Nat) (j : GrainJob) (c : Chan) : State :=
  let s := if c.kind = Kind.proof then s.stationOpen c.index none else s
  let j := { j with left := j.left.drop 1, lane := none }
  let s := { s with prf := { s.prf with jobs := Tab.put s.prf.jobs job j } }
  if j.left.isEmpty then s.jobDone l job j else s.jobStage l job j

/-- GRAIN_JOB_PLACE (R148, R150 to R152): a new job number places a job for grain `g` of piece `d`, and the number of a placed job takes it one stage on, to its effect behind the last stage. A job whose cluster has no lane left for its stage is placed again. Kinds 4 and 6 are not placed by this rule. [DEDUCED: notes/assumptions/37.md] -/
def execGrainJobPlace (job line mask d g : Nat) (s : State) : Out1 :=
  match Tab.find s.prf.jobs job with
  | none =>
    (match s.line line with
    | none => .next s
    | some l => if l.kind = 4 ∨ l.kind = 6 then .next s else .next (s.jobPlace job line mask d g l))
  | some j =>
    match s.line j.line with
    | none => .next (s.jobEnd job)
    | some l =>
      match j.lane, j.left with
      | some c, _ => .next (s.jobNext l job j c)
      | none, [] => .next (s.jobDone l job j)
      | none, t :: _ =>
        if (l.lanesIn t j.cluster).isEmpty then .next ((s.jobEnd job).jobPlace job j.line mask j.piece j.grain l)
        else .next (s.jobStage l job j)

/-- REFINE_DIGEST_MISMATCH (R150, R159): the slots of a piece read out as `read`, whose CRC-64 is not the piece's DIGEST. The partner's mirror copy takes their place, and the piece is refined again, with an alarm. In Solo, or when the copy fails as well, the piece is lost and its LBAs are listed. -/
def execRefineDigestMismatch (d : Nat) (read copy : Bytes) (s : State) : Out1 :=
  match Tab.find s.gly.own d with
  | none => .next s
  | some p =>
    if crc64 read = p.digest ∨ !p.dataIn ∨ s.changesMap d p then .next s
    else
      let s := (s.unrefine d p).alarm .gly .galleyLost 0x0404 [d]
      if s.fm.mode ≠ .solo ∧ crc64 copy = p.digest then .next (s.setPiece d { p with data := copy, grains := [], verify := [] })
      else .next ((s.setPiece d { p with grains := [], verify := [] }).losePiece d)

end Sys2Proof.Machine
end

