-- ==== Sys2Proof/Machine/Family.lean ====
section
/-! DEFINITION. Volume families: snapshots, clones and deletion walks (R323 to R330). -/

namespace Sys2Proof.Machine

/-- Volumes of a family, and snapshots of it that are being taken. -/
def State.familySize (s : State) (fam : Nat) : Nat :=
  Tab.count s.vols (fun _ v => v.family == fam) + (s.ste.snaps.filter fun w => (Tab.get {} s.vols w.source).family == fam).length

/-- Why a family cannot take one more volume (R323): RESULT 1 at 256 volumes, 2 at 1,048,576 of the pair. -/
def State.familyFull (s : State) (fam : Nat) : Option Nat :=
  if 256 ≤ s.familySize fam then some 1
  else if 1048576 ≤ s.vols.length + s.ste.snaps.length then some 2
  else none

/-- Where a family command for a volume runs (R327): here, at the partner, or nowhere while its namespace is moving. A family without a namespace runs at its holder. -/
def State.familyHome (s : State) (v : Volume) : Option Bool :=
  let n := if v.nsid ≠ 0 then v.nsid else (Tab.get {} s.vols v.family).nsid
  let here := v.holder == s.head || !s.paired
  if n = 0 then some here
  else match (s.ns n).state with
    | .loc => some true
    | .remote => some false
    | .unused => some here
    | _ => none

/-- Step 1 of Table 15.3: an internal snapshot command is stamped, and step 2's hold begins. Answers the number of the new volume. -/
def State.snapStart (s : State) (source : Nat) (why : SnapFor) : Option (Nat × State) :=
  match s.freeVolume with
  | none => none
  | some num =>
    let st := s.rd F.CHS_LAST_STAMP_STAMP + 1
    let s := (s.wr F.CHS_LAST_STAMP_STAMP st).stampMark
    let w : SnapWait := { volume := num, source := source, nsid := (Tab.get {} s.vols source).nsid, stamp := st, why := why }
    some (num, { s with ste := { s.ste with snaps := s.ste.snaps ++ [w] } })

/-- Whether step 3 of Table 15.3 is done: every write-mode command below the stamp is published or discarded, and every published piece of the volume below it is applied. -/
def State.snapQuiet (s : State) (w : SnapWait) : Bool :=
  s.flushReady w.nsid w.stamp && s.gly.own.all fun p => s.pieceVolNum p.2 != w.source || (!p.2.isForeign && decide (w.stamp < p.2.stamp)) || p.2.applied

/-- Replaces a snapshot being taken. -/
def State.setSnap (s : State) (w : SnapWait) : State :=
  { s with ste := { s.ste with snaps := s.ste.snaps.map fun (x : SnapWait) => if x.volume = w.volume then w else x } }

/-- What a finished snapshot serves: a command, a delta to it, or the answer to a source. -/
def State.snapServes (s : State) (w : SnapWait) (delta : Nat → Nat → State → State) (ack : Nat → Nat → Nat → State → State) : State :=
  match w.why with
  | .cmd => s.steDone none 0 w.volume
  | .partner f => s.steDone (some f) 0 w.volume
  | .deltaTo k => delta k w.volume s
  | .ack k id => ack k id w.volume s
  | .mark _ _ => s

/-- One step of a snapshot (Table 15.3, steps 3 to 6): the flush starts when the volume is quiet, its checkpoint lets the VOLUME record be written, and the record's durability ends the hold. -/
def State.snapStep (s : State) (w : SnapWait) (serve : SnapWait → State → State) : State :=
  match w.seqEnd, w.record with
  | none, _ => if s.snapQuiet w then (s.setSnap { w with seqEnd := some (s.rd F.HTH_JOURNAL_SEQ) }).flushStart else s
  | some e, none =>
    if e ≤ s.hth.journal.ckpt.seqEnd ∧ s.hth.journal.flush.isNone then
      let v := { Tab.get {} s.vols w.source with nsid := 0, snapshot := true, parent := w.source, holder := s.head, stamp := w.stamp, walk := 0, fwdId := 0, fwdHead := 0 }
      let s := s.journal [.volume w.volume v 0 0]
      s.setSnap { w with record := some s.hth.journal.seq }
    else s
  | some _, some q =>
    if q ≤ s.rd F.HTH_JOURNAL_SEQ then
      serve w { s with ste := { s.ste with snaps := s.ste.snaps.filter fun (x : SnapWait) => x.volume != w.volume } }
    else s

/-- Ends a command of STE_CMD at once with a RESULT. -/
def State.steRefuse (s : State) (fwd : Option Nat) (result : Nat) : State := s.steDone fwd result 0

/-- Snapshot (Table 15.2, R328): of a live writable volume with a namespace. -/
def State.cmdSnapshot (s : State) (arg : Nat) (fwd : Option Nat) : State :=
  let n := arg % 2 ^ 24
  match Tab.find s.vols n with
  | none => s.steRefuse fwd 3
  | some v =>
    if v.state ≠ .live ∨ v.snapshot ∨ v.nsid = 0 then s.steRefuse fwd 3
    else match s.familyFull v.family with
      | some r => s.steRefuse fwd r
      | none => ((s.snapStart n (match fwd with | some f => .partner f | none => .cmd)).map Prod.snd).getD (s.steRefuse fwd 2)

/-- Clone (Table 15.2, R329): one VOLUME record takes the snapshot's roots, and the namespace with the given NSID is Local here. -/
def State.cmdClone (s : State) (arg : Nat) (fwd : Option Nat) : State :=
  let src := arg % 2 ^ 24
  let nsid := bits arg 39 24
  match Tab.find s.vols src with
  | none => s.steRefuse fwd 3
  | some v =>
    if v.state ≠ .live ∨ !v.snapshot then s.steRefuse fwd 3
    else if nsid = 0 ∨ 16384 < nsid ∨ (s.ns nsid).state ≠ .unused then s.steRefuse fwd 4
    else match s.familyFull v.family, s.freeVolume with
      | some r, _ => s.steRefuse fwd r
      | none, none => s.steRefuse fwd 2
      | none, some num =>
        let c := { v with nsid := nsid, snapshot := false, parent := src, holder := s.head, walk := 0, lbas := if v.lbas = 0 then (Tab.get {} s.vols v.family).lbas else v.lbas }
        (s.journal [.volume num c 0 0] [.family fwd num]).ownNs nsid num v.cls

/-- Delete (Table 15.2, R330): a snapshot, or a volume without a namespace, becomes Deleting and its walk starts. -/
def State.cmdDelete (s : State) (arg : Nat) (fwd : Option Nat) : State :=
  let n := arg % 2 ^ 24
  match Tab.find s.vols n with
  | none => s.steRefuse fwd 3
  | some v =>
    if v.state ≠ .live ∨ v.nsid ≠ 0 then s.steRefuse fwd 3
    else
      let s := s.journal [.volume n { v with state := .deleting } 0 0] [.family fwd 0]
      { s with ste := { s.ste with walks := s.ste.walks ++ [n] } }

/-- The family command of a code. -/
def State.familyCmd (s : State) (code arg : Nat) (fwd : Option Nat) : State :=
  match code with
  | 1 => s.cmdSnapshot arg fwd
  | 2 => s.cmdClone arg fwd
  | _ => s.cmdDelete arg fwd

/-- Runs a family command of STE_CMD (R327): at once, at the partner, or, while the namespace is moving, when the row is issued again after the move. Nothing starts while ENABLE is 0 or a command runs. [DEDUCED: notes/assumptions/56.md] -/
def State.familyRun (s : State) (code : Nat) : State :=
  let busy := s.on F.STE_CMD_BUSY && s.ste.waiting != some code
  if busy || !s.on F.STE_CTRL_ENABLE then s
  else
    let arg := s.rd F.STE_ARG0_ARG
    let s := { (s.wr F.STE_CMD_BUSY 1) with ste := { s.ste with waiting := none } }
    match s.familyHome (Tab.get {} s.vols (arg % 2 ^ 24)) with
    | none => { s with ste := { s.ste with waiting := some code } }
    | some true => s.familyCmd code arg none
    | some false =>
      let id := s.chs.nextFwd + 1
      ({ s with chs := { s.chs with nextFwd := id } }).anvil .fwdCmd 65520 [id, code, arg]

/-- STE_CMD 1 (R328). -/
def execSteSnapshot (s : State) : Out1 := .next (s.familyRun 1)

/-- STE_CMD 2 (R329). -/
def execSteClone (s : State) : Out1 := .next (s.familyRun 2)

/-- STE_CMD 3 (R330). -/
def execSteDelete (s : State) : Out1 := .next (s.familyRun 3)

/-- Drops one reference of each grain ID given, at its holder (R188). -/
def State.dropRefs (s : State) (gs : List Nat) : State :=
  gs.foldl (fun s g => if s.holdsHalf (gidHalf g) then s.addRef g (-1) else s.query { op := 3, tag := 0, gid := g, old := 2 ^ 32 - 1 }) s

/-- The grain IDs that one page of a volume names, once for each extent cell. -/
def Volume.pageGrains (v : Volume) (lo : Nat) (next : Option Nat) : List Nat :=
  (v.cellsFrom lo next).filterMap fun c => if c.2.gid = 0 then none else some c.2.gid

/-- Takes the first page out of a volume's directory; a page that no other directory names releases its grains (R326, R330). -/
def State.releasePage (s : State) (n : Nat) : State :=
  let v := Tab.get {} s.vols n
  match v.pages with
  | [] => s
  | (lo, id) :: rest =>
    let next := rest.head?.map Prod.fst
    let gs := if s.pageShared n id then [] else v.pageGrains lo next
    let v := { v with pages := rest, map := v.map.filter fun c => !(decide (lo ≤ c.1) && (match next with | some x => decide (c.1 < x) | none => true)), walk := v.walk + 1 }
    ({ s with vols := Tab.put s.vols n v } : State).dropRefs gs

/-- DELETE_WALK_BATCH (R330): progress is recorded and mirrored, then the next page in logical page order is released. At the end the volume is Free and the reference audit runs. DELETE_PAUSE stops the walk. -/
def execDeleteWalkBatch (n : Nat) (s : State) : Out1 :=
  let v := Tab.get {} s.vols n
  if v.state ≠ .deleting ∨ !s.ste.walks.contains n ∨ s.on F.STE_CTRL_DELETE_PAUSE then .next s
  else if v.pages.isEmpty then
    let s := s.journal [.volume n { v with state := .free } 0 0]
    let s := { s with ste := { s.ste with walks := s.ste.walks.filter (· != n) } }
    .next (s.raise F.STE_INT_STATUS_DELETE_DONE).auditStart
  else
    let s := if s.mirrors then s.ringState 1 n else s
    .next (s.releasePage n)

/-- STE_CTRL.DELETE_PAUSE (R330). -/
def execDeletePauseWrite (v : Bool) (s : State) : Out1 := .next (s.wr F.STE_CTRL_DELETE_PAUSE (bit v))

end Sys2Proof.Machine
end

