-- ==== Sys2Proof/Machine/Gymo.lean ====
section
/-! DEFINITION. The Gymo media protocol: commands, completions, timeouts, admission and removal of modules, and the seat claim (R306 to R322). -/

namespace Sys2Proof.Machine

/-- Halted-safe (R318, R354): the head raises no further command, its ports park, and ALIVE stops. For a head that lab mode holds in Halted the mode code stays, and SAFE is set (R439). [DEDUCED: notes/assumptions/72.md] -/
def State.haltSafe (s : State) : State :=
  if s.fm.mode = .halted ∧ s.fm.safe then s
  else
    let s : State := if s.fm.mode = .halted then { s with fm := { s.fm with safe := true } } else s.toMode .halted true
    let s := { s with stk := { s.stk with linksDown := true }, gmp := { s.gmp with seatAt := none }, fm := { s.fm with pins := { s.fm.pins with alive := false, frontTx := false, backTxGated := true } } }
    s.alarm .for_ .modeChange 0 [11]

/-- IDENTIFY (Table 14.4): the module writes its 4,096-byte page. -/
def execGmpIdentify (m port : Nat) (media : MediaResult) (s : State) : Out1 :=
  .next (s.gmpRow m port { op := Gmp.identify, length := 4096 } [] media)

/-- HELLO's 64-byte block (Table 14.4). -/
def helloBlock (m head version : Nat) : Bytes :=
  leBytes Config.windowBase 8 ++ leBytes (Config.ringBase m) 8 ++ leBytes 4096 4 ++ leBytes head 1 ++ leBytes version 2 ++ zeros 41

/-- HELLO (R319): it binds the port to a head index and negotiates the version; this head offers 1.1. -/
def execGmpHello (m port version : Nat) (media : MediaResult) (s : State) : Out1 :=
  .next (s.gmpRow m port { op := Gmp.hello } (helloBlock m port (if port = s.head then 0x0101 else version)) media)

/-- HEALTH (Table 14.4): temperature and failed plates. -/
def execGmpHealth (m port : Nat) (media : MediaResult) (s : State) : Out1 :=
  .next (s.gmpRow m port { op := Gmp.health } [] media)

/-- OWNER (Table 14.4). -/
def execGmpOwner (m port plate : Nat) (media : MediaResult) (s : State) : Out1 :=
  .next (s.gmpRow m port { op := Gmp.ownerOp, plate := plate } [] media)

/-- What a READ's completion is for. -/
def ReadFor.use : ReadFor → GmpUse
  | .plain => .plain
  | .grain g => .readGrain g
  | .page a => .readPage a

/-- READ (Table 14.4); a READ of a grain's sort or of a metadata page names it, so that its completion checks it. -/
def execGmpRead (m port plate offset length : Nat) (what : ReadFor) (media : MediaResult) (s : State) : Out1 :=
  let c : GmpCmd := { op := Gmp.read, plate := plate, offset := offset, length := length }
  if port = s.head then .next (s.gmpSend m c [] what.use media)
  else .next (s.gmpRow m port c [] media)

/-- WRITE (Table 14.4): one chunk at a position written at most once between erases. -/
def execGmpWrite (m port plate offset : Nat) (data : Bytes) (media : MediaResult) (s : State) : Out1 :=
  .next (s.gmpRow m port { op := Gmp.write, plate := plate, offset := offset, length := data.length } data media)

/-- ERASE (Table 14.4). -/
def execGmpErase (m port plate : Nat) (media : MediaResult) (s : State) : Out1 :=
  .next (s.gmpRow m port { op := Gmp.erase, plate := plate } [] media)

/-- CLAIM (R314): of a plate, or of the seat with FLAGS bit 0. -/
def execGmpClaim (m port plate expect : Nat) (seat : Bool) (media : MediaResult) (s : State) : Out1 :=
  .next (s.gmpRow m port { op := Gmp.claim, flags := bit seat, plate := plate, expect := expect } [] media)

/-- FENCE (R316): FLAGS bit 0 fences the other port, 0 releases it. -/
def execGmpFence (m port : Nat) (on : Bool) (media : MediaResult) (s : State) : Out1 :=
  .next (s.gmpRow m port { op := Gmp.fence, flags := bit on } [] media)

/-- SET_ANCHOR (Table 14.4): the anchor record of the port's head index, with a module number when one is given. [DEDUCED: notes/assumptions/41.md] -/
def execGmpSetAnchor (m port gen a b : Nat) (number : Option Nat) (media : MediaResult) (s : State) : Out1 :=
  let r : AnchorRec := ⟨gen, a, b⟩
  .next (s.gmpRow m port { op := Gmp.setAnchor, length := 64 } (overlay r.bytes 16 (leBytes ((number.map (· + 1)).getD 0) 1)) media)

/-- FW_DOWNLOAD (Table 14.4). -/
def execGmpFwDownload (m port offset : Nat) (data : Bytes) (media : MediaResult) (s : State) : Out1 :=
  .next (s.gmpRow m port { op := Gmp.fwDownload, offset := offset, length := data.length } data media)

/-- FW_ACTIVATE (R322). -/
def execGmpFwActivate (m port : Nat) (media : MediaResult) (s : State) : Out1 :=
  .next (s.gmpRow m port { op := Gmp.fwActivate } [] media)

/-- The error class of a status (Table 14.5); none for Success and Erased. -/
def errorClass (st : Status) : Option Nat :=
  match st with
  | 0x0301 => some 0 | 0x0302 => some 1 | 0x0304 => some 2 | 0x0305 => some 3 | 0x0306 => some 4 | 0x0307 => some 5 | 0x0308 => some 5
  | 0x0309 => some 6 | 0x030A => some 6 | 0x030B => some 7 | _ => none

/-- Counts an error of a class for a module and for the array (R304, Table 13.16). -/
def State.countError (s : State) (m cls : Nat) : State :=
  let bump (h : Health) : Health := { h with errors := Tab.modify 0 h.errors cls (· + 1) }
  { s with hth := { s.hth with health := Tab.modify {} s.hth.health m bump, array := bump s.hth.array } }

/-- Bytes written to plates (Table 13.16). -/
def State.countWritten (s : State) (m n : Nat) : State :=
  let bump (h : Health) : Health := { h with written := h.written + n }
  { s with hth := { s.hth with health := Tab.modify {} s.hth.health m bump, array := bump s.hth.array } }

/-- Fences every admitted module (R317 step 2). -/
def State.fenceAll (s : State) : State :=
  s.admitted.foldl (fun s m => (s.modModule m fun e => { e with fenceAt := s.now }).gmpSend m { op := Gmp.fence, flags := 1 } [] .fence) s

/-- Claims the plates of the partner's open sheets (R317 step 3, R315). -/
def State.claimOpens (s : State) : State :=
  (Tab.keysWhere s.hth.sheets fun _ e => e.state == .opened && e.head == s.peer).foldl (fun s id => (s.sheet id).members.foldl State.claimPlate s) s

/-- Sends the seat CLAIM of a takeover to the next admitted module above `after` (R317 step 1). After the last one the pass starts again with an alarm; with no module admitted it waits. -/
def State.seatClaim (s : State) (after : Option Nat) : State :=
  let c : GmpCmd := { op := Gmp.claim, flags := 1, expect := s.rd F.GMP_PAIR_EPOCH_EPOCH }
  let next := s.admitted.find? fun m => match after with | some a => decide (a < m) | none => true
  match next with
  | some m => State.gmpSend { s with gmp := { s.gmp with seatAt := some m } } m c [] .seat
  | none => match s.admitted with
    | m :: _ => State.gmpSend { (s.alarm .gmp .moduleFault) with gmp := { (s.alarm .gmp .moduleFault).gmp with seatAt := some m } } m c [] .seat
    | [] => { s with gmp := { s.gmp with seatAt := some 128 } }

/-- The seat is won (R317): the raised epoch is the pair epoch, CLAIM_ACK_OUT is asserted (R356), every admitted module is fenced, and the plates of the partner's open sheets are claimed. -/
def State.seatWon (s : State) (epoch : Nat) : State :=
  let s := (s.wr F.GMP_PAIR_EPOCH_EPOCH epoch)
  let s := { s with gmp := { s.gmp with seatAt := none, seatWon := true }, fm := { s.fm with pins := { s.fm.pins with claimAckOut := true } } }
  (s.wr F.ANV_TONGS_CLAIM_OUT 1).fenceAll.claimOpens

/-- The range that a node page covers is lost (R286): it is listed with cause 5 in each volume whose directory names the page. -/
def State.nodeLoss (s : State) (x : PageSlot) : State :=
  let v := Tab.get {} s.vols x.tree
  match v.nodes.find? fun n => v.pageNum n.1 n.2.1 == x.page.number with
  | none => s
  | some (_, lo, next) =>
    let s := (s.raise F.HTH_INT_STATUS_MAP_FAULT).alarm .hth .lostExtent 0x0403 [x.tree, lo]
    let first := lo * 8192 / lbafData v.lbaf
    let last := (next.map fun n => n * 8192 / lbafData v.lbaf).getD v.lbas
    if v.nsid = 0 then s else s.listLost v.nsid first (last - first) 5

/-- A metadata page that CRCs and parity both gave up (R286): grain-table and fingerprint pages are rebuilt by scan, a bucket from the fingerprint table and the grain table with an alarm (R193), key records from the other copy; the range of a map node is lost with cause 5, and any other page is a map fault. A page that has been rebuilt is written again by the next flush. -/
def State.pageLoss (s : State) (x : PageSlot) : State :=
  let t := x.page.type
  let again (s : State) : State := s.retirePage x
  if x.page.level ≠ 0 then again ((s.raise F.HTH_INT_STATUS_MAP_FAULT).alarm .hth .pageRepair 0 [t])
  else if t = 4 then s.nodeLoss x
  else if t = 8 then
    let hb := x.tree == 1
    let h := s.half hb
    let b : Bucket := Tab.get {} h.buckets x.page.number
    let s := s.setHalf hb { h with buckets := Tab.set {} h.buckets x.page.number { b with entries := s.rebuiltBucket hb x.page.number } }
    again ((s.raise F.MTX_INT_STATUS_BUCKET_ERR).alarm .mtx .pageRepair 0 [x.page.number])
  else if t = 5 ∨ t = 6 ∨ t = 10 ∨ t = 11 then again (s.note .hth .pageRepair 0 [t])
  else again ((s.raise F.HTH_INT_STATUS_MAP_FAULT).alarm .hth .pageRepair 0 [t])

/-- The page at an address as the chunks of its stripe hold it, or as parity gives it (R258); none when neither passes its CRCs (R286). -/
def State.readPage (s : State) (addr : Nat) : Option Page :=
  let id := addrSheet addr
  let stripe := s.stripeOf addr
  if stripeUnits (s.sheet id).width = 0 then none
  else
    let plain := s.cutSort addr pageUnits ((s.rolesAt id stripe).map fun b => b.getD (zeros bodyLen))
    if pageOk plain then some (Page.ofBytes plain)
    else ((s.stripeBodies id stripe).map (s.cutSort addr pageUnits)).bind fun b => if pageOk b then some (Page.ofBytes b) else none

/-- The page at an address has been read (R286): one that its chunks and parity both fail to give is lost to every tree that names it. -/
def State.pageRead (s : State) (addr : Nat) : State :=
  match s.readPage addr with
  | some _ => s
  | none => (s.hth.pages.filter fun x => x.addr == addr).foldl State.pageLoss s

/-- Ends a module activation (R322). -/
def State.fwEnd (s : State) (m : Nat) : State :=
  let s := s.modModule m fun e => { e with state := .admitted, excluded := false }
  let s := { s with gmp := { s.gmp with activating := none } }
  ((s.raise F.GMP_INT_STATUS_FW_DONE).wr F.GMP_MOD_CMD_BUSY 0).wr F.GMP_MOD_CMD_RESULT 0

/-- Starts FW_ACTIVATE once no command to the module is outstanding (R322). -/
def State.fwKick (s : State) : State :=
  match s.gmp.activating with
  | none => s
  | some m =>
    if (s.module m).state == .admitted && !(s.gmp.flying.any fun f => f.2.module == m) then
      (s.modModule m fun e => { e with state := .activating, since := s.now }).gmpSend m { op := Gmp.fwActivate } [] .plain
    else s

/-- Stores the number of a newly found module in it (R48, R320): SET_ANCHOR with the anchor record that it holds for this head and the module number byte. A module that stores its number already keeps it. -/
def State.storeNumber (s : State) (m : Nat) : State :=
  let d := s.dev m
  if d.number = m then s
  else s.gmpSend m { op := Gmp.setAnchor, length := 64 } (overlay (if s.head = 0 then d.anchor0 else d.anchor1).bytes 16 (leBytes (m + 1) 1)) .plain

/-- Acts on the status of a completed command (Table 14.5, R313 to R318). -/
def State.gmpAct (s : State) (f : GmpOut) (d : GmpDone) (data : Bytes) : State :=
  let st := d.status
  let writes := f.cmd.op = Gmp.write ∨ f.cmd.op = Gmp.erase
  if st = 0x0307 then
    let fenced := (s.dev f.module).fenced.contains s.head
    let s := if fenced then (s.modModule f.module fun e => { e with fencedHere := true }).raise F.GMP_INT_STATUS_FENCED else s
    if fenced ∨ writes then s.haltSafe else s
  else if writes ∧ (st = 0x0304 ∨ st = 0x0305 ∨ st = 0x0306) then
    let s := s.retirePlate f.module f.cmd.plate
    match f.use with
    | .erase sheet _ => s.sheetFreed sheet
    | _ => s
  else if st = 0x0306 then s.retirePlate f.module f.cmd.plate
  else if st = 0x030B then s.report Kind.moduleLink f.module st
  else match f.use with
    | .chunk sheet stripe member =>
      if st = 0 then (s.countWritten f.module 65536).modFlight sheet stripe fun x => { x with confirmed := x.confirmed ++ [member] } else s
    | .erase sheet member => if st ≠ 0 then s else if sheet = 0 then s.looseErased f.module f.cmd.plate else s.plateErased sheet member
    | .seat =>
      if st = 0 then s.seatWon d.epoch
      else if st = 0x0308 then (s.raise F.GMP_INT_STATUS_CLAIM_LOST).haltSafe
      else s
    | .fence => if st = 0 then s.modModule f.module fun e => { e with fenceOk := true, noCmd := false } else s
    | .readGrain gid =>
      if st = 0 ∨ st = 0x0301 then (if sortOk data then s else (s.suspectSort gid (s.readUnit gid) data).2)
      else if st = 0x0302 ∨ st = 0x0303 then (s.reconSort gid).2
      else s
    | .readPage addr => s.pageRead addr
    | .anchor => if st = 0 then let s := s.countWritten f.module 65536; { s with hth := { s.hth with journal := { s.hth.journal with acks := s.hth.journal.acks ++ [f.module] } } } else s
    | .entry =>
      if f.cmd.op = Gmp.hello ∧ st = 0 then (s.modModule f.module fun e => { e with version := d.version, steps := max e.steps 3 }).storeNumber f.module
      else if f.cmd.op = Gmp.identify ∧ st = 0 then s.modModule f.module fun e => { e with steps := max e.steps 2 }
      else s
    | .plain =>
      if f.cmd.op = Gmp.health ∧ st = 0 then
        let t := leAt data 0 2
        s.modModule f.module fun e => { e with temp := if t < 32768 then t else (t : Int) - 65536 }
      else if f.cmd.op = Gmp.claim ∧ f.cmd.flags = 1 ∧ st = 0x0308 then (s.raise F.GMP_INT_STATUS_CLAIM_LOST).haltSafe
      else if f.cmd.op = Gmp.claim ∧ st = 0x0308 then s.raise F.GMP_INT_STATUS_CLAIM_LOST
      else if f.cmd.op = Gmp.write ∧ st = 0 then s.countWritten f.module 65536
      else if f.cmd.op = Gmp.fwActivate then
        (s.fwEnd f.module).gmpSend f.module { op := Gmp.hello } (helloBlock f.module s.head 0x0101) .entry
      else s

/-- A stale transfer or completion (R309): dropped and counted. -/
def State.gmpStale (s : State) (m : Nat) : State := (s.inc F.GMP_STALE_CNT_COUNT).countError m 6

/-- A command slot whose completion has been written is free (R307). -/
def State.slotDone (s : State) (m slot : Nat) : State := { s with gmp := { s.gmp with held := s.gmp.held.filter (· != (m, slot)) } }

/-- GMP_COMPLETION (R308, R309, R313): the oldest completion is taken from the ring; its slot and tag are freed and its status is acted on. One that names no outstanding command, or whose reserved fields are not zero, is stale (R5). -/
def execGmpCompletion (s : State) : Out1 :=
  match s.gmp.ring with
  | [] => .next s
  | e :: rest =>
    let d := e.done
    let s := State.slotDone { s with gmp := { s.gmp with ring := rest } } e.module d.slot
    match Tab.find s.gmp.flying d.tag with
    | none => .next (s.gmpStale e.module)
    | some f =>
      if f.gen ≠ d.gen ∨ f.module ≠ e.module ∨ d.rsv ≠ 0 then .next (s.gmpStale e.module)
      else
        let s := s.gmpFree d.tag
        let s := match errorClass d.status with
          | some c => s.countError e.module c
          | none => s
        .next (s.gmpAct f d e.data).fwKick

/-- GMP_STALE_TRANSFER (R309): a window write is dropped, a window read is completed with Unsupported Request; both are counted when the generation is not the tag's current one. -/
def execGmpStaleTransfer (m tag gen : Nat) (s : State) : Out1 :=
  if Tab.get 0 s.gmp.gens tag = gen ∧ (Tab.find s.gmp.flying tag).isSome then .next s else .next (s.gmpStale m)

/-- Marks the commands of one use to a module as reissued (R312, R317). -/
def State.markReissued (s : State) (m : Nat) (u : GmpUse) : State :=
  { s with gmp := { s.gmp with flying := s.gmp.flying.map fun p => if p.2.module = m ∧ p.2.use = u then (p.1, { p.2 with reissued := true }) else p } }

/-- GMP_TIMEOUT (R312): a command has had no completion within its limit. Its tag is freed, while its slot stays used until a completion is written (R307), and the link takes an error. A READ is reissued once and then reconstructed; a WRITE of a stripe leaves it to settlement; a seat CLAIM passes to the next module; a FENCE is sent once more and then the module is passed over (R317). -/
def execGmpTimeout (tag : Nat) (s : State) : Out1 :=
  match Tab.find s.gmp.flying tag with
  | none => .next s
  | some f =>
    if s.now < f.sentAt + Gmp.limit f.cmd.op then .next s
    else
      let s := ((s.gmpFree tag).inc F.GMP_TIMEOUT_CNT_COUNT).raise F.GMP_INT_STATUS_TIMEOUT
      let s := { s with gmp := { s.gmp with held := (f.module, f.slot) :: s.gmp.held } }
      let s := (s.countError f.module 6).report Kind.moduleLink f.module 0x030B
      match f.use with
      | .seat => .next (s.seatClaim (some f.module))
      | .fence =>
        if f.reissued then
          .next ((s.modModule f.module fun e => { e with noCmd := true, fenceAt := s.now }).moduleGone f.module)
        else .next ((s.gmpSend f.module f.cmd [] .fence).markReissued f.module .fence)
      | .chunk sheet stripe member => match s.flight sheet stripe with
        | some x => if x.phase = .sent then .next (s.writeTimedOut x f.cmd member) else .next s
        | none => .next s
      | .readPage addr =>
        if f.reissued then .next (s.pageRead addr) else .next ((s.gmpSend f.module f.cmd [] f.use).markReissued f.module f.use)
      | .readGrain gid =>
        if f.reissued then .next (s.reconSort gid).2
        else .next ((s.gmpSend f.module f.cmd [] f.use).markReissued f.module f.use)
      | _ => .next s

/-- The number a module takes (R320): its own for a known serial, the one it stores when that is free, or else the lowest free one. [DEDUCED: notes/assumptions/46.md] -/
def State.moduleNumber (s : State) (i : ModuleInfo) : Option Nat :=
  let live (m : Mod) : Bool := m.state != .absent && m.state != .released
  let free (n : Nat) : Bool := !live (s.module n) && decide (n < 128)
  match Tab.first s.gmp.mods fun _ m => m.serial == i.serial && m.state != .released && m.serial != 0 with
  | some (n, _) => some n
  | none => if free i.number then some i.number else (List.range 128).find? free

/-- A module is found (R320): a link at 16 GT/s or more begins admission with IDENTIFY and HELLO, with an alarm below 64 GT/s (R66). A page that fails its CRC, magic, reserved bits (R5) or plate size, a version that is not shared or lies below the forme's minimum (R56) keeps the module out, with an alarm. [DEDUCED: notes/assumptions/46.md] -/
def State.moduleFound (info : ModuleInfo) (speed lanes : Nat) (s : State) : State :=
  match s.moduleNumber info with
  | none => s.alarm .gmp .moduleRefused
  | some n =>
    let d0 := s.dev n
    let d : Device := { (if d0.serial = info.serial then d0 else {}) with serial := info.serial, version := info.version, prevVersion := info.prevVersion, firmware := info.firmware, plateLog2 := info.plateLog2, plateCount := info.plateCount, rated := info.rated, number := info.number }
    let minGmp := (s.fm.forme.map (·.minGmp)).getD 0
    let bad := !info.page || decide (info.reserved ≠ 0) || decide (info.plateLog2 < 24 ∨ 30 < info.plateLog2 ∨ 2 ^ 25 < info.plateCount) ||
      (match d.negotiate 0x0101 with | none => true | some v => decide (v < minGmp))
    if speed < 4 then s
    else if bad then s.alarm .gmp .moduleRefused 0x030A [n]
    else
      let s := if speed < 6 then s.alarm .gmp .linkSlow 0 [n, speed] else s
      let s := s.setDev n d
      let s := { s with gmp := { s.gmp with held := s.gmp.held.filter fun h => h.1 != n } }
      let s := s.modModule n fun e => { e with state := .admitting, serial := info.serial, speed := speed, lanes := lanes, since := s.now, steps := 1, plates := info.plateCount, plateLog2 := info.plateLog2, rated := info.rated }
      let s := s.gmpSend n { op := Gmp.identify, length := 4096 } [] .entry
      s.gmpSend n { op := Gmp.hello } (helloBlock n s.head 0x0101) .entry

/-- MODULE_LINK_UP (R320). [DEDUCED: notes/assumptions/46.md] -/
def execModuleLinkUp (info : ModuleInfo) (speed lanes : Nat) (s : State) : Out1 := .next (s.moduleFound info speed lanes)

/-- Members on a module that returned rejoin when no rebuild onto a spare has begun and their chunks agree (R264). -/
def State.rejoin (s : State) (m : Nat) : State :=
  let hit := s.hth.sheets.flatMap fun p => p.2.missing.filterMap fun i => if (p.2.members[i]?.map Prod.fst) = some m then some (p.1, i) else none
  hit.foldl (fun s h =>
    let e := s.sheet h.1
    let back := { e with missing := e.missing.filter (· != h.2) }
    let ok := (List.range e.next).all fun k => match s.chunkAt back k h.2 with
      | some (some c) => chunkAgrees h.1 k (bits (leAt c 8 8) 63 32) (bits (leAt c 8 8) 14 14) c
      | some none => false
      | none => !s.stripeWritten h.1 k
    if e.spares.any (fun x => x.1 == h.2) || !ok then s else s.modSheet h.1 fun _ => back) s |>.showRebuild

/-- MODULE_ADMIT_CONFIRM (R320): the partner has admitted the same serial, or this head is in Solo; the module is admitted, and a seat CLAIM that waited for a module goes out (R317). The pair epoch is the highest seat epoch of the admitted modules (R315, Table 16.13). [DEDUCED: notes/assumptions/46.md] -/
def execModuleAdmitConfirm (m serial : Nat) (s : State) : Out1 :=
  let e := s.module m
  if e.state ≠ .admitting ∨ e.steps < 3 ∨ (s.fm.mode ≠ .solo ∧ !s.anv.takeover.any (·.alone) ∧ e.serial ≠ serial) then .next s
  else
    let s := s.modModule m fun e => { e with state := .admitted, steps := 4 }

    let s := ((s.wr (F.GMP_ADMIT_ADMITTED (m / 64)) (s.rd (F.GMP_ADMIT_ADMITTED (m / 64)) ||| 2 ^ (m % 64))).raise F.GMP_INT_STATUS_ADMITTED).note .gmp .moduleAdmitted 0 [m]
    let s := (s.rejoin m).wr F.GMP_PAIR_EPOCH_EPOCH (max (s.rd F.GMP_PAIR_EPOCH_EPOCH) (s.dev m).seatEpoch)
    let s := if s.gmp.seatAt = some 128 then s.seatClaim none else s
    .next s.ladderEval

/-- MODULE_ADMIT_TIMEOUT (R320, R12): step 4 has not passed within 10 s. [DEDUCED: notes/assumptions/46.md] -/
def execModuleAdmitTimeout (m : Nat) (s : State) : Out1 :=
  let e := s.module m
  if e.state = .admitting ∧ e.since + 10000000000 ≤ s.now then
    .next ((s.modModule m fun e => { e with state := .absent }).alarm .gmp .moduleRefused 0 [m])
  else .next s

/-- Spares on a lost module are abandoned, and the rebuild of their sheets restarts from stripe 0 (R269). -/
def State.dropSpares (s : State) (m : Nat) : State :=
  let hit := Tab.keysWhere s.hth.sheets fun _ e => e.spares.any fun x => x.2.1 == m
  hit.foldl (fun s id => s.abandonSpares id fun w => w.1 == m) s

/-- MODULE_REMOVAL (R321): a surprise removal or a silent module makes its members missing. -/
def execModuleRemoval (m : Nat) (s : State) : Out1 :=
  if (s.module m).state = .absent ∨ (s.module m).state = .released then .next s
  else
    let s := s.modModule m fun e => { e with state := .missing, speed := 0 }
    let s := (s.raise F.GMP_INT_STATUS_REMOVED).alarm .gmp .memberMissing 0 [m]
    .next (((s.dropSpares m).moduleGone m).ladderEval).wakePartner

/-- MODULE_FENCE_RETRY (R317): every 1 s to a module that answered neither FENCE. -/
def execModuleFenceRetry (m : Nat) (s : State) : Out1 :=
  let e := s.module m
  if e.noCmd ∧ e.fenceAt + 1000000000 ≤ s.now then
    .next ((s.modModule m fun e => { e with fenceAt := s.now }).gmpSend m { op := Gmp.fence, flags := 1 } [] .fence)
  else .next s

/-- Whether a module holds members of sheets. -/
def State.holdsMembers (s : State) (m : Nat) : Bool := s.hth.sheets.any fun p => p.2.members.any fun w => w.1 == m

/-- GMP_MOD_RELEASE (R321): the selected module is released, or RESULT 1 while it still holds members. -/
def execGmpModRelease (s : State) : Out1 :=
  let m := s.rd F.GMP_MOD_SEL_MODULE
  if s.holdsMembers m then .next (s.wr F.GMP_MOD_CMD_RESULT 1)
  else
    let s := s.modModule m fun e => { e with state := .released }
    let s := s.wr (F.GMP_ADMIT_ADMITTED (m / 64)) (s.rd (F.GMP_ADMIT_ADMITTED (m / 64)) &&& (2 ^ 64 - 1 - 2 ^ (m % 64)))
    .next (s.wr F.GMP_MOD_CMD_RESULT 0).ladderEval

/-- GMP_MOD_ACTIVATE (R322): RESULT 2 while a sheet has a missing member; otherwise open sheets with a member on the module close, it is left out of R251, and FW_ACTIVATE follows once no command to it is outstanding. One module at a time. -/
def execGmpModActivate (s : State) : Out1 :=
  let m := s.rd F.GMP_MOD_SEL_MODULE
  if s.hth.sheets.any fun p => !p.2.missing.isEmpty then .next (s.wr F.GMP_MOD_CMD_RESULT 2)
  else if s.gmp.activating.isSome || (s.module m).state != .admitted then .next s
  else
    let s := s.modModule m fun e => { e with excluded := true }
    let opens := Tab.keysWhere s.hth.sheets fun _ e => e.state == .opened && e.head == s.head && e.members.any fun w => w.1 == m
    let s := opens.foldl State.closeSheet s
    .next (State.fwKick ({ s with gmp := { s.gmp with activating := some m } }.wr F.GMP_MOD_CMD_BUSY 1))

/-- MODULE_FW_TIMEOUT (R322): an activation has not completed within 30 s, so the module's members become missing. -/
def execModuleFwTimeout (m : Nat) (s : State) : Out1 :=
  let e := s.module m
  if e.state = .activating ∧ e.since + 30000000000 ≤ s.now then
    let s := (s.fwEnd m).modModule m fun e => { e with state := .missing }
    .next ((s.alarm .gmp .memberMissing 0 [m]).moduleGone m).ladderEval
  else .next s

/-- SORT_REPAIR_DURABLE (R166): the rewritten sort is durable; it updates the grain table only while the entry still points at the old address, and is dead space otherwise. -/
def execSortRepairDurable (gid : Nat) (s : State) : Out1 :=
  match Tab.find s.prf.repairs gid with
  | none => .next s
  | some r =>
    let old := mkAddr r.oldSheet r.oldOffset
    let new := mkAddr r.newSheet r.newOffset
    let stripe := r.newOffset / stripeUnits (s.sheet r.newSheet).width
    if (s.flight r.newSheet stripe).isSome || (s.sheet r.newSheet).cur.any (fun c => c.stripe == stripe) then .next s
    else
      let s := { s with prf := { s.prf with repairs := Tab.erase s.prf.repairs gid } }
      let u := s.unitsOf gid
      if s.holdsHalf (gidHalf gid) then .next (s.journal [.move gid old new u])
      else .next (s.query { op := 5, tag := 0, gid := gid, old := old, addr := new, units := u })

end Sys2Proof.Machine
end

