-- ==== Sys2Proof/Machine/Time.lean ====
section
/-! DEFINITION. The time base: quality, corrections, snapshots and their restore, and the passing of a nanosecond (R401 to R406). -/

namespace Sys2Proof.Machine

/-- A change of QUALITY sets QUALITY_CHG and writes an event record (R405). -/
def State.setQuality (s : State) (q : Nat) : State :=
  if s.rd F.TIM_STATUS_QUALITY = q then s
  else ((s.wr F.TIM_STATUS_QUALITY q).raise F.TIM_STATUS_QUALITY_CHG).note .tim .timeQuality 0 [q]

/-- A change of the source followed writes an event record (R405). -/
def State.setFollowing (s : State) (f : Nat) : State :=
  if s.rd F.TIM_STATUS_FOLLOWING = f then s else (s.wr F.TIM_STATUS_FOLLOWING f).note .tim .timeSource 0 [f]

/-- Applies a correction (R406): a positive one above 1 ms, or the first positive one from quality 0, is stepped; any other is slewed at 500 ppm. A correction of quality 0 that would step back is slewed, because main time never decreases. [DEDUCED: notes/assumptions/62.md] -/
def State.correct (s : State) (off : Int) : State :=
  if 1000000 < off ∨ (s.rd F.TIM_STATUS_QUALITY = 0 ∧ 0 < off) then
    ({ s with clk := { s.clk with slewLeft := 0 } }.wr F.TIM_NOW_NS (s.now + off.toNat)).wr F.TIM_RATE_PPB 0 |>.raise F.TIM_STATUS_STEP
  else
    let rate := if off = 0 then 0 else if 0 < off then 500000 else 2 ^ 32 - 500000
    ({ s with clk := { s.clk with slewLeft := off } }).wr F.TIM_RATE_PPB rate

/-- A discipline of a source arrives: the correction, the quality, the uncertainty and the source followed (R405, R406). -/
def State.discipline (s : State) (off : Int) (quality unc source : Nat) : State :=
  let s := s.correct off
  let s := { s with clk := { s.clk with lastSync := s.now } }
  ((s.setQuality quality).setFollowing source).wr F.TIM_UNCERTAINTY_NS (min unc 0xFFFFFFFF)

/-- The source that TIM_CTRL.SOURCE selects now (R406): 0 none, 1 partner, 2 PTP. [DEDUCED: notes/assumptions/62.md] -/
def State.timeSource (s : State) (ptpLocked : Bool) : Nat :=
  match s.rd F.TIM_CTRL_SOURCE with
  | 1 => 1 | 2 => 2 | 3 => if ptpLocked then 2 else 1 | _ => 0

/-- Partner discipline by the time of a STATUS (R406): its value plus 650 ns, followed when the partner's quality is higher, or when both are equal, 2 or below, and the partner is head 0. STATUS carries no quality and no uncertainty; `quality` and `unc` are what the partner has. [DEDUCED: notes/assumptions/62.md] -/
def State.partnerTime (s : State) (time quality unc : Nat) : State :=
  let own := s.rd F.TIM_STATUS_QUALITY
  if s.timeSource (own == 3) = 1 ∧ (own < quality ∨ (own = quality ∧ quality ≤ 2 ∧ s.peer = 0)) then
    s.discipline ((time + 650 : Int) - s.now) 2 (unc + 1000) 1
  else s

/-- Whether PTP may run on a port (R74): an Ethernet logical port with link up, numbered 8 × port + k, or the management port, 32, when PORTS enables it. -/
def State.ptpPortUp (s : State) (port : Nat) : Bool :=
  if port = 32 then (s.fm.forme.map (·.mgmt)).getD false else bitOf (s.rd (F.PRT_ETH_LINK_UP (port / 8))) (port % 8)

/-- Whether a sync at a port is that of the one slave clock (R74): the port that firmware has chosen, or a new choice while that one is down. The spec leaves the choice to firmware, so the first port that brings a sync is it. [DESIGN CHOICE: notes/assumptions/120.md] -/
def State.ptpTakes (s : State) (port : Nat) : Bool :=
  s.ptpPortUp port && (s.clk.ptpPort == some port || !(s.clk.ptpPort.any s.ptpPortUp))

/-- PTP_SYNC (R74, R406): the slave clock runs on one port; its servo's offset is applied through TIM_ADJ when PTP is the source, and a locked servo gives quality 3 and its bound, at least 50 ns. [DEDUCED: notes/assumptions/62.md; DESIGN CHOICE: notes/assumptions/120.md] -/
def execPtpSync (offset : Int) (locked : Bool) (bound port : Nat) (s : State) : Out1 :=
  if !s.ptpTakes port then .next s else
  let s : State := { s with clk := { s.clk with ptpPort := some port } }
  if s.timeSource locked ≠ 2 then .next s
  else if locked then .next (s.discipline offset 3 (max bound 50) 2)
  else .next (s.correct offset)

/-- TIM_ADJ_WRITE (R406): a signed offset in ns, applied by step or slew. -/
def execTimAdjWrite (offset : Int) (s : State) : Out1 := .next (s.correct offset)

/-- The snapshot that an ember edge writes (R403). -/
def State.takeSnapshot (s : State) : State :=
  { s with clk := { s.clk with snap := some ⟨s.now, s.rd F.TIM_EMBER_COUNT, s.rd F.TIM_EMBER_PERIOD_PERIOD, s.rd F.TIM_STATUS_QUALITY, s.rd F.TIM_UNCERTAINTY_NS⟩ } }

/-- TIME_SNAPSHOT (R403): once a second in Run. -/
def execTimeSnapshot (s : State) : Out1 :=
  if s.pwr.state = .run ∧ s.clk.running then .next s.takeSnapshot else .next s

/-- EMBER_CALIBRATION (R402, R404): main time counted `ns` nanoseconds across 32,768 ember ticks; the average of the last 16 windows is the period. The first period after a wake that is more than 100 ppm away from the one before the sleep sets REF_CHG. -/
def execEmberCalibration (ns : Nat) (s : State) : Out1 :=
  if s.pwr.state ≠ .run then .next s
  else
    let ws := ((2 * ns) :: s.clk.windows).take 16
    let p := ws.sum / ws.length
    let before := s.clk.recal
    let s := ({ s with clk := { s.clk with windows := ws, recal := none } }).wr F.TIM_EMBER_PERIOD_PERIOD p
    match before with
    | none => .next s
    | some old => if old < 10000 * (max old p - min old p) then .next ((s.raise F.TIM_STATUS_REF_CHG).note .tim .refChange 0 [old, p]) else .next s

/-- TIME_QUALITY_LAPSE (R405): no discipline for 2 s, so the quality falls to holdover and nothing is followed. -/
def execTimeQualityLapse (s : State) : Out1 :=
  if 2 ≤ s.rd F.TIM_STATUS_QUALITY ∧ s.clk.lastSync + 2000000000 ≤ s.now then .next ((s.setQuality 1).setFollowing 0) else .next s

/-- Main time as R404 restores it from a snapshot at the present ember count. -/
def Snapshot.mainAt (n : Snapshot) (ember : Nat) : Nat := n.main + (ember - n.ember) * n.period / 65536

/-- What TIM_NOW answers (R403): main time, and during a sleep the value that R404 would compute. -/
def State.timeNow (s : State) : Nat :=
  if s.clk.running then s.now
  else match s.clk.snap with
    | some n => n.mainAt (s.rd F.TIM_EMBER_COUNT)
    | none => s.now

/-- What TIM_UNCERTAINTY answers (Table 18.6): at holdover it grows by 25 ppm of the time since the last discipline. -/
def State.timeUnc (s : State) : Nat :=
  let u := s.rd F.TIM_UNCERTAINTY_NS
  if s.rd F.TIM_STATUS_QUALITY = 1 then min 0xFFFFFFFF (u + 25 * (s.timeNow - s.clk.lastSync) / 1000000) else u

/-- TIME_RESTORE (R404): main time from the latest snapshot, with quality Holdover. Without a snapshot the time base starts at 0, Unsynchronised. -/
def State.timeRestore (s : State) : State :=
  match s.clk.snap with
  | none => (({ s with clk := { s.clk with running := true, slewLeft := 0 } }.wr F.TIM_NOW_NS 0).wr F.TIM_UNCERTAINTY_NS 0xFFFFFFFF).setQuality 0
  | some n =>
    let e := s.rd F.TIM_EMBER_COUNT
    let d := e - n.ember
    let s := s.wr F.TIM_NOW_NS (n.mainAt e)
    let s := { s with clk := { s.clk with running := true, slewLeft := 0, lastSync := n.mainAt e, recal := some n.period, windows := [] } }
    let s := (s.wr F.TIM_RATE_PPB 0).wr F.TIM_UNCERTAINTY_NS (min 0xFFFFFFFF (n.unc + 30518 + d * n.period * 25 / (1000000 * 65536)))
    ((s.setQuality 1).setFollowing 0).raise F.TIM_STATUS_RESTORED

/-- The next nanosecond of main time: a slew adds or withholds one in every 2,000 (R406). [DESIGN CHOICE: notes/assumptions/2.md] -/
def State.mainTick (s : State) : State :=
  if !s.clk.running then s
  else if s.clk.slewLeft = 0 then s.wr F.TIM_NOW_NS (s.now + 1)
  else if s.clk.slewAcc < 1999 then ({ s with clk := { s.clk with slewAcc := s.clk.slewAcc + 1 } }).wr F.TIM_NOW_NS (s.now + 1)
  else
    let up := decide (0 < s.clk.slewLeft)
    let left := if up then s.clk.slewLeft - 1 else s.clk.slewLeft + 1
    let s := { s with clk := { s.clk with slewAcc := 0, slewLeft := left } }
    let s := if left = 0 then s.wr F.TIM_RATE_PPB 0 else s
    s.wr F.TIM_NOW_NS (if up then s.now + 2 else s.now)

/-- One ember tick (R402): the count rises, and PWR_WAKE_TIMER counts down in a sleep. [DESIGN CHOICE: notes/assumptions/2.md] -/
def State.emberTick (s : State) : State :=
  let s := s.wr F.TIM_EMBER_COUNT (s.rd F.TIM_EMBER_COUNT + 1)
  let t := s.rd F.PWR_WAKE_TIMER_TICKS
  if (s.pwr.state = .sleep ∨ s.pwr.state = .deep) ∧ 0 < t then
    ({ s with pwr := { s.pwr with timerHit := s.pwr.timerHit || t == 1 } }).wr F.PWR_WAKE_TIMER_TICKS (t - 1)
  else s

/-- A nanosecond passes. The ember counter runs in every state but Off, at the calibrated period. [DESIGN CHOICE: notes/assumptions/2.md, notes/assumptions/101.md] -/
def State.tick (s : State) : State :=
  let s := s.mainTick
  if s.pwr.state = .off then s
  else
    let a := s.clk.emberAcc + 65536
    let p := s.rd F.TIM_EMBER_PERIOD_PERIOD
    if a < p then { s with clk := { s.clk with emberAcc := a } }
    else ({ s with clk := { s.clk with emberAcc := a - p } }).emberTick

end Sys2Proof.Machine
end

