-- ==== Sys2Proof/Machine/Reset.lean ====
section
/-! DEFINITION. What a reset leaves: fields that keep their value, what lies in the vault, in fuses and on flash, and the way into Dark (R8, R139, R400, R404, R439, R445). -/

namespace Sys2Proof.Machine

/-- The keys of every RS field (R8). -/
def rsKeys : List Nat :=
  regMap.flatMap fun r => (List.range r.count).flatMap fun i =>
    (r.fields.filter fun f => f.acc == .rs).map fun f => f.key + i * r.stride * 64

/-- The keys of the fields that a reset other than power-up from Dark keeps: RS fields, DBG_CTRL.DISABLE, and the ember count of the always-on domain. [DEDUCED: notes/assumptions/12.md] -/
def warmKeys : List Nat := F.DBG_CTRL_DISABLE.key :: F.TIM_EMBER_COUNT.key :: rsKeys

/-- Merges the two vault copies of the scrap list: for each slot the entry with the higher SEQ (R383). -/
def mergeScrap (a b : Tab ScrapEntry) : Tab ScrapEntry :=
  b.foldl (fun t e => match Tab.find t e.1 with
    | some x => if x.seq < e.2.seq then Tab.put t e.1 e.2 else t
    | none => Tab.put t e.1 e.2) a

/-- The scrap list as the vault holds it; none when neither copy can be read. -/
def State.vaultScrap (s : State) : Option (Tab ScrapEntry) :=
  match s.flt.vaultA, s.flt.vaultB with
  | none, none => none
  | a, b => some (mergeScrap (a.getD []) (b.getD []))

/-- The channels that a scrap list names. -/
def scrapChans (t : Tab ScrapEntry) : List Chan := t.map fun e => ⟨e.2.kind, e.2.index⟩

/-- The head with every domain but the always-on domain reset. What lies in the vault, in fuses and on flash stays: the dump sets, the scrap list, the image slots and the pointer, the pair record, and what modules hold. After Dark no register keeps its value. [DEDUCED: notes/assumptions/12.md, notes/assumptions/87.md; DESIGN CHOICE: notes/assumptions/108.md] -/
def State.keep (s : State) (cold : Bool) : State :=
  let p := s.fm.pins
  let clean (x : Slot) : Slot := if x.verified then x else {}
  let f := s.flt
  let h := s.hth
  { flds := if cold then [] else s.flds.filter fun e => warmKeys.contains e.1
    fm := { pendingForme := s.fm.pendingForme, ohm := { waitUntil := if cold then 0 else s.fm.ohm.waitUntil }, powerUp := s.fm.powerUp, hallmark := { fuses := s.fm.hallmark.fuses, prs := s.fm.hallmark.prs }
            pins := { mainPwrEn := p.mainPwrEn, pwrOk := p.pwrOk, resetLow := p.resetLow, powerWarn := p.powerWarn, partnerAlive := p.partnerAlive, fenceIn := p.fenceIn, claimAckIn := p.claimAckIn, vddFuse := p.vddFuse, sbAddr := p.sbAddr, backTxGated := p.fenceIn } }
    flt := { vaultA := f.vaultA, vaultB := f.vaultB, atSeal := f.atSeal, out := (scrapChans (s.vaultScrap.getD [])).filter fun c => c.kind != 5 }
    upd := { slotA := clean s.upd.slotA, slotB := clean s.upd.slotB, ptr0 := s.upd.ptr0, ptr1 := s.upd.ptr1, recoverNext := s.upd.recoverNext
             stage := if s.upd.stage = .staged ∨ s.upd.stage = .relaying then .staged else .idle }
    clk := { snap := if cold then none else s.clk.snap }
    gly := { setA := s.gly.setA, setB := s.gly.setB, dumpSeq := s.gly.dumpSeq }
    hth := { anchors := h.anchors, anchorGen := h.anchorGen, anchorPos := h.anchorPos, userC := h.userC, spareC := h.spareC, health := h.health, array := h.array
             journal := { ckpt := h.journal.ckpt, ckptAt := h.journal.ckptAt, image := h.journal.image, next := h.journal.next, sent := h.journal.sent } }
    gmp := { devs := s.gmp.devs }
    lost := s.lost, outbox := s.outbox, fresh := s.fresh, pending := s.pending }

/-- The Tongs inputs as ANV_TONGS shows them. -/
def State.showTongs (s : State) : State :=
  (s.wr F.ANV_TONGS_FENCE_IN (bit s.fm.pins.fenceIn)).wr F.ANV_TONGS_CLAIM_IN (bit s.fm.pins.claimAckIn)

/-- Resets the head with a cause of FOR_RESET_CAUSE (R439, R445): FOR_MODE changes to Forming, and main time comes back from the snapshot (R404). A reset that leads to the Recovery that UPD_CMD asked for records cause 7, where no rule names its cause. [DEDUCED: notes/assumptions/12.md, notes/assumptions/86.md] -/
def State.coreReset (s : State) (cause : Nat) : State :=
  let k := s.keep false
  let k : State := { k with fm := { k.fm with mode := s.fm.mode, safe := s.fm.safe } }
  let k := ((k.timeRestore.toMode .forming).wr F.FOR_MODE_CHANGES 0).showTongs
  let cause := if s.upd.recoverNext && cause != 1 && cause != 3 then 7 else cause
  (k.wr F.FOR_RESET_CAUSE_CAUSE cause).incHeld F.FOR_RESET_CAUSE_COUNT

/-- Falls to Dark (R400, R446): MAIN_PWR_EN falls, and every domain but the wake logic loses its power. [DEDUCED: notes/assumptions/87.md] -/
def State.goDark (s : State) : State :=
  let k := s.keep true
  { k with fm := { k.fm with mode := .dark, prev := s.fm.mode, powerUp := .wakeOnly, pins := { k.fm.pins with mainPwrEn := false, pwrOk := false } }
           pwr := { state := .off }, clk := { running := false } }

end Sys2Proof.Machine
end

