-- ==== Sys2Proof/Machine/Power.lean ====
section
/-! DEFINITION. Handing everything over: banking, power-off, halts and activations, and waking (R69, R388 to R400). -/

namespace Sys2Proof.Machine

/-- Takes the Ethernet logical ports and the front links down (R69): connections end, and the controllers of front ports reset. -/
def State.portsDown (s : State) : State :=
  let s := { s with stk := { s.stk with linksDown := true }, fm := { s.fm with pins := { s.fm.pins with frontTx := false } } }
  let s := (List.range 4).foldl (fun s p =>
    let up := s.rd (F.PRT_ETH_LINK_UP p)
    if up = 0 then s else (s.wr (F.PRT_ETH_LINK_UP p) 0).raise (F.PRT_ETH_LINK_CHG p) up) s
  let s := (List.range 2).foldl (fun s p =>
    if s.rd (F.PRT_FRONT_LINK_SPEED p) = 0 then s
    else (((s.wr (F.PRT_FRONT_LINK_SPEED p) 0).wr (F.PRT_FRONT_LINK_WIDTH p) 0).wr (F.PRT_FRONT_LINK_FLIT p) 0).raise (F.PRT_FRONT_LINK_CHG p)) s
  let fabric := (s.stk.conns.filter fun e => e.2.live).map (·.2.cntlid)
  let s := fabric.foldl State.endAssociation s
  (Tab.keysWhere s.stk.ctrls fun _ c => !c.fabric && c.enabled).foldl (fun s c => s.resetCtrl 2 .reset c) s

/-- Lets the links come up again. -/
def State.portsUp (s : State) : State :=
  (({ s with stk := { s.stk with linksDown := false }, fm := { s.fm with pins := { s.fm.pins with frontTx := true } } }).wr F.STK_CTRL_FETCH_HOLD 0)

/-- The namespaces that this head owns or is releasing, in ascending NSID. -/
def State.owned (s : State) : List Nat := Tab.keysWhere s.chs.ns fun _ e => e.state == .loc || e.state == .releasing

/-- Whether this head's own part of Table 18.2 holds: the POWER flags, the modes, both bundles up, and no work that must not be asleep. -/
def State.bankable (s : State) (deep : Bool) : Bool :=
  let f := s.fm.forme
  (f.map (·.bankOk)).getD false && (!deep || (f.map (·.deepOk)).getD false) &&
    s.fm.mode == .paired && s.rd F.ANV_PAIR_PEER_MODE == 4 && s.rd F.ANV_BUNDLE_STATE0 == 2 && s.rd F.ANV_BUNDLE_STATE1 == 2 &&
    s.anv.taken.isEmpty && s.anv.ctl.taken.isEmpty && s.fm.reform.isNone && s.upd.lease.isNone &&
    s.imp.rebuild.isNone && s.imp.reshape.isNone && s.mtx.half0.state != .loading && s.mtx.half1.state != .loading &&
    s.mtx.half0.deferred.isEmpty && s.mtx.half1.deferred.isEmpty && s.ste.walks.isEmpty && s.pwr.peerQuiet

/-- Whether a departure that Table 18.2 governs has lost a condition. -/
def State.bankBroken (s : State) : Bool :=
  match s.pwr.entry with
  | some .sleep => !s.bankable false
  | some .deep => !s.bankable true
  | _ => false

/-- Steps 2 and 3 of Table 18.3 once the last namespace has moved: the half goes to the partner, ANA changes are posted and FETCH_HOLD is set; the links follow 100 ms later (R69). -/
def State.leaveMoved (s : State) : State :=
  let own := s.head == 1
  let s := if (s.half own).state == .loaded || (s.half own).state == .loading then s.handOff own else s
  let s := s.pwr.bankList.foldl (fun s n => s.send (.anaChange n)) s
  let s := if (s.pwr.entry = some .sleep ∨ s.pwr.entry = some .deep ∨ s.pwr.entry = some .off) then s.wr F.PWR_STATE_STEP 3 else s
  ({ s with pwr := { s.pwr with anaAt := some s.now } }).wr F.STK_CTRL_FETCH_HOLD 1

/-- Starts a departure (R393, R400, R118, R430): the owned namespaces move one at a time under R116; a head that owns none goes on at once. -/
def State.leave (s : State) (why : Leave) (byTimer : Bool) : State :=
  let s := State.shareState { s with pwr := { s.pwr with entry := some why, byTimer := byTimer, bankList := [], anaAt := none } } 12 0
  let s := if why = .sleep ∨ why = .deep ∨ why = .off then (s.wr F.PWR_STATE_STEP 1).wr F.PWR_STATE_BANK_LIST 0 else s
  if s.owned.isEmpty then s.leaveMoved else s

/-- BANK_ENTRY_ABORT (R393): the head stays in Run and in its mode. -/
def State.bankAbort (s : State) (code : Nat) : State :=
  match s.pwr.entry with
  | some .sleep | some .deep =>
    let s := { s with pwr := { s.pwr with entry := none, anaAt := none, timerFrom := s.now, lowLoad := true } }
    let s := ((s.portsUp.wr F.PWR_STATE_STEP 0).wr F.PWR_STATE_LAST_ABORT code).inc F.PWR_CNT_ABORTS
    (s.raise (if code = 3 then F.PWR_INT_STATUS_WITHDRAWN else F.PWR_INT_STATUS_ABORT)).note .pwr .bankAbort 0 [code]
  | _ => s

/-- A namespace of a departure has moved: it goes on the bank list, and after the last one steps 2 and 3 follow. A condition of Table 18.2 that fails now aborts the entry. -/
def State.leaveNext (s : State) (nsid : Nat) : State :=
  match s.pwr.entry with
  | none => s
  | some _ =>
    let l := s.pwr.bankList ++ [nsid]
    let s := ({ s with pwr := { s.pwr with bankList := l } }).wr F.PWR_STATE_BANK_LIST (min 0x7FFF l.length)
    let s := (s.ringState 3 0).shareState 12 0
    if s.bankBroken then s.bankAbort 1
    else if s.owned.isEmpty then s.leaveMoved else s

/-- BANK_WITHDRAW (R392): head 1 withdraws. -/
def State.bankWithdraw (s : State) : State := if s.head = 1 then s.bankAbort 3 else s

/-- LINK_DOWN_DELAY (R69, R118): 100 ms after the ANA changes the links go down, in an activation once every command is posted. A lost condition aborts an entry to sleep first. -/
def execLinkDownDelay (s : State) : Out1 :=
  match s.pwr.anaAt with
  | none => .next s
  | some t =>
    if s.now < t + 100000000 then .next s
    else if s.bankBroken then .next (s.bankAbort 1)
    else if s.stk.linksDown || (s.pwr.entry == some .activation && s.stk.ctxs.any fun c => c.2.outstanding != 0) then .next s
    else .next s.portsDown

/-- The check of R391, and the start of the entry when it passes. -/
def State.bankCheck (s : State) (deep byTimer peerQuiet : Bool) : State :=
  let s := { s with pwr := { s.pwr with peerQuiet := peerQuiet } }
  if s.pwr.entry.isNone && s.bankable deep then s.leave (if deep then .deep else .sleep) byTimer else s

/-- BANKING_TIMER_EXPIRY (R391): `peerQuiet` says that the partner meets its share of Table 18.2; `deep` which sleep firmware enters by the timer. [DEDUCED: notes/assumptions/63.md] -/
def execBankingTimerExpiry (deep peerQuiet : Bool) (s : State) : Out1 :=
  let m := (s.fm.forme.map (·.bankMin)).getD 0
  if m = 0 ∨ s.now < s.pwr.timerFrom + m * 60000000000 then .next s
  else
    let low := s.pwr.lowLoad
    let s := { s with pwr := { s.pwr with timerFrom := s.now, lowLoad := true } }
    if low then .next (s.bankCheck deep true peerQuiet) else .next s

/-- BANK_REQ 1 (R391). -/
def execBankReqBanked (peerQuiet : Bool) (s : State) : Out1 := .next (s.bankCheck false false peerQuiet)

/-- BANK_REQ 2 (R391). -/
def execBankReqDeep (peerQuiet : Bool) (s : State) : Out1 := .next (s.bankCheck true false peerQuiet)

/-- POWER_OFF_REQ (R400): steps 1 to 6 of Table 18.3. -/
def execPowerOffReq (s : State) : Out1 := if s.pwr.entry.isNone && s.serving then .next (s.leave .off false) else .next s

/-- Whether steps 1 to 3 of Table 18.3 are done: nothing is owned, the links are down, and OUTSTANDING is 0 on every context. -/
def State.handedOver (s : State) : Bool :=
  s.owned.isEmpty && s.stk.linksDown && s.stk.ctxs.all fun c => c.2.outstanding == 0

/-- Step 4 of Table 18.3: Punch save slots, key stores and key slots are zeroed. -/
def State.zeroSecrets (s : State) : State :=
  { s with pun := { s.pun with slots := [] }, tmp := { s.tmp with stores := [], slots := [] } }

/-- Sends PARK (R358), and ALIVE and the front transmitters stop (R354). -/
def State.parkNow (s : State) : State :=
  let s := s.anvil .park pairChan []
  { s with fm := { s.fm with pins := { s.fm.pins with alive := false, frontTx := false } } }

/-- The banks that a state retains and does not keep powered (Table 18.4): those are signed. -/
def retained (deep : Bool) (k : Nat) : Bool :=
  if deep then decide (k < 32) else decide (k < 32) && !([18, 19, 24, 25, 26, 27, 28] : List Nat).contains k

/-- BANK_ENTER_COMPLETE (R393, R394, R400, R403): steps 4 to 8 of Table 18.3, the end of a power-off, or PARK of a head that is too hot (R453). [DEDUCED: notes/assumptions/89.md] -/
def execBankEnterComplete (s : State) : Out1 :=
  match s.pwr.entry with
  | none => .next s
  | some why =>
    if !s.handedOver then .next s
    else if s.bankBroken then .next (s.bankAbort 1)
    else
      let smith (s : State) : State := { s with fm := { s.fm with smith := { s.fm.smith with gated := [] } } }
      match why with
      | .off => .next ((smith s.zeroSecrets).parkNow).goDark
      | .sleep | .deep =>
        let deep := why == .deep
        let s := smith s.zeroSecrets
        let s := if deep then s.parkNow else s
        let s := ((s.takeSnapshot).wr F.TIM_SNAP_MAIN_NS s.now).wr F.TIM_SNAP_EMBER_COUNT (s.rd F.TIM_EMBER_COUNT)
        let s := { s with clk := { s.clk with running := false }, pwr := { s.pwr with state := if deep then .deep else .sleep, entry := none, anaAt := none, timerHit := false, signed := (List.range 32).filter (retained deep) } }
        let s := (((s.wr F.PWR_STATE_STATE (if deep then 2 else 1)).wr F.PWR_STATE_STEP 0).raise F.PWR_INT_STATUS_ENTERED).inc (if deep then F.PWR_CNT_DEEP else F.PWR_CNT_BANKED)
        .next (s.toMode (if deep then .deepBanked else .banked))
      | .thermal => .next { s.parkNow with pwr := { s.parkNow.pwr with entry := none, anaAt := none } }
      | _ => .next s

/-- A bank whose signature differs is rebuilt from the source that Table 18.4 names (R394): Stick and Chase are cleared, Anvil's bundles retrain, the Matrix filter is cleared, modules are admitted again, and the key slots are empty until keys are loaded. What the other banks hold is read back as it stood. [DEDUCED: notes/assumptions/63.md] -/
def State.rebuildBank (s : State) (k : Nat) : State :=
  if k = 17 then { s with stk := { s.stk with slots := [] }, chs := { s.chs with locks := [], input := [] } }
  else if k = 19 then ({ s with anv := { s.anv with b0 := { tryAt := s.now }, b1 := { tryAt := s.now } } }.wr F.ANV_BUNDLE_STATE0 1).wr F.ANV_BUNDLE_STATE1 1
  else if k = 20 then let own := s.head == 1; s.setHalf own { s.half own with filter := [] }
  else if k = 21 then s.admitted.foldl (fun s m =>
    let s := s.modModule m fun e => { e with state := .admitting, since := s.now, steps := 1 }
    let s := s.gmpSend m { op := Gmp.identify, length := 4096 } [] .entry
    s.gmpSend m { op := Gmp.hello } (helloBlock m s.head 0x0101) .entry) s
  else if k = 23 then { s with tmp := { s.tmp with slots := [], stores := [] } }
  else s

/-- RETENTION_CHECK (R394): banks whose signature differs are shown, counted and rebuilt; an event carries each bank's number. [DEDUCED: notes/assumptions/63.md] -/
def State.retention (s : State) (bad : List Nat) : State :=
  bad.foldl (fun s k =>
    let s := ((s.raise F.PWR_RET_FAIL_BANK (2 ^ k)).inc F.PWR_CNT_RET_FAILS).raise F.PWR_INT_STATUS_RET_FAIL
    (s.logRec .pwr 1 .retentionFail 0 ⟨0, 0⟩ [k]).rebuildBank k) s


/-- Wakes a sleeping head (R394 to R398, R404): time is restored, retention is checked, and the mode becomes Paired from Banked and Joining from Deep-banked. From Deep-banked the mirror data and the filter are not kept. [DEDUCED: notes/assumptions/63.md] -/
def State.wakeUp (s : State) (code : Nat) (bad : List Nat) : State :=
  if s.pwr.state ≠ .sleep ∧ s.pwr.state ≠ .deep then s
  else
    let deep := s.pwr.state == .deep
    let s := { s with pwr := { s.pwr with state := .run, timerHit := false, timerFrom := s.now, lowLoad := true, highSec := 0 } }
    let s := ((s.wr F.PWR_STATE_STATE 0).wr F.PWR_STATE_LAST_WAKE code).raise F.PWR_INT_STATUS_WOKE
    let s := s.timeRestore.retention (bad.filter s.pwr.signed.contains)
    let s : State := { s with pwr := { s.pwr with signed := [] } }
    let s := { s.portsUp with fm := { s.portsUp.fm with pins := { s.portsUp.fm.pins with alive := true } } }
    let own := s.head == 1
    if deep then
      let s := { s with gly := { s.gly with mirror := [], mirrorData := [], peer := {} }, anv := { s.anv with ctl := {}, join := {}, joinedAt := s.now, b0 := {}, b1 := {} } }
      let s := s.setHalf own { s.half own with filter := [], peerHolds := true }
      (s.toMode .joining).joinHello
    else
      let due := (s.gly.own.filter fun e => e.2.dataIn).map (fun e => (false, e.1)) ++ (s.gly.mirror.filter fun e => e.2.dataIn).map fun e => (true, e.1)
      let s : State := { s with gly := { s.gly with wakeDue := due } }
      (s.setHalf own { s.half own with peerHolds := true }).toMode .paired

/-- A wake source of Table 18.5 arrives: it wakes a sleeping head, or aborts an entry that has not reached step 8 (R393). [DEDUCED: notes/assumptions/92.md] -/
def State.wakeSource (s : State) (code : Nat) (bad : List Nat) : State :=
  if s.pwr.state = .sleep ∨ s.pwr.state = .deep then s.wakeUp code bad
  else s.bankAbort (if code = 4 then 4 else 2)

/-- WAKE_TIMER_EXPIRY (R396). -/
def execWakeTimerExpiry (bad : List Nat) (s : State) : Out1 :=
  if s.pwr.timerHit then .next (s.wakeUp 5 bad) else .next s

/-- WAKE_DIGEST_CHECK (R146, R395, R159): after a wake from Banked every unreleased piece, own or mirror, is checked once. One whose data no longer matches its DIGEST takes the copy of the other head, given in `copy`; when the partner is lost, or its copy fails as well, it is a galley copy failure. -/
def execWakeDigestCheck (mirror : Bool) (d : Nat) (copy : Bytes) (s : State) : Out1 :=
  if !s.gly.wakeDue.contains (mirror, d) then .next s
  else
    let s : State := { s with gly := { s.gly with wakeDue := s.gly.wakeDue.filter (· != (mirror, d)) } }
    match Tab.find (if mirror then s.gly.mirror else s.gly.own) d with
    | none => .next s
    | some p =>
      if !p.dataIn || crc64 p.data == p.digest then .next s
      else
        let s := ((s.inc F.PRF_REPAIR_CNT_GALLEY).raise F.GLY_INT_STATUS_WAKE_DIGEST).alarm .gly .galleyLost 0x0404 [d]
        let put (s : State) (q : Piece) : State :=
          { s with gly := if mirror then { s.gly with mirror := Tab.put s.gly.mirror d q } else { s.gly with own := Tab.put s.gly.own d q } }
        if s.anv.lost ∨ crc64 copy ≠ p.digest then
          (let s := s.listLost p.nsid p.slba p.nlb 4
          if mirror then .next s else .next ((s.discardPiece d).raise F.GLY_INT_STATUS_PIECE_LOST))
        else .next (put s { p with data := copy })

/-- WAKE_PARTNER_REQ (R396). -/
def execWakePartnerReq (s : State) : Out1 := .next s.wakePartner

/-- HOST_LOAD_SAMPLE (R391, R396): published write bytes and sent read bytes of the last second. [DEDUCED: notes/assumptions/63.md] -/
def execHostLoadSample (written read : Nat) (s : State) : Out1 :=
  let load := min 255 (max (written * 100 / 160000000000) (read * 100 / 380000000000))
  let thr := (s.fm.forme.map (·.loadPct)).getD 5
  let m := (s.fm.forme.map (·.bankMin)).getD 0
  let left := if m = 0 then 0 else (s.pwr.timerFrom + m * 60000000000 - s.now) / 60000000000
  let s := (((s.wr F.PWR_LOAD_LOAD load).wr F.PWR_LOAD_THRESHOLD thr).wr F.PWR_LOAD_TIMER_LEFT left)
  let high := if 2 * thr < load then s.pwr.highSec + 1 else 0
  let s := { s with pwr := { s.pwr with lowLoad := s.pwr.lowLoad && decide (load < thr), highSec := if 10 ≤ high then 0 else high } }
  if 10 ≤ high then .next s.wakePartner else .next s

/-- Whether the clock of a lane is gated (R389): a lane that a job has reached is not. [DEDUCED: notes/assumptions/63.md] -/
def State.laneGated (s : State) (kind lane : Nat) : Bool := s.pwr.gatedLanes.contains (kind, lane) && !s.laneHasJob kind lane

/-- LANE_CLOCK_GATE (R389): a lane without a job gates its clock, and those that a job has reached since are ungated. [DEDUCED: notes/assumptions/63.md] -/
def execLaneClockGate (kind lane : Nat) (s : State) : Out1 :=
  let on := s.pwr.gatedLanes.filter fun l => !s.laneHasJob l.1 l.2
  if s.laneHasJob kind lane || on.contains (kind, lane) then .next { s with pwr := { s.pwr with gatedLanes := on } }
  else .next { s with pwr := { s.pwr with gatedLanes := on ++ [(kind, lane)] } }

/-- SMITH_CLOCK_GATE (R389): a smith core without ready work gates its clock; while both cores of a pair are gated its watchdog is paused. Core c belongs to pair c / 2. -/
def execSmithClockGate (core : Nat) (s : State) : Out1 :=
  if s.fm.smith.gated.contains core then .next s
  else .next { s with fm := { s.fm with smith := { s.fm.smith with gated := s.fm.smith.gated ++ [core] } } }

end Sys2Proof.Machine
end

