-- ==== Sys2Proof/Machine/Bundles.lean ====
section
/-! DEFINITION. Anvil's bundles: flits, messages, replays, losing a bundle and training it again (R342 to R346, R374, R83). -/

namespace Sys2Proof.Machine

/-- One bundle; false is bundle 0. -/
def State.bundle (s : State) (b : Bool) : Bundle := if b then s.anv.b1 else s.anv.b0

/-- Changes a bundle. -/
def State.modBundle (s : State) (b : Bool) (f : Bundle → Bundle) : State :=
  { s with anv := if b then { s.anv with b1 := f s.anv.b1 } else { s.anv with b0 := f s.anv.b0 } }

/-- The STATE field of a bundle in ANV_BUNDLE. -/
def bundleField (b : Bool) : Field := if b then F.ANV_BUNDLE_STATE1 else F.ANV_BUNDLE_STATE0

/-- STATE of a bundle: 0 down, 1 training, 2 up, 3 retired. -/
def State.bundleState (s : State) (b : Bool) : Nat := s.rd (bundleField b)

/-- UP_SEC of a bundle: whole seconds since it came up or last had an error, held at 63. -/
def State.upSec (s : State) (b : Bool) : Nat :=
  if s.bundleState b = 2 then min 63 ((s.now - (s.bundle b).upAt) / 1000000000) else 0

/-- The TYPE codes of Table 16.3. -/
def knownTypes : List Nat :=
  [1, 2, 3, 4, 5, 6, 7, 8, 9, 0x10, 0x11, 0x12, 0x13, 0x14, 0x15, 0x16, 0x20, 0x21, 0x22, 0x23, 0x24, 0x25, 0x26, 0x30, 0x31, 0x32, 0x40, 0x41, 0x42, 0x50]

/-- Whether a message header stands (R345): HCRC over bytes 0x00 to 0x0B with its own field as zero, a TYPE of Table 16.3, a LEN of at most 65,536, and a zero reserved field. [DESIGN CHOICE: notes/assumptions/60.md] -/
def headerOk (h : Bytes) : Bool :=
  let w := leAt h 0 8
  leAt h 8 4 == crc32c (h.take 8 ++ zeros 4) && knownTypes.contains (bits w 63 56) && decide (bits w 47 24 ≤ 65536) && leAt h 12 4 == 0

/-- The reserved bytes of a message body (Table 16.3), as offset and length. -/
def bodyResv : Nat → Nat × Nat
  | 1 | 2 | 5 => (74, 6)
  | 7 => (33, 3)
  | 8 => (40, 8)
  | 0x10 => (6, 2)
  | 0x11 => (4, 4)
  | 0x12 => (9, 7)
  | 0x15 | 0x16 => (1, 7)
  | 0x20 => (12, 4)
  | 0x21 => (20, 4)
  | 0x26 | 0x30 | 0x32 => (4, 4)
  | 0x41 => (5, 3)
  | 0x50 => (1, 7)
  | _ => (0, 0)

/-- Whether a message stands (R345): its header does, and the reserved bytes of its body are zero. -/
def msgOk (h body : Bytes) : Bool :=
  headerOk h && allZero (slice body (bodyResv (bits (leAt h 0 8) 63 56)).1 (bodyResv (bits (leAt h 0 8) 63 56)).2)

/-- Takes whole messages off the front of a payload stream (R345): the messages kept, how many were dropped, and the bytes left. A header of zeros is filler. [DESIGN CHOICE: notes/assumptions/60.md] -/
def extractMsgs : Nat → Bytes → List AnvMsg × Nat × Bytes
  | 0, b => ([], 0, b)
  | n + 1, b =>
    if b.length < 16 then ([], 0, b)
    else if allZero (b.take 16) then extractMsgs n (b.drop 16)
    else
      let w := leAt b 0 8
      let len := bits w 47 24
      let total := if len ≤ 65536 then 16 + roundUp len 16 else 16
      if b.length < total then ([], 0, b)
      else
        let (ms, bad, rest) := extractMsgs n (b.drop total)
        if msgOk (b.take 16) (slice b 16 len) then (⟨bits w 63 56, bits w 55 48, bits w 23 16, bits w 15 0, slice b 16 len⟩ :: ms, bad, rest)
        else (ms, bad + 1, rest)

/-- An error of a bundle (R344): its second count starts again, and the channel's classification follows. [DEDUCED: notes/assumptions/78.md] -/
def State.bundleError (s : State) (b : Bool) : State :=
  (s.modBundle b fun x => { x with upAt := s.now }).report Kind.bundle (bit b) 0

/-- FSEQ follows modulo 2^24 (R343). -/
def nextFlit (q : Nat) : Nat := (q + 1) % 2 ^ 24

/-- ANV_FLIT_RECEIVE (R343 to R345): a flit that fails FCRC, has a reserved bit set (R5), or is out of FSEQ order is answered with a Nak naming the last good FSEQ. One in order acknowledges flits of this side through FACK; a Data flit adds its payload, from which whole messages are taken. A flit of a reserved kind is dropped. [DESIGN CHOICE: notes/assumptions/60.md] -/
def execAnvFlitReceive (b : Bool) (flit : Bytes) (s : State) : Out1 :=
  if s.bundleState b ≠ 2 ∨ flit.length ≠ 256 then .next s
  else
    let x := s.bundle b
    let w := leAt flit 0 8
    let seq := bits w 63 40
    let kind := bits w 15 12
    let nak : Out1 := .next (s.send (.anv .nak pairChan [bit b, (x.nextIn + 2 ^ 24 - 1) % 2 ^ 24] []))
    if leAt flit 0xF8 8 ≠ crc64 (flit.take 0xF8) ∨ bits w 11 0 ≠ 0 then nak
    else if kind ≠ 0 ∧ seq ≠ x.nextIn then nak
    else
      let acked := bits w 39 16
      let s := s.modBundle b fun x => { x with nextIn := if kind = 0 then x.nextIn else nextFlit x.nextIn, replays := x.replays.filter fun (r : Nat × Nat) => decide (2 ^ 23 ≤ (acked + 2 ^ 24 - r.1) % 2 ^ 24) }
      if kind ≠ 1 then .next s
      else
        let (ms, bad, rest) := extractMsgs 4112 (x.rest ++ slice flit 8 240)
        let s := s.modBundle b fun x => { x with rest := rest }
        .next ({ s with anv := { s.anv with inbox := s.anv.inbox ++ ms } }.inc F.ANV_RETRY_CNT_BAD_MSG bad)

/-- ANV_NAK (R344): the flits after FACK up to the last one sent go out again; the sender holds 4,096 unacknowledged flits. One replayed 16 times without being acknowledged is an error of the bundle. [DESIGN CHOICE: notes/assumptions/60.md] -/
def execAnvNak (b : Bool) (fack last : Nat) (s : State) : Out1 :=
  if s.bundleState b ≠ 2 then .next s
  else
    let n := min 4096 ((last + 2 ^ 24 - fack % 2 ^ 24) % 2 ^ 24)
    let seqs := (List.range n).map fun i => (fack + 1 + i) % 2 ^ 24
    let old := (s.bundle b).replays
    let new := seqs.foldl (fun (t : Tab Nat) q => Tab.put t q (Tab.get 0 old q + 1)) ([] : Tab Nat)
    let spent := new.any fun r => r.2 == 16
    let s := (s.modBundle b fun x => { x with replays := new }).inc F.ANV_RETRY_CNT_REPLAY n
    .next (if spent then s.bundleError b else s)

/-- ANV_LANE_LOCK_LOSS (R344). -/
def execAnvLaneLockLoss (b : Bool) (s : State) : Out1 := .next (if s.bundleState b = 2 then s.bundleError b else s)

/-- The packet channels of roles 0, 1 and 4 that run on a bundle (R83). -/
def bundleChans (b : Bool) : List Nat :=
  ((List.range 64).map (65472 + ·)).filter fun c => (channelRole c == 0 || channelRole c == 1 || channelRole c == 4) && c % 2 == bit b

/-- The other channel of a pair (R83). -/
def pairOf (c : Nat) : Nat := if c % 2 = 0 then c + 1 else c - 1

/-- Re-homes the channels of a bundle to the other one (R83). [DEDUCED: notes/assumptions/78.md, notes/assumptions/95.md] -/
def State.moveChans (s : State) (b : Bool) : State :=
  (bundleChans b).foldl (fun s c => s.modCtx c fun x => { x with movedTo := some (pairOf c) }) s

/-- The channels of a bundle return to it between entries (R83). -/
def State.returnChans (s : State) (b : Bool) : State :=
  (bundleChans b).foldl (fun s c => s.modCtx c fun x => { x with movedTo := none }) s

/-- Whether a bundle's channel is retired, so that it is not trained again (R374). -/
def State.bundleRetired (s : State) (b : Bool) : Bool := s.isOut Kind.bundle (bit b)

/-- A bundle goes down (R374): its channels are re-homed, its traffic moves, and ingest is throttled. With both bundles down while ALIVE toggles, publications are held from then on (R359). [DEDUCED: notes/assumptions/78.md] -/
def State.bundleDown (s : State) (b : Bool) : State :=
  if s.bundleState b ≠ 2 then s
  else
    let s := (s.wr (bundleField b) (if s.bundleRetired b then 3 else 0)).modBundle b fun x => { x with tryAt := s.now, rest := [], replays := [] }
    let s := (((s.raise F.ANV_INT_STATUS_BUNDLE_DOWN).inc F.ANV_RETRY_CNT_DOWN).wr F.ANV_BUNDLE_THROTTLE 1).logRec .anv 1 .bundleLost 0 ⟨Kind.bundle, bit b⟩
    let both := s.bundleState (!b) != 2
    let s := if both then s else s.moveChans b
    if both && s.on F.ANV_TONGS_ALIVE_OK then { s with anv := { s.anv with bothDown := some s.now } } else s

/-- BUNDLE_DOWN (R374). -/
def execBundleDown (b : Bool) (s : State) : Out1 := .next (s.bundleDown b)

/-- The bundles that the PAIR section enables (R41); both while no forme is known. -/
def State.bundleMask (s : State) : Nat := (s.fm.forme.map (·.bundles)).getD 3

/-- BUNDLE_TRAIN_RETRY (R374, R41): every 1 s an attempt starts on an enabled bundle that is down and not retired. -/
def execBundleTrainRetry (b : Bool) (s : State) : Out1 :=
  if s.bundleState b ≠ 0 ∨ s.bundleRetired b ∨ !bitOf s.bundleMask (bit b) ∨ s.now < (s.bundle b).tryAt + 1000000000 then .next s
  else .next ((s.modBundle b fun x => { x with tryAt := s.now }).wr (bundleField b) 1)

/-- BUNDLE_TRAINED (R374): a training attempt ends. With the link trained and flits exchanged the bundle is up and its seconds count; until it has run 10 s its channels stay where they are, unless no other bundle is up. A head in Joining then sends HELLO (Table 16.5). [DEDUCED: notes/assumptions/78.md] -/
def execBundleTrained (b ok : Bool) (s : State) : Out1 :=
  if s.bundleState b ≠ 1 then .next s
  else if !ok then .next (s.wr (bundleField b) 0)
  else
    let s := (s.wr (bundleField b) 2).modBundle b fun x => { x with upAt := s.now, nextIn := 0, rest := [], replays := [] }
    let s := (s.raise F.ANV_INT_STATUS_BUNDLE_UP).logRec .anv 0 .bundleUp 0 ⟨Kind.bundle, bit b⟩
    let s := { s with anv := { s.anv with bothDown := none } }
    let s := if s.bundleState (!b) = 2 then s else (s.returnChans b).moveChans (!b)
    .next (if s.fm.mode = .joining ∧ s.anv.join.peer = none ∧ !s.anv.lost then s.joinHello else s)

/-- BUNDLE_STABLE (R374): after 10 s without error the channels return and, with both bundles up, the throttle ends. [DEDUCED: notes/assumptions/78.md] -/
def execBundleStable (b : Bool) (s : State) : Out1 :=
  if s.bundleState b ≠ 2 ∨ s.now < (s.bundle b).upAt + 10000000000 then .next s
  else
    let s := s.returnChans b
    .next (if s.bundleState (!b) = 2 then s.wr F.ANV_BUNDLE_THROTTLE 0 else s)

end Sys2Proof.Machine
end

