-- ==== Sys2Proof/Machine/Relay.lean ====
section
/-! DEFINITION. The staging lease, the relay of an image to the partner, and the end of an activation (R411 to R413, R417). -/

namespace Sys2Proof.Machine

/-- The status of the last request (R412); one of Table 19.4 sets REFUSED. -/
def State.updRefuse (s : State) (st : Status) : State :=
  ((s.wr F.UPD_STATUS_STATUS st).raise F.UPD_INT_STATUS_REFUSED).note .upd .updateRefused st

/-- Whether an update step or a re-form waits before it begins: in guard (R136), and while the partner is Banked (R399, R417). -/
def State.stepWaits (s : State) : Bool := s.inGuard || s.rd F.ANV_PAIR_PEER_MODE == 9 || s.inMode [.banked, .deepBanked]

/-- The lease ends (R411): a staging slot whose image has not been verified is discarded, and a verified one stays. -/
def State.leaseEnd (s : State) : State :=
  if s.upd.lease.isNone then s
  else
    let b := s.stagingSlot
    let kept := (s.slot b).verified
    let s := if kept then s else s.setSlot b {}
    let stage := if kept && (s.upd.stage != .idle) then .staged else .idle
    ({ s with upd := { s.upd with lease := none, parts := [], relay := none, verdict := none, stage := stage, want := false } } : State).raise F.UPD_INT_STATUS_LEASE_END

/-- Sends the next command of a relay on the lowest forwarding channel, with CNTLID 0, when a credit is there (R347, R413). [DEDUCED: notes/assumptions/68.md] -/
def State.relayGo (s : State) : State :=
  match s.upd.relay with
  | none => s
  | some r =>
    match r.cmds, r.fwdId with
    | c :: _, none =>
      let chan := s.chanNow 65472
      if (s.ctx chan).credits = 0 then s
      else
        let id := s.chs.nextFwd + 1
        let x := s.slot r.fromB
        let cmd : HostCmd := match c with
          | .block k => { cid := 0, op := .fwDownload, nsid := 0, ranges := [(65536 * k, (Tab.get [] x.blocks k).length)] }
          | .commit a n => { cid := 0, op := .fwCommit, nsid := 0, ranges := [(a, n)] }
          | .compare => { cid := 0, op := .updateCompare, nsid := 0 }
        let s := { s with chs := { s.chs with nextFwd := id }, upd := { s.upd with relay := some { r with fwdId := some id } } }
        let s := s.modCtx chan fun q => { q with credits := q.credits - 1 }
        s.anvil .fwdCmd chan (fwdArgs { ctx := chan, seq := 0, arrival := s.now, fwdId := id, cmd := cmd })
    | _, _ => s

/-- Starts a relay from a slot. [DEDUCED: notes/assumptions/68.md] -/
def State.relayStart (s : State) (fromB : Bool) (cmds : List RelayCmd) : State :=
  State.relayGo { s with upd := { s.upd with relay := some ⟨fromB, cmds, none⟩, fail := none, compared := none } }

/-- The commands that relay a whole image (R413). -/
def Slot.relayCmds (x : Slot) : List RelayCmd := (x.blocks.map fun b => .block b.1) ++ [.commit 0 0, .compare]

/-- Answers a DATA_REQ of the partner for a relayed command (R413, R348). -/
def State.relayData (s : State) (chan fwdId off len tag gen : Nat) : State :=
  match s.upd.relay with
  | some r =>
    if r.fwdId ≠ some fwdId then s
    else
      let x := s.slot r.fromB
      let data : Bytes := match r.cmds with
        | .block k :: _ => Tab.get [] x.blocks k
        | .compare :: _ => manifestHash x.content
        | _ => []
      s.anvil .data chan [fwdId, off, tag, gen] (slice data off len)
  | none => s

/-- A RESULT for a relayed command (R413): a failure ends the relay with its status and this head keeps its staged image; Update Compare tells what the partner holds, and shows when the pair runs two images. [DEDUCED: notes/assumptions/68.md] -/
def State.relayResult (s : State) (st direct dword0 : Nat) : State :=
  match s.upd.relay with
  | none => s
  | some r =>
    let ended (s : State) : State := { s with upd := { s.upd with relay := none, stage := if s.upd.stage = .relaying then .staged else s.upd.stage } }
    if st ≠ 0 ∨ direct ≠ 0 then
      let st := if st = 0 then 0x0804 else st
      let s := (ended { s with upd := { s.upd with fail := some st } }).updRefuse st
      match r.cmds with
      | .commit 3 _ :: _ => if s.upd.act = .peerFirst then State.leaseEnd { s with upd := { s.upd with act := .none, stage := .staged } } else s
      | _ => s
    else
      let b0 := bitOf dword0 0
      let b1 := bitOf dword0 1
      let s := match r.cmds with
        | .commit a _ :: _ => { s with upd := { s.upd with relayed := some a } }
        | .compare :: _ =>
          let mine := manifestHash (s.slot r.fromB).content == s.upd.runHash
          let s := if b1 ≠ mine then s.raise F.UPD_INT_STATUS_MISMATCH else s
          let s := { s with upd := { s.upd with compared := some (b0, b1) } }
          if r.fromB = s.stagingSlot then
            let s := if b0 && !s.upd.partnerStaged then s.raise F.UPD_INT_STATUS_STAGED else s
            { s with upd := { s.upd with partnerStaged := b0 } }
          else s
        | _ => s
      let s := { s with upd := { s.upd with lease := s.upd.lease.map fun (l : Lease) => { l with since := s.now } } }
      match r.cmds.tail with
      | [] => ended s
      | rest => State.relayGo { s with upd := { s.upd with relay := some ⟨r.fromB, rest, none⟩ } }

/-- This head's activation ends: the lease is released, and at the initiator the activation of the pair has ended (R411, Table 19.6 step 13). -/
def State.actEnd (s : State) : State :=
  let first := s.upd.initiator
  let s := State.leaseEnd { s with upd := { s.upd with act := .none, stage := .idle, initiator := false, formeOnly := false } }
  if first then s.raise F.UPD_INT_STATUS_ACTIVATED else s

/-- The namespaces of a head that has reset for its activation are back: the partner has ended its Handback, or there was nothing to return (R417 step 5). [DEDUCED: notes/assumptions/69.md] -/
def State.actReturned (s : State) (handbackDone : Bool) : State :=
  if s.upd.act = .returning ∧ s.fm.mode = .paired ∧ (handbackDone ∨ !s.upd.moved) then s.actEnd else s

/-- The partner is lost: a relay ends, and an activation stops (R417) unless the partner has only parked for its own part of it. [DEDUCED: notes/assumptions/69.md] -/
def State.actStop (s : State) (parked : Bool) : State :=
  let s := { s with upd := { s.upd with relay := none, want := false, stage := if s.upd.stage = .relaying then .staged else s.upd.stage } }
  if s.upd.act = .none ∨ (parked ∧ s.upd.act = .peerFirst) then s
  else State.leaseEnd { s with upd := { s.upd with act := .none, initiator := false, formeOnly := false } }

end Sys2Proof.Machine
end

