-- ==== Sys2Proof/Machine/Settle.lean ====
section
/-! DEFINITION. Settling open stripes, the tag scan, and the control area as the head keeps it (R185, R236, R262, R263, R295). -/

namespace Sys2Proof.Machine


/-- The bodies of a stripe in role order, taken from agreeing members only, with missing roles reconstructed while at most two are missing (R258). -/
def State.agreedBodies (s : State) (r : OpenRec) : List Bytes :=
  let got := (List.range (r.width + 2)).map fun role =>
    let m := memberOf r.width r.stripe role
    if s.found r m = .agrees then
      (match s.chunkAt (s.sheet r.sheet) r.stripe m with
      | some (some c) => some (c.drop 64)
      | _ => none)
    else none
  let src := got.map fun b => b.getD (zeros bodyLen)
  match (got.zipIdx).filterMap fun p => if p.1.isNone then some p.2 else none with
  | [x] => reconstruct bodyLen r.width x x src
  | [x, y] => reconstruct bodyLen r.width x y src
  | _ => src

/-- The sheet's account of a settled stripe: it is behind the next stripe to open, and its units hold no sort that a grain-table entry names. -/
def State.stripeDone (s : State) (r : OpenRec) : State :=
  let s := s.modSheet r.sheet fun (e : Sheet) => { e with cur := none, next := max e.next (r.stripe + 1), dead := e.dead + (if r.stripe < e.next ∧ e.writePoint ≤ r.stripe then 0 else stripeUnits r.width) }
  s.modSheet r.sheet fun (e : Sheet) => { e with writePoint := max e.writePoint (r.stripe + 1) }

/-- STRIPE_SETTLE (R262, Table 12.6): a stripe with an OPEN record and no CLOSE or VOID record. [DEDUCED: notes/assumptions/54.md] -/
def State.settleStripe (s : State) (r : OpenRec) : State :=
  let ms := List.range (r.width + 2)
  let agree := ms.filter fun m => s.found r m == .agrees
  let unwritten := ms.filter fun m => s.found r m == .unwritten
  let spoiled := ms.filter fun m => s.found r m == .spoiled
  let mask := (agree.map (2 ^ ·)).sum
  let done (s : State) : State := ((s.inc F.IMP_SETTLE_CNT_COMPLETED).sifRecord r.sheet r.stripe r.epoch 2 r.width r.head mask).stripeDone r
  if agree.length = r.width + 2 then done s
  else if r.width ≤ agree.length then
    let bodies := s.agreedBodies r
    let s := unwritten.foldl (fun s m =>
      let role := roleOf r.width r.stripe m
      s.sendChunk r.sheet r.stripe m (chunkBytes r.sheet r.stripe r.epoch m r.width role r.head false false (bodies.getD role []))) s
    let s := if spoiled.isEmpty then s
      else (s.inc F.IMP_SETTLE_CNT_SPOILED).frontSheet r.sheet
    done s
  else
    let s := unwritten.foldl (fun s m =>
      s.sendChunk r.sheet r.stripe m (chunkBytes r.sheet r.stripe r.epoch m r.width (roleOf r.width r.stripe m) r.head false true (zeros bodyLen))) s
    let s := s.sifRecord r.sheet r.stripe r.epoch 3 r.width r.head mask
    ((s.inc F.IMP_SETTLE_CNT_VOID).raise F.IMP_INT_STATUS_VOID).stripeDone r

/-- The control area of this head as it stands: durable batches, OPEN records of stripes being written, and the persistent state. -/
def State.control (s : State) : Control :=
  { head := s.head, g := s.galleyGib, restoreSeq := s.gly.lastRestore
    ring := s.hth.journal.ring
    opens := (s.hth.flights.filter fun f => f.phase == .sent || f.phase == .closeWritten).map fun f => ⟨f.sheet, f.stripe, f.epoch, f.width, f.head⟩
    stampHwm := s.chs.hwm, epochMark := s.hth.epochMark
    hwm0 := allocMark s.mtx.half0.hwm, hwm1 := allocMark s.mtx.half1.hwm
    deferred0 := s.mtx.half0.deferred, deferred1 := s.mtx.half1.deferred
    resv := s.stk.resv
    nonces := (s.tmp.counters.filter fun c => c.2.marked).map fun c => (c.1, ((s.keyRec c.1).map s.epochOf).getD 0, c.2.hwm)
    sessions := s.ste.sessions
    walks := s.ste.walks.map fun v => (v, (Tab.get ({} : Volume) s.vols v).walk)
    taken := s.anv.taken, banked := s.pwr.bankList
    rebuild := s.imp.rebuild, reshape := s.reshapes.find? (!·.peers), peerReshape := s.reshapes.find? (·.peers)
    scrap := s.flt.scrap, log := s.flt.log }

/-- An epoch raise of this head for a key (R236); at 0xFFFF the key is exhausted at this head instead (Table 11.5). [DEDUCED: notes/assumptions/129.md] -/
def State.raiseEpoch (s : State) (h : Nat) (k : KeyRec) : State :=
  let e := s.epochOf k
  if e = 0xFFFF then s.setCtr h { exhausted := true }
  else
    let k := if s.head = 0 then { k with epoch0 := e + 1 } else { k with epoch1 := e + 1 }
    ((s.setKey h k).setCtr h {}).raise F.TMP_INT_STATUS_EPOCH_RAISED

/-- NONCE_RESUME (R235, R236): for each key, drawing resumes at the highest of the marks found for the key's epoch, plus 2^20, once the next mark is journalled. A key whose record shows an epoch of this head and no mark for it raises that epoch and draws from 0. [DEDUCED: notes/assumptions/129.md] -/
def State.nonceResume (s : State) (marks : List (Nat × Nat × Nat)) : State :=
  s.tmp.keys.foldl (fun s k =>
    if s.epochOf k.2 = 0 then s
    else match marks.filterMap fun (m : Nat × Nat × Nat) => if m.1 = k.1 ∧ m.2.1 = s.epochOf k.2 then some m.2.2 else none with
      | [] => s.raiseEpoch k.1 k.2
      | m :: rest =>
        let n := rest.foldl max m + 2 ^ 20
        let c := s.ctr k.1
        if n ≤ c.next then s else s.setCtr k.1 { c with next := n, hwm := n - 2 ^ 20, journalling := some n, marked := true }) s

/-- Serial order of epochs (R253): a comes after b. -/
def epochAfter (a b : Nat) : Bool := let d := (a + 2 ^ 32 - b) % 2 ^ 32; decide (1 ≤ d ∧ d < 2 ^ 31)

/-- Inserts by a rising order. -/
def insertBy {α : Type} (after : α → α → Bool) (x : α) : List α → List α
  | [] => [x]
  | y :: rest => if after y x then x :: y :: rest else y :: insertBy after x rest

/-- The SHEET, STRIPE, EPOCH and HEAD that most agreeing chunks of a position carry (R263), as an OPEN record. -/
def State.guessOpen (s : State) (id stripe : Nat) : Option OpenRec :=
  let e := s.sheet id
  let cs := (List.range (e.width + 2)).filterMap fun m => match s.chunkAt e stripe m with
    | some (some c) => if leAt c 0 8 = id * 2 ^ 32 + stripe then some (bits (leAt c 8 8) 63 32, bits (leAt c 8 8) 14 14) else none
    | _ => none
  let best := cs.foldl (fun b x => match b with
    | none => some x
    | some y => if cs.count y < cs.count x then some x else some y) none
  best.map fun x => ⟨id, stripe, x.1, e.width, x.2⟩

/-- The stripes of an open sheet from the write point to the first whose positions are all unwritten (R263). -/
def State.tailStripes (s : State) (id : Nat) : List Nat :=
  let e := s.sheet id
  let from_ := (List.range (e.stripes - e.writePoint)).map (e.writePoint + ·)
  from_.takeWhile fun k => (List.range (e.width + 2)).any fun m => (s.chunkAt e k m).isSome

/-- The sorts of a stripe's data with their offsets: each starts where the one before it ends. -/
def sortsOf (fuel base : Nat) (b : Bytes) : List (Nat × Bytes) :=
  match fuel with
  | 0 => []
  | fuel + 1 =>
    if b.length < 64 then []
    else
      let n := sortSize (roundUp (bits (leAt b 0x10 8) 15 0) 16)
      if allZero (b.take 64) then []
      else if b.length < n then sortsOf fuel (base + 1) (b.drop 64)
      else if sortOk (b.take n) then (base, b.take n) :: sortsOf fuel (base + n / 64) (b.drop n)
      else sortsOf fuel (base + 1) (b.drop 64)

/-- Lists an extent that the tag scan has changed, with cause 6 (R295, Table 13.17): no descriptor says whether a later piece wrote it again. [DEDUCED: notes/assumptions/54.md] -/
def State.listScanned (s : State) (vol g : Nat) : State :=
  let v := Tab.get {} s.vols vol
  if v.nsid = 0 then s else s.listLost v.nsid (g * 8192 / lbafData v.lbaf) (8192 / lbafData v.lbaf) 6

/-- Places one sort that the tag scan meets (R295). `scanned` lists grains that this scan has set. [DEDUCED: notes/assumptions/54.md] -/
def State.scanSort (s : State) (blind : Bool) (scanned : List Nat) (id : Nat) (x : Nat × Bytes) : List Nat × State :=
  let b := x.2
  let gid := leAt b 0 8
  let e := s.grainAt gid
  let addr := mkAddr id x.1
  let units := b.length / 64
  let setIt (s : State) : State :=
    let s := s.modGrain gid fun e => { e with state := .deferred, gen := gidGen gid, sheet := addrSheet addr, offset := addrOffset addr, units := units, fp := none }
    let h := s.half (gidHalf gid)
    (s.setHalf (gidHalf gid) { h with deferred := addRange (gidIndex gid) h.deferred }).listSort gid addr units true
  if e.gen < gidGen gid then
    let vol := bits (leAt b 8 8) 63 40
    let g := bits (leAt b 8 8) 39 0
    let s := setIt s
    (gid :: scanned, match Tab.find s.vols vol with
      | some v =>
        let s : State := { s with vols := Tab.put s.vols vol (v.mapSet g ⟨gid, (Tab.get {} v.map g).tag⟩) }
        if blind then s.listScanned vol g else s
      | none => s)
  else if e.gen = gidGen gid ∧ (e.state = .inFlight ∨ scanned.contains gid) then
    let s := if scanned.contains gid then s.deadUnits e.sheet e.units else s
    (if scanned.contains gid then scanned else gid :: scanned, setIt s)
  else (scanned, s.listSort gid addr units false)

/-- TAG_SCAN (R263, R295): the stripes of the open sheets are settled without OPEN records, the sorts are visited in ascending epoch order, the marks resume far ahead, and the audit and a pair alarm follow, which gives the times of the checkpoint and of the loss. `blind` says that no descriptor has survived. [DEDUCED: notes/assumptions/54.md] -/
def State.tagScan (s : State) (blind : Bool) : State :=
  let opens := (Tab.keysWhere s.hth.sheets fun _ e => e.state == .opened && !e.isMap).flatMap fun id => (s.tailStripes id).filterMap fun k => s.guessOpen id k
  let byEpoch := opens.foldl (fun l r => insertBy (fun a b => epochAfter a.epoch b.epoch) r l) []
  let s := byEpoch.foldl State.settleStripe s
  let (_, s) := byEpoch.foldl (fun (p : List Nat × State) r =>
    match p.2.stripeBodies r.sheet r.stripe with
    | none => p
    | some bs =>
      let img := (bs.take r.width).flatten
      (sortsOf (stripeUnits r.width) (r.stripe * stripeUnits r.width) img).foldl (fun (p : List Nat × State) x => p.2.scanSort blind p.1 r.sheet x) p) ([], s)
  let c := s.hth.journal.ckpt
  let s := s.wr F.CHS_LAST_STAMP_STAMP (c.stampHwm + 2 ^ 40)
  let s := { s with chs := { s.chs with hwm := c.stampHwm + 2 ^ 40 }, hth := { s.hth with epoch := (c.epochMark + 2 ^ 28) % 2 ^ 32, epochMark := (c.epochMark + 2 ^ 28) % 2 ^ 32 } }
  let own := s.head == 1
  let s := s.setHalf own { s.half own with hwm := (if own then c.hwm1 else c.hwm0) + 2 ^ 32 }
  (s.auditStart.raise F.HTH_INT_STATUS_TAG_SCAN).logRec .hth 2 .tagScan 0x0409 ⟨0, 0⟩ [s.hth.journal.ckptAt, s.now]

end Sys2Proof.Machine
end

