-- ==== Sys2Proof/Machine/Pairing.lean ====
section
/-! DEFINITION. Joining and binding of a pair, STATUS, PARK and a fenced restart (R351, R352, R358, R366, R424). -/

namespace Sys2Proof.Machine

/-- The version that answers an offer (R351, R6): the highest minor shared within major 1, or within major 1 as the major before 2. [DEDUCED: notes/assumptions/77.md] -/
def chooseVersion (offer : Nat) : Option Nat :=
  if offer / 256 = 1 then some (256 + min (offer % 256) 2)
  else if offer / 256 = 2 then some anvilVersion
  else none

/-- What stops the pair (R351): no shared version or one below the forme's minimum (R56), unlike format majors, unlike digests or equal head indices (R55), unlike galley sizes (R20), and a bundle mask other than 0x3 (R41). [DEDUCED: notes/assumptions/77.md] -/
def State.joinFault (s : State) (h : HelloInfo) (version : Option Nat) : Option EventName :=
  match version with
  | none => some .versionFail
  | some v =>
    if v < (s.fm.forme.map (·.minAnvil)).getD 0 then some .versionFail
    else if h.format / 256 ≠ (s.fm.forme.map (·.version)).getD 0x0100 / 256 ∨ h.digest ≠ s.pairDigest ∨ h.head = s.head ∨ s.bundleMask ≠ 3 then some .joinMismatch
    else if h.galleyGib ≠ s.galleyGib then some .galleySize
    else none

/-- Stops the pair (R351): the head stays in Joining with an alarm, and from now on sends HELLO alone. -/
def State.joinStall (s : State) (e : EventName) : State :=
  if s.fm.mode ≠ .joining ∨ s.anv.join.stalled.isSome then s
  else (({ s with anv := { s.anv with join := { s.anv.join with stalled := some s.now } } } : State).raise F.ANV_INT_STATUS_JOIN_STALL).alarm .anv e

/-- The order of the P-384 group (FIPS 186). -/
def p384Order : Nat := 0xFFFFFFFFFFFFFFFFFFFFFFFFFFFFFFFFFFFFFFFFFFFFFFFFC7634D81F4372DDF581A0DB248B0A77AECEC196ACCC52973

/-- The device identity key (R423): 48 bytes reduced modulo the group order. -/
def State.deviceKey (s : State) : Bytes := beBytes (beNat (hkdf (leBytes s.fm.hallmark.fuses.uds 32) [] (ascii "HEARIS DEVICE ID") 48) % p384Order) 48

/-- Changes the binding exchange. -/
def State.modPairBind (s : State) (f : PairBind → PairBind) : State :=
  { s with fm := { s.fm with hallmark := { s.fm.hallmark with bind := f s.fm.hallmark.bind } } }

/-- Whether both heads come from Forming together (R352): the partner named Joining in its HELLO. -/
def State.bothForming (s : State) : Bool := s.fm.mode == .joining && s.anv.join.peer.any fun h => h.mode == 3

/-- Sends this head's control areas as RING (Table 16.5 step 3), and the scrap list and the nonce marks that it holds for the partner (R236, R383). [DESIGN CHOICE: notes/assumptions/59.md] -/
def State.sendControl (s : State) : State :=
  let c : Control := s.control
  let s := (c.ring.foldl State.sendBatch s).sendWaiting
  let s := c.opens.foldl (fun s r => s.sifRecord r.sheet r.stripe r.epoch 1 r.width r.head 0) s
  let s := c.resv.foldl (fun s r => s.ringState 0 r.1) s
  let s := c.walks.foldl (fun s w => s.ringState 1 w.1) s
  let s := c.sessions.foldl (fun s e => s.ringState 2 e.1) s
  let s := c.scrap.foldl (fun s e => s.ringState 4 e.1) s
  let s := c.log.foldl (fun s e => s.ringState 5 e.2.seq) s
  let s := s.anv.ctl.scrap.foldl (fun s e => s.ringState 6 e.1) s
  let s := c.nonces.foldl (fun s e => s.ringState 11 e.1) s
  let s := s.anv.ctl.nonces.foldl (fun s e => s.ringState 15 e.1) s
  [(3, 0), (7, 0), (8, 0), (9, 0), (9, 1), (10, 0), (10, 1), (12, 0), (13, 0), (14, 0)].foldl (fun s k => s.ringState k.1 k.2) s

/-- Sends every unreleased piece, with COMMIT where set, and the control areas (Table 16.5 step 3). When both heads come from Forming together, the pieces held for the partner go to it as well (R352). -/
def State.sendBacklog (s : State) : State :=
  let both := s.bothForming
  let s := { s with gly := { s.gly with mirroring := true } }
  let one (s : State) (e : Nat × Piece) : State :=
    let s := s.mirrorPiece e.1 e.2
    if e.2.commit then s.anvil .commit pairChan [e.1, e.2.gen] else s
  let s := (s.gly.own.filter fun e => e.2.dataIn).foldl one s
  let s := if both then (s.gly.mirror.filter fun e => e.2.dataIn).foldl one s else s
  s.sendControl

/-- Whether the head is bound and checked, so that step 1 of Table 16.5 is done. -/
def State.joined1 (s : State) : Bool := s.anv.join.checked && s.fm.hallmark.bind.proven && s.anv.join.stalled.isNone

/-- Goes on once step 1 of Table 16.5 is done: a head in Joining discards what it restored when the partner reports a pair epoch above that of the dump record (R144), and the peer in service, or each head when both come from Forming, sends its backlog. -/
def State.joinAdvance (s : State) : State :=
  if !s.joined1 || s.anv.join.discarded then s
  else
    let s : State := { s with anv := { s.anv with join := { s.anv.join with discarded := true } } }
    let stale := s.fm.mode == .joining && s.gly.restored.isSome && decide (s.dumpEpoch < (s.anv.join.peer.map (·.epoch)).getD 0)
    let s : State := if stale then { s with gly := { s.gly with own := [], mirror := [], mirrorData := [], waiting := [], missing := [], unneeded := true, galleyLost := false } } else s
    if s.fm.mode = .joining ∧ !s.bothForming then s else s.sendBacklog

/-- Sends BIND_OFFER once (R424). [DEDUCED: notes/assumptions/77.md] -/
def State.bindOffer (s : State) : State :=
  if s.fm.hallmark.bind.offered then s
  else
    let (n, s) := s.random 32
    let s := s.modPairBind fun b => { b with offered := true, myNonce := n }
    s.anvil .bindOffer pairChan [bit s.fm.hallmark.prs.isSome, Config.deviceCert.length] (n ++ Config.deviceCert)

/-- Sends BIND_PROOF: HMAC-SHA-384 under PRS over this head's nonce and the partner's (R424). -/
def State.bindProof (s : State) : State :=
  let b := s.fm.hallmark.bind
  s.anvil .bindProof pairChan [] (hmac384 (s.fm.hallmark.prs.getD []) (b.myNonce ++ b.peerNonce))

/-- The key that wraps PRS on its way from the head of nonce `a` to that of nonce `b` (R424). -/
def State.xferKey (s : State) (a b : Bytes) : Bytes :=
  hkdf (Config.ecdh s.deviceKey (Config.certKey s.fm.hallmark.bind.peerCert)) (a ++ b) (ascii "HEARIS PRS XFER") 32

/-- Sends PRS to the partner and proves it (R424). [DEDUCED: notes/assumptions/77.md] -/
def State.bindXfer (s : State) : State :=
  let b := s.fm.hallmark.bind
  (s.anvil .bindXfer pairChan [] (aesWrap (s.xferKey b.myNonce b.peerNonce) (s.fm.hallmark.prs.getD []))).bindProof

/-- What follows once both offers are known (R424). A head with no record waits for BIND_XFER, unless neither has one and it is head 0, which draws PRS. [DEDUCED: notes/assumptions/77.md] -/
def State.bindGo (s : State) : State :=
  let b := s.fm.hallmark.bind
  if !b.offered || b.peerNonce.isEmpty then s
  else match s.fm.hallmark.prs, b.peerHas with
    | some _, true => s.bindProof
    | some _, false => if s.on F.HLM_STATUS_ADMIT then s.bindXfer else s.joinStall .bindFail
    | none, true => s
    | none, false =>
      if s.head ≠ 0 then s
      else
        let (p, s) := s.random 32
        ({ s with fm := { s.fm with hallmark := { s.fm.hallmark with prs := some p } } } : State).bindXfer

/-- Runs the checks of R351 on what HELLO or HELLO_ACK said. A filter larger than this head's cache is an alarm (R202). [DEDUCED: notes/assumptions/77.md] -/
def State.joinCheck (s : State) (h : HelloInfo) (version : Option Nat) : State :=
  match s.joinFault h version with
  | some e => s.joinStall e
  | none =>
    let again := s.anv.join.checked
    let s := { s with mtx := { s.mtx with partnerSlots := h.filterGib * 402653184 }, anv := { s.anv with join := { s.anv.join with peer := some h, version := version, checked := true, stalled := none } } }
    let v := version.getD 0
    let s := s.wr F.ANV_PAIR_VERSION (v / 256 * 16 + v % 256)
    if again then s
    else
      let s := if (s.fm.forme.map (·.filterGib)).getD 0 < h.filterGib then s.alarm .mtx .filterFull else s
      s.bindOffer.bindGo

/-- The partner has shown an edge of ALIVE and its links are in use. [DEDUCED: notes/assumptions/65.md] -/
def State.partnerSeen (s : State) : State :=
  ({ s with anv := { s.anv with edgeSeen := true }, fm := { s.fm with pins := { s.fm.pins with partnerAlive := true } } } : State).wr F.ANV_TONGS_ALIVE_OK 1

/-- ANV_HELLO (R351, R396): it wakes a sleeping head. A head in Joining, or one in service whose partner is not fenced off, answers HELLO_ACK and runs the checks; a second HELLO while PRS is awaited shows that the partner's admit window is closed (R424). [DEDUCED: notes/assumptions/77.md] -/
def execAnvHello (h : HelloInfo) (s : State) : Out1 :=
  .next (s.hear 1 fun s =>
    let s := s.partnerSeen.wr F.ANV_PAIR_PARKED 0
    if s.pwr.state = .sleep then s.wakeSource 3 []
    else if (s.fm.mode ≠ .joining ∧ s.fm.mode ≠ .solo) ∨ s.fm.pins.fenceOut then s
    else
      let s := { s with anv := { s.anv with lost := false } }
      let v := chooseVersion h.version
      let s := match v with
        | some v => s.anvHello .helloAck v
        | none => s
      let waits := s.anv.join.checked && s.fm.hallmark.prs.isNone && s.fm.hallmark.bind.peerHas
      (if waits then s.joinStall .bindFail else s.joinCheck h v).joinAdvance)

/-- ANV_HELLO_ACK (R351, R144): the chosen version must be one that this head has. -/
def execAnvHelloAck (h : HelloInfo) (s : State) : Out1 :=
  .next (s.hear 2 fun s =>
    if s.fm.mode ≠ .joining ∧ s.fm.mode ≠ .solo then s
    else
      let v := if h.version / 256 = 1 ∧ h.version ≤ anvilVersion then some h.version else none
      (s.partnerSeen.joinCheck h v).joinAdvance)

/-- HELLO_RETRY_TIMER (R351): a stalled head sends HELLO every second. -/
def execHelloRetryTimer (s : State) : Out1 :=
  .next (if s.fm.mode = .joining ∧ s.anv.join.stalled.isSome then s.anvHello .hello anvilVersion else s)

/-- ANV_BIND_OFFER (R424). [DEDUCED: notes/assumptions/77.md] -/
def execAnvBindOffer (nonce : Bytes) (has : Bool) (cert : Bytes) (s : State) : Out1 :=
  .next (s.hear 7 fun s =>
    if !s.anv.join.checked then s
    else if !Config.certValid cert then s.joinStall .bindFail
    else
      let s := s.modPairBind fun b => { b with peerNonce := nonce, peerHas := has, peerCert := cert }
      s.bindOffer.bindGo)

/-- ANV_BIND_XFER (R424): a head never replaces a pair record. -/
def execAnvBindXfer (wrapped : Bytes) (s : State) : Out1 :=
  .next (s.hear 8 fun s =>
    let b := s.fm.hallmark.bind
    if s.fm.hallmark.prs.isSome || !b.offered || b.peerNonce.isEmpty then s
    else match aesUnwrap (s.xferKey b.peerNonce b.myNonce) wrapped with
      | none => s.joinStall .bindFail
      | some p => ({ s with fm := { s.fm with hallmark := { s.fm.hallmark with prs := some p } } } : State).bindProof)

/-- ANV_BIND_PROOF (R424): the partner's value is checked under the own PRS, with the nonces in the partner's order. -/
def execAnvBindProof (mac : Bytes) (s : State) : Out1 :=
  .next (s.hear 9 fun s =>
    let b := s.fm.hallmark.bind
    match s.fm.hallmark.prs with
    | none => s
    | some p =>
      if !b.offered || b.peerNonce.isEmpty then s
      else if mac = hmac384 p (b.peerNonce ++ b.myNonce) then (s.modPairBind fun b => { b with proven := true }).joinAdvance
      else s.joinStall .bindFail)

/-- ANV_PARK (R358). -/
def execAnvPark (s : State) : Out1 := .next (s.hear 4 fun s => s.wr F.ANV_PAIR_PARKED 1)

/-- FENCE_OUT as driven (R353, R355). [DEDUCED: notes/assumptions/82.md] -/
def State.driveFence (s : State) (v : Bool) : State :=
  ({ s with fm := { s.fm with pins := { s.fm.pins with fenceOut := v } } } : State).wr F.ANV_TONGS_FENCE_OUT (bit v)

/-- Releases the module fences (R316): FENCE with FLAGS 0 to every admitted module. -/
def State.unfenceAll (s : State) : State :=
  s.admitted.foldl (fun s m => s.gmpSend m { op := Gmp.fence, flags := 0 } [] .plain) s

/-- ANV_REJOIN (R366): a fenced head whose versions and pair digest pass is released. -/
def execAnvRejoin (h : HelloInfo) (s : State) : Out1 :=
  .next (s.hear 5 fun s =>
    let s := s.partnerSeen
    if s.fm.mode ≠ .solo then s
    else match s.joinFault { h with head := s.peer, galleyGib := s.galleyGib } (chooseVersion h.version) with
      | some e => s.alarm .anv e
      | none =>
        let s := { s with anv := { s.anv with lost := false, join := {}, takeover := none } }
        let s := s.modPairBind fun _ => {}
        ((s.driveFence false).unfenceAll).anvil .released pairChan [])

/-- ANV_RELEASED (R366): the partner has let go, and a head in Joining goes on with step 1; one in Forming goes on at step 9. -/
def execAnvReleased (s : State) : Out1 :=
  .next (s.hear 6 fun s =>
    if !s.anv.rejoinWait then s
    else
      let s := { s with anv := { s.anv with rejoinWait := false } }
      if s.fm.mode = .joining then s.anvHello .hello anvilVersion else s)

/-- Whether every unit of a handback list has moved and the media of the other half may go back (R370). [DEDUCED: notes/assumptions/64.md] -/
def State.mediaReady (s : State) : Bool :=
  let theirs (id : Nat) : Bool := id / 2 ^ 31 % 2 == s.peer
  s.anv.taken.isEmpty && !(s.hth.descale.any fun d => theirs d.sheet) && !(s.imp.rebuild.any fun r => theirs r.sheet) &&
    !(s.reshapes.any fun r => r.peers && !r.copies.isEmpty)

/-- Sends MEDIA_RETURN (R370): the HEAD of every sheet of the partner's half becomes the partner through SHEET records, and the partner's rebuild, reshape and lost-stripe entries go with it. The addresses of map sheets that the body lists have no place in this model, so the numbers are the sheet IDs. [DEDUCED: notes/assumptions/64.md] -/
def State.mediaReturn (s : State) : State :=
  if !s.anv.mediaDue || !s.mediaReady then s
  else
    let ids := Tab.keysWhere s.hth.sheets fun id e => id / 2 ^ 31 % 2 == s.peer && e.head == s.head
    let s := s.journal (ids.map fun id => .sheet id (s.sheet id).state none s.peer)
    let lost := s.imp.lostStripes.filter fun e => e.2.sheet / 2 ^ 31 % 2 == s.peer
    let body := (ids ++ lost.map fun e => e.1).flatMap fun n => leBytes n 8
    let s := s.anvil .mediaReturn pairChan [ids.length, lost.length] (body ++ leBytes (crc64 body) 8)
    let s := { s with anv := { s.anv with mediaDue := false, handback := none }, imp := { s.imp with reshape := s.reshapes.find? (!·.peers), peerReshape := none, lostStripes := s.imp.lostStripes.filter fun e => e.2.sheet / 2 ^ 31 % 2 != s.peer } }
    let s := ((s.wr F.ANV_HANDBACK_BUSY 0).wr F.ANV_HANDBACK_RESULT 0).raise F.ANV_INT_STATUS_HANDBACK_DONE
    s.toMode .paired

/-- ANV_STATUS (R127, R128, R405): the partner's mode, energy and time. The acquirer of a Handback reports Paired again once the holder does and no move is under way, and a media return that waited for work to finish is tried again. [DEDUCED: notes/assumptions/62.md] -/
def execAnvStatus (mode flags e ereq ecov time quality unc : Nat) (s : State) : Out1 :=
  .next (s.hear 3 fun s =>
    let was := s.rd F.ANV_PAIR_PEER_MODE
    let s := s.partnerSeen.wr F.ANV_PAIR_PEER_MODE mode
    let e := if bitOf flags 1 then 0 else e
    let s := { s with gly := { s.gly with peer := { e := e, req := ereq, cov := ecov, seen := true }, lastStatus := s.now } }
    let s := if mode ≠ 7 ∧ s.fm.mode = .handback ∧ s.anv.handback.isNone ∧ !(s.chs.ns.any fun e => e.2.state == .acquiring) then s.toMode .paired else s
    ((s.galleyEval.partnerTime time quality unc).mediaReturn).actReturned (was == 7 && mode != 7))

end Sys2Proof.Machine
end

