-- ==== Sys2Proof/Machine/Mirror.lean ====
section
/-! DEFINITION. Anvil's mirroring: pieces and control-area rings (R123 to R125, R287, R349). -/

namespace Sys2Proof.Machine

/-- ANV_MIRROR_DATA (R349): 1 to 15 slots go to the mirror data area. -/
def execAnvMirrorData (slot : Nat) (data : Bytes) (s : State) : Out1 :=
  .next (s.hear 0x10 fun s =>
    let n := data.length / 4224
    if n = 0 ∨ 15 < n ∨ data.length % 4224 ≠ 0 then s
    else { s with gly := { s.gly with mirrorData := (List.range n).foldl (fun t i => Tab.put t (slot + i) (slice data (i * 4224) 4224)) s.gly.mirrorData } })

/-- The slots of a piece as they stand in the mirror data area. -/
def State.mirrorSlots (s : State) (p : Piece) : Bytes :=
  (List.range p.slotCnt).flatMap fun i => Tab.get [] s.gly.mirrorData (p.slot + i)

/-- The slots that a repeat descriptor stands for (R24): those of the run of whole grains, in a copy of the piece that it names, whose CRC-64 is its DIGEST. [DEDUCED: notes/assumptions/31.md] -/
def State.repeatedSlots (s : State) (p : Piece) : Option Bytes :=
  (s.gly.mirror ++ s.anv.join.copies).findSome? fun e =>
    let q := e.2
    if q.stamp ≠ p.repeatStamp ∨ q.owner ≠ p.owner ∨ q.lbaf ≠ p.lbaf ∨ q.kind = .repeated then none
    else (((q.wholeGrains.map fun g => g * 8192 / lbafData q.lbaf).filter fun a => q.holdsRun a p.nlb).map fun a => q.runSlots a p.nlb).find? fun b => crc64 b == p.digest

/-- ANV_MIRROR_DESC (R123, R124 steps 3 and 4): the descriptor passes DESC_CRC and its DIGEST, DATA_IN is set in the mirror copy and the piece is acknowledged; otherwise a resend is asked. In a settlement (R142) a piece that this head owns is kept as the partner's copy of it. -/
def execAnvMirrorDesc (idx : Nat) (desc : Bytes) (fwd : Nat) (s : State) : Out1 :=
  .next (s.hear 0x11 fun s =>
    let again := s.anvil .mirrorAck pairChan [idx, leAt desc 60 4, 1]
    match Piece.ofDesc desc with
    | none => again
    | some p =>
      match if p.kind = .repeated then s.repeatedSlots p else some (s.mirrorSlots p) with
      | none => again
      | some data =>
      if (p.kind ≠ .repeated ∧ data.length ≠ p.slotCnt * 4224) ∨ crc64 data ≠ p.digest then again
      else
        let q := { p with dataIn := true, data := data, fwd := fwd }
        let rest := s.gly.mirrorData.filter fun (e : Nat × Bytes) => !(p.slot ≤ e.1 && e.1 < p.slot + p.slotCnt)
        let s := { s with gly := { s.gly with mirrorData := rest } }
        let s := if p.owner = s.head ∧ s.fm.mode = .joining then { s with anv := { s.anv with join := { s.anv.join with copies := Tab.put s.anv.join.copies idx q } } }
          else { s with gly := { s.gly with mirror := Tab.put s.gly.mirror idx q } }
        s.anvil .mirrorAck pairChan [idx, p.gen, 0])

/-- ANV_MIRROR_ACK (R124, R349): an acknowledged piece carries MIRROR_ACK; result 1 sends it again. An answer for another generation is not this piece's. -/
def execAnvMirrorAck (idx gen result : Nat) (s : State) : Out1 :=
  .next (s.hear 0x12 fun s =>
    match Tab.find s.gly.own idx with
    | none => s
    | some p =>
      if p.gen ≠ gen then s
      else if result = 0 then s.setPiece idx { p with mirrorAck := true }
      else s.mirrorPiece idx p)

/-- ANV_COMMIT (R124 step 5). -/
def execAnvCommit (idx gen : Nat) (s : State) : Out1 :=
  .next (s.hear 0x13 fun s =>
    match Tab.find s.gly.mirror idx, Tab.find s.anv.join.copies idx with
    | some p, _ => if p.gen ≠ gen then s else { s with gly := { s.gly with mirror := Tab.put s.gly.mirror idx { p with commit := true } } }
    | none, some p => if p.gen ≠ gen then s else { s with anv := { s.anv with join := { s.anv.join with copies := Tab.put s.anv.join.copies idx { p with commit := true } } } }
    | none, none => s)

/-- ANV_RELEASE (R124 step 6): the mirror copy is freed. -/
def execAnvRelease (idx gen : Nat) (s : State) : Out1 :=
  .next (s.hear 0x14 fun s =>
    match Tab.find s.gly.mirror idx with
    | some p => if p.gen ≠ gen then s else { s with gly := { s.gly with mirror := Tab.erase s.gly.mirror idx } }
    | none => s)

/-- What a volume record of the partner says about its namespace: Remote here while the volume is Live, and gone once the record names no namespace (R68). -/
def State.remoteVolume (s : State) (num : Nat) (v : Volume) : State :=
  let gone := Tab.keysWhere s.chs.ns fun n e => e.volume == num && e.state == .remote && (v.state != .live || v.nsid != n)
  let s := gone.foldl (fun s n => s.modNs n fun _ => {}) s
  let s : State := { s with pwr := { s.pwr with bankList := s.pwr.bankList.filter fun n => !gone.contains n } }
  if v.state = .live ∧ v.nsid ≠ 0 ∧ (s.ns v.nsid).state = .unused then
    s.modNs v.nsid fun e => { e with state := .remote, owner := s.peer, volume := num, cls := v.cls }
  else s

/-- A batch of the partner's map journal changes the same tables (R287), and a checkpoint in it moves the batches that it covers to flash. -/
def State.takeBatch (s : State) (b : Batch) : State :=
  let upTo := b.recs.foldl (fun a r => match r with | .ckpt _ e _ _ => max a e | _ => a) 0
  let covered := s.anv.ctl.ring.filter fun (x : Batch) => decide (x.seq ≤ upTo)
  let s := { s with hth := { s.hth with journal := { s.hth.journal with image := s.imageUpTo s.hth.journal.image covered upTo } } }
  let s := b.recs.foldl (State.applyRec b.seq) s
  b.recs.foldl (fun s r => match r with | .volume n v _ _ => s.remoteVolume n v | _ => s) s

/-- Whether a record is a batch that the mirror control area already holds, which changes nothing when it comes again (R291). -/
def State.holdsBatch (s : State) : CtlRec → Bool
  | .batch b => s.anv.ctl.ring.any fun (x : Batch) => decide (b.seq ≤ x.seq)
  | _ => false

/-- One record of a RING message. [DESIGN CHOICE: notes/assumptions/59.md] -/
def State.takeRing (s : State) (r : CtlRec) : State :=
  if s.holdsBatch r then s else
  let s := match r with
    | .batch b => s.takeBatch b
    | .resv n x => { s with stk := { s.stk with resv := Tab.set {} s.stk.resv n x } }
    | .session k e => { s with ste := { s.ste with peerSessions := Tab.set {} s.ste.peerSessions k e } }
    | .nonceBack h p n => { s with tmp := { s.tmp with backMarks := s.tmp.backMarks ++ [(h, p, n)] } }
    | .scrapBack k e => { s with flt := { s.flt with partnerCopy := Tab.put s.flt.partnerCopy k e } }
    | _ => s
  { s with anv := { s.anv with ctl := s.anv.ctl.take r } }

/-- ANV_RING (R125, R349): ring bytes go to the mirror control area, `recs` being the records they hold. RING_ACK names the highest offset held. [DESIGN CHOICE: notes/assumptions/59.md] -/
def execAnvRing (area off : Nat) (recs : List CtlRec) (s : State) : Out1 :=
  .next (s.hear 0x15 fun s => (recs.foldl State.takeRing s).anvil .ringAck pairChan [area, off])

/-- ANV_RING_ACK (R349). [DEDUCED: notes/assumptions/79.md] -/
def execAnvRingAck (area off : Nat) (s : State) : Out1 :=
  .next (s.hear 0x16 fun s =>
    let s : State := { s with anv := { s.anv with ringAck := Tab.set 0 s.anv.ringAck area off } }
    if area = 0 then s.ringHeld off else if area = 1 then s.closesDone else s)

end Sys2Proof.Machine
end

