-- ==== Sys2Proof/Machine/Reads.lean ====
section
/-! DEFINITION. Reads, Compares and Verifies: what each block resolves to, its bytes, and what leaves the head (R70, R104, R106, R112, R159). -/

namespace Sys2Proof.Machine

/-- A galley hit whose stored PI fails (R159): the partner's copy of the piece, given in `copies` by descriptor number, is taken. In Solo, or where no copy passes, the piece is lost and its LBAs are listed. [DESIGN CHOICE: notes/assumptions/26.md] -/
def State.galleyHit (s : State) (copies : List (Nat × Bytes)) (nsid lba d : Nat) : Source × State :=
  match Tab.find s.gly.own d with
  | none => (.failed 0x0404, s)
  | some p =>
    let v := s.volOf nsid
    if p.piOk v lba then (.galley d, s)
    else
      let s := (s.inc F.PRF_REPAIR_CNT_GALLEY).raise F.PRF_INT_STATUS_GALLEY_PI
      match (copies.find? fun c => c.1 == d).map Prod.snd with
      | some q => if s.fm.mode != .solo && ({ p with data := q } : Piece).piOk v lba then
          (.galley d, { s with gly := { s.gly with own := Tab.put s.gly.own d { p with data := q } } })
        else (.failed 0x0404, s.losePiece d)
      | none => (.failed 0x0404, s.losePiece d)

/-- The failure that a read meets among its sources, the first in LBA order. -/
def firstFailure (l : List (Nat × Source)) : Option Status :=
  l.findSome? fun p => match p.2 with
    | .failed st => some st
    | _ => none

/-- What a grain ID of the volume map serves a read with (Table 9.3): a Free grain is a map fault and its LBAs are listed, a Lost one fails, an Alias reads its target. [DEDUCED: notes/assumptions/27.md] -/
def State.grainSource (s : State) (nsid lba gid : Nat) : Source × State :=
  let h := if gid / 2 ^ 63 = 0 then s.mtx.half0 else s.mtx.half1
  let g := Tab.get ({} : Grain) h.grains (gid % 2 ^ 47)
  match g.state with
  | .free => if h.state == .partner then (.grain gid, s)
    else (.failed 0x040A, (s.listLost nsid lba 1 3).raise F.HTH_INT_STATUS_MAP_FAULT)
  | .lost => (.failed 0x0403, s)
  | .isAlias => (.grain g.aliasOf, s)
  | _ => (.grain gid, s)

/-- Resolves one block of a read and checks what it met (R106, R159, Table 9.3). [DEDUCED: notes/assumptions/27.md] -/
def State.readBlock (s : State) (copies : List (Nat × Bytes)) (nsid lba stamp : Nat) : Source × State :=
  match s.resolve nsid lba stamp with
  | .galley d => s.galleyHit copies nsid lba d
  | .grain g => s.grainSource nsid lba g
  | o => (o, s)

/-- Resolves every block of a read, in LBA order. -/
def State.readBlocks (s : State) (copies : List (Nat × Bytes)) (nsid stamp : Nat) : List Nat → List (Nat × Source) × State
  | [] => ([], s)
  | l :: rest =>
    let (src, s) := s.readBlock copies nsid l stamp
    let (tail, s) := s.readBlocks copies nsid stamp rest
    ((l, src) :: tail, s)

/-- The grains of a read that a Mending lost stripe has not yet mended (R272). -/
def State.mending (s : State) (src : List (Nat × Source)) : List Nat :=
  src.filterMap fun p => match p.2 with
    | .grain g => if s.imp.lostStripes.any fun e => e.2.state == .mending && e.2.grains.contains g then some g else none
    | _ => none

/-- The application tag from which a block without stored metadata gets its PI (R152, Table 7.7): that of the Write Zeroes piece that a read resolves it to, 0 for a deallocation, and otherwise that of the extent in the volume map. -/
def State.tagAt (s : State) (nsid lba stamp : Nat) : Nat :=
  let v := s.volOf nsid
  match s.version nsid lba stamp ((s.lostAt nsid lba).map (·.stamp)) with
  | some (_, p) => if p.kind == .zeroes then p.tag else 0
  | none => (Tab.get ({} : Cell) v.map (grainOf v lba)).tag

/-- One resolved block as it leaves for a port (R159): the PI of a galley hit as stored, and otherwise from the sources of Table 7.7 with the guard computed. None while its grain cannot be read yet: its class's read line drains (R52) or has no unit free, a repair of its sort runs (R166), or its stripe was found lost, which the next resolution meets. -/
def State.blockBytes (s : State) (nsid stamp lba : Nat) (src : Source) : Option (Bytes × Bytes) × State :=
  let v := s.volOf nsid
  match src with
  | .galley d => ((Tab.find s.gly.own d).map fun p => (p.block lba, p.blockMeta lba), s)
  | .grain g => (match s.readUnitNow g with
    | none => (none, s)
    | some u =>
      let (pay, s) := s.grainBytes g u
      (pay.map fun b => payloadBlock v b (s.tagAt nsid lba stamp) lba, s))
  | _ => (some (zeros (lbafData v.lbaf), regenMeta v (zeros (lbafData v.lbaf)) (s.tagAt nsid lba stamp) lba), s)

/-- The bytes of every resolved block, in LBA order. None while one of them waits. -/
def State.blocksBytes (s : State) (nsid stamp : Nat) : List (Nat × Source) → Option (List (Bytes × Bytes)) × State
  | [] => (some [], s)
  | x :: rest =>
    match s.blockBytes nsid stamp x.1 x.2 with
    | (none, s) => (none, s)
    | (some b, s) =>
      let (tail, s) := s.blocksBytes nsid stamp rest
      (tail.map (b :: ·), s)

/-- The egress unit's check of a read's PRCHK and expected tags (R70): the first of the blocks from command block `first` on whose PI fails. -/
def egressFail (v : Volume) (a : PiArgs) (first : Nat) (bs : List (Bytes × Bytes)) : Option Nat :=
  if v.piType = 0 then none else (bs.zipIdx).findSome? fun b => blockPiFail v a (first + b.2) b.1.1 b.1.2

/-- Blocks as the host gets them (R70): without metadata where PRACT strips it. -/
def hostBlocks (v : Volume) (a : PiArgs) (bs : List (Bytes × Bytes)) : List (Bytes × Bytes) :=
  if piStripped v a then bs.map fun b => (b.1, []) else bs

/-- A read's blocks go to its port. A forwarded read's go to the arriving head, whose egress unit checks them (R348); a local one fails its check with 0x040B. -/
def State.sendRead (s : State) (slot : Nat) (t : Task) (src : List (Nat × Source)) (bs : List (Bytes × Bytes)) : State :=
  let v := s.volOf t.cmd.nsid
  let s := s.modTask slot fun t => { t with sources := src }
  if isInbound t.ctx then s.anvil .readData (s.chanNow t.ctx - 16) [t.fwdId, 0] (bs.flatMap fun b => b.1 ++ b.2)
  else match egressFail v t.cmd.pi 0 bs with
    | some w => s.finish slot (.piFail 0x040B w)
    | none => s.send (.readBlocks t.ctx t.cmd.cid 0 (hostBlocks v t.cmd.pi bs))

/-- A read with no failed block (R52, R106, R272): one that needs an unmended grain waits for its mend, and one whose data or egress unit is not to be had yet waits too; each is resolved again. -/
def State.serveRead (s : State) (slot : Nat) (t : Task) (src : List (Nat × Source)) : State :=
  let wait := s.mending src
  if wait ≠ [] then
    { s with imp := { s.imp with waits := s.imp.waits ++ (wait.filter fun g => !(s.imp.waits.any fun w => w.slot == slot && w.gid == g)).map fun g => (⟨slot, g, s.now⟩ : MendWait) } }
  else if !s.portServes t.ctx false then s
  else
    let s := { s with imp := { s.imp with waits := s.imp.waits.filter fun (w : MendWait) => w.slot != slot } }
    match s.blocksBytes t.cmd.nsid t.stamp src with
    | (none, s) => s
    | (some bs, s) => s.sendRead slot t src bs

/-- A Read (R52, R70, R106, R159): once dispatched, each block is resolved, and the data or the first failure follows. [DESIGN CHOICE: notes/assumptions/26.md] -/
def execNvmeRead (slot : Nat) (copies : List (Nat × Bytes)) (s : State) : Out1 :=
  let s := s.stamped slot .read
  match s.running slot .read with
  | none => .next s
  | some t =>
    if t.sources ≠ [] then .next s
    else
      let (src, s) := s.readBlocks copies t.cmd.nsid t.stamp t.cmd.lbaList
      match firstFailure src with
      | some st => .next ((s.modTask slot fun t => { t with sources := src }).finish slot (.internal st))
      | none => .next (s.serveRead slot t src)

/-- The last data byte of a read is sent (R104, R107): the Read lock is freed, and the read ends. -/
def execReadDataSent (slot : Nat) (s : State) : Out1 :=
  match s.running slot .read with
  | none => .next s
  | some t => if t.sources = [] then .next s else .next (s.finish slot .success)

/-- The metadata bytes that hold no PI (R70). -/
def plainMeta (v : Volume) (m : Bytes) : Bytes :=
  if v.piType = 0 then m
  else
    let n := if v.guard64 then 16 else 8
    if v.piFirst then m.drop n else m.take (m.length - n)

/-- The outcome of a compare over stored blocks (R70): a PI check failure under PRCHK is 0x040B, a difference in data or in metadata outside PI is Compare Failure. -/
def compareBlocks (v : Volume) (t : Task) (bs : List (Bytes × Bytes)) : Result :=
  match if t.cmd.pi.pract then none else egressFail v t.cmd.pi 0 bs with
  | some w => .piFail 0x040B w
  | none =>
    let same := (bs.zipIdx).all fun b => blockData v t.data b.2 == b.1.1 && plainMeta v (blockMeta v t.data t.cmd.metaBuf b.2) == plainMeta v b.1.2
    if same then .success else .compareFailure

/-- The stored blocks of a command and what comes of them: the first failure among their sources, or what `f` makes of their bytes. None while a block waits (R52, R166). -/
def State.judge (s : State) (copies : List (Nat × Bytes)) (t : Task) (f : List (Bytes × Bytes) → Result) : Option (List (Nat × Source) × Result) × State :=
  let (src, s) := s.readBlocks copies t.cmd.nsid t.stamp t.cmd.lbaList
  match firstFailure src with
  | some st => (some (src, .internal st), s)
  | none =>
    match s.blocksBytes t.cmd.nsid t.stamp src with
    | (none, s) => (none, s)
    | (some bs, s) => (some (src, f bs), s)

/-- A Compare (R70, R104): `buf` is what a PCIe read of the host's buffer brings, and `copies` holds partner copies by descriptor. [DESIGN CHOICE: notes/assumptions/26.md] -/
def execCompare (slot : Nat) (buf : Bytes) (copies : List (Nat × Bytes)) (s : State) : Out1 :=
  let s := (s.stamped slot .compare).hostBuffer slot buf
  match s.running slot .compare with
  | none => .next s
  | some t =>
    if !t.complete then .next (s.rdmaGo slot)
    else match s.judge copies t (compareBlocks (s.volOf t.cmd.nsid) t) with
      | (none, s) => .next s
      | (some x, s) => .next (s.finish slot x.2)

/-- A fused Compare and Write (R112): compared under its CAW lock against the versions of R106; when equal, the write half becomes one piece; otherwise the pair has no effect. `bufC` and `bufW` are what PCIe reads of the host's buffers bring for the two halves. [DESIGN CHOICE: notes/assumptions/26.md] -/
def execCompareAndWrite (slot : Nat) (bufC bufW : Bytes) (copies : List (Nat × Bytes)) (s : State) : Out1 :=
  let s := (s.stamped slot .fusedCompare).hostBuffer slot bufC
  let s := match (s.task? slot).bind (·.fusedWith) with
    | some w => s.hostBuffer w bufW
    | none => s
  match s.running slot .fusedCompare with
  | none => .next s
  | some t =>
    match t.fusedWith.bind s.task? with
    | none => .next s
    | some u =>
      if !t.complete || !u.complete then .next (((some slot).toList ++ t.fusedWith.toList).foldl State.rdmaGo s)
      else if u.pieces ≠ [] then .next s
      else match s.judge copies t (compareBlocks (s.volOf t.cmd.nsid) t), t.fusedWith with
        | (some (src, .internal 0), s), some w => .next ((s.modTask slot fun t => { t with sources := src }).makePieces w { u with stamp := t.stamp } .cawHalf true)
        | (some (_, r), s), some w => .next ((s.finish slot r).finish w .fusedFailed)
        | (_, s), _ => .next s

/-- A Verify (R104): the stored data and its PI are checked, and no data is sent. [DESIGN CHOICE: notes/assumptions/26.md] -/
def execVerify (slot : Nat) (copies : List (Nat × Bytes)) (s : State) : Out1 :=
  let s := s.stamped slot .verify
  match s.running slot .verify with
  | none => .next s
  | some t =>
    let v := s.volOf t.cmd.nsid
    match s.judge copies t (fun bs => match egressFail v t.cmd.pi 0 bs with
      | some w => .piFail 0x040B w
      | none => .success) with
    | (none, s) => .next s
    | (some x, s) => .next (s.finish slot x.2)

end Sys2Proof.Machine
end

