-- ==== Sys2Proof/Machine/Transport.lean ====
section
/-! DEFINITION. Port and transport events: doorbells, fetches, capsules, data PDUs, links and resets (R57 to R65, R84 to R92). -/

namespace Sys2Proof.Machine

/-- A submission queue doorbell write (R85): SQ_TAIL takes the value and the queue may be fetched from. -/
def execPcieSqDoorbell (ctx tail : Nat) (s : State) : Out1 :=
  let q := s.ctx ctx
  if q.transport = .pcie ∧ q.hasSq ∧ q.state = .live ∧ tail ≤ q.sqSize then
    .next (s.setCtx ctx { q with sqTail := tail })
  else .next s

/-- A completion queue head doorbell write (R85): the entries before the new head are free again. -/
def execCqHeadDoorbell (ctx head : Nat) (s : State) : Out1 :=
  let q := s.ctx ctx
  if q.hasCq ∧ q.cqHome = ctx ∧ head ≤ q.cqSize then .next (s.setCtx ctx { q with cqHead := head })
  else .next s

/-- A fetch from a PCIe submission queue (R84, R85, R87, R91): one read request of at most 8 entries and at most the Arbitration Burst, once arbitration serves the queue and completion entries can be reserved. The two halves of a fused pair are fetched together, whatever the burst. A busy cache set makes the commands wait (R80). -/
def execCommandFetch (ctx : Nat) (cmds : List HostCmd) (s : State) : Out1 :=
  let q := s.ctx ctx
  let n := cmds.length
  match fetchUnits cmds with
  | none => .next s
  | some units =>
    if q.transport = .pcie ∧ 0 < n ∧ (n ≤ s.fetchMax ctx ∨ units.length = 1) ∧ n ≤ s.queued ctx ∧ s.mayFetch ctx n ∧ s.arbAllows ctx then
      match s.touch ctx with
      | none => .next (s.raise F.STK_INT_STATUS_SET_BUSY)
      | some s' =>
        let s' := (s'.arbServed ctx n).modCtx ctx fun q => { q with sqHead := (q.sqHead + n) % (q.sqSize + 1) }
        .next (units.foldl (fun s u => s.placeAll ctx u) s')
    else .next s

/-- A context cache fill ends with the 128 bytes that DRAM gives (R79 to R81): when their CTX_CRC fails, the context becomes Faulted and its steward hears of it; otherwise the entry is cached. -/
def execContextFill (ctx : Nat) (entry : Bytes) (s : State) : Out1 :=
  let q := s.ctx ctx
  if ctxCrcOk entry then
    match s.touch ctx with
    | some s' => .next s'
    | none => .next (s.raise F.STK_INT_STATUS_SET_BUSY)
  else if q.state = .live ∨ q.state = .draining then .next ((s.faultCtx ctx).report Kind.context ctx 0)
  else .next s

/-- Pages of the spill pool that a spilled capsule's in-capsule data takes (R86). -/
def spillPages (n : Nat) : Nat := (n + 4095) / 4096

/-- Bytes of the spill pool in use: rings reserved and pages held (R86). -/
def State.spillUsed (s : State) : Nat :=
  s.stk.spillReserved + s.stk.spill.foldl (fun a e => a + (e.2.map fun c => 4096 * spillPages c.cmd.capData.length).sum) 0

/-- Size of the spill pool (R35). -/
def State.spillPool (s : State) : Nat := ((s.fm.forme.map (·.spillGib)).getD 4) * 2 ^ 30

/-- A capsule's own checks, once it is in a slot (R61): a data digest failure fails the command with Transient Transport Error, and data in the capsule meets the length and ingest checks. -/
def State.capsuleData (s : State) (n : Nat) (dataOk : Bool) : State :=
  match s.task? n with
  | none => s
  | some t =>
    if t.state.isDone then s
    else if !t.cmd.inCapsule then s
    else if !dataOk then s.failData n .transient
    else if t.cmd.capData.length < t.need then (s.lengthError 0x0101).failData n (.internal 0x0101)
    else if t.cmd.capData.length > t.need then (s.lengthError 0x0102).failData n (.internal 0x0102)
    else s.ingest n

/-- Capsules go to the spill ring (R86); with no page free the port offload stops taking in data on the connection, where the capsule waits at its sender. -/
def State.spillIn (s : State) (conn c : Nat) (add : List Spilled) : State :=
  let need := (add.map fun x => 4096 * spillPages x.cmd.capData.length).sum
  if s.spillUsed + need ≤ s.spillPool then
    let ring := Tab.get [] s.stk.spill c
    { s with stk := { s.stk with spill := Tab.put s.stk.spill c (ring ++ add) } }
  else if (s.conn conn).stopped then s
  else (s.modConn conn fun k => { k with stopped := true }).send (.xferHold conn)

/-- Pages of the spill pool are free again (R86): every connection that was stopped takes in data. -/
def State.spillResume (s : State) : State :=
  if s.spillUsed + 4096 ≤ s.spillPool then
    (Tab.keysWhere s.stk.conns fun _ k => k.stopped).foldl (fun s c => (s.modConn c fun k => { k with stopped := false }).send (.xferGo c)) s
  else s

/-- A command capsule arrives (R61, R86): it lands in a free slot, or in the spill ring; a header digest failure ends the connection; with no page free, the port offload stops taking in data. A busy cache set sends it to the spill ring, where it waits (R80). -/
def execCapsuleArrival (conn : Nat) (cmds : List HostCmd) (headerOk dataOk : Bool) (s : State) : Out1 :=
  let k := s.conn conn
  let c := k.ctx
  if !k.live then .next s
  else if k.hdrDigest && !headerOk then .next (s.termConn conn 3)
  else if !fetchUnit cmds then .next s
  else
    let ring := Tab.get [] s.stk.spill c
    if (s.ctx c).state ≠ .live then .next s
    else
      let ok := dataOk || !k.dataDigest
      let may := ring.isEmpty && s.mayFetch c cmds.length && (s.portServes c true || cmds.all fun x => x.capData.isEmpty)
      match if may then s.touch c else none with
      | some s' =>
        let s1 := s'.placeAll c cmds
        let fresh := (s1.slotsOf c).filter fun n => (s'.task? n).isNone
        .next (fresh.foldl (fun s n => s.capsuleData n ok) s1)
      | none =>
        let s := if may then s.raise F.STK_INT_STATUS_SET_BUSY else s
        .next (s.spillIn conn c (cmds.map fun x => ⟨x, ok⟩))

/-- A slot becomes free and the oldest spilled capsule is fetched (R86). -/
def execSpillRingFetch (ctx : Nat) (s : State) : Out1 :=
  let ring := Tab.get [] s.stk.spill ctx
  let cmds := match ring with
    | a :: b :: _ => if a.cmd.op == .fusedCompare then [a, b] else [a]
    | l => l
  if cmds ≠ [] ∧ fetchUnit (cmds.map (·.cmd)) ∧ s.mayFetch ctx cmds.length ∧ s.arbAllows ctx ∧ (s.portServes ctx true ∨ cmds.all fun x => x.cmd.capData.isEmpty) then
    match s.touch ctx with
    | none => .next (s.raise F.STK_INT_STATUS_SET_BUSY)
    | some s' =>
      let s' := s'.arbServed ctx cmds.length
      let rest := ring.drop cmds.length
      let s' := { s' with stk := { s'.stk with spill := if rest.isEmpty then Tab.erase s'.stk.spill ctx else Tab.put s'.stk.spill ctx rest } }
      let s1 := s'.placeAll ctx (cmds.map (·.cmd))
      let fresh := (s1.slotsOf ctx).filter fun n => (s'.task? n).isNone
      .next (fresh.foldl (fun s n => s.capsuleData n (cmds.all (·.ok))) s1).spillResume
  else .next s

/-- Controller IDs of a head (R57). -/
def cntlidOk (head cntlid : Nat) : Bool :=
  if head = 0 then decide (0x0001 ≤ cntlid ∧ cntlid ≤ 0x7FEF) else decide (0x8000 ≤ cntlid ∧ cntlid ≤ 0xFFEF)

/-- A path MTU that a queue pair may have (Table 3.2). -/
def mtuOk (mtu : Nat) : Bool := mtu == 1024 || mtu == 2048 || mtu == 4096

/-- A keep-alive time that the head serves, in ms (Table 3.5). -/
def keepAliveOk (ms : Nat) : Bool := decide (1000 ≤ ms ∧ ms ≤ 3600000)

/-- An NVMe-oF Connect (R86, R57): it takes an Empty context and reserves its spill ring; when the pool cannot hold the ring it completes with Connect Controller Busy, and with no Empty context with Invalid Queue Identifier (R78). Over RoCEv2 (`roce`) the queue pair of the Connect, on Ethernet port `lport` with path MTU `mtu`, is the connection, of 32,768 at most (Table 3.2). A keep-alive time outside 1 s to 3,600 s is Invalid Field in Command (Table 3.5). Where the spill ring lies is an open value. [PRESUMED: notes/assumptions/19.md; DESIGN CHOICE: notes/assumptions/94.md] -/
def execNvmeofConnect (conn cntlid hqid qsize : Nat) (admin : Bool) (keepAliveMs : Nat) (roce : Bool) (lport mtu : Nat) (s : State) : Out1 :=
  let old := s.conn conn
  let room := decide (Tab.count s.stk.conns (fun _ c => c.live && c.transport == .roce) < 32768) && mtuOk mtu && s.lportUp lport
  let k : Conn := if roce && !old.live && room then { live := true, transport := .roce, lport := lport, mtu := mtu } else old
  if !k.live || (k.transport == .roce) != roce || !s.on F.STK_CTRL_ENABLE || !cntlidOk s.head cntlid then .next s
  else if admin && !keepAliveOk keepAliveMs then .next (s.send (.connectFail conn Result.invalidField))
  else
    let ring := (qsize + 1) * 64
    match s.emptyCtx with
    | none => .next (s.send (.connectFail conn Result.queueInvalid))
    | some c =>
      if s.spillUsed + ring > s.spillPool then .next (s.send (.connectFail conn Result.connectBusy))
      else
        let (base, s) := s.freeVal
        let s := s.modConn conn fun _ => k
        let q : Ctx := { sqBase := base, state := .live, kind := if admin then .admin else .io, transport := k.transport, arb := if admin then 1 else 5, cntlid := cntlid, hqid := hqid, sqSize := qsize, cqSize := qsize, cqHome := c, hasSq := true, hasCq := true, xportRef := conn, lport := k.lport }
        let s := s.setCtx c q
        let s := { s with stk := { s.stk with spillReserved := s.stk.spillReserved + ring } }
        let s := s.modConn conn fun k => { k with cntlid := cntlid, ctx := c }
        .next (s.modCtrl cntlid fun d => { d with enabled := true, rdy := true, fabric := true, conn := conn, keepAliveMs := if admin then keepAliveMs else d.keepAliveMs, keepAliveAt := s.now })

/-- MAXH2CDATA, which ICResp reports (Table 3.3). -/
def maxH2cData : Nat := 131072

/-- An ICReq on an Ethernet logical port that is up opens an NVMe/TCP connection (R61, Table 3.3): CPDA other than 0 is not accepted, 32,768 connections are the limit, and ICResp reports MAXH2CDATA, CPDA 0 and the digests that the host chose. [PRESUMED: notes/assumptions/19.md] -/
def execTcpIcreq (conn lport : Nat) (hdrDigest dataDigest : Bool) (cpda : Nat) (s : State) : Out1 :=
  if cpda = 0 ∧ s.lportUp lport ∧ !(s.conn conn).live ∧ Tab.count s.stk.conns (fun _ c => c.live && c.transport == .tcp) < 32768 then
    let s := s.modConn conn fun _ => { live := true, transport := .tcp, lport := lport, hdrDigest := hdrDigest, dataDigest := dataDigest }
    .next (s.send (.icResp conn maxH2cData 0 hdrDigest dataDigest))
  else .next s

/-- Data that fails as stale (R62, R89): dropped, counted and recorded with 0x0103. [DEDUCED: notes/assumptions/22.md] -/
def State.staleData (s : State) : State :=
  ((s.inc F.STK_STALE_CNT_COUNT).raise F.STK_INT_STATUS_STALE).note .stk .channelError 0x0103

/-- Data for a token at an offset (R90): the length and order checks, then the ingest check once the data is whole. [DEDUCED: notes/assumptions/22.md] -/
def State.tokenData (s : State) (tag n offset : Nat) (data : Bytes) (last : Bool) : State :=
  match s.task? n with
  | none => s
  | some t =>
    let k := Tab.get {} s.stk.tokens tag
    let stop := offset + data.length
    if offset ≠ k.next then (s.lengthError 0x0105).failData n (.internal 0x0105)
    else if stop > t.need then (s.lengthError 0x0102).failData n (.internal 0x0102)
    else if stop > k.stop then (s.lengthError 0x0105).failData n (.internal 0x0105)
    else if last && decide (stop < t.need) then (s.lengthError 0x0101).failData n (.internal 0x0101)
    else
      let s := s.setTask n { t with data := overlay t.data offset data }
      let s := { s with stk := { s.stk with tokens := Tab.put s.stk.tokens tag { k with next := stop } } }
      if stop = t.need then (s.freeToken n).ingest n else s

/-- An H2CData PDU (R61, R62, R90). One longer than MAXH2CDATA ends the connection with the fatal error status Data Transfer Limit Exceeded, 0x05, of NVMe/TCP. [PRESUMED: notes/assumptions/19.md] -/
def execH2cData (conn ttag cccid offset : Nat) (data : Bytes) (last headerOk dataOk : Bool) (s : State) : Out1 :=
  let c := s.conn conn
  if !c.live ∨ c.transport ≠ .tcp ∨ !s.portServes c.ctx true then .next s
  else if c.hdrDigest && !headerOk then .next (s.termConn conn 3)
  else if maxH2cData < data.length then .next (s.termConn conn 5)
  else
    let k := Tab.get {} s.stk.tokens ttag
    match k.slot with
    | none => .next s.staleData
    | some n =>
      if ((s.task? n).map fun t => (s.ctx t.ctx).transport) ≠ some .tcp ∨ k.conn ≠ conn ∨ k.cccid ≠ cccid then .next s.staleData
      else if c.dataDigest && !dataOk then .next (s.failData n .transient)
      else .next (s.tokenData ttag n offset data last)

/-- A host's H2CTermReq ends an NVMe/TCP connection as for a header digest failure (R61). [PRESUMED: notes/assumptions/19.md] -/
def execH2cTermReq (conn : Nat) (s : State) : Out1 :=
  if (s.conn conn).transport = .tcp then .next (s.termConn conn 3) else .next s

/-- An RDMA READ of host write data completes (R60, R90): the data is checked for length and for host PI. [DEDUCED: notes/assumptions/21.md] -/
def execRdmaReadComplete (slot : Nat) (data : Bytes) (s : State) : Out1 :=
  match s.task? slot with
  | none => .next s
  | some t =>
    if t.state.isDone || !t.cmd.op.carriesData || (s.ctx t.ctx).transport != .roce || !s.portServes t.ctx true then .next s
    else
      let t := { t with reading := false }
      let s := s.setTask slot t
      let s := if data.length < t.need then (s.lengthError 0x0101).failData slot (.internal 0x0101)
        else if data.length > t.need then (s.lengthError 0x0102).failData slot (.internal 0x0102)
        else (s.setTask slot { t with data := data }).ingest slot
      .next (s.readNext t.ctx)

/-- A CNP arrives (R60): the head reacts on the Ethernet logical port of the queue pair; the spec does not give the rate it reacts with, so the new rate is a free value. [DEDUCED: notes/assumptions/21.md] -/
def execCnpReceived (conn : Nat) (s : State) : Out1 :=
  if (s.conn conn).live && (s.conn conn).transport == .roce then
    let (v, s) := s.freeVal
    .next { s with stk := { s.stk with rates := Tab.set 0 s.stk.rates (s.conn conn).lport v } }
  else .next s

/-- The functions of a front port reset (R65). -/
def State.frontReset (s : State) (port : Nat) : State := (s.ctrlsOfPort port).foldl (fun s c => s.resetCtrl 2 .reset c) s

/-- What a front link trains to (R63): a speed of 1 to 6 and a power-of-two width up to x16. -/
def frontLinkOk (speed width : Nat) : Bool := decide (1 ≤ speed ∧ speed ≤ 6) && ([1, 2, 4, 8, 16] : List Nat).contains width

/-- A front link comes up or goes down (R63): SPEED, WIDTH and FLIT follow, and CHG is set on a change. FLIT mode runs at 64 GT/s, which gives 14-bit tags in place of 10-bit ones; payloads are up to 512 bytes and read requests up to 4,096 (Table 3.4). -/
def State.frontLink (s : State) (port speed width : Nat) : State :=
  let flit := speed == 6
  let same := s.rd (F.PRT_FRONT_LINK_SPEED port) == speed && s.rd (F.PRT_FRONT_LINK_WIDTH port) == width
  let s := ((s.wr (F.PRT_FRONT_LINK_SPEED port) speed).wr (F.PRT_FRONT_LINK_WIDTH port) width).wr (F.PRT_FRONT_LINK_FLIT port) (bit flit)
  let s := if same then s else s.raise (F.PRT_FRONT_LINK_CHG port)
  if speed = 0 then s else s.send (.pcieUp port flit (if flit then 14 else 10) 512 4096)

/-- An Ethernet logical port comes up (R58): auto-negotiation settles the rate of its split, with RS(544,514) FEC, frames of 9,216 bytes, flow control on 8 priorities and enhanced transmission selection. -/
def State.lportTrained (s : State) (port idx rate : Nat) : State :=
  ((s.wr (F.PRT_ETH_LINK_UP port) (setBits (s.rd (F.PRT_ETH_LINK_UP port)) idx idx 1)).raise (F.PRT_ETH_LINK_CHG port) (2 ^ idx)).send
    (.ethUp (port * 8 + idx) rate true 9216 8 true)

/-- A link changes state (R58, R59, R63, R65). An Ethernet logical port that the split has comes up at the one rate of the split, `speed` in Gb/s, with FEC on (`fec`), unless R59 holds it down; its associations end when it goes down. A front link trains to a speed code and a width, and every function of its port resets when it goes down. -/
def execLinkStateChange (front : Bool) (port idx speed width : Nat) (fec up : Bool) (s : State) : Out1 :=
  if front then
    if up then .next (if frontLinkOk speed width && !s.stk.linksDown then s.frontLink port speed width else s)
    else .next ((s.frontLink port 0 0).frontReset port)
  else
    let lanes := splitLanes (s.rd (F.PRT_ETH_LINK_SPLIT port))
    let was := bitOf (s.rd (F.PRT_ETH_LINK_UP port)) idx
    let can := s.on (F.PRT_ETH_LINK_ENABLED port) && decide (idx * lanes < 8) && fec && speed == 100 * lanes && width == lanes &&
      !bitOf (s.rd (F.PRT_ETH_LINK_RETIRED port)) idx && !s.stk.linksDown
    if up then .next (if !was && can then s.lportTrained port idx speed else s)
    else .next (if was then s.lportDown port idx else s)

/-- A function-level reset (R65): that function's controller resets; a PF reset leaves the VFs alone. -/
def execFunctionLevelReset (port fn : Nat) (s : State) : Out1 :=
  let cs := Tab.keysWhere s.stk.ctrls fun _ c => !c.fabric && c.port == port && c.fn == fn && c.enabled
  .next (cs.foldl (fun s c => s.resetCtrl 2 .reset c) s)

/-- Loss of a front link, a hot reset or a link disable (R65): every function of the port resets. -/
def execFrontLinkLoss (port : Nat) (s : State) : Out1 := .next ((s.frontLink port 0 0).frontReset port)

/-- Whether a function of a front port exists (R63, R64): the PF, and the VFs that are enabled. -/
def State.fnExists (s : State) (port fn : Nat) : Bool :=
  fn == 0 || (s.stk.vfEnable.contains port && decide (fn ≤ s.rd (F.PRT_FRONT_LINK_NUMVF port)))

/-- CC.EN is set (R82, R57): the admin queue's context becomes Live and the controller ready. -/
def execControllerEnable (cntlid port fn asq asqSize acq acqSize : Nat) (s : State) : Out1 :=
  if !s.on F.STK_CTRL_ENABLE || !cntlidOk s.head cntlid || !s.fnExists port fn || (s.ctrl cntlid).enabled || (s.ctrl cntlid).draining then .next s
  else match s.emptyCtx with
    | none => .next s
    | some c =>
      let q : Ctx := { state := .live, kind := .admin, arb := 1, cntlid := cntlid, sqBase := asq, cqBase := acq, sqSize := asqSize, cqSize := acqSize, cqHome := c, hasSq := true, hasCq := true, port := port, fn := fn, ien := true, pc := true }
      let s := s.setCtx c q
      .next (s.modCtrl cntlid fun d => { d with enabled := true, rdy := true, port := port, fn := fn, fabric := false, asq := asq, asqSize := asqSize, acq := acq, acqSize := acqSize })

/-- CC.EN is cleared (R92): the controller drains as cause 2. -/
def execControllerDisable (cntlid : Nat) (s : State) : Out1 :=
  if (s.ctrl cntlid).enabled then .next (s.resetCtrl 2 .reset cntlid) else .next s

/-- The VFs of a port lose SR-IOV VF Enable (R64): each that holds work drains as cause 3, and NUMVF reads 0 once none is left. [PRESUMED: notes/assumptions/119.md] -/
def State.vfsOff (s : State) (port : Nat) : State :=
  let cs := Tab.keysWhere s.stk.ctrls fun _ c => !c.fabric && c.port == port && decide (0 < c.fn) && c.enabled
  let s := { s with stk := { s.stk with vfEnable := s.stk.vfEnable.filter (· != port) } }
  (cs.foldl (fun s c => s.resetCtrl 3 .vfDisable c) s).vfsGone port

/-- NumVFs and VF Enable are set (R64): a count within the limit of the QUEUES section enables that many VFs while none is enabled or still draining; a count above it leaves the VFs disabled and sets VF Enable back to 0. [PRESUMED: notes/assumptions/119.md] -/
def execNumvfsWrite (port n : Nat) (s : State) : Out1 :=
  let limit := ((s.fm.forme.map (·.vfs)).getD []).getD port 0
  if limit < n then .next ((s.vfsOff port).send (.numVfsOff port))
  else if s.stk.vfEnable.contains port || s.on (F.PRT_FRONT_LINK_NUMVF port) then .next s
  else .next (({ s with stk := { s.stk with vfEnable := s.stk.vfEnable ++ [port] } } : State).wr (F.PRT_FRONT_LINK_NUMVF port) n)

/-- The VFs of a port are disabled (R64): each drains as cause 3 before it disappears. -/
def execVfDisable (port : Nat) (s : State) : Out1 := .next (s.vfsOff port)

/-- An association ends (R65): its controller drains as cause 4. -/
def execAssociationEnd (cntlid : Nat) (s : State) : Out1 :=
  if (s.ctrl cntlid).fabric && (s.ctrl cntlid).enabled then .next (s.endAssociation cntlid) else .next s

/-- The keep-alive timer of an association expires (R65): the association ends once the timeout has passed with no Keep Alive. -/
def execKeepAliveExpiry (cntlid : Nat) (s : State) : Out1 :=
  let c := s.ctrl cntlid
  if c.fabric && c.enabled && decide (0 < c.keepAliveMs) && decide (c.keepAliveAt + c.keepAliveMs * 1000000 ≤ s.now) then
    .next (s.endAssociation cntlid)
  else .next s

end Sys2Proof.Machine
end

