-- ==== Sys2Proof/Machine/Forward.lean ====
section
/-! DEFINITION. Anvil's forwarding: commands, their data, results, cancels and credits (R115, R158, R347, R348). -/

namespace Sys2Proof.Machine

/-- The slots whose command went out with a FWD_ID and has not come back, lowest first. -/
def State.fwdSlots (s : State) (fwdId : Nat) : List Nat :=
  Tab.keysWhere s.stk.slots fun _ t => t.fwdId == fwdId && !isInbound t.ctx && !t.state.isDone

/-- The slots of a forward that arrived on an inbound channel. -/
def State.inSlots (s : State) (ctx fwdId : Nat) : List Nat :=
  Tab.keysWhere s.stk.slots fun _ t => t.ctx == ctx && t.fwdId == fwdId

/-- ANV_FWD_CMD (R348): a forwarded command, or the halves of a fused pair, lands on the inbound channel that answers to the sender's outbound one. A channel that is not Live returns it with 0x0201. `family` is a command on a volume family that the partner asks this head to run (R327), as code and argument, under the model's own channel 65,520. [DEDUCED: notes/assumptions/58.md, notes/assumptions/93.md] -/
def execAnvFwdCmd (chan fwdId cntlid : Nat) (cmds : List HostCmd) (family : Option (Nat × Nat)) (s : State) : Out1 :=
  .next (s.hear 0x20 fun s =>
    let c := chan + 16
    if chan = 65520 then (match family with
      | some (code, arg) => s.familyCmd code arg (some fwdId)
      | none => s)
    else if !isOutbound chan ∨ !fetchUnit cmds then s
    else if (s.ctx c).state ≠ .live then (s.anvil .result chan [fwdId, 0x0201, 0, 0]).anvil .credit chan [1]
    else s.placeAll c cmds fwdId cntlid)

/-- The half of a forward that holds a byte offset: the Compare's data comes first, the Write's follows. -/
def State.fwdHalf (s : State) (slots : List Nat) (off : Nat) : Option Nat :=
  slots.find? fun n => (s.task? n).any fun t => t.cmd.op.carriesData && decide (s.fwdBase t ≤ off) && decide (off < s.fwdBase t + t.need)

/-- ANV_DATA_REQ (R348): the forwarding head answers with bytes that have passed its own ingest checks, at once or when they have. `buf` is what a PCIe read of the host's buffer brings; an RDMA READ is sent for a RoCEv2 command. -/
def execAnvDataReq (fwdId off len tag gen : Nat) (buf : Bytes) (s : State) : Out1 :=
  .next (s.hear 0x21 fun s =>
    match s.fwdHalf (s.fwdSlots fwdId) off with
    | none => s.relayData 65472 fwdId off len tag gen
    | some n =>
      let base := ((s.task? n).map s.fwdBase).getD 0
      let s := s.modTask n fun t => { t with asked := some (off - base, len, tag, gen) }
      let s := s.hostBuffer n buf
      let s := match s.task? n with
        | some _ => s.rdmaGo n
        | none => s
      s.answerData n)

/-- The first block of forwarded data between two byte positions whose guard fails (R158), which counts whole blocks only. -/
def linkFail (v : Volume) (t : Task) (data : Bytes) (start stop : Nat) : Option Nat :=
  if v.piType = 0 ∨ t.cmd.pi.pract then none
  else
    let size := lbafData v.lbaf + (if v.ext then lbafMeta v.lbaf else 0)
    let one (i : Nat) : Bool :=
      let d := blockData v data i
      let m := blockMeta v data t.cmd.metaBuf i
      beNat ((piBytes v m).take (if v.guard64 then 8 else 2)) != guardOf v d m
    (List.range (stop / size - start / size)).find? (fun k => one (start / size + k)) |>.map fun k => start / size + k

/-- ANV_DATA (R88 to R90, R158, R348): forwarded write data under a token. A stale token drops it; a block whose guard fails on the link is asked for again, and what follows it is not taken until it comes. -/
def execAnvData (chan fwdId off tag gen : Nat) (data : Bytes) (s : State) : Out1 :=
  if !s.portServes (chan + 16) true then .next s else
  .next (s.hear 0x22 fun s =>
    let k := Tab.get {} s.stk.tokens tag
    match k.slot.filter fun n => (s.task? n).any fun t => t.ctx == chan + 16 && t.fwdId == fwdId with
    | none => s.staleData
    | some n =>
      if k.gen ≠ gen then s.staleData
      else match s.task? n with
        | none => s
        | some t =>
          let at_ := off - s.fwdBase t
          if k.again && decide (k.next < at_) then s
          else
            let v := s.volOf t.cmd.nsid
            let size := lbafData v.lbaf + (if v.ext then lbafMeta v.lbaf else 0)
            let image := overlay t.data at_ data
            let s := { s with stk := { s.stk with tokens := Tab.put s.stk.tokens tag { k with again := false } } }
            match linkFail v t image at_ (min (at_ + data.length) t.need) with
            | none => s.tokenData tag n at_ data false
            | some i =>
              let from_ := i * size
              let s := if from_ ≤ at_ then s.modTask n fun t => { t with data := t.data.take from_ }
                else s.tokenData tag n at_ (data.take (from_ - at_)) false
              let s := (s.inc F.PRF_INGEST_CNT_ANVIL).raise F.PRF_INT_STATUS_INGEST
              let s := { s with stk := { s.stk with tokens := Tab.put s.stk.tokens tag { k with next := from_, again := true } } }
              s.anvil .dataReq chan [fwdId, s.fwdBase t + from_, t.need - from_, tag, gen])

/-- The blocks that READ_DATA carries (R348): each block's data, then its metadata. -/
def wireBlocks (v : Volume) (data : Bytes) : List (Bytes × Bytes) :=
  let d := lbafData v.lbaf
  let size := d + lbafMeta v.lbaf
  (List.range (data.length / size)).map fun i => (slice data (i * size) d, slice data (i * size + d) (size - d))

/-- ANV_READ_DATA (R348, R70): data of a forwarded read goes to the host through this head's egress unit; a block whose PRCHK fails there fails the command with 0x040B when its RESULT arrives. -/
def execAnvReadData (fwdId off : Nat) (data : Bytes) (s : State) : Out1 :=
  .next (s.hear 0x23 fun s =>
    match (s.fwdSlots fwdId).head?.bind fun n => (s.task? n).map fun t => (n, t) with
    | some (n, t) =>
      let v := s.volOf t.cmd.nsid
      let bs := wireBlocks v data
      let first := off / (lbafData v.lbaf + lbafMeta v.lbaf)
      (match egressFail v t.cmd.pi first bs with
      | some w => s.modTask n fun t => { t with postAs := some (.piFail 0x040B w) }
      | none => s.send (.readBlocks t.ctx t.cmd.cid first (hostBlocks v t.cmd.pi bs)))
    | none => s)

/-- A result as RESULT carried it. -/
def Result.ofWire (st direct : Nat) : Result :=
  if direct = 0 then .internal st
  else if st = 0 then .nvme (direct / 256) (direct % 256)
  else .piFail st (direct - 0x282)

/-- A forward ends at the forwarding head in `r`: a fused pair ends in both halves (R112). [DEDUCED: notes/assumptions/61.md] -/
def State.endHalves (s : State) (n : Nat) (r : Result) (dword0 : Nat) : State :=
  match s.task? n with
  | none => s
  | some t =>
    let r := if r = .success then t.postAs.getD r else r
    let s := s.modTask n fun t => { t with dword0 := dword0, postAs := none }
    if t.cmd.op = .fusedCompare then s.finishFused n r (if r = .success then .success else .fusedFailed)
    else s.finish n r

/-- A cancelled forward ends (R115, Table 5.6): it is counted as its RESULT reports, and what this head posts instead is posted, or the command is discarded. [DEDUCED: notes/assumptions/61.md] -/
def State.endCancelled (s : State) (n : Nat) (st : Nat) : State :=
  match s.task? n with
  | none => s
  | some t =>
    let s := s.inc (if st = 0x0203 then F.CHS_RESET_CNT_TOOK_EFFECT else F.CHS_RESET_CNT_DISCARDED)
    let other := t.fusedWith.filter fun w => (s.task? w).isSome
    let post := t.postAs.orElse fun _ => (other.bind s.task?).bind (·.postAs)
    let s := match post with
      | some r =>
        let mine := if t.cmd.op = .fusedWrite ∧ t.postAs.isNone then .fusedFailed else r
        let s := s.finish n mine
        (match other with
        | some w => s.finish w ((((s.task? w).bind (·.postAs))).getD .fusedFailed)
        | none => s)
      | none =>
        let s := s.finish n (.internal st)
        (match other with
        | some w => s.finish w (.internal st)
        | none => s)
    let drop (s : State) (m : Nat) : State := if ((s.task? m).map (·.discard)).getD false then s.dropTask m else s
    match other with
    | some w => drop (drop s n) w
    | none => drop s n

/-- ANV_RESULT (R95, R115, R348): it ends a forward. A command returned with 0x0201 meets this head's Chase again, the forwarded part of a Flush is done (R113), and a cancelled forward ends as Table 5.6 gives. A relayed update command goes on with the next (R413). [DEDUCED: notes/assumptions/61.md] -/
def execAnvResult (chan fwdId st direct dword0 : Nat) (s : State) : Out1 :=
  .next (s.hear 0x24 fun s =>
    if (s.upd.relay.bind (·.fwdId)) = some fwdId then s.relayResult st direct dword0
    else if chan = 65520 then (if s.on F.STE_CMD_BUSY then s.steDone none st direct else s)
    else match s.fwdSlots fwdId with
      | [] => s
      | n :: _ =>
        match s.task? n with
        | none => s
        | some t =>
          match t.state with
          | .cancelling _ => s.endCancelled n st
          | .forwarded _ =>
            if st = 0x0201 then
              let s := (s.fwdSlots fwdId).foldl (fun s m => s.modTask m fun u => { u with state := .fetched, fwdId := 0, asked := none }) s
              s.handOver n
            else s.endHalves n (Result.ofWire st direct) dword0
          | _ => s.modTask n fun u => { u with waitParts := u.waitParts - 1 })

/-- Whether a cancelled command has all its data at its owner (Table 5.6); a fused pair goes by its write half. -/
def State.cancelTakes (s : State) (t : Task) : Bool :=
  (t.state == .stamped || t.state == .dispatched || t.state.isDone) &&
    (t.cmd.op == .flush || (t.cmd.op.isWriteMode && t.complete) ||
      (t.cmd.op == .fusedCompare && (t.fusedWith.bind s.task?).any fun u => u.complete))

/-- ANV_CANCEL (R115): the owner resolves the forward by Table 5.6, by its state when the cancel arrives, and ends it with one RESULT: 0x0203 when it took effect, 0x0202 when it was discarded or abandoned. -/
def execAnvCancel (chan fwdId : Nat) (s : State) : Out1 :=
  .next (s.hear 0x25 fun s =>
    let slots := s.inSlots (chan + 16) fwdId
    match slots.find? fun n => (s.task? n).any fun t => t.cmd.op != .fusedWrite with
    | none => s
    | some n =>
      match s.task? n with
      | none => s
      | some t =>
        if s.cancelTakes t then slots.foldl (fun s m => s.modTask m fun u => { u with postAs := some (.internal 0x0203) }) s
        else
          let s := { s with chs := { s.chs with input := s.chs.input.filter fun m => !slots.contains m } }
          match t.fusedWith with
          | some w =>
            let s := (s.modTask n fun u => { u with fusedWith := none }).modTask w fun u => { u with fusedWith := none, postAs := some (.internal 0x0202) }
            let s := (s.freeToken n).release n
            ((s.dropTask n).modCtx t.ctx fun c => { c with outstanding := c.outstanding - 1 }).finish w (.internal 0x0202)
          | none => s.finish n (.internal 0x0202))

/-- ANV_CREDIT (R347): entries that wait for a credit of the channel go out, oldest first. [DEDUCED: notes/assumptions/95.md] -/
def execAnvCredit (chan n : Nat) (s : State) : Out1 :=
  .next (s.hear 0x26 fun s =>
    let s := s.modCtx chan fun c => { c with credits := c.credits + n }
    let wait := Tab.keysWhere s.stk.slots fun _ t => t.state == .held && s.chanNow (fwdChannel t.ctx) == chan && !isInbound t.ctx && (s.ns t.cmd.nsid).state == .remote
    let byAge := wait.foldl (fun (l : List Nat) m => insertBy (fun a b => decide (((s.task? b).map (·.arrival)).getD 0 < ((s.task? a).map (·.arrival)).getD 0)) m l) []
    ((byAge.foldl State.handOver s).sendQueries).relayGo)

end Sys2Proof.Machine
end

