-- ==== Sys2Proof/Machine/Moves.lean ====
section
/-! DEFINITION. Moving a namespace between the heads, erase clearance and the return of media (R116, R117, R299, R350, R369, R370). -/

namespace Sys2Proof.Machine

/-- The volumes of a namespace's family (R324): its own, and the snapshots without a namespace. [DEDUCED: notes/assumptions/45.md] -/
def State.familyVols (s : State) (nsid : Nat) : List Nat :=
  let num := (s.ns nsid).volume
  let fam := (Tab.get ({} : Volume) s.vols num).family
  Tab.keysWhere s.vols fun k v => k == num || (v.family == fam && v.nsid == 0 && v.state == .live)

/-- NS_MOVE_START (R116 step 1, R369, R392): this head acquires a namespace that the partner holds. It stamps commands for it from now on and sends MOVE_BEGIN on its 16 outbound channels, which spends no credit; the one of a re-homed channel travels on the other bundle under its own channel number (R83). `handback` says that a Handback asked for it, so that this head reports Handback. A head that is handing its own namespaces over is banking at the same time as its partner, and head 1 withdraws. [DEDUCED: notes/assumptions/64.md] -/
def execNsMoveStart (nsid : Nat) (handback : Bool) (s : State) : Out1 :=
  if (s.ns nsid).state ≠ .remote ∨ s.anv.lost ∨ !s.inMode [.paired, .handback, .activation] then .next s
  else
    let s := if s.pwr.entry.isSome then s.bankWithdraw else s
    let s := if handback then s.toMode .handback else s
    let s := s.modNs nsid fun e => { e with state := .acquiring, moveAt := s.now }
    .next ((List.range 16).foldl (fun s k => s.anvil .moveBegin (65472 + k) [nsid]) s)

/-- ANV_MOVE_BEGIN (R116 step 2): the first one sets Releasing, and each is counted by the inbound channel it came on. `asks` says that the partner asks this head to take its namespaces at the same time (R392). [DEDUCED: notes/assumptions/64.md] -/
def execAnvMoveBegin (chan nsid : Nat) (asks : Bool) (s : State) : Out1 :=
  .next (s.hear 0x30 fun s =>
    let e := s.ns nsid
    if !isOutbound chan ∨ (e.state ≠ .loc ∧ e.state ≠ .releasing) then s
    else
      let s := if asks && s.pwr.entry.isSome then s.bankWithdraw else s
      let e := if e.state = .loc then { e with state := .releasing, moveAt := s.now, begins := [], sent := false } else e
      s.modNs nsid fun _ => { e with begins := if e.begins.contains (chan + 16) then e.begins else e.begins ++ [chan + 16] })

/-- The unapplied pieces of a namespace in the order of their versions. -/
def State.unapplied (s : State) (nsid : Nat) : List (Nat × Piece) :=
  (s.gly.own.filter fun p => p.2.nsid == nsid && p.2.repl.isNone && p.2.commit && !p.2.applied).foldl
    (fun l p => insertBy (fun a b => decide (b.2.rank < a.2.rank)) p l) []

/-- The boundary record (Table 16.4). [DEDUCED: notes/assumptions/64.md] -/
def State.boundaryBytes (s : State) (nsid : Nat) : Bytes :=
  let e := s.ns nsid
  let ps := s.unapplied nsid
  leBytes nsid 4 ++ leBytes ps.length 4 ++ leBytes e.last 8 ++ volumeBytes e.volume { Tab.get ({} : Volume) s.vols e.volume with holder := s.peer } ++
    ps.flatMap fun p => leBytes p.2.stamp 8 ++ leBytes p.1 4 ++ leBytes p.2.gen 4

/-- Whether a forward that arrived ahead of its channel's MOVE_BEGIN is still to be stamped here (Table 5.2). -/
def State.aheadWaits (s : State) (nsid : Nat) : Bool :=
  s.stk.slots.any fun p => p.2.cmd.nsid == nsid && p.2.cmd.op.isStamped && p.2.beforeMoveBegin && (p.2.state == .fetched || p.2.state == .held)

/-- BOUNDARY_SEND (R116 steps 3 and 4): all 16 MOVE_BEGINs are here, every forward ahead of them is stamped and no stamped command is pending, so the boundary is set and its record sent. Pieces that are being applied finish first. -/
def execBoundarySend (nsid : Nat) (s : State) : Out1 :=
  let e := s.ns nsid
  let busy := s.gly.own.any fun p => p.2.nsid == nsid && (p.2.applying || p.2.refs != 0 || (p.2.commit && !p.2.applied && s.hth.journal.waiting.any fun b => b.after.contains (.applied p.1)))
  if e.state ≠ .releasing ∨ e.begins.length ≠ 16 ∨ e.pending ≠ 0 ∨ e.sent ∨ busy ∨ s.aheadWaits nsid then .next s
  else
    let s := s.modNs nsid fun e => { e with boundary := e.last, sent := true }
    .next (s.anvil .boundary pairChan [nsid] (s.boundaryBytes nsid))

/-- A volume record read back from its 64 bytes (Table 13.6): its number, and a volume with the settings it names. -/
def volumeOf (b : Bytes) (old : Volume) : Volume :=
  let w := leAt b 0 8
  let f := leAt b 40 8
  { old with nsid := bits w 39 24, realm := bits w 23 12, cls := bits w 11 8, holder := bits w 4 4, lbaf := bits f 63 60, piType := bits f 59 57, ext := bitOf f 56, piFirst := bitOf f 55 }

/-- A mirror copy as a piece of this head (R116 step 5, R119): published, FOREIGN, with its grains to be looked up again. The application tag that a Write Zeroes leaves does not travel in a descriptor, so it is an open value. [DEDUCED: notes/assumptions/25.md] -/
def State.adopt (s : State) (idx : Nat) (p : Piece) (stamp : Nat) : State :=
  let (tag, s) := if p.kind = .zeroes then s.freeVal else (0, s)
  let q : Piece := { p with stamp := stamp, owner := s.head, commit := true, dataIn := true, mirrorAck := true, applied := false, isForeign := true, task := none, localDone := true, logged := 0, grains := [], journalled := false, verify := [], refs := 0, drops := [], applying := false, tag := tag % 65536 }
  let q := { q with zeroGrains := q.zeroes (s.pieceVol q) }
  let s := s.foreignLock stamp p.nsid (p.slba, p.nlb)
  { s with gly := { s.gly with mirror := Tab.erase s.gly.mirror idx, own := Tab.put s.gly.own (flipDesc idx) q } }

/-- Adopts mirror copies in order, each with its new stamp. A repeat piece names the new stamp of the piece that it repeats, or none when that one is not adopted with it (R24). [DEDUCED: notes/assumptions/25.md, notes/assumptions/31.md] -/
def State.adoptAll (s : State) (l : List (Nat × Piece × Nat)) : State :=
  let now (old : Nat) : Nat := ((l.find? fun e => e.2.1.stamp == old && e.2.1.kind != .repeated).map fun e => e.2.2).getD 0
  l.foldl (fun s e => s.adopt e.1 { e.2.1 with repeatStamp := if e.2.1.kind = .repeated then now e.2.1.repeatStamp else e.2.1.repeatStamp } e.2.2) s

/-- Sessions of volumes that this head now serves resume from their mirrored state (R340, R369). -/
def State.resumeSessions (s : State) (vols : List Nat) : State :=
  let ks := Tab.keysWhere s.ste.peerSessions fun _ e => vols.contains e.volume
  ks.foldl (fun s k =>
    let e : Session := Tab.get {} s.ste.peerSessions k
    let s := { s with ste := { s.ste with peerSessions := Tab.erase s.ste.peerSessions k } }
    let s := s.setSess k { e with link := false, keyed := false, outq := [], parts := [], started := false, out := e.out.map fun (o : SyncOut) => { o with seq := 0 } }
    let s := s.ringState 2 k
    if e.isTarget then s else s.connect k) s

/-- This head serves a namespace from now on: its volume and its family's snapshots name it as HOLDER (R350). -/
def State.holdVolumes (s : State) (nsid : Nat) : State :=
  (s.familyVols nsid).foldl (fun s n =>
    let v : Volume := { Tab.get ({} : Volume) s.vols n with holder := s.head }
    s.journal [.volume n v 0 0]) s

/-- ANV_BOUNDARY (R116 step 5, R350): the entries of the record are adopted from the mirror region below all of this head's stamps, in the record's order; the namespace becomes Local and the held commands are dispatched. -/
def execAnvBoundary (body : Bytes) (s : State) : Out1 :=
  .next (s.hear 0x31 fun s =>
    let nsid := leAt body 0 4
    let n := leAt body 4 4
    if (s.ns nsid).state ≠ .acquiring ∨ body.length ≠ 0x50 + 16 * n then s
    else
      let vb := slice body 0x10 64
      let num := bits (leAt vb 0 8) 63 40
      let s := { s with vols := Tab.put s.vols num (volumeOf vb (Tab.get {} s.vols num)) }
      let (_, l) := (List.range n).foldl (fun (a : Nat × List (Nat × Piece × Nat)) i =>
        let at_ := 0x50 + 16 * i
        let idx := leAt body (at_ + 8) 4
        match (Tab.find s.gly.mirror idx).filter fun p => p.gen == leAt body (at_ + 12) 4 with
        | some p =>
          let st := max (a.1 + 1) (leAt body at_ 8)
          (st, a.2 ++ [(idx, p, st)])
        | none => a) (0, [])
      let s := s.adoptAll l
      let s := s.modNs nsid fun e => { e with state := .loc, owner := s.head, boundary := 0, volume := num, begins := [], sent := false }
      let s := (s.holdVolumes nsid).wakeStamped
      let s := if s.pwr.bankList.contains nsid then State.shareState { s with pwr := { s.pwr with bankList := s.pwr.bankList.filter (· != nsid) } } 12 0 else s
      let s := ((s.send (.anaChange nsid)).raise F.CHS_INT_STATUS_BOUNDARY_DONE).wr F.ANV_PAIR_STANDBY 0
      (s.resumeSessions (s.familyVols nsid)).anvil .moveDone pairChan [nsid])

/-- Gives up a piece that the partner has adopted: it stays as the partner's mirror copy, and its pins are returned (R116 step 6, R190). -/
def State.givePiece (s : State) (e : Nat × Piece) : State :=
  let s := e.2.grains.foldl (fun s x =>
    if x.2 = 0 then s
    else if s.holdsHalf (gidHalf x.2) then (s.unpinPiece x.2 s.head e.1).freeIfDead x.2
    else s.query { op := 4, tag := 0, gid := x.2 }) s
  let p : Piece := { e.2 with owner := s.peer, isForeign := false, task := none, grains := [], repl := none }
  { s with gly := { s.gly with own := Tab.erase s.gly.own e.1, mirror := Tab.put s.gly.mirror (flipDesc e.1) p } }

/-- The sessions of a namespace's family go with it (R369): the connection closes here and their state is the partner's. -/
def State.giveSessions (s : State) (vols : List Nat) : State :=
  let ks := Tab.keysWhere s.ste.sessions fun _ e => vols.contains e.volume
  ks.foldl (fun s k =>
    let e := s.sess k
    let s := { s with ste := { s.ste with peerSessions := Tab.put s.ste.peerSessions k { e with link := false } } }
    (s.setSess k {}).raise F.STE_INT_STATUS_SESSION_DOWN) s

/-- Ends a Handback of one namespace. -/
def State.handbackEnd (s : State) : State :=
  (((({ s with anv := { s.anv with handback := none } } : State).wr F.ANV_HANDBACK_BUSY 0).wr F.ANV_HANDBACK_RESULT 0)).toMode .paired

/-- A namespace of a Handback has moved (R369, R370): it leaves the takeover list; an empty list returns the partner's media. [DEDUCED: notes/assumptions/64.md] -/
def State.handbackNext (s : State) (nsid : Nat) : State :=
  let was := s.anv.taken.contains nsid
  let s := { s with anv := { s.anv with taken := s.anv.taken.filter (· != nsid) } }
  let s := if was then s.ringState 3 0 else s
  match s.anv.handback with
  | none => s
  | some h =>
    let left := h.left.filter (· != nsid)
    let s := { s with anv := { s.anv with handback := some { h with left := left } } }
    if !left.isEmpty then s
    else if s.anv.taken.isEmpty then ({ s with anv := { s.anv with mediaDue := true } } : State).mediaReturn
    else s.handbackEnd

/-- ANV_MOVE_DONE (R116 step 6): the adopted pieces stay as the partner's mirror copies, the namespace is Remote, and what waited for the move goes on. [DEDUCED: notes/assumptions/64.md] -/
def execAnvMoveDone (nsid : Nat) (s : State) : Out1 :=
  .next (s.hear 0x32 fun s =>
    let e := s.ns nsid
    if e.state ≠ .releasing ∨ !e.sent then s
    else
      let vols := s.familyVols nsid
      let s := (s.unapplied nsid).foldl State.givePiece s
      let s := s.modNs nsid fun e => { e with state := .remote, owner := s.peer, begins := [], sent := false }
      let s := { s with vols := vols.foldl (fun t n => Tab.put t n { Tab.get ({} : Volume) t n with holder := s.peer }) s.vols }
      let s := (s.send (.anaChange nsid)).raise F.CHS_INT_STATUS_BOUNDARY_DONE
      ((s.giveSessions vols).handbackNext nsid).leaveNext nsid)

/-- MOVE_HOLD_LONG (R117): a move has waited more than 1 s. -/
def execMoveHoldLong (nsid : Nat) (s : State) : Out1 :=
  let e := s.ns nsid
  if (e.state = .releasing ∨ e.state = .acquiring) ∧ e.moveAt + 1000000000 < s.now then .next (s.raise F.CHS_INT_STATUS_HOLD_LONG) else .next s

/-- Gives the clearances that waited for reads to end (R299). -/
def State.giveClearances (s : State) : State :=
  let ready := s.hth.owed.filter fun id => !s.readsSheet id
  if ready.isEmpty then s
  else
    let s : State := { s with hth := { s.hth with owed := s.hth.owed.filter fun id => !ready.contains id } }
    ready.foldl (fun s id => s.anvil .clearance pairChan [id, 1]) s

/-- ANV_CLEARANCE (R299): a request is granted once no read of this head that resolved an address in the sheet before the MOVE arrived is in progress; a grant lets the owner erase. [DEDUCED: notes/assumptions/44.md] -/
def execAnvClearance (sheet : Nat) (grant : Bool) (s : State) : Out1 :=
  .next (s.hear 0x41 fun s =>
    if grant then { s with hth := { s.hth with clearances := if s.hth.clearances.contains sheet then s.hth.clearances else s.hth.clearances ++ [sheet] } }
    else
      let s := s.modSheet sheet fun e => { e with movedAt := s.now }
      ({ s with hth := { s.hth with owed := if s.hth.owed.contains sheet then s.hth.owed else s.hth.owed ++ [sheet] } } : State).giveClearances)

/-- ANV_MEDIA_RETURN (R370): the returning head is the HEAD of the sheets of its half again, and takes the rebuild, the reshape and the lost-stripe entries of those sheets. `n` sheet IDs stand at the front of the body, which ends in an NVMe CRC-64. [DEDUCED: notes/assumptions/64.md] -/
def execAnvMediaReturn (body : Bytes) (n : Nat) (lost : List (Nat × LostStripe)) (rebuild : Option Rebuild) (reshape : Option Reshape) (s : State) : Out1 :=
  .next (s.hear 0x42 fun s =>
    let len := body.length - 8
    if body.length < 8 ∨ leAt body len 8 ≠ crc64 (body.take len) ∨ len < 8 * n then s
    else
      let s := (List.range n).foldl (fun s i => s.modSheet (leAt body (8 * i) 8) fun e => { e with head := s.head }) s
      { s with imp := { s.imp with rebuild := s.imp.rebuild.orElse fun _ => rebuild, reshape := s.imp.reshape.orElse fun _ => reshape, lostStripes := lost.foldl (fun t e => Tab.put t e.1 e.2) s.imp.lostStripes } })

/-- What the head does with 1 ns in which no command comes: its clocks run, and clearances whose reads have ended are given. [DESIGN CHOICE: notes/assumptions/2.md] -/
def State.idle (s : State) : State := s.tick.giveClearances

end Sys2Proof.Machine
end

