-- ==== Sys2Proof/Machine/Strike.lean ====
section
/-! DEFINITION. Proof strikes (R131, R371 to R373). -/

namespace Sys2Proof.Machine

/-- Changes the strike in progress. -/
def State.modStrike (s : State) (f : Strike → Strike) : State := { s with anv := { s.anv with strike := s.anv.strike.map f } }

/-- A STRIKE message whose ID names no strike in progress is dropped and counted (R373). -/
def State.badStrike (s : State) : State := s.inc F.ANV_RETRY_CNT_BAD_MSG

/-- A step of Table 16.10 failed (R372): its bit is set. Steps count from 1. -/
def Strike.fail (k : Strike) (step : Nat) : Strike := { k with failed := k.failed ||| 2 ^ (step - 1) }

/-- An answer arrived for a step. -/
def Strike.answered (k : Strike) (step : Nat) : Strike := { k with waits := k.waits.filter fun w => w.1 != step }

/-- Pairs of descriptor index and generation as the numbers of a STRIKE body. -/
def pairList (l : List (Nat × Nat)) : List Nat := l.flatMap fun p => [p.1, p.2]

/-- Ends the strike (R372, R373): the outcome stands in ANV_STRIKE, and a failed step is an alarm. [DEDUCED: notes/assumptions/81.md] -/
def State.strikeFinish (s : State) : State :=
  match s.anv.strike with
  | none => s
  | some k =>
    let s := if s.paired then s.anvil .strikeEnd pairChan [k.id, k.failed, k.skipped] else s
    let s := (((s.wr F.ANV_STRIKE_TIME (s.now / 65536)).wr F.ANV_STRIKE_SKIPPED k.skipped).wr F.ANV_STRIKE_FAILED k.failed)
    let s := { s with anv := { s.anv with strike := none } }
    if k.failed = 0 then s.note .anv .strikeDone else (s.raise F.ANV_INT_STATUS_STRIKE_FAIL).alarm .anv .strikeDone 0 [k.failed]


/-- A known-answer test of a lane or of the key unit failed (R164, R180, R224, R248, R259): the channel is at fault, and the job that it runs goes on elsewhere. -/
def State.katFault (s : State) (kind lane : Nat) : State :=
  match kind with
  | 7 => (s.katFailed 7).coreFault lane
  | 8 => s.swageFault lane
  | 9 => (s.katFailed 9).pairFault lane
  | 10 => s.impFault lane
  | k => (s.katFailed k).report k lane 0

/-- Step 5: one lane of each station, the lane after the one tested at the previous strike, and the key unit. A lane that fails is at fault (R376). -/
def State.strikeKats (s : State) (kats : List Nat) : State × Bool :=
  let n := s.anv.katNext
  let s := { s with anv := { s.anv with katNext := n + 1 } }
  kats.foldl (fun (a : State × Bool) k =>
    if (katBit k).isNone then a
    else
      let lane := if k = Kind.keyUnit then 0 else n % Kind.count k
      if a.1.isOut k lane then a else (a.1.katFault k lane, true)) (s, false)

/-- Steps 5 and 6, once the steps that need the partner are through. The load that LOAD_TEST is given is not stated, so it is an open value. [DEDUCED: notes/assumptions/81.md] -/
def State.strikeGo (s : State) : State :=
  match s.anv.strike with
  | none => s
  | some k =>
    if !k.waits.isEmpty then s
    else
      let (s, bad) := s.strikeKats k.kats
      let s := if bad then s.modStrike fun k => k.fail 5 else s
      if k.monthly then
        let (load, s) := s.freeVal
        let s := { s with anv := { s.anv with lastLoad := s.now } }
        (s.send (.bellows bellowsAddr 0x20 (load % 256))).modStrike fun k => { k with waits := [(6, s.now)] }
      else s.strikeFinish

/-- A strike-volume piece of 64 KiB (Table 16.10 step 3): NSID 0, class 0, in the lowest free run, with bytes that the spec does not give. -/
def State.strikePiece (s : State) : List (Nat × Nat) × State :=
  match s.freeDesc, firstFit s.slotCap 16 0 s.runs with
  | some d, some slot =>
    let gen := (Tab.get 0 s.gly.gens d + 1) % 2 ^ 32
    let (data, s) := s.random (16 * 4224)
    let st := s.rd F.CHS_LAST_STAMP_STAMP + 1
    let s := (s.wr F.CHS_LAST_STAMP_STAMP st).stampMark
    let p : Piece := { stamp := st, nsid := 0, cls := 0, owner := s.head, kind := .write, nlb := 16, slba := 0, slot := slot, slotCnt := 16, lbaf := 3, gen := gen, data := data, digest := crc64 data, dataIn := true, localDone := true, arrival := s.now }
    let s := { s with gly := { s.gly with gens := Tab.set 0 s.gly.gens d gen } }
    ([(d, gen)], (s.setPiece d p).mirrorPiece d p)
  | _, _ => ([], s)

/-- `n` strike-volume pieces. -/
def State.strikePieces (s : State) : Nat → List (Nat × Nat) × State
  | 0 => ([], s)
  | n + 1 =>
    let (a, s) := s.strikePiece
    let (b, s) := s.strikePieces n
    (a ++ b, s)

/-- Step 3 begins: 64 pieces go to the strike volume, and the partner is asked to replay them. [DEDUCED: notes/assumptions/81.md] -/
def State.strikeDry (s : State) : State :=
  match s.anv.strike with
  | none => s
  | some k =>
    let (ps, s) := s.strikePieces 64
    let s := s.modStrike fun k => { k with dry := ps, waits := k.waits ++ [(3, s.now)] }
    s.anvil .dryBegin pairChan ([k.id, ps.length] ++ pairList ps)

/-- Step 2 begins: up to 1,024 unreleased pieces of this head. With none there is nothing to compare. [DEDUCED: notes/assumptions/81.md] -/
def State.strikeDigest (s : State) : State :=
  match s.anv.strike with
  | none => s
  | some k =>
    let ps := (k.picks.take 1024).filter fun p => (Tab.find s.gly.own p.1).any fun q => q.gen == p.2 && q.dataIn && q.mirrorAck
    if ps.isEmpty then s.strikeDry
    else
      let s := s.modStrike fun k => { k with picks := ps, waits := k.waits ++ [(2, s.now)] }
      s.anvil .digestReq pairChan ([k.id, ps.length] ++ pairList ps)

/-- The strike-volume pieces are discarded. -/
def State.dropDry (s : State) : State :=
  match s.anv.strike with
  | none => s
  | some k => k.dry.foldl (fun s p => (s.dropPiece p.1).anvil .release pairChan [p.1, p.2]) s

/-- Starts a proof strike (R371, R372): while Paired the steps that need the partner begin with STRIKE_START; otherwise they are skipped. `picks` are the random pieces of step 2, `kats` the stations whose lane under test fails. [DEDUCED: notes/assumptions/81.md] -/
def State.strikeStart (s : State) (picks : List (Nat × Nat)) (kats : List Nat) : State :=
  if s.anv.strike.isSome then s
  else
    let month := decide (s.anv.lastLoad + 30 * 86400000000000 ≤ s.now) && (s.fm.forme.map (·.loadTest)).getD false
    let k : Strike := { id := s.now, picks := picks, kats := kats, monthly := month }
    let steps := 0x1F + (if month then 0x20 else 0)
    if s.paired then
      ({ s with anv := { s.anv with strike := some { k with waits := [(1, s.now), (4, s.now)] } } } : State).anvil .strikeStart pairChan [k.id, steps]
    else ({ s with anv := { s.anv with strike := some { k with skipped := 0x0F } } } : State).strikeGo

/-- STRIKE_INTERVAL_TIMER (R371). -/
def execStrikeIntervalTimer (picks : List (Nat × Nat)) (kats : List Nat) (s : State) : Out1 :=
  match s.anv.strikeAt with
  | none => .next s
  | some t =>
    if s.now < t then .next s
    else
      let h := (s.fm.forme.map (·.strikeHours)).getD 24
      .next (({ s with anv := { s.anv with strikeAt := some (t + h * 3600000000000) } } : State).strikeStart picks kats)

/-- STRIKE_NOW (R371). -/
def execStrikeNow (picks : List (Nat × Nat)) (kats : List Nat) (s : State) : Out1 := .next (s.strikeStart picks kats)

/-- Modules whose seat epoch differs from the pair epoch, or that do not answer (Table 16.10 step 4), as a bitmap. [DEDUCED: notes/assumptions/81.md] -/
def State.seatsOff (s : State) (silent : List Nat) : Nat :=
  ((s.admitted.filter fun m => silent.contains m || (s.dev m).seatEpoch != s.rd F.GMP_PAIR_EPOCH_EPOCH).map (2 ^ ·)).sum

/-- STRIKE_START at the partner (R373): what its capture registers saw of `lines` goes back as TONGS_SEEN, and OWNER goes to every admitted module, with the answer OWNER_RESULT; `silent` are modules that do not answer. -/
def execStrikeStart (id steps lines : Nat) (silent : List Nat) (s : State) : Out1 :=
  .next (s.hear 0x50 fun s =>
    let s := { s with anv := { s.anv with peerStrike := some id } }
    let s := if bitOf steps 0 then
        let s := if bitOf lines 0 then s.raise F.ANV_TONGS_CAP_ALIVE_GAP else s
        let s := if bitOf lines 1 then s.raise F.ANV_TONGS_CAP_FENCE else s
        let s := if bitOf lines 2 then s.raise F.ANV_TONGS_CAP_CLAIM else s
        s.anvil .tongsSeen pairChan [id, lines % 8]
      else s
    if bitOf steps 3 then
      let off := s.seatsOff silent
      let s := s.admitted.foldl (fun s m => s.gmpSend m { op := Gmp.ownerOp } [] .plain { dropped := silent.contains m }) s
      s.anvil .ownerResult pairChan [id, s.admitted.length, off]
    else s)

/-- What the striking head does with an answer to a step: one that is awaited counts, and the next step follows. -/
def State.strikeAnswer (s : State) (id step : Nat) (pass : Bool) (next : State → State) : State :=
  match s.anv.strike with
  | none => s.badStrike
  | some k =>
    if k.id ≠ id then s.badStrike
    else if !(k.waits.any fun w => w.1 == step) then s
    else
      let s := s.modStrike fun k => if pass then k.answered step else (k.answered step).fail step
      (next s).strikeGo

/-- STRIKE_TONGS_SEEN (R373): all three lines must have been seen. -/
def execStrikeTongsSeen (id lines : Nat) (s : State) : Out1 :=
  .next (s.hear 0x50 fun s => s.strikeAnswer id 1 (lines % 8 == 7) State.strikeDigest)

/-- STRIKE_DIGEST_REQ at the partner (R373): the DIGEST of each mirror copy, and 0 for a piece released in the meantime. -/
def execStrikeDigestReq (id : Nat) (l : List (Nat × Nat)) (s : State) : Out1 :=
  .next (s.hear 0x50 fun s =>
    if s.anv.peerStrike ≠ some id then s.badStrike
    else
      let one (p : Nat × Nat) : List Nat :=
        match Tab.find s.gly.mirror p.1 with
        | some q => if q.gen = p.2 then [p.1, p.2, crc64 q.data] else [p.1, p.2, 0]
        | none => [p.1, p.2, 0]
      s.anvil .digestResp pairChan ([id, l.length] ++ l.flatMap one))

/-- STRIKE_DIGEST_RESP (R373): every digest equals its descriptor's; a piece released in the meantime is not compared. Entries are descriptor index, generation and digest. -/
def execStrikeDigestResp (id : Nat) (l : List (Nat × Nat × Nat)) (s : State) : Out1 :=
  .next (s.hear 0x50 fun s =>
    let picks := (s.anv.strike.map (·.picks)).getD []
    let ok := picks.all fun p =>
      match l.find? fun e => e.1 == p.1 && e.2.1 == p.2 with
      | none => false
      | some e => e.2.2 == 0 || (match Tab.find s.gly.own p.1 with
        | some q => q.gen != p.2 || q.digest == e.2.2
        | none => true)
    s.strikeAnswer id 2 ok State.strikeDry)

/-- STRIKE_DRY_BEGIN at the partner (R373): the mirror copies are replayed into a scratch stamp space, their digests and stamp order checked, and the scratch discarded. `us` is the time that the replay takes. -/
def execStrikeDryBegin (id : Nat) (l : List (Nat × Nat)) (us : Nat) (s : State) : Out1 :=
  .next (s.hear 0x50 fun s =>
    if s.anv.peerStrike ≠ some id then s.badStrike
    else
      let ps := l.map fun p => (Tab.find s.gly.mirror p.1).filter fun q => q.gen == p.2
      let digests := ps.all fun q => q.any fun x => crc64 x.data == x.digest
      let stamps := ps.filterMap fun q => q.map fun x => x.stamp
      let rising := (stamps.zip (stamps.drop 1)).all fun p => decide (p.1 < p.2)
      let result := if !digests then 1 else if !rising then 2 else if 1000 < us then 3 else 0
      s.anvil .dryResult pairChan [id, result, us])

/-- STRIKE_DRY_RESULT (R373). -/
def execStrikeDryResult (id result us : Nat) (s : State) : Out1 :=
  .next (s.hear 0x50 fun s => s.strikeAnswer id 3 (result == 0 && decide (us ≤ 1000)) State.dropDry)

/-- STRIKE_OWNER_RESULT (R373). [DEDUCED: notes/assumptions/81.md] -/
def execStrikeOwnerResult (id asked bitmap : Nat) (s : State) : Out1 :=
  .next (s.hear 0x50 fun s => s.strikeAnswer id 4 (bitmap == 0 && asked == s.admitted.length) fun s => s)

/-- STRIKE_END at the partner (R373). -/
def execStrikeEnd (id : Nat) (s : State) : Out1 :=
  .next (s.hear 0x50 fun s =>
    if s.anv.peerStrike ≠ some id then s.badStrike else { s with anv := { s.anv with peerStrike := none } })

/-- STRIKE_RESPONSE_TIMEOUT (R373): a response that has not arrived within 100 ms fails its step, and the steps after it go on. [DEDUCED: notes/assumptions/81.md] -/
def execStrikeResponseTimeout (s : State) : Out1 :=
  match s.anv.strike with
  | none => .next s
  | some k =>
    let late := (k.waits.filter fun w => w.1 != 6 && decide (w.2 + 100000000 ≤ s.now)).map Prod.fst
    .next (late.foldl (fun s n => s.strikeAnswer k.id n false
      (if n = 1 then State.strikeDigest else if n = 2 then State.strikeDry else if n = 3 then State.dropDry else fun s => s)) s)

/-- BELLOWS_LOAD_RESULT (R130, R131, Table 16.10 step 6): a LOAD_RESULT below the ENERGY read caps E until the next test; the strike's step passes when it is at least E_req. A read that fails PEC gives no result. [DEDUCED: notes/assumptions/81.md] -/
def execBellowsLoadResult (result energy : Nat) (pecOk : Bool) (s : State) : Out1 :=
  let s := s.send (.bellows bellowsAddr 0x21 0)
  if !pecOk then .next s.pecFail else
  let s := { s with gly := { s.gly with loadCap := if result < energy then some result else none, pecFails := 0, lastAnswer := s.now } }
  let s := if s.on F.GLY_BELLOWS_STALE then s else s.setEnergy (min result energy) false
  match s.anv.strike with
  | some k =>
    if k.waits.any fun w => w.1 == 6 then
      .next ((s.modStrike fun k => if s.eReq ≤ 96 * result then k.answered 6 else (k.answered 6).fail 6).strikeFinish)
    else .next s
  | none => .next s

end Sys2Proof.Machine
end

