-- ==== Sys2Proof/Machine/Takeover.lean ====
section
/-! DEFINITION. Losing the partner, Takeover, starting alone, the end of Joining, and Handback (R352 to R369, R119, R142, R201, R277). -/

namespace Sys2Proof.Machine

/-- The partner's half. [DEDUCED: notes/assumptions/97.md] -/
def State.peerHalf (s : State) : Bool := s.peer == 1

/-- Drops every pin of the lost head, and what it was to place (R190). -/
def State.dropPins (s : State) (hb : Bool) : State :=
  let h := s.half hb
  s.setHalf hb { h with grains := Tab.mapVals {} h.grains fun _ g => { g with pins := g.pins.filter fun p => p.1 != s.peer, placer := g.placer.filter (· != s.peer) } }

/-- A grain received as NEW from the lost head and not yet placed is placed Deferred, and added singly to the deferred list (R201). -/
def State.deferNew (s : State) (e : Nat × Piece) : State :=
  e.2.grains.foldl (fun s x =>
    let g := s.grainAt x.2
    if x.2 = 0 ∨ gidHalf x.2 ≠ s.peerHalf ∨ g.state ≠ .inFlight then s
    else
      let s := s.modGrain x.2 fun g => { g with state := .deferredPending, placer := some s.head }
      let s := s.pin x.2 s.head e.1
      s.deferGrain x.2) s

/-- Runs a query to the lost head again here (R201). [DEDUCED: notes/assumptions/80.md] -/
def State.rerun (s : State) (q : Query) : State :=
  match q.op with
  | 1 => (match s.queryPiece q with
    | some d => s.runLookup d q.index q.fp q.realm q.fpalg
    | none => s)
  | 2 =>
    if s.awaits q.gid s.head then s.placeGrain q.gid q.addr q.units [.placed q.gid]
    else { (s.listSort q.gid q.addr q.units false) with mtx := { (s.listSort q.gid q.addr q.units false).mtx with placing := s.mtx.placing.filter fun p => p.1 != q.gid } }
  | 3 =>
    let s := s.addRef q.gid q.old
    match s.queryPiece q with
    | some d => ((s.unpinPiece q.gid s.head d).refDone d).applyExtents d
    | none => s
  | 4 => (s.unpin q.gid s.head 1).freeIfDead q.gid
  | 5 => if s.holdsAddr q.gid q.old then s.mtxJournal [.move q.gid q.old q.addr q.units] else s.listSort q.gid q.addr q.units false
  | _ => s

/-- The journalled allocation mark of a half that the lost head held (R185): that of its mirrored control area, or the one that the mirrored ALLOC records imply. -/
def State.markOf (s : State) (hb : Bool) : Nat := max (if hb then s.anv.ctl.hwm1 else s.anv.ctl.hwm0) (allocMark (s.half hb).hwm)

/-- The partner's half is taken over (R201, R202): Loading, or Borrowed while this head's cache is smaller than the partner's filter. Marks and deferred ranges come from the mirrored control area, and a load, a catch-up or a return in progress goes on from its ranges. [DEDUCED: notes/assumptions/97.md] -/
def State.takePeerHalf (s : State) : State :=
  let pb := s.peerHalf
  let c := s.anv.ctl
  let s := (s.dropPins false).dropPins true
  let was := (s.half pb).state
  let h := s.half pb
  let s := if was = .partner then
      s.setHalf pb { h with hwm := s.markOf pb + 2 ^ 24, deferred := if pb then c.deferred1 else c.deferred0, peerHolds := false, deltas := false }
    else s.setHalf pb { h with peerHolds := false, deltas := false }
  let small := decide (s.filterSlots < s.mtx.partnerSlots)
  let s := if was = .returning then s.halfTo pb .loaded
    else if was = .loaded ∨ was = .loading then s
    else s.halfTo pb (if small then .borrowed else .loading)
  let own := s.half (!pb)
  let s := if own.peerHolds ∨ own.state = .partner then
      (s.setHalf (!pb) { own with peerHolds := false, deltas := false, hwm := s.markOf (!pb) + 2 ^ 24, deferred := own.deferred ++ (if pb then c.deferred0 else c.deferred1).filter fun r => !own.deferred.contains r }).halfTo (!pb) .loading
    else s
  let s := s.gly.own.foldl State.deferNew s
  let qs := s.mtx.outstanding
  qs.foldl State.rerun { s with mtx := { s.mtx with outstanding := [] } }

/-- What Table 16.8 does with each namespace at detection. -/
def State.holdNamespaces (s : State) : State :=
  let back := Tab.keysWhere s.chs.ns fun _ e => e.state == .releasing && !e.sent
  let held := Tab.keysWhere s.chs.ns fun _ e => e.state == .remote || e.state == .acquiring || (e.state == .releasing && e.sent)
  let s := back.foldl (fun s n => s.modNs n fun e => { e with state := .loc, begins := [] }) s
  (held.foldl (fun s n => s.modNs n fun e => { e with state := .heldNs, begins := [], sent := false }) s).wakeStamped

/-- Drains the inbound channels as cause 5 (R363); what they answer reaches nobody. -/
def State.drainInbound (s : State) : State :=
  (List.range 16).foldl (fun s k => s.drainCtx 5 .channel (65488 + k)) s

/-- Fences the partner and claims the seat (Table 16.7 steps 3 and 5). -/
def State.fenceAndClaim (s : State) : State :=
  (({ (s.driveFence true) with gmp := { (s.driveFence true).gmp with seatWon := false } } : State)).seatClaim none

/-- The partner is gone: what this head knew of it and had under way with it is dropped. -/
def State.mateGone (s : State) : State :=
  let s := ((s.raise F.ANV_INT_STATUS_LOSS).raise F.ANV_TONGS_CAP_ALIVE_GAP).wr F.ANV_TONGS_ALIVE_OK 0
  let s := { s with fm := { s.fm with pins := { s.fm.pins with partnerAlive := false } }, anv := { s.anv with edgeSeen := false, join := {}, inbox := [], bothDown := none, handback := none, mediaDue := false }, gly := { s.gly with mirroring := false, peer := {} } }
  s.modPairBind fun _ => {}

/-- Every namespace with a Live volume record takes the state that `f` gives its record. -/
def State.nsFromVolumes (s : State) (f : Volume → NsState) : State :=
  (s.vols.filter fun v => v.2.state == .live && v.2.nsid != 0).foldl (fun s v =>
    let st := f v.2
    s.modNs v.2.nsid fun e => { e with state := st, owner := if st = .loc then s.head else s.peer, volume := v.1, cls := v.2.cls, begins := [], sent := false }) s

/-- The partner of a head that was Deep-banked is lost (R397): there is no mirror to replay, and every namespace is held until the partner's galley log has been read. [DEDUCED: notes/assumptions/65.md] -/
def State.loseAwake (s : State) (cause t0 : Nat) : State :=
  let s := s.mateGone
  let s : State := { s with anv := { s.anv with lost := true, rejoinWait := false, takeover := some { t0 := t0, cause := cause, short := false, alone := false, deep := true } } }
  (((s.toMode .takeover).nsFromVolumes fun _ => .heldNs).takePeerHalf.galleyEval).fenceAndClaim

/-- The partner is lost (R357, R360): what this head does depends on its mode. In Joining it waits anew for a partner; in Solo, with a joiner or a parked partner, it only fences and claims; otherwise the partner's namespaces are held and its mirror is replayed. A re-form stops where it stands, and its draining group resumes at once (R54). [DEDUCED: notes/assumptions/65.md] -/
def State.loseMate (s : State) (cause t0 : Nat) : State :=
  let s := s.mateGone
  if s.fm.mode = .joining then { s with anv := { s.anv with joinedAt := s.now, rejoinWait := false } }
  else
    let parked := s.on F.ANV_PAIR_PARKED
    let short := parked || s.fm.mode == .solo
    let s := s.actStop parked
    let s : State := if s.pwr.entry = some .activation ∨ s.pwr.entry = some .thermal ∨ s.pwr.entry = some .halt then { s.portsUp with pwr := { s.portsUp.pwr with entry := none, anaAt := none } } else s
    let s : State := { s with anv := { s.anv with lost := true, takeover := some { t0 := t0, cause := cause, short := short, alone := false } } }
    let s := s.wr F.ANV_PAIR_STANDBY 0
    if s.fm.mode = .solo then s.fenceAndClaim
    else if short then (((s.holdNamespaces.toMode .solo).takePeerHalf).galleyEval).fenceAndClaim
    else
      let s := s.toMode .takeover
      let s := (s.holdNamespaces.drainInbound).takePeerHalf
      let s : State := { s with imp := { s.imp with reshape := s.imp.reshape.map fun (r : Reshape) => { r with held := true } }, fm := { s.fm with reform := s.fm.reform.map fun (r : ReForm) => { r with suspended := true } } }
      ((s.drainNext.kickAll [] []).galleyEval).fenceAndClaim

/-- ALIVE_STALE (R357): ALIVE_IN has shown no edge since `t0`, for 8 µs, or for 2 µs with both bundles down. A sleeping head wakes for it (Table 18.5). [DEDUCED: notes/assumptions/65.md] -/
def execAliveStale (t0 : Nat) (s : State) : Out1 :=
  let down := s.bundleState false != 2 && s.bundleState true != 2
  let late := decide (t0 + 8000 ≤ s.now) || (down && decide (t0 + 2000 ≤ s.now))
  if !late || !s.anv.edgeSeen || s.anv.lost || !s.serving && s.fm.mode != .deepBanked then .next s
  else
    let cause := if s.on F.ANV_PAIR_PARKED then 3 else if s.anv.yielded then 4 else if down then 2 else 1
    let deep := s.pwr.state == .deep
    let s := if s.pwr.state = .sleep ∨ deep then s.wakeSource 2 [] else s
    let s := { s with anv := { s.anv with yielded := false } }
    .next (if deep then s.loseAwake cause t0 else s.loseMate cause t0)

/-- A mirror copy that the replay adopts (R119): DATA_IN set and DIGEST right, for a namespace or for an internal channel of replication. Pieces of the strike volume are neither's. -/
def Piece.replays (p : Piece) : Bool := p.dataIn && (p.nsid != 0 || p.volume != 0 || p.repl.isSome) && crc64 p.data == p.digest

/-- Copies of the partner's pieces in the order of its stamps; those that it had itself adopted come first. -/
def replaySort (good : List (Nat × Piece)) : List (Nat × Piece) :=
  let byStamp (l : List (Nat × Piece)) : List (Nat × Piece) := l.foldl (fun a p => insertBy (fun x y => decide (y.2.stamp < x.2.stamp)) p a) []
  byStamp (good.filter fun e => e.2.isForeign || decide (movedDesc ≤ e.1)) ++ byStamp (good.filter fun e => !(e.2.isForeign || decide (movedDesc ≤ e.1)))

/-- The mirror copies that the replay adopts, in its order. -/
def State.replayOrder (s : State) : List (Nat × Piece) := replaySort (s.gly.mirror.filter fun e => e.2.replays)

/-- Adopts copies under fresh local stamps, in the given order. [DEDUCED: notes/assumptions/25.md] -/
def State.replayList (s : State) (l : List (Nat × Piece)) : State :=
  let st := s.rd F.CHS_LAST_STAMP_STAMP
  let s := (s.wr F.CHS_LAST_STAMP_STAMP (st + l.length)).stampMark
  s.adoptAll (l.zipIdx.map fun e => (e.1.1, e.1.2, st + 1 + e.2))

/-- Adopts the mirror under fresh local stamps (R119); what does not pass is discarded. [DEDUCED: notes/assumptions/25.md] -/
def State.replayMirror (s : State) : State :=
  let s := s.replayList s.replayOrder
  { s with gly := { s.gly with mirror := [], mirrorData := [] } }

/-- The pieces in a run of 64 KiB positions of a galley log (R129): a descriptor with its slots behind it. Positions of map-journal records are passed over. -/
def logPieces : List Bytes → List Piece
  | [] => []
  | c :: rest =>
    match Piece.ofDesc (c.take 64) with
    | none => logPieces rest
    | some p =>
      let data := slice ((c :: rest).take ((64 + p.slotCnt * 4224 + 65535) / 65536)).flatten 64 (p.slotCnt * 4224)
      { p with data := data, dataIn := true } :: logPieces rest

/-- The galley-log plates that are not this head's. -/
def State.peerLogs (s : State) : List (Nat × Nat) :=
  ((Tab.keysWhere s.hth.plates fun _ p => p.state == .galleyLog).map fun k => (k / 2 ^ 25, k % 2 ^ 25)).filter fun w => !(s.gly.logPlates ++ s.gly.logOld).contains w

/-- The pieces of the lost head's galley log (R397), each once, although two modules hold it. -/
def State.peerLogged (s : State) : List Piece :=
  let all := s.peerLogs.flatMap fun w => logPieces (((s.dev w.1).plate w.2).chunks.map fun c => c.2.getD [])
  (all.filter fun p => crc64 p.data == p.digest).foldl (fun l p => if l.any fun q => q.stamp == p.stamp && q.slba == p.slba && q.nsid == p.nsid then l else l ++ [p]) []

/-- Gives each piece read from the galley log a descriptor and slots of this head's galley. -/
def State.seatLogged (s : State) (l : List Piece) : List (Nat × Piece) × State :=
  l.foldl (fun (a : List (Nat × Piece) × State) p =>
    let s := a.2
    match s.freeDesc, firstFit s.slotCap p.slotCnt 0 s.runs with
    | some d, some slot => (a.1 ++ [(flipDesc d, { p with slot := slot, isForeign := true })], s.setPiece d { p with slot := slot })
    | _, _ => a) ([], s)

/-- Adopts the pieces of the lost head's galley log under fresh local stamps (R397). [DEDUCED: notes/assumptions/65.md] -/
def State.replayLog (s : State) : State × Nat :=
  let (l, s) := s.seatLogged s.peerLogged
  (s.replayList (replaySort l), l.length)

/-- The namespaces become Local and their volumes name this head as HOLDER (Table 16.7 step 9); they go on the takeover list. -/
def State.serveTaken (s : State) (nss : List Nat) : State :=
  let s := nss.foldl (fun (s : State) n => (s.modNs n fun e => { e with state := .loc, owner := s.head }).holdVolumes n) s
  { s with anv := { s.anv with taken := s.anv.taken ++ nss.filter fun n => !s.anv.taken.contains n } }

/-- The slots of a namespace in order of their stamps. -/
def State.stampedSlots (s : State) (nss : List Nat) : List Nat :=
  let l := s.stk.slots.filter fun t => nss.contains t.2.cmd.nsid && t.2.state == .stamped && !isInbound t.2.ctx && t.2.cmd.op != .fusedWrite
  (l.foldl (fun a p => insertBy (fun (x y : Nat × Task) => decide (y.2.stamp < x.2.stamp)) p a) []).map Prod.fst

/-- Commands stamped while Acquiring are stamped again, in their original order (Table 16.8). -/
def State.restamp (s : State) (nss : List Nat) : State :=
  (s.stampedSlots nss).foldl (fun s n =>
    let s := (s.release n).modTask n fun t => { t with state := .fetched }
    let s := match (s.task? n).bind (·.fusedWith) with
      | some w => s.modTask w fun t => { t with state := .fetched }
      | none => s
    s.handOver n) s

/-- The pieces that a write-mode command is split into (R110). -/
def State.pieceRanges (s : State) (t : Task) : List (Nat × Nat) :=
  t.cmd.ranges.flatMap fun r => splitRange (s.unitBlocks t.cmd.nsid) (r.2 + 1) r.1 r.2

/-- The pieces of a forward that the replay did not adopt (Table 16.9). -/
def State.notAdopted (s : State) (t : Task) : List (Nat × Nat) :=
  (s.pieceRanges t).filter fun r => !(s.gly.own.any fun p => p.2.isForeign && p.2.fwd == t.fwdId && p.2.nsid == t.cmd.nsid && p.2.slba == r.1 && p.2.nlb == r.2)

/-- Stamps one piece of a forward anew, as a command of its own with its own stamp and range lock (Table 16.9). -/
def State.restampPiece (s : State) (n : Nat) (r : Nat × Nat) : State :=
  match s.task? n with
  | none => s
  | some t =>
    let st := s.rd F.CHS_LAST_STAMP_STAMP + 1
    let s := (s.wr F.CHS_LAST_STAMP_STAMP st).stampMark
    let s := if t.counted then s else s.modNs t.cmd.nsid fun e => { e with pending := e.pending + 1 }
    let s := s.modNs t.cmd.nsid fun e => { e with last := st }
    let s := s.setTask n { t with stamp := st, counted := true, state := .dispatched, fwdId := 0, asked := none }
    let s := s.takeLock n st t.cmd.nsid .wr false r
    let kind := if t.cmd.op = .writeZeroes then PieceKind.zeroes else if t.cmd.op = .deallocate then .deallocate else .write
    s.makePieces n { t with stamp := st, cmd := { t.cmd with ranges := [r] } } kind true

/-- Gives a forward to this head's Chase anew. -/
def State.again (s : State) (n : Nat) : State :=
  let s := s.modTask n fun t => { t with state := .fetched, fwdId := 0, asked := none, postAs := none }
  let s := match (s.task? n).bind (·.fusedWith) with
    | some w => s.modTask w fun t => { t with state := .fetched, fwdId := 0, asked := none, postAs := none }
    | none => s
  s.handOver n

/-- A forwarded create meets the loss of its owner (R68): a replayed VOLUME record with its FWD_ID completes it, and otherwise it runs here. -/
def State.resolveCreate (s : State) (n : Nat) (t : Task) : State :=
  match Tab.first s.vols fun _ v => v.fwdId == t.fwdId && v.fwdHead == s.head && v.state == .live with
  | some (_, v) => (s.modTask n fun t => { t with dword0 := v.nsid }).finish n .success
  | none => s.again n

/-- Resolves one outstanding forward to the lost head (Table 16.9). -/
def State.resolveForward (s : State) (n : Nat) : State :=
  match s.task? n with
  | none => s
  | some t =>
    match t.state with
    | .cancelling _ =>
      let took := s.gly.own.any fun p => p.2.isForeign && p.2.fwd == t.fwdId
      s.endCancelled n (if took then 0x0203 else 0x0202)
    | .forwarded _ =>
      if t.cmd.op = .nsCreate then s.resolveCreate n t
      else if t.cmd.op = .fusedCompare then
        (match (t.fusedWith.bind s.task?).map s.notAdopted with
        | some [] => s.endHalves n .success 0
        | _ => s.again n)
      else if t.cmd.op = .fusedWrite then s
      else if t.cmd.op.isWriteMode then
        (match s.notAdopted t with
        | [] => s.endHalves n .success 0
        | rs => rs.foldl (fun s r => s.restampPiece n r) s)
      else s.again n
    | _ => if t.waitParts ≠ 0 then s.modTask n fun t => { t with waitParts := 0 } else s

/-- The outstanding forwards in forwarding order. -/
def State.forwardOrder (s : State) : List Nat :=
  let l := s.stk.slots.filter fun t => t.2.fwdId != 0 && !isInbound t.2.ctx && !t.2.state.isDone
  (l.foldl (fun a p => insertBy (fun (x y : Nat × Task) => decide (y.2.fwdId < x.2.fwdId)) p a) []).map Prod.fst

/-- Commands that waited for their namespace, in the order of their arrival. -/
def State.heldSlots (s : State) : List Nat :=
  let l := s.stk.slots.filter fun t => t.2.state == .held && !isInbound t.2.ctx
  (l.foldl (fun a p => insertBy (fun (x y : Nat × Task) => decide (y.2.arrival < x.2.arrival)) p a) []).map Prod.fst

/-- Every In flight entry with no pin is freed (R201). [DEDUCED: notes/assumptions/90.md] -/
def State.freeInflight (s : State) (hb : Bool) : State :=
  (((s.half hb).grains.filter fun g => g.2.state == .inFlight && g.2.pins.isEmpty && g.2.placer.isNone).map fun g => mkGid hb g.2.gen g.1).foldl
    (fun s g => s.mtxJournal [.free g] [.freed g]) s

/-- Steps 3 to 6 of Table 12.10: the partner's open stripes are settled and its sheets closed, and its rebuild, its reshape, its deletion walks and its sessions are adopted. This head is HEAD of those sheets until a Handback returns them. The records of the partner's map journal stay in the mirror control area until a checkpoint of this head covers them. [DEDUCED: notes/assumptions/80.md] -/
def State.settlePeer (s : State) : State :=
  let c := s.anv.ctl
  let s := c.opens.foldl State.settleStripe s
  let ids := Tab.keysWhere s.hth.sheets fun _ e => e.head == s.peer && e.state != .free
  let s := s.journal (ids.map fun id => .sheet id (if (s.sheet id).state = .opened then .closed else (s.sheet id).state) none s.head)
  let s := ids.foldl (fun s id => s.abandonSpares id fun _ => true) s
  let own := s.imp.reshape.map fun (r : Reshape) => { r with held := false }
  let theirs := c.reshape.map fun (r : Reshape) => { r.restart with peers := true }
  let walks := (c.walks.map Prod.fst).filter fun n => !s.ste.walks.contains n
  let s := { s with imp := { s.imp with reshape := (reshapeTurn own theirs).1, peerReshape := (reshapeTurn own theirs).2, rebuild := s.imp.rebuild.orElse fun _ => c.rebuild.map fun (r : Rebuild) => { r with stripe := 0 } }, ste := { s.ste with walks := s.ste.walks ++ walks }, fm := { s.fm with reform := s.fm.reform.map fun (r : ReForm) => { r with suspended := false } } }
  let s := { s with anv := { s.anv with ctl := { ring := c.ring, scrap := c.scrap } } }
  s.drainNext.resumeSessions (Tab.keysWhere s.vols fun _ v => v.state != .free)

/-- Steps 9 to 11 of Table 16.7 after the replay: forwards and held commands, the mode, and what the registers show. [DEDUCED: notes/assumptions/80.md] -/
def State.takeoverEnd (s : State) (k : Takeover) (nss : List Nat) (pieces : Nat) : State :=
  let s := s.restamp nss
  let s := s.forwardOrder.foldl State.resolveForward s
  let s := s.toMode .solo
  let s := s.heldSlots.foldl State.handOver s
  let s := (s.freeInflight false).freeInflight true
  let s := ((((s.raise F.ANV_INT_STATUS_TAKEOVER_DONE).inc F.ANV_TAKEOVER_LAST_COUNT).wr F.ANV_TAKEOVER_LAST_CAUSE k.cause).wr F.ANV_TAKEOVER_LAST_GAP ((s.now - k.t0) / 1000)).wr F.ANV_TAKEOVER_LAST_PIECES (min 0xFFFFF (pieces / 64))
  let s := (nss.foldl (fun (s : State) n => s.send (.anaChange n)) s).galleyEval
  (s.logRec .anv 2 .takeoverDone).settlePeer

/-- Settles this head's restored pieces by Table 6.8 with the partner copies given: a piece that is missing everywhere is lost, its LBAs are listed with cause 2, and the journal tail is rebuilt by the tag scan (R142, R143). So it is when no descriptor came back from the vault and the partner has no copy either. [DEDUCED: notes/assumptions/80.md] -/
def State.settlePieces (s : State) (copies : Tab Piece) : State :=
  let kept := s.gly.own.filter fun p => p.2.commit
  let gone := s.gly.missing
  let back := copies.filter fun c => c.2.dataIn && (Tab.find kept c.1).isNone && (Tab.find s.gly.own c.1).isNone
  let lost := gone.filter fun m => (Tab.find back m.1).isNone
  let own := back.foldl (fun (t : Tab Piece) c => Tab.put t c.1 { c.2 with commit := true, dataIn := true, localDone := true, owner := s.head }) kept
  let own := own.map fun (p : Nat × Piece) => (p.1, { p.2 with mirrorAck := p.2.mirrorAck || (Tab.find copies p.1).any fun c => c.gen == p.2.gen && c.dataIn, localDone := true, applied := false })
  let s := (s.gly.own.filter fun p => !p.2.commit).foldl (fun s p => s.anvil .release pairChan [p.1, p.2.gen]) s
  let s := { s with gly := { s.gly with own := own, missing := [], waiting := [] } }
  let s := if back.isEmpty then s else s.alarm .gly .galleyLost 0 [back.length]
  let blind := s.gly.galleyLost && s.hth.audit.isNone && copies.isEmpty
  let s := { s with gly := { s.gly with galleyLost := false } }
  if blind then ((s.raise F.GLY_INT_STATUS_PIECE_LOST).alarm .gly .galleyLost 0x0409).tagScan true
  else if lost.isEmpty then s
  else
    let s := lost.foldl (fun (s : State) m => s.listLost m.2.nsid m.2.slba m.2.nlb 2) s
    ((s.raise F.GLY_INT_STATUS_PIECE_LOST).alarm .gly .galleyLost 0x0409 (lost.map Prod.fst)).tagScan false

/-- Steps 8 to 11 of Table 16.7 after a Deep-banked state (R397): the metadata that the lost head left on flash and in its galley log is read, and the log's pieces are adopted. [DEDUCED: notes/assumptions/65.md] -/
def State.deepEnd (s : State) (k : Takeover) (flash : Option Image) : State :=
  let s := match flash with
    | some i => (s.loadImage i).nsFromVolumes fun _ => .heldNs
    | none => s
  let nss := Tab.keysWhere s.chs.ns fun _ e => e.state == .heldNs
  let (s, n) := s.replayLog
  (s.serveTaken nss).takeoverEnd k nss n

/-- Steps 4 to 6 of Table 16.13. [DEDUCED: notes/assumptions/80.md] -/
def State.aloneEnd (s : State) (k : Takeover) : State :=
  let s := s.settlePieces []
  let n := s.replayOrder.length
  let s := s.replayMirror
  let theirs := (s.vols.filter fun v => v.2.state == .live && v.2.nsid != 0 && v.2.holder == s.peer).map fun v => v.2.nsid
  let s := s.nsFromVolumes fun _ => .loc
  let s := (s.serveTaken theirs).takePeerHalf
  s.takeoverEnd k theirs n

/-- TAKEOVER_REPLAY_DONE (R119, R360, R367, R397): once the seat is won and the mirror replayed, the taken-over namespaces become Local. After a parked partner, or in Solo with a joiner, only the partner's media is settled. `flash` is the metadata that flash gives a head that was Deep-banked, where the partner has written it since. [DEDUCED: notes/assumptions/80.md] -/
def execTakeoverReplayDone (flash : Option Image) (s : State) : Out1 :=
  match s.anv.takeover with
  | none => .next s
  | some k =>
    if !s.gmp.seatWon then .next s
    else
      let s := { s with anv := { s.anv with takeover := none } }
      if k.deep then .next (s.deepEnd k flash)
      else if k.alone then .next (s.aloneEnd k)
      else if k.short then
        let nss := Tab.keysWhere s.chs.ns fun _ e => e.state == .heldNs
        .next ((s.serveTaken nss).takeoverEnd k nss 0)
      else
        let nss := Tab.keysWhere s.chs.ns fun _ e => e.state == .heldNs
        let n := s.replayOrder.length
        .next ((s.replayMirror.serveTaken nss).takeoverEnd k nss n)

/-- FENCE_IN_ASSERT (R355, R366): the back-end transmitters are held idle. A head that serves enters Halted-safe, and one in Joining sends REJOIN. [DEDUCED: notes/assumptions/82.md] -/
def execFenceInAssert (s : State) : Out1 :=
  let s := { s with fm := { s.fm with pins := { s.fm.pins with fenceIn := true, backTxGated := true } } }
  let s := ((s.wr F.ANV_TONGS_FENCE_IN 1).raise F.ANV_TONGS_CAP_FENCE).raise F.ANV_INT_STATUS_FENCED
  if s.fm.mode = .joining then .next s.joinHello
  else if s.serving then .next s.haltSafe
  else .next s

/-- CLAIM_ACK_IN_ASSERT (R356): a head in Takeover whose own claim has not succeeded stops. [DEDUCED: notes/assumptions/82.md] -/
def execClaimAckInAssert (s : State) : Out1 :=
  let s := { s with fm := { s.fm with pins := { s.fm.pins with claimAckIn := true } } }
  let s := (s.wr F.ANV_TONGS_CLAIM_IN 1).raise F.ANV_TONGS_CAP_CLAIM
  if s.anv.takeover.isSome ∧ !s.gmp.seatWon then .next { s.haltSafe with anv := { s.haltSafe.anv with takeover := none } } else .next s

/-- WATCHDOG_EXPIRY of a smith pair (R354): ALIVE stops and the transmitters go idle. Pair 5 alone keeps running in Banked (R420). The watchdog of a pair that is stopped there, of one whose two cores are clock-gated, and any in lab mode (R432), is suspended. -/
def execWatchdogExpiry (pair : Nat) (s : State) : Out1 :=
  let gated := s.fm.smith.gated.contains (2 * pair) && s.fm.smith.gated.contains (2 * pair + 1)
  let banked := s.fm.mode == .banked && pair != 5
  if gated || banked || s.labMode then .next s
  else .next { s with fm := { s.fm with pins := { s.fm.pins with alive := false, frontTx := false } } }

/-- BUNDLES_DOWN_TIMEOUT (R359): no bundle has come back 50 ms later. Head 1 stops ALIVE and its transmitters; head 0 takes over once it sees that. -/
def execBundlesDownTimeout (s : State) : Out1 :=
  match s.anv.bothDown with
  | none => .next s
  | some t =>
    if s.now < t + 50000000 ∨ s.bundleState false = 2 ∨ s.bundleState true = 2 then .next s
    else
      let s := { s with anv := { s.anv with yielded := true } }
      if s.head = 1 then .next { s with fm := { s.fm with pins := { s.fm.pins with alive := false, frontTx := false } } } else .next s

/-- Opens the packet channels of an Anvil pair (Table 4.9, R347): each starts with 4,096 credits. [DEDUCED: notes/assumptions/95.md] -/
def State.openChannels (s : State) : State :=
  (List.range 64).foldl (fun s k =>
    let c := 65472 + k
    if channelRole c = 0 ∨ channelRole c = 1 ∨ channelRole c = 4 then (s.openChannel c).modCtx c fun x => { x with credits := 4096 }
    else s) s

/-- Brings every admitted module's seat to the pair epoch with seat CLAIMs (R315). -/
def State.raiseSeats (s : State) : State :=
  s.admitted.foldl (fun s m =>
    let at_ := (s.dev m).seatEpoch
    (List.range (s.rd F.GMP_PAIR_EPOCH_EPOCH - at_)).foldl (fun s i => s.gmpSend m { op := Gmp.claim, flags := 1, expect := at_ + i } [] .plain) s) s

/-- Joining ends (Table 16.5 step 6): both heads report Paired at the pair epoch of the one in service, and strikes are due half an interval apart. Commands that waited for their namespace go on (R19). A head whose bundle mask is not 0x3 never enters Paired (R41). -/
def State.pairUp (s : State) : State :=
  if s.bundleMask ≠ 3 then s else
  let h := (s.fm.forme.map (·.strikeHours)).getD 24 * 3600000000000
  let s := s.wr F.GMP_PAIR_EPOCH_EPOCH (max (s.rd F.GMP_PAIR_EPOCH_EPOCH) ((s.anv.join.peer.map (·.epoch)).getD 0))
  let s := { s with gly := { s.gly with mirroring := false }, anv := { s.anv with strikeAt := some (s.now + h + s.head * (h / 2)), handback := none } }
  let s := (s.openChannels.toMode .paired).galleyEval
  s.heldSlots.foldl State.handOver s

/-- START_ALONE (R367, Table 16.13 steps 1 to 3): the head fences its partner and claims the seat from the pair epoch, the highest seat epoch of the admitted modules. [DEDUCED: notes/assumptions/80.md] -/
def State.startAlone (s : State) : State :=
  ({ s with anv := { s.anv with lost := true, join := {}, takeover := some { t0 := s.now, cause := 0, short := false, alone := true } } } : State).fenceAndClaim

/-- START_ALONE_TIMER (R367): for 30 s no bundle has trained and ALIVE_IN has shown no edge, or R351 has stopped the pair while neither head serves, and this is head 0. A PAIR bundle mask other than 3 starts alone at once. [DEDUCED: notes/assumptions/80.md] -/
def execStartAloneTimer (s : State) : Out1 :=
  let mask := s.bundleMask
  let up := s.bundleState false == 2 || s.bundleState true == 2
  let silent : Bool := !up && !s.anv.edgeSeen && decide (s.anv.joinedAt + 30000000000 ≤ s.now)
  let serves : Bool := ([4, 5, 6, 7, 9, 10] : List Nat).contains (s.rd F.ANV_PAIR_PEER_MODE)
  let stopped : Bool := (s.anv.join.stalled.any fun t => decide (t + 30000000000 ≤ s.now)) && s.head == 0 && !(s.anv.join.peer.any fun h => h.mode != 3) && !serves
  if s.fm.mode ≠ .joining ∨ s.anv.takeover.isSome ∨ s.anv.rejoinWait then .next s
  else if mask != 3 || silent || stopped then .next s.startAlone
  else .next s

/-- Why a Handback is refused (R369): 1 a head is Joining, 2 one runs, 4 the other head is not standing by. -/
def State.handbackRefusal (s : State) : Option Nat :=
  let p := s.rd F.ANV_PAIR_PEER_MODE
  if s.fm.mode = .joining ∨ p = 3 then some 1
  else if s.on F.ANV_HANDBACK_BUSY then some 2
  else if s.fm.mode ≠ .paired ∨ p ≠ 4 ∨ s.anv.lost then some 4
  else none

/-- Starts a Handback of the given namespaces; both heads report Handback until the last has moved. -/
def State.handbackStart (s : State) (l : List Nat) (all : Bool) : State :=
  let s := ({ s with anv := { s.anv with handback := some ⟨l, all⟩ } } : State).wr F.ANV_HANDBACK_BUSY 1
  let s := s.toMode .handback
  if l.isEmpty then ({ s with anv := { s.anv with mediaDue := true } } : State).mediaReturn else s

/-- HANDBACK_NS (R369): ANV_HANDBACK CMD 1 moves one namespace back; RESULT 3 when it is not on the takeover list. -/
def execHandbackNs (nsid : Nat) (s : State) : Out1 :=
  match s.handbackRefusal with
  | some r => .next (s.wr F.ANV_HANDBACK_RESULT r)
  | none => if s.anv.taken.contains nsid then .next (s.handbackStart [nsid] false) else .next (s.wr F.ANV_HANDBACK_RESULT 3)

/-- HANDBACK_LIST (R369): ANV_HANDBACK CMD 2 moves the whole takeover list back, in ascending NSID. -/
def execHandbackList (s : State) : Out1 :=
  match s.handbackRefusal with
  | some r => .next (s.wr F.ANV_HANDBACK_RESULT r)
  | none => .next (s.handbackStart (s.anv.taken.foldl (fun l n => insertBy (fun a b => decide (b < a)) n l) []) true)

end Sys2Proof.Machine
end

