-- ==== Sys2Proof/Machine/Faults.lean ====
section
/-! DEFINITION. Classifying channel errors, retirement and the scrap list (R59, R375 to R387). -/

namespace Sys2Proof.Machine


/-- The station type of a lane by its channel kind and number. -/
def stationOf (kind lane : Nat) : Option Station :=
  if kind = 7 then some .punch
  else if kind = 8 then some (if lane < 40 then .swageC else .swageE)
  else if kind = 9 then some .temper
  else if kind = 10 then some .imposition
  else if kind = 11 ∧ lane < 224 then some .proof
  else none

/-- The first unbound lane of a station type in service, its own cluster first and then upwards from cluster 0 (R378). -/
def State.spareLane (s : State) (t : Station) (lane : Nat) : Option Nat :=
  let free := t.lanes.filter fun n => !s.isOut t.kind n && !(s.fm.lines.any fun l => l.2.lanes.any fun b => b.typ == t && b.lane == n)
  (free.find? fun n => t.cluster n == t.cluster lane).orElse fun _ => free.head?

/-- MB/s that a line can carry: its narrowest stage. [DEDUCED: notes/assumptions/84.md] -/
def lineRate (lanes : List BoundLane) : Nat :=
  let stages := (lanes.map (·.stage)).eraseDups
  (stages.map fun g => ((lanes.filter fun b => b.stage == g).map fun b => b.typ.rate).sum).foldl (fun a r => if a = 0 then r else min a r) 0

/-- How many lanes a binding mask names. [DEDUCED: notes/assumptions/84.md] -/
def maskLanes (b : Bind) : Nat := ((List.range 64).filter fun i => bitOf b.mask i).length

/-- MB/s that a line of the forme carries with every bound lane in service. [DEDUCED: notes/assumptions/84.md] -/
def FormeLine.fullRate (l : FormeLine) : Nat :=
  let stages := (l.binds.map (·.stage)).eraseDups
  (stages.map fun g => ((l.binds.filter fun b => b.stage == g).map fun b => b.typ.rate * maskLanes b).sum).foldl (fun a r => if a = 0 then r else min a r) 0

/-- A line's share of Table 1.10 in MB/s (R387): 160 GB/s for kinds 0 and 1, 380 GB/s for kind 2, divided among lines of one kind by their full rates; 0 for other kinds. [DEDUCED: notes/assumptions/84.md] -/
def State.lineShare (s : State) (id kind : Nat) : Nat :=
  let total := if kind ≤ 1 then 160000 else if kind = 2 then 380000 else 0
  let same := ((s.fm.forme.map (·.lines)).getD []).filter fun l => l.kind == kind
  let sum := (same.map FormeLine.fullRate).sum
  let own := ((same.find? fun l => l.id == id).map FormeLine.fullRate).getD 0
  if sum = 0 then total else total * own / sum

/-- A lane leaves its line (R378): another one of its type takes its place, or the line runs with one fewer. A stage left with no lane holds the line's work, and a lower rate is an alarm of the severity that R387 gives. -/
def State.unbindLane (s : State) (kind lane : Nat) : State :=
  match stationOf kind lane with
  | none => s
  | some t =>
    match s.fm.lines.find? fun l => l.2.lanes.any fun b => b.typ == t && b.lane == lane with
    | none => s
    | some (id, l) =>
      let old := lineRate l.lanes
      let put (s : State) (lanes : List BoundLane) : State := { s with fm := { s.fm with lines := Tab.put s.fm.lines id { l with lanes := lanes } } }
      match s.spareLane t lane with
      | some n => (put s (l.lanes.map fun b => if b.typ == t && b.lane == lane then { b with lane := n } else b)).logRec (Kind.source kind) 0 .laneReplaced 0 ⟨kind, lane⟩ [n]
      | none =>
        let left := l.lanes.filter fun b => !(b.typ == t && b.lane == lane)
        let s := put s left
        let gone := l.lanes.any fun b => b.typ == t && b.lane == lane && !(left.any fun c => c.stage == b.stage)
        let new := if gone then 0 else lineRate left
        let share := s.lineShare id l.kind
        if gone then s.logRec (Kind.source kind) 3 .noSibling 0x0A02 ⟨kind, lane⟩ [0, share]
        else if new < old then
          s.logRec (Kind.source kind) (if l.kind ≤ 2 ∧ new < share then 3 else 2) .lineRate 0 ⟨kind, lane⟩ [new, share]
        else s

/-- An Ethernet lane is retired (R59): the logical port that uses it goes down and stays down until the next Forming. -/
def State.ethRetire (s : State) (index : Nat) : State :=
  let p := index / 8
  let k := index % 8 / splitLanes (s.rd (F.PRT_ETH_LINK_SPLIT p))
  let up := bitOf (s.rd (F.PRT_ETH_LINK_UP p)) k
  let s := s.raise (F.PRT_ETH_LINK_RETIRED p) (2 ^ k)
  if up then s.lportDown p k else s

/-- The widest width of a front port whose lanes 0 to w − 1 are all in service (Table 17.1). -/
def State.frontWidth (s : State) (port : Nat) : Nat :=
  (([16, 8, 4, 2, 1] : List Nat).find? fun w => (List.range w).all fun l => !s.isOut Kind.frontLane (16 * port + l)).getD 0

/-- A front PCIe lane is retired: the port retrains narrower, or stays down without lane 0. -/
def State.frontRetire (s : State) (index : Nat) : State :=
  let p := index / 16
  let w := s.frontWidth p
  let now := s.rd (F.PRT_FRONT_LINK_WIDTH p)
  if now = 0 then s
  else
    let s := (s.wr (F.PRT_FRONT_LINK_WIDTH p) (min now w)).raise (F.PRT_FRONT_LINK_CHG p)
    if w ≠ 0 then s
    else
      let s := (s.wr (F.PRT_FRONT_LINK_SPEED p) 0).wr (F.PRT_FRONT_LINK_FLIT p) 0
      (s.ctrlsOfPort p).foldl (fun s c => s.resetCtrl 2 .reset c) s

/-- A module link is retired: the module is missing (R264). -/
def State.moduleRetire (s : State) (m : Nat) : State :=
  ((((s.modModule m fun e => { e with state := .missing, speed := 0 }).alarm .gmp .memberMissing 0 [m]).dropSpares m).moduleGone m).ladderEval

/-- Vault channels that are retired. -/
def State.vaultOut (s : State) : Nat := (s.flt.out.filter fun c => c.kind == Kind.vault).length

/-- What the retirement of a vault channel makes of the registers at once (R133, R134): the 6+1 figures with the first one, an unusable vault with the second. -/
def State.vaultFigures (s : State) : State :=
  let s := (s.wr F.GLY_VAULT_STRIPE_6 1).raise F.GLY_INT_STATUS_VAULT
  if 2 ≤ s.vaultOut then s.wr F.GLY_VAULT_UNUSABLE 1 else s

/-- A vault channel is retired (R133, R134): the first one changes the striping to 6+1 and starts the rewrite of the reserved area; with a second one the vault is unusable. -/
def State.vaultRetire (s : State) : State :=
  let s := s.vaultFigures
  let s := { s with gly := { s.gly with restripe := true } }
  (if 2 ≤ s.vaultOut then s.alarm .gly .vaultUnusable else s).galleyEval

/-- The smith pairs of each domain, in the order of Table 1.3. -/
def domainPairs : List (List Nat) := [[0, 1], [2, 3, 4], [5, 6, 7], [8, 9], [10, 11, 12], [13], [14, 15]]

/-- A smith pair is retired (R380): with the last pair of a domain its watchdog is no longer kicked, and ALIVE stops. [DEDUCED: notes/assumptions/103.md] -/
def State.smithRetire (s : State) (p : Nat) : State :=
  let last := domainPairs.any fun d => d.contains p && d.all fun q => s.isOut Kind.smith q
  if last then { s with fm := { s.fm with pins := { s.fm.pins with alive := false, frontTx := false } } } else s

/-- Bytes of the MEMORY regions but the map cache, with twice the galley and the queue context table (R35, R36). -/
def Forme.regionBytes (f : Forme) : Nat :=
  (f.filterGib + f.fwGib + f.spillGib + 2 * f.galleyGib) * 2 ^ 30 + f.repeatMib * 2 ^ 20 + (f.tasks + 64) * 128

/-- The map and grain-table cache in GiB: the size that MEMORY gives, or all remaining DRAM (Table 2.4). -/
def State.cacheGib (s : State) : Nat :=
  match s.fm.forme with
  | none => 0
  | some f => if f.cacheGib ≠ 0 then f.cacheGib else (s.fm.dramBytes - f.regionBytes) / 2 ^ 30

/-- A DRAM rank is retired (R379): the cache gives up its size, unless that and 1 GiB are not left, when the head hands over and parks. Own pieces listed in `bad` had slots that could not be read: the partner's copy, when given, is taken, and otherwise their LBAs are lost. -/
def State.rankRetire (s : State) (gib : Nat) (bad : List (Nat × Bytes)) : State :=
  let s := bad.foldl (fun s b =>
    match Tab.find s.gly.own b.1 with
    | none => s
    | some p => if s.paired && crc64 b.2 == p.digest then s.setPiece b.1 { p with data := b.2 }
      else (s.listLost p.nsid p.slba p.nlb 4).discardPiece b.1) s
  if s.cacheGib < s.fm.cacheLost + gib + 1 then (s.alarm .for_ .channelRetired 0x0A01).leave .thermal false
  else { s with fm := { s.fm with cacheLost := s.fm.cacheLost + gib } }

/-- What retirement does to a channel (Table 17.1). A context has been re-homed already. -/
def State.retireEffect (s : State) (c : Chan) (gib : Nat) (bad : List (Nat × Bytes)) : State :=
  match c.kind with
  | 1 => s.ethRetire c.index
  | 2 => s.frontRetire c.index
  | 3 => s.moduleRetire c.index
  | 4 =>
    let b := c.index == 1
    let s := s.bundleDown b
    s.wr (bundleField b) 3
  | 6 => s.rankRetire gib bad
  | 7 | 8 | 9 | 10 | 11 => s.unbindLane c.kind c.index
  | 12 => s.vaultRetire
  | 14 => s.smithRetire c.index
  | _ => s

/-- Retires a channel (R376, R378 to R384). [DEDUCED: notes/assumptions/83.md] -/
def State.retire (s : State) (c : Chan) (cause errors : Nat) (st : Status) (gib : Nat) (bad : List (Nat × Bytes)) : State :=
  if c.kind = 5 then s.rehome c.index cause errors st
  else if s.isOut c.kind c.index then s
  else (s.putOut c cause errors st).retireEffect c gib bad

/-- The error is counted in the channel's window, which opens anew 3,600 s after it opened (R376). [DEDUCED: notes/assumptions/83.md] -/
def State.countChannel (s : State) (c : Chan) : State :=
  let w := Tab.get {} s.flt.windows c.key
  let w : Window := if !w.opened || decide (w.start + 3600000000000 ≤ s.now) then { opened := true, start := s.now, count := 0 } else w
  { s with flt := { s.flt with windows := Tab.put s.flt.windows c.key { w with count := w.count + 1 } } }

/-- A retry of a channel has passed: the channel returns to service. A context's entry is read again and rebuilt from its shadow (R81). [DEDUCED: notes/assumptions/83.md] -/
def State.channelBack (s : State) (c : Chan) : State :=
  let s := s.logRec (Kind.source c.kind) 0 .transientCleared 0x0A03 c
  if c.kind = 5 ∧ (s.ctx c.index).state = .faulted then s.modCtx c.index fun q => { q with state := q.former } else s

/-- CHANNEL_ERROR (R376, R377): an error of a channel with internal status `st` is counted, logged and classified; a context with one is Faulted meanwhile (R81). `kat` says that it is a known-answer test of a proof strike; `tries` are the outcomes of the retries, `gib` and `bad` the size of a DRAM rank and the pieces whose slots it lost. From the commitment of a dump nothing is classified, and a vault channel that fails is retired at once and entered at the next Forming. [DEDUCED: notes/assumptions/83.md] -/
def execChannelError (kind index st : Nat) (kat : Bool) (tries : List Bool) (gib : Nat) (bad : List (Nat × Bytes)) (s : State) : Out1 :=
  let c : Chan := ⟨kind, index⟩
  let s := { s with flt := { s.flt with reported := s.flt.reported.filter fun (r : FaultReport) => r.chan != c } }
  if Kind.count kind ≤ index ∨ s.isOut kind index then .next s
  else if s.gly.dump.isSome then
    (if kind = Kind.vault then .next ({ s with flt := { s.flt with out := s.flt.out ++ [c], atSeal := s.flt.atSeal ++ [(c, st)] } } : State).vaultFigures else .next s)
  else
    let s := if kind = Kind.context then s.faultCtx index else s
    let s := (s.countChannel c).logRec (Kind.source kind) 1 .channelError st c
    let n := (Tab.get ({} : Window) s.flt.windows c.key).count
    if kat then .next (s.retire c 2 (min n 255) st gib bad)
    else if s.perHour < n then .next (s.retire c 0 (min n 255) st gib bad)
    else
      let used := tries.take s.retryLimit
      let runs := (used.takeWhile fun b => !b).length + bit (used.contains true)
      let s := (List.range runs).foldl (fun (s : State) _ => s.logRec (Kind.source kind) 0 .retry st c) s
      if used.contains true then .next (s.channelBack c) else .next (s.retire c 1 (min n 255) st gib bad)

/-- SCRAP_ENTRY_DURABLE (R383): both vault copies hold the entry of a slot, and the partner gets it with the persistent state (R382). The vault is powered down after the last write. -/
def execScrapEntryDurable (slot : Nat) (s : State) : Out1 :=
  match Tab.find s.flt.scrap slot with
  | none => .next s
  | some e =>
    if !s.flt.writing.contains slot then .next s
    else
      let put (t : Option (Tab ScrapEntry)) : Option (Tab ScrapEntry) := some (Tab.put (t.getD []) slot e)
      let left := s.flt.writing.filter (· != slot)
      let s := { s with flt := { s.flt with vaultA := put s.flt.vaultA, vaultB := put s.flt.vaultB, writing := left } }
      let s := if left.isEmpty && s.gly.dump.isNone && s.gly.supply.isNone then { s with fm := { s.fm with pins := { s.fm.pins with vaultVcc := false } } } else s
      let s := if s.mirrors then s.ringState 4 slot else s
      .next (s.showRetired ⟨e.kind, e.index⟩)

end Sys2Proof.Machine
end

