-- ==== Sys2Proof/Machine/Boot.lean ====
section
/-! DEFINITION. Booting: the choice of the image slot, the forme, Recovery, and every way into reset and out of Dark (R44, R45, R139, R400, R415, R419, R439, R445). -/

namespace Sys2Proof.Machine

/-- Enters Recovery (R419). -/
def State.enterRecovery (s : State) : State := s.toMode .recovery

/-- What the choice of the slot gives: an image that boots, Recovery, or another reset that counts a failed trial (R415). -/
inductive Choice
  | boot
  | recovery
  | again
deriving DecidableEq, Repr

/-- Chooses the slot to boot, as the Hallmark ROM does at Forming step 2 (R415). [DEDUCED: notes/assumptions/70.md] -/
def State.chooseSlot (s : State) : Choice × State :=
  match s.pointer with
  | none => (.recovery, s)
  | some p =>
    let s := if p.state = .pending ∧ p.pendingSlot ≠ p.active then { s with upd := { s.upd with stage := .idle } } else s
    let p := if p.state = .pending then { p.toSlot p.pendingSlot with state := .trial, trials := 0 } else p
    let (p, s) := if p.state = .trial then
        let p := if p.trials = 3 then { p.toSlot (!p.active) with state := .fellBack } else { p with trials := p.trials + 1 }
        (p, s.writePointer p)
      else (p, s)
    let good (b : Bool) (h : Bytes) : Bool := s.slotVerifies (s.slot b) && manifestHash (s.slot b).content == h
    if good p.active p.hashActive then (.boot, s)
    else if p.state = .trial then (.again, s)
    else if good (!p.active) p.hashOther then (.boot, s.writePointer { p.toSlot (!p.active) with state := .fellBack })
    else (.recovery, s)

/-- Whether the running image is on trial (R415). -/
def State.onTrial (s : State) : Bool := s.pointer.any fun p => p.state == .trial

/-- Takes a forme as the running one (Forming step 3): head index, forme status, lab mode (R43, R432) and what PORTS gives the port registers. A reserved field of a later minor is ignored with a record (R32). [DEDUCED: notes/assumptions/12.md, notes/assumptions/85.md] -/
def State.takeForme (s : State) (f : Forme) : State :=
  let off := s.fm.hallmark.fuses.labOff
  let s := { s with fm := { s.fm with forme := some f, lab := f.lab && !off, formStep := 3 } }
  let s := ((s.wr F.FOR_ID_HEAD f.head).wr F.FOR_FORME_ID_ID f.id).wr F.FOR_FORME_STATUS_VERSION f.version
  let s := s.wr F.DBG_STATUS_LAB (bit (f.lab && !off))
  let s := if f.lab && off then s.alarm .for_ .labRefused else s
  let s := if f.ignored then s.note .for_ .reservedIgnored else s
  let s := if f.i3c then (let (a, s) := s.freeVal; { s with fm := { s.fm with i3cAddr := a % 128 } }) else s
  (f.eth.zipIdx).foldl (fun s e => (s.wr (F.PRT_ETH_LINK_ENABLED e.2) (bits e.1 7 7)).wr (F.PRT_ETH_LINK_SPLIT e.2) (bits e.1 1 0)) s

/-- The image and the forme of the active slot start (Forming steps 2 and 3). A replacement that waits for Forming (R49) becomes the slot's forme when it passes. The answer is a rejection reason, if any. [DEDUCED: notes/assumptions/70.md] -/
def State.startImage (s : State) : Option Nat × State :=
  let b := s.activeSlot
  let x := s.slot b
  let c := x.content
  let s := { s with upd := { s.upd with runHash := manifestHash c } }
  let s := if s.pointer.any fun p => p.state == .fellBack then (s.raise F.UPD_INT_STATUS_FELL_BACK).alarm .upd .fellBack else s
  let fw := leAt c 8 4
  let raw := match s.fm.pendingForme with
    | some f => f
    | none => x.forme.getD (imageForme c)
  let waits := s.fm.pendingForme.isSome
  let s := { s with fm := { s.fm with pendingForme := none } }.wr F.FOR_FORME_STATUS_PENDING 0
  match s.readForme fw raw with
  | .error r => (some r, s)
  | .ok f => (none, (if waits then s.setSlot b { x with forme := some raw } else s).takeForme f)

/-- Boots until an image runs or the head is in Recovery. A trial image that cannot be booted, or whose forme is rejected, is another reset (R415, R45); three trials and the old image bound the passes. [DEDUCED: notes/assumptions/70.md] -/
def State.bootLoop : Nat → State → State
  | 0, s => s.enterRecovery
  | n + 1, s =>
    match s.chooseSlot with
    | (.recovery, s) => s.enterRecovery
    | (.again, s) => State.bootLoop n (s.coreReset 5)
    | (.boot, s) =>
      match s.startImage with
      | (none, s) => s
      | (some r, s) =>
        let s := (s.wr F.FOR_FORME_STATUS_REASON r).alarm .for_ .formeRejected 0 [r]
        if s.onTrial then State.bootLoop n (s.coreReset 5) else s.enterRecovery

/-- Starts Forming at step 1 with the core released (R44), or Recovery when UPD_CMD asked for it (R419). [DEDUCED: notes/assumptions/86.md] -/
def State.boot (s : State) : State :=
  let s := { s with fm := { s.fm with powerUp := .released } }
  if s.upd.recoverNext then ({ s with upd := { s.upd with recoverNext := false } } : State).enterRecovery
  else s.bootLoop 8

/-- Resets the head with a cause and boots it again at once. [DEDUCED: notes/assumptions/86.md] -/
def State.reboot (s : State) (cause : Nat) : State := (s.coreReset cause).boot

/-- Rejects the forme in a later step of Forming (R44, R45): the boot of a trial image counts as failed, and a confirmed image leads to Recovery. [DEDUCED: notes/assumptions/85.md] -/
def State.formeReject (s : State) (r : Nat) : State :=
  let s := (s.wr F.FOR_FORME_STATUS_REASON r).alarm .for_ .formeRejected 0 [r]
  if s.onTrial then s.reboot 5 else s.enterRecovery

/-- The core reset is released (Table 22.3 step 5). After Dark every register stands at its reset value, and main time starts at 0 (R404). [DEDUCED: notes/assumptions/12.md, notes/assumptions/86.md, notes/assumptions/99.md] -/
def State.release1 (s : State) : State :=
  let s := if s.fm.mode = .dark then
      ({ s with fm := { s.fm with mode := .forming }, pwr := { s.pwr with state := .run }, clk := { s.clk with running := true } } : State).showTongs
    else s
  s.boot

/-- STANDBY_SUPPLY_UP (R445, R452, Table 22.3 step 1): `addr` is what SB_ADDR2 to SB_ADDR0 show. The ember oscillator starts. [DEDUCED: notes/assumptions/99.md] -/
def execStandbySupplyUp (addr : Nat) (s : State) : Out1 :=
  if s.fm.powerUp ≠ .unpowered then .next s
  else .next { s with fm := { s.fm with powerUp := .standby, pins := { s.fm.pins with sbAddr := 0x30 + addr % 8 } }, pwr := { s.pwr with state := .run } }

/-- MAIN_PWR_EN_ASSERT (R445, Table 22.3 step 2). [DEDUCED: notes/assumptions/99.md] -/
def execMainPwrEnAssert (s : State) : Out1 :=
  if s.fm.powerUp ≠ .standby then .next s
  else .next { s with fm := { s.fm with powerUp := .mainOn, pins := { s.fm.pins with mainPwrEn := true } } }

/-- CORE_RESET_RELEASE (R44, R415, R445): PWR_OK and RESET_N have been high for 1 ms. With POWER_WARN_N asserted (`warn`) the head waits with its core in reset. -/
def execCoreResetRelease (warn : Bool) (s : State) : Out1 :=
  if s.fm.powerUp ≠ .mainOn then .next s
  else
    let s := { s with fm := { s.fm with pins := { s.fm.pins with mainPwrEn := true, pwrOk := true, resetLow := false, powerWarn := warn } } }
    if warn then .next { s with fm := { s.fm with powerUp := .heldByWarn } } else .next s.release1

/-- Whether the core runs, so that a reset finds something to reset. -/
def State.awake (s : State) : Bool := s.fm.powerUp == .released && s.fm.mode != .dark

/-- The core is held in reset with a cause until CORE_RESET_RELEASE. [DEDUCED: notes/assumptions/86.md] -/
def State.holdReset (s : State) (cause : Nat) : State :=
  let s := s.coreReset cause
  { s with fm := { s.fm with powerUp := .mainOn } }

/-- The core rail fell below −10 % (Table 6.6): a dump in progress ends unsealed. -/
def State.railReset (s : State) : State := if s.awake then s.holdReset 2 else s

/-- PWR_OK_LOW (R445): PWR_OK was low for 2 µs. -/
def execPwrOkLow (s : State) : Out1 :=
  let s := s.railReset
  .next { s with fm := { s.fm with pins := { s.fm.pins with pwrOk := false } } }

/-- CORE_RAIL_RESET (R135). -/
def execCoreRailReset (s : State) : Out1 := .next s.railReset

/-- RESET_N_LOW (R445): RESET_N was low for 10 µs. From the commitment of a dump to its seal it is ignored, and takes effect at the seal while it is still low. -/
def execResetNLow (s : State) : Out1 :=
  let s := { s with fm := { s.fm with pins := { s.fm.pins with resetLow := true } } }
  if s.gly.dump.isSome || !s.awake then .next s else .next (s.holdReset 1)

/-- WAKE_N_LOW (R396, R400, R445): WAKE_N was low for 1 ms. It wakes a sleeping head, whose retention banks `bad` fail their signatures, and powers up a head in Dark. -/
def execWakeNLow (bad : List Nat) (s : State) : Out1 :=
  if s.fm.powerUp = .wakeOnly then
    .next { s with fm := { s.fm with powerUp := .mainOn, pins := { s.fm.pins with mainPwrEn := true } }, pwr := { s.pwr with state := .run } }
  else if s.awake then .next (s.wakeSource 1 bad)
  else .next s

/-- STANDBY_SUPPLY_LOSS (R400): every supply is lost, the standby supply included. [DEDUCED: notes/assumptions/87.md] -/
def execStandbySupplyLoss (s : State) : Out1 :=
  let s := s.goDark
  .next { s with fm := { s.fm with powerUp := .unpowered, pins := { s.fm.pins with sbAddr := 0, powerWarn := false, resetLow := false } } }

/-- FENCE_IN_DEASSERT (R355): the hardware hold on the back-end transmitters ends; those of a head in Halted-safe stay parked. -/
def execFenceInDeassert (s : State) : Out1 :=
  let s := { s with fm := { s.fm with pins := { s.fm.pins with fenceIn := false, backTxGated := s.fm.safe } } }
  if s.awake then .next (s.wr F.ANV_TONGS_FENCE_IN 0) else .next s

/-- MGMT_PORT_RESET (R366, R439): a reset over the management port. A committed dump runs to its seal. -/
def execMgmtPortReset (s : State) : Out1 :=
  if s.awake && s.gly.dump.isNone then .next (s.reboot 6) else .next s

/-- POWER_WARN_N_DEASSERT (R445): deasserted for 10 ms, it releases a head held at step 5 of Table 22.3. [DEDUCED: notes/assumptions/99.md] -/
def execPowerWarnNDeassert (s : State) : Out1 :=
  let s := { s with fm := { s.fm with pins := { s.fm.pins with powerWarn := false } } }
  if s.fm.powerUp = .heldByWarn then .next s.release1 else .next s

end Sys2Proof.Machine
end

