-- ==== Sys2Proof/Machine/Hallmark.lean ====
section
/-! DEFINITION. Commands of Hallmark and of the debug control register (R422, R424, R425, R429, R443). -/

namespace Sys2Proof.Machine

/-- Shows the result of a Hallmark command. -/
def State.hlmResult (s : State) (r : Nat) : State := s.wr F.HLM_CMD_RESULT r

/-- Whether Hallmark can program fuses (R443): VDD_FUSE is in range and the head is in Recovery. [DEDUCED: notes/assumptions/76.md] -/
def State.fusesWritable (s : State) : Bool := s.fm.pins.vddFuse && s.fm.mode == .recovery

/-- Programs the fuses and ends the command with RESULT 0. Where they cannot be programmed they stay, and the spec gives no RESULT, so it is a free value. [DEDUCED: notes/assumptions/76.md] -/
def State.programFuses (s : State) (f : Fuses → Fuses) : State :=
  if s.fusesWritable then ({ s with fm := { s.fm with hallmark := { s.fm.hallmark with fuses := f s.fm.hallmark.fuses } } } : State).hlmResult 0
  else
    let (v, s) := s.freeVal
    s.hlmResult v

/-- HLM_CMD 1 (R424). -/
def State.admitOpen (s : State) : State :=
  (({ s with fm := { s.fm with hallmark := { s.fm.hallmark with admitAt := s.now } } } : State).wr F.HLM_STATUS_ADMIT 1).hlmResult 0

/-- HLM_ADMIT_OPEN (R424). -/
def execHlmAdmitOpen (s : State) : Out1 := .next s.admitOpen

/-- ADMIT_WINDOW_EXPIRY (R424): 10 minutes after it opened, the admit window closes. -/
def execAdmitWindowExpiry (s : State) : Out1 :=
  if s.on F.HLM_STATUS_ADMIT && decide (s.fm.hallmark.admitAt + 600000000000 ≤ s.now) then .next (s.wr F.HLM_STATUS_ADMIT 0) else .next s

/-- The security version of the confirmed image (R416, R425): the active slot's, while the pointer's STATE is 0, or 2, which is treated as confirmed. [DEDUCED: notes/assumptions/76.md] -/
def State.confirmedSvn (s : State) : Option Nat :=
  match s.pointer with
  | some p => if p.state = .confirmed ∨ p.state = .fellBack then some (leAt (s.slot p.active).content 0xC 4) else none
  | none => none

/-- HLM_CMD 2 (R425, R443). [DEDUCED: notes/assumptions/76.md] -/
def State.svnRaise (s : State) : State :=
  match s.confirmedSvn with
  | some v => if s.fm.hallmark.fuses.svnMin < v then s.programFuses fun f => { f with svnMin := min 64 v } else s.hlmResult 3
  | none => s.hlmResult 3

/-- HLM_SVN_RAISE (R425, R443): `vdd` says that VDD_FUSE is in range. -/
def execHlmSvnRaise (vdd : Bool) (s : State) : Out1 :=
  .next ({ s with fm := { s.fm with pins := { s.fm.pins with vddFuse := vdd } } } : State).svnRaise

/-- HLM_CMD 3 (R424): the pair record is erased, or RESULT 1 while a module is admitted. -/
def State.erasePair (s : State) : State :=
  if !s.admitted.isEmpty then s.hlmResult 1
  else ({ s with fm := { s.fm with hallmark := { s.fm.hallmark with prs := none } } } : State).hlmResult 0

/-- HLM_ERASE_PAIR_RECORD (R424). -/
def execHlmErasePairRecord (s : State) : Out1 := .next s.erasePair

/-- The signing slot of the image in the active slot (R408). [DEDUCED: notes/assumptions/76.md] -/
def State.imageSigner (s : State) : Option Nat :=
  s.pointer.map fun p => let c := (s.slot p.active).content; byteAt c (manifestLen c)

/-- HLM_CMD 4 to 7 (R422, R443): a signing slot is revoked, or RESULT 2 when it signed the running image. [DEDUCED: notes/assumptions/76.md] -/
def State.revokeSlot (s : State) (slot : Nat) : State :=
  if s.imageSigner = some slot then s.hlmResult 2
  else s.programFuses fun f => { f with signRevoke := f.signRevoke ||| 2 ^ slot }

/-- HLM_REVOKE_SLOT (R422, R443): `vdd` says that VDD_FUSE is in range. -/
def execHlmRevokeSlot (slot : Nat) (vdd : Bool) (s : State) : Out1 :=
  .next (({ s with fm := { s.fm with pins := { s.fm.pins with vddFuse := vdd } } } : State).revokeSlot (slot % 4))

/-- HLM_CMD (Table 20.9): other values than 1 to 7 are ignored. -/
def State.hlmCmd (s : State) : Nat → State
  | 1 => s.admitOpen
  | 2 => s.svnRaise
  | 3 => s.erasePair
  | 4 => s.revokeSlot 0
  | 5 => s.revokeSlot 1
  | 6 => s.revokeSlot 2
  | 7 => s.revokeSlot 3
  | _ => s

/-- Ends any unlock (R429). -/
def State.lockNow (s : State) : State := s.wr F.DBG_STATUS_LEVEL 0

/-- DBG_LOCK_NOW (R429): DBG_CTRL.LOCK_NOW. -/
def execDbgLockNow (s : State) : Out1 := .next s.lockNow

/-- DBG_DISABLE (R429): DBG_CTRL.DISABLE is set and stays until power-up from Dark. -/
def execDbgDisable (s : State) : Out1 := .next (s.raise F.DBG_CTRL_DISABLE)

end Sys2Proof.Machine
end

