-- ==== Sys2Proof/Machine/Replica.lean ====
section
/-! DEFINITION. Replication: opening and keying sessions, deltas, segments, and their ends (R331 to R337, R340). -/

namespace Sys2Proof.Machine

/-- The session that STE_SESS_SEL selects. -/
def State.selSess (s : State) : Nat := s.rd F.STE_SESS_SEL_SESSION

/-- Mirrors the state of a session (R340). -/
def State.shareSess (s : State) (k : Nat) : State := if s.mirrors then s.ringState 2 k else s

/-- Ends a session: nothing is held for it any more. -/
def State.dropSess (s : State) (k : Nat) : State :=
  let s := (s.setSess k {}).drainCtx 5 .channel (65504 + k)
  let s := { s with ste := { s.ste with mends := s.ste.mends.filter fun (m : MendReq) => m.sess != k } }
  (s.releaseAcks k fun _ => true).shareSess k

/-- The list digest of a payload under the realm's Current purpose-2 key (Table 15.6). -/
def State.listDigest (s : State) (realm : Nat) (payload : Bytes) : Bytes :=
  digestOf 4 2 ((s.plainKey (handle realm 2 ((s.currentGen realm 2).getD 0))).getD []) payload

/-- Whether an entry of a map differs between two volumes: their pages are compared by identity first (R335 step 1). -/
def changedCells (b n : Volume) : List (Nat × Cell) :=
  let same (g : Nat) : Bool := (b.pageAt g).2.1 == (n.pageAt g).2.1 && (b.pageAt g).2.1 != 0
  let keys := ((b.map.map Prod.fst) ++ (n.map.map Prod.fst)).foldl (fun (t : Tab Unit) g => Tab.put t g ()) []
  keys.filterMap fun k =>
    let c := Tab.get {} n.map k.1
    if same k.1 || Tab.get {} b.map k.1 == c then none else some (k.1, c)

/-- The changed ranges of a delta as EXTENTS entries, one grain index each: DATA, ZERO with its tag, or REMOVE (Table 15.6). [DEDUCED: notes/assumptions/52.md] -/
def State.deltaRanges (s : State) (base new : Nat) : List ExtEntry :=
  (changedCells (Tab.get {} s.vols base) (Tab.get {} s.vols new)).filterMap fun c =>
    if c.2.gid ≠ 0 then (if (s.payloadOf c.2.gid).isSome then some ⟨c.1, 1, c.2.tag, false, false, true⟩ else none)
    else some ⟨c.1, 1, c.2.tag, c.2.tag != 0, c.2.tag == 0, false⟩

/-- Whether an entry runs on from another (R335). -/
def ExtEntry.follows (y x : ExtEntry) : Bool := y.g == x.g + x.n && y.tag == x.tag && y.zero == x.zero && y.remove == x.remove && y.data == x.data

/-- Joins neighbouring entries of equal tags and flags. [DEDUCED: notes/assumptions/52.md] -/
def joinExts : List ExtEntry → List ExtEntry
  | [] => []
  | x :: rest =>
    match joinExts rest with
    | [] => [x]
    | y :: more => if y.follows x then { x with n := x.n + y.n } :: more else x :: y :: more

/-- The entries of the next segment (R335 step 3): at most 16,384 entries and 31,745 DATA grains, whose GRAINS bodies then stay below 256 MiB. [DEDUCED: notes/assumptions/52.md] -/
def nextSegment (left : List ExtEntry) : List ExtEntry :=
  let room := left.foldl (fun (a : List ExtEntry × Nat × Nat × Bool) x =>
    let grains := a.2.1 + bit x.data
    let runs := a.2.2.1 + (if (a.1.head?).any fun y => x.follows y then 0 else 1)
    if a.2.2.2 || decide (31745 < grains) || decide (16384 < runs) then (a.1, a.2.1, a.2.2.1, true) else (x :: a.1, grains, runs, false)) ([], 0, 0, false)
  joinExts room.1.reverse

/-- An EXTENTS entry as 24 bytes (Tables 13.7 and 15.6). -/
def ExtEntry.bytes (x : ExtEntry) : Bytes :=
  leBytes (x.g * 2 ^ 24 + x.n) 8 ++ zeros 8 ++ leBytes (x.tag * 2 ^ 48 + (bit x.zero + 2 * bit x.remove + 4 * bit x.data) * 2 ^ 40) 8

/-- The entries of an EXTENTS body. -/
def extsOf (b : Bytes) : List ExtEntry :=
  (chunksOf 24 b).map fun c =>
    let w := leAt c 0 8
    let f := leAt c 16 8
    ⟨bits w 63 24, bits w 23 0, bits f 63 48, bitOf f 40, bitOf f 41, bitOf f 42⟩

/-- The grain indices of the DATA extents, in order (Table 15.6). [DEDUCED: notes/assumptions/52.md] -/
def dataGrains (xs : List ExtEntry) : List Nat := (xs.filter (·.data)).flatMap fun x => (List.range x.n).map (x.g + ·)

/-- Sends EXTENTS and FP_LIST of the next segment of a session's delta, or DELTA_END when nothing is left (R335). [DEDUCED: notes/assumptions/52.md] -/
def State.sendSegment (s : State) (k : Nat) : State :=
  let e := s.sess k
  match e.delta with
  | none => s
  | some d =>
    if d.left.isEmpty then s.replPost k .deltaEnd (leBytes d.id 8)
    else
      let xs := nextSegment d.left
      let new := Tab.get {} s.vols d.new
      let digs := (dataGrains xs).map fun g => s.listDigest e.realm (((s.payloadOf (Tab.get {} new.map g).gid).map fun x => x.2.2).getD [])
      let eb := xs.flatMap ExtEntry.bytes
      let s := s.modSess k fun e => { e with delta := some { d with segment := e.segment + 1, exts := xs, digests := digs, have_ := [], bodies := eb ++ digs.flatten } }
      (s.replPost k .extents eb).replPost k .fpList digs.flatten

/-- Sends DELTA_BEGIN, again after each new connection, and the segment that is next (R335, R340). [DEDUCED: notes/assumptions/57.md] -/
def State.beginDelta (s : State) (k : Nat) : State :=
  match (s.sess k).delta with
  | none => s
  | some d =>
    let s := s.modSess k fun e => { e with started := true, state := if e.sync then .catchingUp else .delta }
    (s.replPost k .deltaBegin (leBytes d.id 8 ++ leBytes d.base 4 ++ leBytes d.peerBase 4 ++ leBytes d.new 4)).sendSegment k

/-- Starts a delta to a snapshot on a source session (R335). -/
def State.startDelta (k n : Nat) (s : State) : State :=
  let e := s.sess k
  if e.state = .free ∨ e.isTarget ∨ e.delta.isSome then s
  else
    let d : Delta := { id := e.nextDelta + 1, base := e.base.1, peerBase := e.base.2, new := n, left := s.deltaRanges e.base.1 n }
    let s := (s.modSess k fun e => { e with delta := some d, nextDelta := e.nextDelta + 1 }).shareSess k
    if e.keyed then s.beginDelta k else s

/-- Whether a snapshot is being taken for a session's next delta. -/
def State.deltaComing (s : State) (k : Nat) : Bool := s.ste.snaps.any fun w => w.why == .deltaTo k

/-- A synchronous source takes a snapshot for its next delta (R338); `switch` makes it the switch snapshot. [DEDUCED: notes/assumptions/51.md] -/
def State.autoDelta (s : State) (k : Nat) (switch : Bool) : State :=
  let e := s.sess k
  if s.deltaComing k || e.delta.isSome then s
  else match s.familyFull (Tab.get {} s.vols e.volume).family, s.snapStart e.volume (.deltaTo k) with
    | none, some (_, s) => s.modSess k fun e => if switch then { e with switching := true, switchStamp := s.rd F.CHS_LAST_STAMP_STAMP } else e
    | _, _ => s.alarm .ste .replication 0 [k]

/-- A source goes on once its session is keyed (R338 to R340): a delta in progress is resumed, what a synchronous session owes is sent again, or its next delta begins. -/
def State.resume (s : State) (k : Nat) : State :=
  let e := s.sess k
  if e.isTarget then s
  else if e.delta.isSome then s.beginDelta k
  else if !e.sync then s.modSess k fun e => { e with state := .idle }
  else if e.switching && !s.deltaComing k then (s.modSess k fun e => { e with state := .inSync }).syncSend k
  else (s.modSess k fun e => { e with state := if e.state = .broken ∨ e.state = .held then e.state else .catchingUp }).autoDelta k false

/-- Asks for the second time for the grains whose MEND_DATA failed its tag (R341). [DEDUCED: notes/assumptions/53.md] -/
def State.mendAgain (s : State) (k : Nat) : State :=
  s.ste.mends.foldl (fun s m =>
    if m.sess = k ∧ m.again then s.replPost k .mendReq (leBytes m.id 4 ++ leBytes m.peer 4 ++ m.grains.flatMap fun g => leBytes g.1 8) else s) s

/-- A session finishes keying: every later record is sealed, with SEQ from 1 (R332, R334). -/
def State.sessionUp (s : State) (k : Nat) : State :=
  let s := s.modSess k fun e => { e with keyed := true, seqOut := 0, seqIn := 0, state := if e.state = .broken ∨ e.state = .held then e.state else .idle }
  let s := (s.raise F.STE_INT_STATUS_SESSION_UP).note .ste .replication 0 [k]
  let s := if s.ste.opening = some k then { (s.steDone none 0 k) with ste := { (s.steDone none 0 k).ste with opening := none } } else s
  (s.resume k).mendAgain k

/-- The fields of a session descriptor (Table 15.4); none with a bad CRC, a non-zero reserved field or a value out of range. -/
def sessOf (b : Bytes) : Option Session :=
  let w0 := leAt b 0 8
  let w1 := leAt b 8 8
  let sync := bitOf w0 63
  let target := bitOf w0 62
  let ms := bits w1 47 32
  let port := bits w1 63 56
  let gib := bits w0 15 0
  if b.length ≠ 128 ∨ leAt b 0x7C 4 ≠ crc32c (b.take 0x7C) ∨ bits w0 60 56 ≠ 0 ∨ bits w0 19 16 ≠ 0 ∨ bits w1 55 48 ≠ 0 ∨ !allZero (slice b 0x50 44) then none
  else if (if sync then decide (ms < 100 ∨ 60000 < ms) else ms != 0) || (decide (31 < port) && port != 0xFF) || (if target then decide (gib = 0 ∨ 1024 < gib) else gib != 0) then none
  else some { state := .connecting, sync := sync, isTarget := target, strict := bitOf w0 61, volume := bits w0 55 32, realm := bits w0 31 20, indexGib := gib, lport := port, timeoutMs := ms, id := bits w1 31 0, peerAddr := leAt b 0x10 16, peerId := slice b 0x20 48 }

/-- A new working volume of a target (R331): in state Live, with NSID 0, class 0 and an empty map. [DEDUCED: notes/assumptions/56.md] -/
def State.newWorking (s : State) (realm num : Nat) : State :=
  let v : Volume := { realm := realm, state := .live, holder := s.head, lbaf := 3, family := num, pages := [(0, s.hth.nextPage)] }
  ({ s with hth := { s.hth with nextPage := s.hth.nextPage + 1 } } : State).journal [.volume num v 0 0]

/-- The volume that holds the replica index of a realm, made with its first target session (R336): NSID 0, class 0, blocks of 4,096 bytes, INDEX_GIB long. [DEDUCED: notes/assumptions/133.md] -/
def State.newIndex (s : State) (realm num buckets : Nat) : State :=
  let v : Volume := { realm := realm, state := .live, holder := s.head, lbaf := 3, lbas := buckets, family := num, pages := [(0, s.hth.nextPage)] }
  ({ s with hth := { s.hth with nextPage := s.hth.nextPage + 1 } } : State).journal [.volume num v 0 0]

/-- Reads the replica index of a realm back from its volume, as far as its map holds it (R336). [DEDUCED: notes/assumptions/133.md] -/
def State.loadIndex (s : State) (realm vol : Nat) : State :=
  (Tab.get {} s.vols vol).map.foldl (fun s c => match s.payloadOf c.2.gid with
    | none => s
    | some x => [0, 1].foldl (fun (s : State) i =>
      let es := entriesOf (slice x.2.2 (i * 4096) 4096)
      if es.isEmpty then s else { s with ste := { s.ste with index := Tab.set {} s.ste.index (realm * 2 ^ 40 + 2 * c.1 + i) { entries := es } } }) s) s

/-- The volume of a realm's replica index, as a session of either run of this head names it (R336, R340). [DEDUCED: notes/assumptions/133.md] -/
def State.indexVolume (s : State) (realm : Nat) : Nat :=
  (((s.ste.sessions ++ s.ste.peerSessions).find? fun x => x.2.realm == realm && x.2.isTarget && x.2.indexVol != 0).map fun x => x.2.indexVol).getD 0

/-- Gives a target session its realm's replica index (R336): the volume that stands, read back when this head holds nothing of it, or a new one. [DEDUCED: notes/assumptions/133.md] -/
def State.takeIndex (s : State) (e : Session) : State × Nat :=
  let n := e.indexGib * 262144
  let held := Tab.get 0 s.ste.indexBuckets e.realm
  let vol := s.indexVolume e.realm
  if !e.isTarget then (s, 0)
  else if vol ≠ 0 then
    let b := if held ≠ 0 then held else (Tab.get {} s.vols vol).lbas
    ((if held ≠ 0 then s else State.loadIndex { s with ste := { s.ste with indexBuckets := Tab.set 0 s.ste.indexBuckets e.realm b } } e.realm vol), vol)
  else match s.freeVolume with
    | none => (s, 0)
    | some num => (State.newIndex { s with ste := { s.ste with indexBuckets := Tab.set 0 s.ste.indexBuckets e.realm n } } e.realm num n, num)

/-- What an earlier run of a session left, for a descriptor that resumes it (R340): this head's own, or the mirrored one. [DEDUCED: notes/assumptions/56.md] -/
def State.formerSess (s : State) (e : Session) : Option Session :=
  if e.id = 0 then none else (s.ste.peerSessions.find? fun p => p.2.id == e.id && p.2.isTarget == e.isTarget).map Prod.snd

/-- Why a descriptor is refused (Table 15.7, STE_CMD): 7 for the descriptor itself or a second peer of a realm, 3 for the volume. [DEDUCED: notes/assumptions/56.md] -/
def State.sessRefusal (s : State) (e : Session) : Option Nat :=
  let v := Tab.get {} s.vols e.volume
  if s.ste.sessions.any fun x => x.2.realm == e.realm && x.2.peerId != e.peerId then some 7
  else if e.volume = 0 then (if e.isTarget then none else some 3)
  else if v.state ≠ .live ∨ v.snapshot ∨ v.realm ≠ e.realm ∨ (e.isTarget && v.nsid != 0) then some 3
  else none

/-- STE_CMD 4 (R331): opens a session with the descriptor at STE_ARG0, given in `desc`. A target listens and the command ends; a source connects, and the command ends when the session is keyed, or with RESULT 6 when the peer refuses it. [DEDUCED: notes/assumptions/56.md] -/
def execSteOpenSession (desc : Bytes) (s : State) : Out1 :=
  if s.on F.STE_CMD_BUSY || !s.on F.STE_CTRL_ENABLE then .next s
  else match sessOf desc, Tab.freeKey s.ste.sessions 0 16 with
    | none, _ => .next (s.steDone none 7 0)
    | some _, none => .next (s.steDone none 5 0)
    | some e, some k =>
      match s.sessRefusal e, s.freeVolume with
      | some r, _ => .next (s.steDone none r 0)
      | none, none => .next (s.steDone none 2 0)
      | none, some num =>
        let old := (s.formerSess e).getD {}
        let (s, vol) := if e.isTarget ∧ e.volume = 0 then (s.newWorking e.realm num, num) else (s, e.volume)
        let (s, index) := s.takeIndex e
        let s := s.openChannel (65504 + k)
        let s := (s.setSess k { e with volume := vol, indexVol := index, segment := old.segment, base := old.base, delta := old.delta, nextDelta := old.nextDelta }).shareSess k
        if e.isTarget then .next (s.steDone none 0 k)
        else
          let s := { (s.wr F.STE_CMD_BUSY 1) with ste := { s.ste with opening := some k } }
          .next (s.connect k)

/-- STE_CMD 5 (R335): a delta to snapshot N of the session's family on the selected idle source session. -/
def execSteStartDelta (s : State) : Out1 :=
  let k := s.selSess
  let e := s.sess k
  let n := s.rd F.STE_ARG0_ARG % 2 ^ 24
  let v := Tab.get {} s.vols n
  if s.on F.STE_CMD_BUSY || !s.on F.STE_CTRL_ENABLE then .next s
  else if e.state ≠ .idle ∨ e.isTarget ∨ e.sync ∨ v.state ≠ .live ∨ !v.snapshot ∨ v.family ≠ (Tab.get {} s.vols e.volume).family then .next (s.steDone none 3 0)
  else .next ((s.startDelta k n).steDone none 0 0)

/-- Closes a session at this side: CLOSE when it is keyed, and its state is Free (R331). [DEDUCED: notes/assumptions/58.md] -/
def State.closeSess (s : State) (k : Nat) : State :=
  if (s.sess k).state = .free then s
  else (if (s.sess k).keyed then s.replPost k .close [] else s).dropSess k

/-- STE_CMD 6. [DEDUCED: notes/assumptions/56.md] -/
def execSteCloseSession (s : State) : Out1 :=
  if s.on F.STE_CMD_BUSY || !s.on F.STE_CTRL_ENABLE then .next s
  else if (s.sess s.selSess).state = .free then .next (s.steDone none 3 0)
  else .next ((s.closeSess s.selSess).steDone none 0 0)

/-- A synchronous source breaks, and catches up by deltas again (R339). -/
def State.breakAndResume (s : State) (k : Nat) : State :=
  let s := s.breakSync k
  if (s.sess k).keyed then s.autoDelta k false else s

/-- STE_CMD 7 (R339): breaks a synchronous session, and held completions post. -/
def execSteBreakSync (s : State) : Out1 :=
  let k := s.selSess
  let e := s.sess k
  if s.on F.STE_CMD_BUSY || !s.on F.STE_CTRL_ENABLE then .next s
  else if !e.sync ∨ e.isTarget ∨ e.state = .free then .next (s.steDone none 3 0)
  else .next ((s.breakAndResume k).steDone none 0 0)

/-- A HELLO or HELLO_ACK body (Table 15.6). -/
structure Hello where
  version : Nat
  realm : Nat
  segment : Nat
  nonce : Bytes
  pub : Bytes
  sig : Bytes
  signed : Bytes
deriving DecidableEq, Repr

/-- Reads a HELLO or HELLO_ACK record. -/
def helloOf (t : ReplType) (b : Bytes) : Option Hello :=
  (clearBody t b).bind fun x =>
    if x.length ≠ 233 then none
    else some ⟨leAt x 0 2, leAt x 2 2, leAt x 4 4, slice x 8 32, slice x 40 97, slice x 137 96, b.take (b.length - 96)⟩

/-- Whether a HELLO comes from the peer that the descriptor names (R332): the key's SHA-384 is PEER_ID and the signature verifies. [DEDUCED: notes/assumptions/49.md] -/
def helloTrusted (e : Session) (h : Hello) (key : Bytes) : Bool :=
  sha384 key == e.peerId && Config.ecdsaVerify key (sha384 h.signed) h.sig

/-- The version that an offer leads to (R6, R56, R333): 1.0 for an offer of major 1, or of major 2 whose preceding major is 1. -/
def State.replVersion (s : State) (offer : Nat) : Option Nat :=
  if (offer / 256 = 1 ∨ offer / 256 = 2) ∧ (s.fm.forme.map (·.minRepl)).getD 0 ≤ 0x0100 then some 0x0100 else none

/-- Installs the transfer key of a session as the realm's purpose-8 key (R332). [DEDUCED: notes/assumptions/49.md] -/
def State.installXfer (s : State) (k : Nat) (pub : Bytes) : State :=
  let e := s.sess k
  let salt := if e.isTarget then e.peerNonce ++ e.myNonce else e.myNonce ++ e.peerNonce
  let key := hkdf (Config.ecdh e.myKey pub) salt (ascii "STEREOTYPE XFER") 32
  s.setKey (handle e.realm 8 0) { state := .current, len := 32, wrapped := aesWrap (s.kek e.realm) key }

/-- A refused session (R332, R333): an alarm, ERROR, and RESULT 6 for the command that opened it. -/
def State.refuseSess (s : State) (k code : Nat) : State :=
  let s := (s.alarm .ste .replication 0 [k, code]).replError k code false
  if s.ste.opening = some k then ({ (s.steDone none 6 0) with ste := { (s.steDone none 6 0).ste with opening := none } }).dropSess k else s

/-- REPL_HELLO at a target (R332, R333): `key` is the peer's identity public key. The target answers HELLO_ACK, derives the transfer key and waits for KEYS. [DEDUCED: notes/assumptions/49.md] -/
def execReplHello (k : Nat) (rec key : Bytes) (s : State) : Out1 :=
  let e := s.sess k
  match helloOf .hello rec with
  | none => .next s
  | some h =>
    if e.state = .free ∨ !e.isTarget then .next s
    else
      let id := (replHead rec).session
      let s := s.modSess k fun e => { e with link := true, keyed := false, state := .keying }
      if !helloTrusted e h key then .next (s.refuseSess k 2)
      else match s.replVersion h.version with
        | none => .next (s.refuseSess k 1)
        | some v =>
          if h.realm ≠ e.realm ∨ (id ≠ 0 ∧ id ≠ e.id) then .next (s.refuseSess k 5)
          else
            let (x, s) := if e.id = 0 then s.freeVal else (e.id, s)
            let id := if e.id = 0 then x % (2 ^ 32 - 1) + 1 else e.id
            let s := s.modSess k fun e => { e with id := id, peerNonce := h.nonce }
            .next (((s.sendHello k .helloAck v).installXfer k h.pub).shareSess k)

/-- The segments that the target has applied beyond the last acknowledged one leave the delta (R340). -/
def State.skipTo (s : State) (k segment : Nat) : State :=
  (List.range (segment - (s.sess k).segment)).foldl (fun s _ => s.modSess k fun e =>
    { e with segment := e.segment + 1, delta := e.delta.map fun d => let n := (nextSegment d.left).foldl (fun a x => a + x.n) 0; { d with left := d.left.drop n } }) s

/-- REPL_HELLO_ACK at a source (R332, R333, R340): the transfer key is derived, KEYS goes out and the session is up. [DEDUCED: notes/assumptions/49.md] -/
def execReplHelloAck (k : Nat) (rec key : Bytes) (s : State) : Out1 :=
  let e := s.sess k
  match helloOf .helloAck rec with
  | none => .next s
  | some h =>
    if e.state = .free ∨ e.isTarget ∨ !e.link ∨ e.keyed then .next s
    else if !helloTrusted e h key then .next (s.refuseSess k 2)
    else match s.replVersion h.version with
      | none => .next (s.refuseSess k 1)
      | some v =>
        let id := (replHead rec).session
        if id = 0 ∨ (e.id ≠ 0 ∧ e.id ≠ id) then .next (s.refuseSess k 5)
        else
          let s := s.modSess k fun e => { e with id := id, version := v, peerNonce := h.nonce, state := if e.state = .broken ∨ e.state = .held then e.state else .keying }
          let s := (s.installXfer k h.pub).skipTo k h.segment
          let s := [1, 2, 5].foldl (fun s p => if (s.gensOf e.realm p).isEmpty then s.addKey e.realm p else s) s
          .next (((s.replClear k .keys (s.keysBody k)).sessionUp k).shareSess k)

/-- Imports one key (R230): a record that the handle already has stays as it is; a new one becomes Current, and at the limit of its purpose the oldest generation goes. -/
def State.importKey (s : State) (realm p gen : Nat) (blob : Bytes) : State :=
  let h := handle realm p gen
  let xfer := (s.plainKey (handle realm 8 0)).getD []
  match s.keyRec h, aesUnwrap xfer blob with
  | none, some key =>
    let s := if genLimit p ≤ (s.gensOf realm p).length then (match s.oldestGen realm p with | some g => s.freeKey (handle realm p g) | none => s) else s
    (s.setKey h { state := .installing, imported := true, len := 32, wrapped := aesWrap (s.kek realm) key }).install h
  | _, _ => s

/-- REPL_KEYS (R332): the target imports the keys of purposes 1, 2 and 5, and the session is up. Later ones bring new generations (R339). -/
def execReplKeys (k : Nat) (rec : Bytes) (s : State) : Out1 :=
  let e := s.sess k
  match clearBody .keys rec with
  | none => .next s
  | some b =>
    if e.state = .free ∨ !e.isTarget ∨ !e.link ∨ b.length ≠ 123 ∨ (replHead rec).session ≠ e.id then .next s
    else
      let s := (([1, 2, 5] : List Nat).zipIdx).foldl (fun s p => s.importKey e.realm p.1 (byteAt b (41 * p.2)) (slice b (41 * p.2 + 1) 40)) s
      if e.keyed then .next (s.replDrain k) else .next (s.sessionUp k)

/-- Drops pieces of an internal channel that will not be published (R337). -/
def State.discardPieces (s : State) (ds : List Nat) : State :=
  ds.foldl (fun s d =>
    match Tab.find s.gly.own d with
    | some p =>
      let s := s.unrefine d p
      let s := s.dropPiece d
      if s.mirrors && p.dataIn then s.anvil .release pairChan [d, p.gen] else s
    | none => s) s

/-- Makes W a clone of a base snapshot, or empty without one (R335 step 2): pages of W that no other directory names release their grains. -/
def State.cloneInto (s : State) (w base : Nat) : State :=
  let v := Tab.get {} s.vols w
  let b := Tab.get {} s.vols base
  if base ≠ 0 ∧ v.pages = b.pages ∧ v.map = b.map then s
  else
    let s := v.pages.foldl (fun s _ => s.releasePage w) s
    let fresh := { v with walk := 0, parent := base, map := [], pages := [(0, s.hth.nextPage)] }
    let s := { s with hth := { s.hth with nextPage := s.hth.nextPage + 1 } }
    s.journal [.volume w { v with state := .free } 0 0, .volume w fresh 0 0]

/-- REPL_DELTA_BEGIN (R335): the target clones its base into W. One with the ID of the delta in progress goes on with it. [DEDUCED: notes/assumptions/57.md] -/
def execReplDeltaBegin (k : Nat) (rec : Bytes) (s : State) : Out1 :=
  .next (s.serve k .deltaBegin rec fun b s =>
    let e := s.sess k
    let id := leAt b 0 8
    let base := leAt b 12 4
    if !e.isTarget ∨ b.length ≠ 20 then s
    else
      let old := e.delta.map (·.pieces)
      let s := s.discardPieces (old.getD [])
      if e.delta.any fun d => d.id == id then s.modSess k fun e => { e with state := .delta, delta := e.delta.map fun d => { d with exts := [], digests := [], have_ := [], grains := [], bodies := [], pieces := [], ready := none } }
      else if base ≠ 0 ∧ !((Tab.find s.vols base).any fun v => v.snapshot && v.state == .live && v.family == (Tab.get {} s.vols e.volume).family) then s.replError k 5 true
      else
        let d : Delta := { id := id, base := base, peerBase := leAt b 8 4, new := leAt b 16 4 }
        ((s.cloneInto e.volume base).modSess k fun e => { e with state := .delta, delta := some d }).shareSess k)

/-- Changes the delta of a session. -/
def State.modDelta (s : State) (k : Nat) (f : Delta → Delta) : State := s.modSess k fun e => { e with delta := e.delta.map f }

/-- REPL_EXTENTS (R335): the ranges of a new segment. -/
def execReplExtents (k : Nat) (rec : Bytes) (s : State) : Out1 :=
  .next (s.serve k .extents rec fun b s =>
    if (s.sess k).isTarget then s.modDelta k fun d => { d with exts := extsOf b, digests := [], have_ := [], grains := [], bodies := b, pieces := [], ready := none } else s)

/-- The grain that the replica index names for a list digest, when its entry still stands (R336). -/
def State.replicaHit (s : State) (realm : Nat) (fp : Bytes) : Option Nat × State :=
  let n := Tab.get 0 s.ste.indexBuckets realm
  if n = 0 then (none, s)
  else
    let key := realm * 2 ^ 40 + leAt fp 8 8 % n
    let b := Tab.get {} s.ste.index key
    match b.entries.find? fun e => e.fp == fp with
    | none => (none, s)
    | some e =>
      if (s.grain? e.gid).any fun g => g.state == .live || g.state == .deferred then (if s.holdsHalf (gidHalf e.gid) then some e.gid else none, s)
      else (none, s.putBucket realm (leAt fp 8 8 % n) { b with entries := b.entries.erase e })

/-- A bitmap, bit i in byte i / 8 at bit i mod 8. [DEDUCED: notes/assumptions/53.md] -/
def bitmap (bs : List Bool) : Bytes := (List.range ((bs.length + 7) / 8)).map fun i => BitVec.ofNat 8 (((List.range 8).map fun j => bit (bs.getD (8 * i + j) false) * 2 ^ j).sum)

/-- REPL_FP_LIST (R336): each list digest is looked up in the replica index, and HAVE answers. A class with strict verification holds none. -/
def execReplFpList (k : Nat) (rec : Bytes) (s : State) : Out1 :=
  .next (s.serve k .fpList rec fun b s =>
    let e := s.sess k
    if !e.isTarget ∨ e.delta.isNone then s
    else
      let digs := chunksOf 32 b
      let strict := ((s.classOf (Tab.get {} s.vols e.volume).cls).map (·.strict)).getD false
      let (have_, s) := digs.foldl (fun (a : List Bool × State) f =>
        if strict then (a.1 ++ [false], a.2)
        else
          let (hit, s) := a.2.replicaHit e.realm f
          (a.1 ++ [hit.isSome], if hit.isSome then s.inc F.STE_INDEX_CNT_HELD else s)) ([], s)
      let s := s.modDelta k fun d => { d with digests := digs, have_ := have_, bodies := d.bodies ++ b }
      s.replPost k .have (bitmap have_))

/-- One entry of a GRAINS body (Table 15.6), padded to 8 bytes. -/
def grainEntry (i : Nat) (comp : Bool) (b : Bytes) : Bytes := leBytes (i * 2 ^ 32 + bit comp * 2 ^ 31 + b.length) 8 ++ padTo (roundUp b.length 8) b

/-- Groups entries into bodies of at most 1 MiB; an entry never spans two (R335). -/
def grainBodies (es : List Bytes) : List Bytes :=
  let r := es.foldl (fun (a : List Bytes × Bytes) e => if 1048576 < a.2.length + e.length then (a.1 ++ [a.2], e) else (a.1, a.2 ++ e)) ([], [])
  if r.2.isEmpty then r.1 else r.1 ++ [r.2]

/-- The segment digest (Table 15.6). -/
def State.segmentDigest (s : State) (realm : Nat) (bodies : Bytes) : Bytes :=
  hmac384 ((s.plainKey (handle realm 1 ((s.currentGen realm 1).getD 0))).getD []) bodies

/-- REPL_HAVE (R335, R336): the source sends the grains that the target lacks, each digest once, and SEGMENT_END. -/
def execReplHave (k : Nat) (rec : Bytes) (s : State) : Out1 :=
  .next (s.serve k .have rec fun b s =>
    let e := s.sess k
    match e.delta with
    | none => s
    | some d =>
      if e.isTarget ∨ d.exts.isEmpty ∨ d.have_ ≠ [] then s
      else
        let new := Tab.get {} s.vols d.new
        let gs := dataGrains d.exts
        let held := (List.range gs.length).map fun i => bitOf (byteAt b (i / 8)) (i % 8)
        let pay (g : Nat) : Option (SortBody × Bytes × Bytes) := s.payloadOf (Tab.get {} new.map g).gid
        let first (i : Nat) : Bool := !((d.digests.take i).contains (d.digests.getD i []))
        let entries := (gs.zipIdx).filterMap fun x => if held.getD x.2 false || !first x.2 then none else (pay x.1).map fun p => grainEntry x.2 p.1.comp p.2.1
        let saved := ((gs.zipIdx).map fun x => if held.getD x.2 false then ((pay x.1).map fun p => p.2.1.length).getD 0 else 0).sum
        let bodies := grainBodies entries
        let all := d.bodies ++ bodies.flatten
        let s := s.modSess k fun e => { e with saved := e.saved + saved, delta := some { d with have_ := if held.isEmpty then [true] else held, bodies := all, bytes := d.bytes + (bodies.map List.length).sum } }
        let s := bodies.foldl (fun s x => s.replPost k .grains x) s
        let last := (d.exts.getLast?.map fun x => x.g + x.n - 1).getD 0
        s.replPost k .segmentEnd (leBytes d.segment 4 ++ leBytes last 8 ++ s.segmentDigest e.realm all))

/-- The entries of a GRAINS body. -/
def grainEntries : Nat → Bytes → List (Nat × Bool × Bytes)
  | 0, _ => []
  | fuel + 1, b =>
    if b.length < 8 then []
    else
      let w := leAt b 0 8
      let n := bits w 15 0
      (bits w 63 32, bitOf w 31, slice b 8 n) :: grainEntries fuel (b.drop (8 + roundUp n 8))

/-- REPL_GRAINS (R337): payloads arrive for the segment in progress. -/
def execReplGrains (k : Nat) (rec : Bytes) (s : State) : Out1 :=
  .next (s.serve k .grains rec fun b s =>
    if (s.sess k).isTarget then s.modDelta k fun d => { d with grains := d.grains ++ grainEntries b.length b, bodies := d.bodies ++ b } else s)


/-- A block's metadata with a fresh guard over its data (R152, R159). [PRESUMED: notes/assumptions/18.md] -/
def freshGuard (v : Volume) (d m : Bytes) : Bytes :=
  if v.piType = 0 then m
  else
    let p := piBytes v m
    let gl := if v.guard64 then 8 else 2
    withPi v d m (beNat (slice p gl 2)) (beNat (p.drop (gl + 2)))

/-- The blocks of a grain's payload: data, and metadata from the trailer or regenerated from the tag (Table 7.7). -/
def payloadBlocks (v : Volume) (g tag : Nat) (pay : Bytes) : List (Bytes × Bytes) :=
  let d := lbafData v.lbaf
  let m := lbafMeta v.lbaf
  (List.range (8192 / d)).map fun i =>
    let dat := slice pay (i * d) d
    let lba := g * 8192 / d + i
    (dat, if 8192 < pay.length then freshGuard v dat (slice pay (8192 + i * m) m) else if v.piType = 0 then zeros m else withPi v dat [] tag lba)

/-- The payload of each DATA grain of a segment, with the held grain's ID where the replica index gave one, and the Swage block that it came in; none when a digest does not match or a payload is missing (R337). -/
def State.segmentGrains (s : State) (realm : Nat) (d : Delta) : Option (List (Bytes × Nat × Bytes)) :=
  let plain := d.grains.filterMap fun x => (if x.2.1 then swDecode x.2.2 else some x.2.2).map fun p => (x.1, p, if x.2.1 then x.2.2 else [])
  if plain.length ≠ d.grains.length ∨ plain.any (fun x => s.listDigest realm x.2.1 != d.digests.getD x.1 []) then none
  else
    let each := (d.digests.zipIdx).map fun f =>
      if d.have_.getD f.2 false then
        match (s.replicaHit realm f.1).1 with
        | some gid => (s.payloadOf gid).map fun x => (x.2.2, gid, [])
        | none => none
      else (plain.find? fun x => d.digests.getD x.1 [] == f.1).map fun x => (x.2.1, 0, x.2.2)
    if each.all Option.isSome then some (each.filterMap id) else none

/-- In guard, and behind what guard holds of its session, a record that stamps something is held (R136); else it acts. -/
def State.orGuard (s : State) (r : GuardedRec) (act : State → State) : State :=
  if (s.gly.supply.any fun e => e.guard) || s.ste.guarded.any fun g => g.session == r.session then
    ({ s with ste := { s.ste with guarded := s.ste.guarded ++ [r] } } : State).guardNote
  else act s

/-- The pieces of a segment (R337): ranges of zeros and removals, and one piece for each DATA grain, in order. [DEDUCED: notes/assumptions/52.md] -/
def State.segmentPieces (s : State) (k : Nat) (e : Session) (d : Delta) (gs : List (Bytes × Nat × Bytes)) : List Nat × State :=
  let v := Tab.get {} s.vols e.volume
  let per := 8192 / lbafData v.lbaf
  let shape (kind : PieceKind) (g n : Nat) : Piece := { stamp := 0, nsid := 0, cls := v.cls, owner := s.head, kind := kind, nlb := n * per, slba := g * per, lbaf := v.lbaf, volume := e.volume, repl := some (k, e.seqIn) }
  let zero := (d.exts.filter fun x => !x.data).map fun x => { shape (if x.remove then .deallocate else .zeroes) x.g x.n with tag := x.tag }
  let tags := (d.exts.filter (·.data)).flatMap fun x => (List.range x.n).map fun i => (x.g + i, x.tag)
  let data := ((tags.zip gs).zipIdx).map fun x =>
    let img := slotsOfBlocks v (payloadBlocks v x.1.1.1 x.1.1.2 x.1.2.1)
    let p : Piece := shape .write x.1.1.1 1
    { p with slotCnt := slotsFor v.lbaf per, data := img, listFp := d.digests.getD x.2 [], swBlock := x.1.2.2.2, grains := if x.1.2.2.1 = 0 then [] else [(x.1.1.1, x.1.2.2.1)] }
  (zero ++ data).foldl (fun (a : List Nat × State) (p : Piece) =>
    match a.2.newPiece p with
    | some (n, s) => (a.1 ++ [n], p.grains.foldl (fun s x => s.pin x.2 s.head n) s)
    | none => a) ([], s)

/-- Takes SEGMENT_END of a SEQ (R337): the segment digest and every payload's list digest are checked; then the pieces are made, to be published together, and otherwise the segment is discarded and asked for again. -/
def State.takeSegmentEnd (s : State) (k seq : Nat) (b : Bytes) : State :=
  let e := s.sess k
  match e.delta with
  | none => s
  | some d =>
    let n := leAt b 0 4
    let resend (s : State) : State :=
      ((s.modDelta k fun d => { d with exts := [], digests := [], have_ := [], grains := [], bodies := [] }).raise F.STE_INT_STATUS_SEGMENT_RESEND).replPost k .segmentAck (leBytes n 4 ++ [1#8])
    if !e.isTarget then s
    else if slice b 12 48 ≠ s.segmentDigest e.realm d.bodies then resend s
    else match s.segmentGrains e.realm d with
      | none => resend s
      | some gs =>
        let (ds, s) := s.segmentPieces k { e with seqIn := seq } d gs
        if ds.isEmpty then ((s.modSess k fun e => { e with segment := n }).shareSess k).replPost k .segmentAck (leBytes n 4 ++ [0#8])
        else s.modDelta k fun d => { d with pieces := ds, ready := some n }

/-- REPL_SEGMENT_END (R136, R337): in guard it is held, since it stamps pieces. -/
def execReplSegmentEnd (k : Nat) (rec : Bytes) (s : State) : Out1 :=
  .next (s.serve k .segmentEnd rec fun b s => s.orGuard ⟨.segmentEnd, k, (s.sess k).seqIn, b⟩ fun s => s.takeSegmentEnd k (s.sess k).seqIn b)

/-- REPL_SEGMENT_ACK (R335, R337): result 0 confirms the segment and the next one follows; result 1 sends it again. -/
def execReplSegmentAck (k : Nat) (rec : Bytes) (s : State) : Out1 :=
  .next (s.serve k .segmentAck rec fun b s =>
    let e := s.sess k
    match e.delta with
    | none => s
    | some d =>
      if e.isTarget ∨ leAt b 0 4 ≠ d.segment ∨ d.exts.isEmpty then s
      else if byteAt b 4 = 0 then
        let n := d.exts.foldl (fun a x => a + x.n) 0
        ((s.modSess k fun e => { e with segment := d.segment, delta := some { d with left := d.left.drop n, exts := [], digests := [], have_ := [], bodies := [] } }).shareSess k).sendSegment k
      else (s.raise F.STE_INT_STATUS_SEGMENT_RESEND).sendSegment k)

/-- Takes the snapshot of W that answers a delta or a sync mark (R335, R338). [DEDUCED: notes/assumptions/57.md] -/
def State.answerSnap (s : State) (k id : Nat) : State :=
  let e := s.sess k
  match s.familyFull (Tab.get {} s.vols e.volume).family, s.snapStart e.volume (.ack k id) with
  | none, some (_, s) => s
  | _, _ => s.replError k 6 false

/-- Takes DELTA_END (R335 step 4): the target snapshots W. -/
def State.takeDeltaEnd (s : State) (k : Nat) (b : Bytes) : State :=
  let e := s.sess k
  if e.isTarget ∧ (e.delta.any fun d => d.id == leAt b 0 8) ∧ !(s.ste.snaps.any fun w => w.why == .ack k (leAt b 0 8)) then s.answerSnap k (leAt b 0 8) else s

/-- REPL_DELTA_END (R335 step 4): the target snapshots W; behind records that guard holds it waits with them (R136). -/
def execReplDeltaEnd (k : Nat) (rec : Bytes) (s : State) : Out1 :=
  .next (s.serve k .deltaEnd rec fun b s => s.orGuard ⟨.deltaEnd, k, (s.sess k).seqIn, b⟩ fun s => s.takeDeltaEnd k b)

/-- The target's snapshot stands: DELTA_ACK answers, and the pair is the new base (R335, R338). -/
def State.deltaAnswer (k id vol : Nat) (s : State) : State :=
  let e := s.sess k
  let peer := match e.marks.find? fun m => m.1 == id with
    | some m => m.2
    | none => (e.delta.map (·.new)).getD 0
  let s := s.modSess k fun e => { e with base := (vol, peer), marks := e.marks.filter (fun m => m.1 != id), delta := if e.delta.any (fun d => d.id == id) then none else e.delta, state := if e.state = .delta then .idle else e.state }
  ((s.replPost k .deltaAck (leBytes id 8 ++ leBytes vol 4)).raise F.STE_INT_STATUS_DELTA_DONE).shareSess k

/-- SNAPSHOT_COMPLETE (R328, Table 15.3): the next step of a snapshot that is ready. Once its VOLUME record is durable it serves the command, delta or answer it was taken for. -/
def execSnapshotComplete (volume : Nat) (s : State) : Out1 :=
  let go (s : State) : State :=
    match s.ste.snaps.find? fun (w : SnapWait) => w.volume == volume with
    | none => s
    | some w => s.snapStep w fun w s => s.snapServes w State.startDelta State.deltaAnswer
  .next (go (go (go s)))

/-- REPL_DELTA_ACK (R335, R338): the pair of snapshots is the new base. A synchronous source goes on with its next delta, with its switch snapshot after a delta below 1 GiB, and after that one it is In sync. [DEDUCED: notes/assumptions/57.md] -/
def execReplDeltaAck (k : Nat) (rec : Bytes) (s : State) : Out1 :=
  .next (s.serve k .deltaAck rec fun b s =>
    let e := s.sess k
    let id := leAt b 0 8
    let vol := leAt b 8 4
    if e.isTarget then s
    else match e.out.find? fun o => o.mark.any fun m => m.1 == id with
      | some o =>
        let snap := (o.mark.map Prod.snd).getD 0
        ((s.modSess k fun e => { e with base := (snap, vol), out := e.out.filter fun o => !(o.mark.any fun m => m.1 == id) }).raise F.STE_INT_STATUS_DELTA_DONE).shareSess k
      | none =>
        match e.delta with
        | none => s
        | some d =>
          if d.id ≠ id then s
          else
            let s := (s.modSess k fun e => { e with base := (d.new, vol), delta := none, started := false, state := if e.sync then e.state else .idle }).raise F.STE_INT_STATUS_DELTA_DONE
            let s := s.shareSess k
            if !e.sync then s
            else if e.switching then (s.modSess k fun e => { e with state := .inSync, lastMark := s.now }).syncSend k
            else s.autoDelta k (decide (d.bytes < 2 ^ 30)))

end Sys2Proof.Machine
end

