-- ==== Sys2Proof/Machine/Sync.lean ====
section
/-! DEFINITION. Synchronous replication, mending and the loss of sessions (R338 to R341). -/

namespace Sys2Proof.Machine

/-- Cuts the data of a WRITE into blocks of data and metadata as received. -/
def writeBlocks (v : Volume) (n : Nat) (b : Bytes) : List (Bytes × Bytes) :=
  let d := lbafData v.lbaf
  let m := lbafMeta v.lbaf
  (List.range n).map fun i => (slice b (i * (d + m)) d, slice b (i * (d + m) + d) m)

/-- KIND of a piece by the kind of a WRITE record (Table 15.6). -/
def pieceOfWrite : Nat → PieceKind
  | 1 => .zeroes | 2 => .deallocate | _ => .write

/-- Takes the body of a WRITE record of a SEQ at the target (R338): the parts of a piece gather, and its END record stamps it on the internal channel. -/
def State.takeWrite (s : State) (k seq : Nat) (b : Bytes) : State :=
  let e := s.sess k
  if !e.isTarget then s
  else
    let parts := e.parts ++ [b.drop 14]
    if byteAt b 13 ≠ 1 then s.modSess k fun e => { e with parts := parts }
    else
      let v := Tab.get {} s.vols e.volume
      let n := leAt b 8 4
      let kind := pieceOfWrite (byteAt b 12)
      let img := if kind = .write then slotsOfBlocks v (writeBlocks v n parts.flatten) else []
      let p : Piece := { stamp := 0, nsid := 0, cls := v.cls, owner := s.head, kind := kind, nlb := n, slba := leAt b 0 8, slotCnt := if kind = .write then slotsFor v.lbaf n else 0, lbaf := v.lbaf, data := img, volume := e.volume, repl := some (k, seq) }
      let s := s.modSess k fun e => { e with parts := [], state := if e.state = .idle then .inSync else e.state }
      ((s.newPiece p).map Prod.snd).getD s

/-- REPL_WRITE at the target (R136, R338): it is stamped in SEQ order, and in guard it is held unstamped. -/
def execReplWrite (k : Nat) (rec : Bytes) (s : State) : Out1 :=
  .next (s.serve k .write rec fun b s => s.orGuard ⟨.write, k, (s.sess k).seqIn, b⟩ fun s => s.takeWrite k (s.sess k).seqIn b)

/-- REPL_WRITE_ACK at the source (R338): what it covers is no longer owed, and the completions that waited for it may be posted. A held session that acknowledges again is In sync. -/
def execReplWriteAck (k : Nat) (rec : Bytes) (s : State) : Out1 :=
  .next (s.serve k .writeAck rec fun b s =>
    let e := s.sess k
    let q := leAt b 0 8
    if e.isTarget then s
    else
      let done := (e.out.filter fun o => o.mark.isNone && o.seq != 0 && decide (o.seq ≤ q)).map (·.stamp)
      let s := s.modSess k fun e => { e with out := e.out.filter (fun o => !(o.mark.isNone && done.contains o.stamp)), state := if e.state = .held then .inSync else e.state }
      (s.releaseAcks k fun st => done.contains st).syncSend k)

/-- Takes SYNC_MARK at the target (R338). -/
def State.takeSyncMark (s : State) (k : Nat) (b : Bytes) : State :=
  let id := leAt b 0 8
  if !(s.sess k).isTarget ∨ (s.ste.snaps.any fun w => w.why == .ack k id) then s
  else (s.modSess k fun e => { e with marks := e.marks.filter (fun m => m.1 != id) ++ [(id, leAt b 8 4)] }).answerSnap k id

/-- REPL_SYNC_MARK at the target (R338): W is snapshotted once every earlier WRITE is applied. [DEDUCED: notes/assumptions/57.md] -/
def execReplSyncMark (k : Nat) (rec : Bytes) (s : State) : Out1 :=
  .next (s.serve k .syncMark rec fun b s => s.orGuard ⟨.syncMark, k, (s.sess k).seqIn, b⟩ fun s => s.takeSyncMark k b)

/-- What was held in guard is taken in its order (R136). -/
def State.takeGuarded (s : State) : State :=
  s.ste.guarded.foldl (fun s r =>
    match r.kind with
    | .write => s.takeWrite r.session r.seq r.body
    | .segmentEnd => s.takeSegmentEnd r.session r.seq r.body
    | .syncMark => s.takeSyncMark r.session r.body
    | .deltaEnd => s.takeDeltaEnd r.session r.body) { s with ste := { s.ste with guarded := [] } }

/-- SYNC_MARK_TIMER (R338): every 10 minutes an In sync source takes a snapshot at a stamp, and SYNC_MARK goes out at that stamp. [DEDUCED: notes/assumptions/57.md] -/
def execSyncMarkTimer (k : Nat) (s : State) : Out1 :=
  let e := s.sess k
  if !e.sync ∨ e.isTarget ∨ e.state ≠ .inSync ∨ s.now < e.lastMark + 600000000000 then .next s
  else
    let id := e.nextDelta + 1
    match s.familyFull (Tab.get {} s.vols e.volume).family, s.snapStart e.volume (.mark k id) with
    | none, some (num, s) =>
      let o : SyncOut := { stamp := s.rd F.CHS_LAST_STAMP_STAMP, mark := some (id, num), sentAt := s.now }
      .next ((s.modSess k fun e => { e with nextDelta := id, lastMark := s.now, out := insertOut o e.out }).syncSend k)
    | _, _ => .next ((s.modSess k fun e => { e with lastMark := s.now }).alarm .ste .replication 0 [k])

/-- Whether a source still waits for a new generation of its purpose-5 key (R339). -/
def State.keyPending (s : State) (realm : Nat) : Bool :=
  (s.currentGen realm 5).any (fun g => (s.ctr (handle realm 5 g)).exhausted) || (s.gensOf realm 5).any fun g => (s.keyRec (handle realm 5 g)).any fun r => r.state == .installing

/-- SYNC_TIMEOUT (R339): no WRITE_ACK covers a record in time. With STRICT 0 the session breaks; with STRICT 1 completions stay held, but a write that still waits for a new key generation fails with 0x0602. [DEDUCED: notes/assumptions/51.md] -/
def execSyncTimeout (k : Nat) (s : State) : Out1 :=
  let e := s.sess k
  let late := e.out.filter fun o => o.mark.isNone && decide (o.sentAt + e.timeoutMs * 1000000 ≤ s.now)
  if !e.sync ∨ e.isTarget ∨ late.isEmpty ∨ !(e.state == .inSync || e.state == .held) then .next s
  else if !e.strict then .next (s.breakAndResume k)
  else
    let s := s.modSess k fun e => { e with state := .held }
    let stuck := (late.filter fun o => o.seq == 0).map (·.stamp)
    if !s.keyPending e.realm then .next s
    else
      let hit (t : Task) : Bool := t.acks.any fun a => a.1 == k && stuck.contains a.2
      let s := { s with stk := { s.stk with slots := s.stk.slots.map fun (p : Nat × Task) => if hit p.2 then (p.1, { p.2 with state := .done (.internal 0x0602), doneAt := s.stk.order }) else p } }
      .next (s.releaseAcks k fun st => stuck.contains st)

/-- The grains that wait for a mend: those of Mending lost stripes that no request asks for yet (R341). -/
def State.mendNeeds (s : State) : List Nat :=
  (s.imp.lostStripes.flatMap fun p => if p.2.state = .mending then p.2.grains else []).filter fun g => !(s.ste.mends.any fun m => m.grains.any fun x => x.2 == g)

/-- A grain that cannot be mended (R272, R341). -/
def State.mendLost (s : State) (g : Nat) : State := (s.raise F.STE_INT_STATUS_MEND_FAIL).mendFails g

/-- Asks the peer of a session for the grains of Mending lost stripes, for every extent that names them in the session's base snapshot (R341). A grain without a fingerprint record, or that no session's base names, cannot be mended. [DEDUCED: notes/assumptions/53.md] -/
def State.askMend (s : State) (k : Nat) : State :=
  let e := s.sess k
  let v := Tab.get {} s.vols e.base.1
  let want := s.mendNeeds
  let cells := (v.map.filter fun c => want.contains c.2.gid && (s.grain? c.2.gid).any fun g => g.fp.isSome).map fun c => (c.1, c.2.gid)
  let hopeless := want.filter fun g => !((s.grain? g).any fun x => x.fp.isSome) || !(s.ste.sessions.any fun x => x.2.base.1 != 0 && (Tab.get {} s.vols x.2.base.1).map.any fun c => c.2.gid == g)
  let s := hopeless.foldl State.mendLost s
  if !e.keyed ∨ e.base.1 = 0 then s
  else (List.range ((cells.length + 4095) / 4096)).foldl (fun s i =>
    let gs := (cells.drop (4096 * i)).take 4096
    let id := (s.ste.nextReq + 1) % 2 ^ 32
    let s := { s with ste := { s.ste with nextReq := id, mends := s.ste.mends ++ [(⟨k, id, e.base.2, gs, false⟩ : MendReq)] } }
    s.replPost k .mendReq (leBytes id 4 ++ leBytes e.base.2 4 ++ gs.flatMap fun (g : Nat × Nat) => leBytes g.1 8)) s

/-- One grain of a MEND_DATA body; LENGTH 0 says that the peer lacks it (Table 15.6). [DEDUCED: notes/assumptions/53.md] -/
def State.mendEntry (s : State) (v : Volume) (g : Nat) : Bytes :=
  let pay := ((s.payloadOf (Tab.get {} v.map g).gid).map fun x => x.2.2).getD []
  leBytes g 8 ++ leBytes pay.length 2 ++ zeros 6 ++ pay

/-- Cuts a list into runs of `n`. -/
def groupsOf {α : Type} (n : Nat) (l : List α) : List (List α) := (List.range ((l.length + n - 1) / n)).map fun i => (l.drop (n * i)).take n

/-- REPL_MEND_REQ (R341): with an empty record this head asks its peer; a record from the peer is answered from the volume it names, in as many MEND_DATA records as the payloads need. [DEDUCED: notes/assumptions/53.md] -/
def execReplMendReq (k : Nat) (rec : Bytes) (s : State) : Out1 :=
  if rec.isEmpty then .next (s.askMend k)
  else .next (s.serve k .mendReq rec fun b s =>
    let v := Tab.get {} s.vols (leAt b 4 4)
    let gs := (chunksOf 8 (b.drop 8)).map fun c => leAt c 0 8
    (groupsOf 123 gs).foldl (fun s l => s.replPost k .mendData (b.take 4 ++ l.flatMap (s.mendEntry v))) s)

/-- The entries of a MEND_DATA body. -/
def mendEntries : Nat → Bytes → List (Nat × Bytes)
  | 0, _ => []
  | fuel + 1, b =>
    if b.length < 16 then []
    else (leAt b 0 8, slice b 16 (leAt b 8 2)) :: mendEntries fuel (b.drop (16 + leAt b 8 2))

/-- Packs a mended grain as a fresh sort on the refine line (R272); its place is reported when the stripe closes. [DEDUCED: notes/assumptions/53.md] -/
def State.packMend (s : State) (vol g gid : Nat) (pay : Bytes) : State :=
  let v := Tab.get {} s.vols vol
  match s.sortOfPayload v vol g gid pay false true with
  | none => s
  | some b => ((s.packSort .refine v.cls gid (.mend (s.grainAt gid).addr) b).map Prod.snd).getD s

/-- Takes one returned payload (R341): the first whose fingerprint equals the grain's record mends it. [DEDUCED: notes/assumptions/53.md] -/
def State.takeMend (s : State) (k id : Nat) (x : Nat × Bytes) : State :=
  match s.ste.mends.find? fun m => m.sess == k && m.id == id with
  | none => s
  | some m =>
    match m.grains.find? fun g => g.1 == x.1 with
    | none => s
    | some (g, gid) =>
      let left := m.grains.filter fun y => y.1 != g
      let same := left.any fun y => y.2 == gid
      let vol := (s.sess k).base.1
      let ok := 8192 ≤ x.2.length && (s.grain? gid).any fun e => e.fp.isSome && e.fp == s.fingerprint e.realm e.fpalg x.2
      let left := if ok then left.filter fun y => y.2 != gid else left
      let s := { s with ste := { s.ste with mends := (s.ste.mends.map fun (y : MendReq) => if y.sess = k ∧ y.id = id then { y with grains := left } else y).filter fun y => !y.grains.isEmpty } }
      if ok then s.packMend vol g gid x.2 else if same then s else s.mendLost gid

/-- A second MEND_DATA whose tag fails (R341): its grains are not mended, and a read that waits for one fails with 0x0601. -/
def State.mendTagLost (s : State) (m : MendReq) : State :=
  let gs := m.grains.map Prod.snd
  let slots := ((s.imp.waits.filter fun w => gs.contains w.gid).map (·.slot)).eraseDups
  let s := { s with ste := { s.ste with mends := s.ste.mends.filter fun (x : MendReq) => !(x.sess == m.sess && x.id == m.id) }, imp := { s.imp with waits := s.imp.waits.filter fun (w : MendWait) => !slots.contains w.slot } }
  let s := slots.foldl (fun s n => s.finish n (.internal 0x0601)) s
  gs.foldl State.mendLost s

/-- REPL_MEND_DATA (R334, R341): payloads that match mend their grains. A record whose tag fails closes the connection, and its grains are asked for once more; the second time they are lost. [DEDUCED: notes/assumptions/53.md] -/
def execReplMendData (k : Nat) (rec : Bytes) (s : State) : Out1 :=
  match s.openRecord k .mendData rec with
  | .tag =>
    let mine := s.ste.mends.filter fun m => m.sess == k
    let s := (mine.filter (·.again)).foldl State.mendTagLost s
    let s := { s with ste := { s.ste with mends := s.ste.mends.map fun (m : MendReq) => if m.sess = k then { m with again := true } else m } }
    .next ((s.alarm .ste .tagFail 0x0601 [k]).replError k 4 true)
  | _ => .next (s.serve k .mendData rec fun b s => (mendEntries b.length (b.drop 4)).foldl (fun s x => s.takeMend k (leAt b 0 4) x) s)

/-- REPL_CLOSE (R331): the peer ends the session. -/
def execReplClose (k : Nat) (rec : Bytes) (s : State) : Out1 :=
  .next (s.serve k .close rec fun _ s => (s.raise F.STE_INT_STATUS_SESSION_DOWN).dropSess k)

/-- REPL_ERROR (R333, R334, R340): the connection closes and the session resumes later. An ERROR before the session is keyed refuses it. -/
def execReplError (k : Nat) (rec : Bytes) (s : State) : Out1 :=
  let e := s.sess k
  if e.state = .free then .next s
  else if e.keyed then .next (s.serve k .error rec fun _ s => s.replDown k true)
  else match clearBody .error rec with
    | none => .next s
    | some b =>
      let s := (s.alarm .ste .replication 0 [k, leAt b 0 2]).replDown k (s.ste.opening != some k)
      if s.ste.opening = some k then .next (({ (s.steDone none 6 0) with ste := { (s.steDone none 6 0).ste with opening := none } }).dropSess k) else .next s

/-- REPL_CONNECTION_LOSS (R339, R340). -/
def execReplConnectionLoss (k : Nat) (s : State) : Out1 := .next (s.replDown k true)

end Sys2Proof.Machine
end

