-- ==== Sys2Proof/Machine/Pldm.lean ====
section
/-! DEFINITION. Sideband monitoring over PLDM type 2 (R75, R426). -/

namespace Sys2Proof.Machine

/-- ALARM_EVENT_RESEND (R426): an alarm that the controller has not acknowledged goes out again, 1 s after it was last sent. [DESIGN CHOICE: notes/assumptions/75.md] -/
def execAlarmEventResend (seq : Nat) (s : State) : Out1 :=
  match Tab.find s.flt.unacked seq, Tab.find s.flt.log (seq % 65536) with
  | some t, some r =>
    if s.now < t + 1000000000 then .next s
    else .next (({ s with flt := { s.flt with unacked := Tab.put s.flt.unacked seq s.now } } : State).send (.pldmEvent seq (recBytes r)))
  | _, _ => .next s

/-- The sideband's own address (R75): the one of the SB_ADDR straps over SMBus, the one assigned dynamically over I3C. -/
def State.sidebandAddr (s : State) : Nat := if (s.fm.forme.map (·.i3c)).getD false then s.fm.i3cAddr else s.fm.pins.sbAddr

/-- Whether the head takes an MCTP message (R75): on the bus that PORTS selects, at its own address, and of the message type of PLDM, 1 in the MCTP numbering, with the PLDM type asked for. No other MCTP message type is supported. [DESIGN CHOICE: notes/assumptions/75.md] -/
def State.mctpTakes (s : State) (m : Mctp) (pldmType : Nat) : Bool :=
  m.i3c == (s.fm.forme.map (·.i3c)).getD false && m.addr == s.sidebandAddr && m.msgType == 1 && m.pldmType == pldmType

/-- PLDM_EVENT_ACK (R426): the controller acknowledges an alarm, which is no longer resent. [DESIGN CHOICE: notes/assumptions/75.md] -/
def execPldmEventAck (mctp : Mctp) (seq : Nat) (s : State) : Out1 :=
  if !s.mctpTakes mctp 2 then .next s else
  .next { s with flt := { s.flt with unacked := Tab.erase s.flt.unacked seq } }

/-- PLDM_GET_SENSOR (R426): a numeric sensor of Table 20.4. The rail voltage and the chip power are `measured`; the temperatures are those of FOR_TEMP, the energy that of GLY_BELLOWS. Any other ID is answered as an error. [DESIGN CHOICE: notes/assumptions/75.md] -/
def execPldmGetSensor (mctp : Mctp) (id measured : Nat) (s : State) : Out1 :=
  if !s.mctpTakes mctp 2 then .next s else
  match id with
  | 1 => .next (s.send (.pldmReply 3 (s.rd F.FOR_TEMP_HOT)))
  | 2 => .next (s.send (.pldmReply 3 (s.rd F.FOR_TEMP_IO)))
  | 3 => .next (s.send (.pldmReply 3 (s.rd F.FOR_TEMP_C0)))
  | 4 => .next (s.send (.pldmReply 3 (s.rd F.FOR_TEMP_C1)))
  | 5 | 6 => .next (s.send (.pldmReply 3 measured))
  | 7 => .next (s.send (.pldmReply 3 (s.energy)))
  | _ => .next (s.send (.pldmReply 5 id))

/-- PLDM_GET_STATE_SENSOR (R426): the FOR_MODE code (sensor 8) or the time quality (sensor 9). -/
def execPldmGetStateSensor (mctp : Mctp) (id : Nat) (s : State) : Out1 :=
  if !s.mctpTakes mctp 2 then .next s else
  match id with
  | 8 => .next (s.send (.pldmReply 4 s.fm.mode.code))
  | 9 => .next (s.send (.pldmReply 4 (s.rd F.TIM_STATUS_QUALITY)))
  | _ => .next (s.send (.pldmReply 5 id))

end Sys2Proof.Machine
end

