-- ==== Sys2Proof/Machine/Reform.lean ====
section
/-! DEFINITION. Re-forming while running (R49 to R54, R399, R414). -/

namespace Sys2Proof.Machine

/-- The line of a forme with an ID. -/
def Forme.lineAt (f : Forme) (id : Nat) : Option FormeLine := f.lines.find? fun l => l.id == id

/-- The lanes that a forme names for a line. -/
def Forme.lanesOf (f : Forme) (id : Nat) : List (Station × Nat) :=
  ((f.lineAt id).map fun l => l.binds.flatMap fun b => b.lanes.map fun n => (b.typ, n)).getD []

/-- The lanes bound to a line now. -/
def State.boundOf (s : State) (id : Nat) : List (Station × Nat) :=
  ((s.line id).map fun l => l.lanes.map fun b => (b.typ, b.lane)).getD []

/-- The lines that a replacement changes, adds or removes, in groups that pass no lane between them, each in ascending order and the group with the lowest line first (R50). [DEDUCED: notes/assumptions/91.md] -/
def State.reformGroups (s : State) (f t : Forme) : List (List Nat) :=
  let ids := (List.range 32).filter fun id => f.lineAt id != t.lineAt id
  let passes (a b : Nat) : Bool := (s.boundOf a).any (t.lanesOf b).contains || (s.boundOf b).any (t.lanesOf a).contains
  ids.foldl (fun gs id =>
    let (touch, rest) := gs.partition fun g => g.any (passes id)
    let one := insertBy (fun a b => decide (b < a)) id (touch.flatten.foldl (fun l x => insertBy (fun a b => decide (b < a)) x l) [])
    insertBy (fun a b => decide (b.headD 0 < a.headD 0)) one rest) []

/-- The replacement becomes the forme of the active image slot, and every line runs under it (R53). An activation that is a re-form ends with it (R414). [DEDUCED: notes/assumptions/91.md] -/
def State.reformEnd (s : State) (r : ReForm) : State :=
  let b := s.activeSlot
  let s := s.setSlot b { s.slot b with forme := some r.raw }
  let s := { s with fm := { s.fm with forme := some r.target, reform := none, lines := s.fm.lines.map fun (l : Nat × RunLine) => (l.1, { l.2 with formeId := r.target.id, draining := false }) } }
  let s := s.fm.lines.foldl (fun (s : State) l => s.wr (F.FOR_LINE_FORME_ID l.1) l.2.formeId) s
  let s := (((s.wr F.FOR_FORME_ID_ID r.target.id).wr F.FOR_FORME_STATUS_VERSION r.target.version).wr F.FOR_FORME_STATUS_MIXED 0).wr F.FOR_FORME_STATUS_REFORMING 0
  if s.upd.formeOnly && s.upd.act == .mySteps then s.actEnd else s

/-- Starts a re-form with a forme that has passed its checks (R50): POWER and POLICY apply at once, and the first group drains. In Takeover the groups wait for Solo (R54). [DEDUCED: notes/assumptions/91.md] -/
def State.reformStart (s : State) (f t : Forme) (raw : Bytes) : State :=
  let now : Forme := { f with bankOk := t.bankOk, deepOk := t.deepOk, loadPct := t.loadPct, bankMin := t.bankMin, retries := t.retries, perHour := t.perHour, rebuildFloor := t.rebuildFloor, loadTest := t.loadTest, strikeHours := t.strikeHours }
  let gs := s.reformGroups f t
  let r : ReForm := ⟨t, raw, gs, s.fm.mode == .takeover⟩
  let s := if t.ignored then s.note .for_ .reservedIgnored else s
  let s := { s with fm := { s.fm with forme := some now, reform := some r } }
  if gs.isEmpty then s.reformEnd r else (s.drainNext).wr F.FOR_FORME_STATUS_REFORMING 1

/-- What R49 makes of an offered replacement on a head that runs forme `f`: a rejection reason of Table 2.7, or the forme. [DEDUCED: notes/assumptions/85.md] -/
def State.offerForme (s : State) (raw : Bytes) : Except Nat Forme :=
  match s.readForme (leAt (s.slot s.activeSlot).content 8 4) raw with
  | .error r => .error r
  | .ok t => if !t.linesOk then .error 0x0B else if (s.bindLines t t.lines []).isNone then .error 0x0C else .ok t

/-- RE_FORM_OFFER (R49, R50): a replacement forme is offered. While one runs it is refused with 0x0804; a forme that fails its checks leaves its reason in FOR_FORME_STATUS; one whose static sections differ waits for the next Forming. [DEDUCED: notes/assumptions/91.md] -/
def execReFormOffer (raw : Bytes) (s : State) : Out1 :=
  match s.fm.forme with
  | none => .next s
  | some f =>
    if !s.inMode [.joining, .paired, .solo, .takeover, .handback, .activation, .banked] then .next s
    else if s.fm.reform.isSome then .next (s.updRefuse 0x0804)
    else if s.stepWaits then .next s.wakePartner
    else match s.offerForme raw with
      | .error r => .next ((s.wr F.FOR_FORME_STATUS_REASON r).alarm .for_ .formeRejected 0 [r])
      | .ok t =>
        if t.id = f.id then .next s
        else if t.statics ≠ f.statics then
          .next ((({ s with fm := { s.fm with pendingForme := some raw } } : State).wr F.FOR_FORME_STATUS_PENDING 1).note .for_ .formePending)
        else .next (s.reformStart f t raw)

/-- Whether a job runs on a lane of a line. -/
def State.lineBusy (s : State) (id : Nat) : Bool :=
  (s.pun.running.any fun e => e.2.line == id) || (s.swg.running.any fun e => e.2.line == id) || (s.tmp.running.any fun e => e.2.line == id) ||
    (s.imp.running.any fun e => e.2.line == id) || s.prf.jobs.any fun e => e.2.line == id

/-- The placed grain jobs of a line give their clusters up and wait at the line's input. -/
def State.unplaceJobs (s : State) (id : Nat) : State :=
  (s.prf.jobs.filter fun e => e.2.line == id).foldl (fun (s : State) e =>
    let s := match e.2.lane with
      | some c => if c.kind = Kind.proof then s.stationOpen c.index none else s
      | none => s
    { s with prf := { s.prf with jobs := Tab.erase s.prf.jobs e.1, held := Tab.put s.prf.held e.1 id } }) s

/-- The Punch jobs of a line are saved at their next block boundary (R176). One for which no reserved slot is free goes back to its latest save. -/
def State.saveJobs (s : State) (id : Nat) (progress : List (Nat × Nat)) : State :=
  (s.pun.running.filter fun e => e.2.line == id).foldl (fun (s : State) e =>
    (s.setAside e.1 progress 0).getD (s.jobOff ⟨Kind.punch, e.1⟩)) s

/-- The jobs of a line of kind 4 to 6 stop at their checkpoint (R51): Punch saves its contexts (R176), a placed grain job gives its cluster up, and the others wait again at the front of their queues. [DEDUCED: notes/assumptions/91.md] -/
def State.stopJobs (s : State) (id : Nat) (progress : List (Nat × Nat)) : State :=
  let s := (s.unplaceJobs id).saveJobs id progress
  let sw := (s.swg.running.filter fun e => e.2.line == id).map fun e => ((swageStation e.2.op).cluster e.1, e.2)
  let tm := (s.tmp.running.filter fun e => e.2.line == id).map fun e => (e.1 / 4, { e.2 with started := false, counter := 0 })
  let im := (s.imp.running.filter fun e => e.2.line == id).map Prod.snd
  { s with
    swg := { s.swg with running := s.swg.running.filter fun e => e.2.line != id, queued := sw ++ s.swg.queued }
    tmp := { s.tmp with running := s.tmp.running.filter fun e => e.2.line != id, queued := tm ++ s.tmp.queued }
    imp := { s.imp with running := s.imp.running.filter fun e => e.2.line != id, queued := im ++ s.imp.queued } }

/-- Work that waits for line `a` waits for line `b` instead (R52). [DEDUCED: notes/assumptions/91.md] -/
def State.moveWork (s : State) (a b : Nat) : State :=
  let go (n : Nat) : Nat := if n = a then b else n
  { s with
    prf := { s.prf with held := s.prf.held.map fun e => (e.1, go e.2) }
    pun := { s.pun with queued := s.pun.queued.map (fun e => (e.1, { e.2 with line := go e.2.line })), aside := s.pun.aside.map (fun e => (e.1, { e.2 with line := go e.2.line })), slots := s.pun.slots.map fun e => (e.1, { e.2 with line := go e.2.line }) }
    swg := { s.swg with queued := s.swg.queued.map fun e => (e.1, { e.2 with line := go e.2.line }) }
    tmp := { s.tmp with queued := s.tmp.queued.map (fun e => (e.1, { e.2 with line := go e.2.line })), held := s.tmp.held.map fun e => (e.1, { e.2 with line := go e.2.line }) }
    imp := { s.imp with queued := s.imp.queued.map fun j => { j with line := go j.line } } }

/-- The lowest-numbered cluster in which a line has a lane of a station type; the given one when it has one there. -/
def State.nearCluster (s : State) (t : Station) (id cluster : Nat) : Nat :=
  match s.line id with
  | none => cluster
  | some l => if !(l.lanesIn t cluster).isEmpty then cluster else (l.clusters [t]).headD cluster

/-- Moves a save slot to a cluster that still has a core of its line (R176), with the jobs that name it. -/
def State.moveSlot (s : State) (x : Nat) : State :=
  match Tab.find s.pun.slots x with
  | none => s
  | some v =>
    let c := s.nearCluster .punch v.line (x / 256)
    if c = x / 256 then s
    else match s.slotFree c with
      | none => s
      | some k =>
        let fix (e : Nat × PunchJob) : Nat × PunchJob :=
          if e.1 = x / 256 ∧ e.2.second = some x then (c, { e.2 with second := some k })
          else if e.1 = x / 256 ∧ !e.2.isFirst ∧ e.2.line = v.line ∧ e.2.slot = x % 256 then (if e.2.second.isSome then e.1 else c, { e.2 with slot := k % 256 })
          else e
        { s with pun := { s.pun with slots := Tab.put (Tab.erase s.pun.slots x) k v, queued := s.pun.queued.map fix, aside := s.pun.aside.map fix } }

/-- Queued jobs whose cluster has no lane of their line any more go to the lowest-numbered cluster that has one. [DEDUCED: notes/assumptions/91.md] -/
def State.moveQueues (s : State) : State :=
  let s := ((s.pun.slots.filter fun e => !e.2.preempted) ++ (s.pun.slots.filter fun e => e.2.preempted)).foldl (fun (s : State) e => s.moveSlot e.1) s
  { s with
    pun := { s.pun with queued := s.pun.queued.map fun e => if e.2.isFirst then (s.nearCluster .punch e.2.line e.1, e.2) else e }
    swg := { s.swg with queued := s.swg.queued.map fun e => (s.nearCluster (swageStation e.2.op) e.2.line e.1, e.2) }
    tmp := { s.tmp with queued := s.tmp.queued.map fun e => (s.nearCluster .temper e.2.line e.1, e.2) } }


/-- Rebinds the lines of a group (R46, R50, R52): lanes that are out, or that a line outside the group holds, are replaced; where none is left the line runs with fewer. [DEDUCED: notes/assumptions/91.md] -/
def State.rebind (s : State) (t : Forme) (g : List Nat) : State :=
  let old := (g.flatMap s.boundOf).filterMap fun b => if b.1.kind = 8 then some b.2 else none
  let ls := t.lines.filter fun l => g.contains l.id
  let others := s.fm.lines.filter fun l => !g.contains l.1
  let keep := others.flatMap fun l => l.2.lanes.map fun b => (b.typ, b.lane)
  let free (b : Bind) : Bind := { b with mask := ((maskBits b.mask).filter fun i => let n := b.typ.laneAt b.cluster i; !s.isOut b.typ.kind n && !keep.contains (b.typ, n)).foldl (fun m i => m + 2 ^ i) 0 }
  let loose := ls.map fun l => { l with binds := l.binds.map free }
  let (new, moved) := ((s.bindLines t ls keep).orElse fun _ => s.bindLines t loose keep).getD ([], [])
  let gone := g.filterMap fun id => match s.line id with
    | some l => if (t.lineAt id).any fun x => x.kind == l.kind then none else some (id, l.kind)
    | none => none
  let s := { s with fm := { s.fm with lines := new.foldl (fun a l => Tab.put a l.1 l.2) others } }
  let s := gone.foldl (fun (s : State) x => match s.fm.lines.find? fun l => l.2.kind == x.2 with
    | some l => s.moveWork x.1 l.1
    | none => s) s
  let s := g.foldl (fun (s : State) id => s.wr (F.FOR_LINE_FORME_ID id) (((s.line id).map (·.formeId)).getD 0)) s
  let s := moved.foldl (fun (s : State) m => s.logRec (Kind.source m.1.kind) 2 .laneReplaced 0 ⟨m.1.kind, m.2.1⟩ [m.2.2]) s
  { s with swg := { s.swg with streams := s.swg.streams.map fun e => (e.1, if e.2.lane.any fun n => old.contains n then { e.2 with lane := none } else e.2) } }

/-- LINE_GROUP_DRAINED (R51 to R53): the jobs of the group's lines of kind 0 to 3 have ended and the others stop at their checkpoints; the group is rebound and resumes, and the next group drains. After the last group the replacement is the forme of the active slot. `progress` gives the bytes that Punch cores have taken in of their segments, `bad` the save slots that fail their check when they are read. [DEDUCED: notes/assumptions/91.md] -/
def execLineGroupDrained (progress : List (Nat × Nat)) (bad : List Nat) (s : State) : Out1 :=
  match s.fm.reform with
  | none => .next s
  | some r =>
    match r.groups with
    | [] => .next s
    | g :: rest =>
      if r.suspended || (s.inGuard && !g.any fun id => (s.line id).any (·.draining)) || g.any fun id => ((s.lineKind id).any fun k => decide (k < 4)) && s.lineBusy id then .next s
      else
        let s := g.foldl (fun (s : State) id => if (s.lineKind id).any fun k => decide (4 ≤ k) then s.stopJobs id progress else s) s
        let s := (s.rebind r.target g).moveQueues
        let r := { r with groups := rest }
        let s := { s with fm := { s.fm with reform := some r } }
        if rest.isEmpty then .next ((s.reformEnd r).kickAll progress bad)
        else .next (((s.drainNext).wr F.FOR_FORME_STATUS_MIXED (bit (decide (1 < (s.fm.lines.map fun l => l.2.formeId).eraseDups.length)))).kickAll progress bad)

end Sys2Proof.Machine
end

