-- ==== Sys2Proof/Machine/Update.lean ====
section
/-! DEFINITION. Firmware update: transfers, the staging lease, commits, activation, confirmation and Recovery (R73, R384, R407 to R419). -/

namespace Sys2Proof.Machine

/-- Claims the lease for a source and holder, or finds it held by them (R410, R412): 0x0803 under an owner lock at either head, 0x0804 when another holds it or UPD_CTRL.ENABLE is 0. [DEDUCED: notes/assumptions/66.md] -/
def State.leaseFor (s : State) (source holder : Nat) (peerLock : Bool) : Status × State :=
  match s.upd.lease with
  | some l => if l.source = source ∧ l.holder = holder then (0, s) else (0x0804, s)
  | none =>
    if s.on F.UPD_CTRL_OWNER_LOCK || peerLock then (0x0803, s)
    else if !s.on F.UPD_CTRL_ENABLE then (0x0804, s)
    else (0, { s with upd := { s.upd with lease := some ⟨source, holder, s.now⟩ } })

/-- The lease has made progress (R411). [DEDUCED: notes/assumptions/66.md] -/
def State.progress (s : State) : State := { s with upd := { s.upd with lease := s.upd.lease.map fun (l : Lease) => { l with since := s.now } } }

/-- How far the fragments of a block reach from its first byte without a gap. -/
def reach (frags : List (Nat × Bytes)) : Nat :=
  let order := frags.foldl (fun l f => insertBy (fun (a b : Nat × Bytes) => decide (b.1 < a.1)) f l) []
  order.foldl (fun r f => if f.1 ≤ r then max r (f.1 + f.2.length) else r) 0

/-- The bytes of a block from its fragments. [DEDUCED: notes/assumptions/67.md] -/
def joinFrags (frags : List (Nat × Bytes)) : Bytes := frags.foldl (fun b f => overlay b f.1 f.2) []

/-- The length of framed block k for a content length (R407). -/
def frameLen (content k : Nat) : Nat := if blockContent * (k + 1) ≤ content then 65536 else content - blockContent * k + 4

/-- The content length, from block 0 or from what has arrived of it (Table 19.1). -/
def State.contentLen (s : State) (b : Bool) : Option Nat :=
  let part := Tab.get [] s.upd.parts 0
  match Tab.find (s.slot b).blocks 0 with
  | some x => some (leAt x 0x10 4)
  | none => if 0x14 ≤ reach part then some (leAt (joinFrags part) 0x10 4) else none

/-- Checks block k once all its bytes have arrived (R407): a good block goes to the slot, and one that fails is missing again. The status is 0x0806 when it fails. [DEDUCED: notes/assumptions/67.md] -/
def State.closeBlock (s : State) (b : Bool) (k : Nat) : Status × State :=
  let frags := Tab.get [] s.upd.parts k
  let len := match s.contentLen b with
    | some n => if n ≤ blockContent * k then 0 else frameLen n k
    | none => 65536
  if frags.isEmpty || len == 0 || decide (reach frags < len) then (0, s)
  else
    let x := (joinFrags frags).take len
    let s := { s with upd := { s.upd with parts := Tab.erase s.upd.parts k } }
    if blockOk x then (0, (s.setSlot b { s.slot b with blocks := Tab.put (s.slot b).blocks k x, verified := false }).progress) else (0x0806, s)

/-- Takes bytes of an image at a transfer offset (R407, R410): the first transfer claims the lease; without a lease an offset other than 0 is 0x0809. A transfer at offset 0 to a slot that holds a verified image begins a new one. When the last missing block is there, verification begins. [DEDUCED: notes/assumptions/66.md] -/
def State.takeTransfer (s : State) (source holder off : Nat) (data : Bytes) (peerLock : Bool) : Status × State :=
  if s.upd.lease.isNone ∧ off ≠ 0 then (0x0809, s)
  else match s.leaseFor source holder peerLock with
    | (0, s) =>
      let b := s.stagingSlot
      let s := if off = 0 ∧ (s.slot b).verified then s.setSlot b {} else s
      let s := if (s.slot b).blocks.isEmpty && off == 0 then { s with upd := { s.upd with parts := [], partnerStaged := false, verdict := none, fail := none, relayed := none } } else s
      let s := { s with upd := { s.upd with stage := .downloading } }
      let n := data.length
      let first := off / 65536
      let ks := if n = 0 then [] else ((List.range ((off + n - 1) / 65536 - first + 1)).map (first + ·)).filter (· < 8191)
      let s := ks.foldl (fun (s : State) k =>
        let lo := max off (65536 * k)
        let hi := min (off + n) (65536 * (k + 1))
        let frag := (lo - 65536 * k, slice data (lo - off) (hi - lo))
        { s with upd := { s.upd with parts := Tab.put s.upd.parts k (Tab.get [] s.upd.parts k ++ [frag]) } }) s
      let again := if ks.contains 0 then s.upd.parts.map Prod.fst else ks
      let (st, s) := again.foldl (fun (a : Status × State) k => let r := a.2.closeBlock b k; (if r.1 = 0 then a.1 else r.1, r.2)) (0, s)
      let x := s.slot b
      let s := if x.blockCount.isSome && x.missing == 0 && !x.verified then { s with upd := { s.upd with stage := .verifying } } else s
      (st, s)
    | (st, s) => (st, s)

/-- Records how a request ended (R412). -/
def State.updAnswer (s : State) (st : Status) : State := if st = 0 then s.wr F.UPD_STATUS_STATUS 0 else s.updRefuse st

/-- The update source and holder of a command in a task slot (Table 19.3). -/
def State.nvmeHolder (s : State) (t : Task) : Nat × Nat := if isInbound t.ctx then (3, s.peer) else (0, (s.ctx t.ctx).cntlid)

/-- Ends an NVMe update command with an internal status. -/
def State.updFinish (s : State) (slot : Nat) (st : Status) : State := s.finish slot (if st = 0 then .success else .internal st)

/-- Gets the data of an update command to this head: from the buffer `buf` over PCIe, by an RDMA READ over RoCEv2. -/
def State.adminData (s : State) (slot : Nat) (buf : Bytes) : State :=
  let s := s.hostBuffer slot buf
  match s.task? slot with
  | some t => if (s.ctx t.ctx).transport == Transport.roce && !t.complete && t.state == .fetched then (s.setTask slot { t with state := .held }).rdmaGo slot else s
  | none => s

/-- FW_IMAGE_DOWNLOAD (R407, R410, R412): once its bytes are here they are taken. A block that fails its check does not fail the command. [DEDUCED: notes/assumptions/66.md] -/
def execFwImageDownload (slot : Nat) (buf : Bytes) (peerLock : Bool) (s : State) : Out1 :=
  match s.adminTask slot .fwDownload with
  | none => .next s
  | some _ =>
    let s := s.adminData slot buf
    match s.adminTask slot .fwDownload with
    | none => .next s
    | some t =>
      if !t.complete then .next s
      else if s.stepWaits then .next s.wakePartner
      else
        let (src, holder) := s.nvmeHolder t
        let (st, s) := s.takeTransfer src holder ((t.cmd.ranges.headD (0, 0)).1) t.data peerLock
        .next ((s.updAnswer st).updFinish slot (if st = 0x0806 then 0 else st))

/-- The checks of Table 19.4 for an activation: `peerMoving` says that the partner rebuilds, reshapes or resyncs, `peerLock` that its owner lock is set. [DEDUCED: notes/assumptions/69.md] -/
def State.actCheck (s : State) (peerMoving peerLock : Bool) : Status :=
  let down (b : Bool) : Bool := s.bundleState b != 2 && s.bundleState b != 3
  let p := s.gly.peer
  if peerMoving || s.imp.rebuild.isSome || s.imp.reshape.isSome || s.gly.mirroring then 0x0801
  else if 96 * s.energy < s.eReq then 0x0802
  else if s.on F.UPD_CTRL_OWNER_LOCK || peerLock then 0x0803
  else if s.fm.mode ≠ .paired || s.rd F.ANV_PAIR_PEER_MODE ≠ 4 || down false || down true || !s.anv.taken.isEmpty || !s.anv.ctl.taken.isEmpty || !p.seen || decide (p.e < p.req) then 0x0805
  else 0

/-- Whether the staged image differs from the running one in its forme alone, with unchanged static sections (R414). [DEDUCED: notes/assumptions/69.md] -/
def State.onlyForme (s : State) : Bool :=
  let c := (s.slot s.stagingSlot).content
  let old := (s.slot s.activeSlot).content
  let rest (c : Bytes) : List (Nat × Bytes × Bytes) := ((manifestParts c).filter fun p => byteAt p 0 != 5).map fun p => (byteAt p 0, slice p 0x18 16, slice p 0x28 48)
  rest c == rest old &&
    match s.readForme (leAt c 8 4) (imageForme c), s.fm.forme with
    | .ok t, some f => t.statics == f.statics
    | _, _ => false

/-- Whether a verified image is staged. -/
def State.hasStaged (s : State) : Bool := (s.upd.stage == .staged || s.upd.stage == .relaying) && (s.slot s.stagingSlot).verified

/-- Asks for an activation (R417): the checks are made, and Update Compare is sent. -/
def State.actRequest (s : State) (peerMoving peerLock : Bool) : Status × State :=
  if !s.hasStaged then (s.upd.verdict.getD 0x0807, s)
  else match s.actCheck peerMoving peerLock with
    | 0 => (0, State.relayStart { s with upd := { s.upd with want := true } } s.stagingSlot [.compare])
    | st => (st, s)

/-- The steps of one head's activation begin (R417 step 1, R118), or its re-form (R414). -/
def State.actBegin (s : State) : State :=
  let s := { s with upd := { s.upd with act := .mySteps, stage := .activating, formeOnly := s.onlyForme } }
  if s.upd.formeOnly then
    let raw := imageForme (s.slot s.stagingSlot).content
    match s.offerForme raw, s.fm.forme with
    | .ok t, some f => if t.id = f.id then s.actEnd else s.reformStart f t raw
    | _, _ => s.actEnd
  else (s.toMode .activation).leave .activation false

/-- The pointer of a pending activation of a slot, which the next boot takes up (R415, R416); naming the running slot clears one. [DEDUCED: notes/assumptions/69.md] -/
def State.pendSlot (s : State) (b : Bool) : State :=
  match s.pointer with
  | none => s
  | some p =>
    if b = p.active then (if p.state = .pending then s.writePointer { p with state := .confirmed } else s)
    else s.writePointer { p with state := .pending, pendingSlot := b, hashOther := manifestHash (s.slot b).content }

/-- The partner carries out a commit action first; the answer is none until it has. [DEDUCED: notes/assumptions/68.md] -/
def State.partnerCommit (s : State) (action n : Nat) : Option Status × State :=
  match s.upd.fail, s.upd.relayed with
  | some st, _ => (some st, { s with upd := { s.upd with fail := none } })
  | none, some a =>
    if a = action then (some 0, { s with upd := { s.upd with relayed := none } })
    else (none, if s.upd.relay.isNone then State.relayStart { s with upd := { s.upd with relayed := none } } s.stagingSlot [.commit action n] else s)
  | none, none => (none, if s.upd.relay.isNone then s.relayStart s.stagingSlot [.commit action n] else s)

/-- Staging is complete (R413): this head has verified the image, and its partner holds it. The answer is none until then. [DEDUCED: notes/assumptions/67.md] -/
def State.stageCommit (s : State) (source : Nat) : Option Status × State :=
  let x := s.slot s.stagingSlot
  match s.upd.stage with
  | .idle => (some (s.upd.verdict.getD 0x0807), s)
  | .verifying => (none, s)
  | .downloading => (some (s.upd.verdict.getD 0x0806), s)
  | _ =>
    if source = 3 ∨ s.upd.partnerStaged then (some 0, s)
    else match s.upd.fail with
      | some st => (some st, { s with upd := { s.upd with fail := none } })
      | none => (none, if s.upd.relay.isNone && s.paired then State.relayStart { s with upd := { s.upd with stage := .relaying } } s.stagingSlot x.relayCmds else s)

/-- A commit action from a source (R73, R410, R416, R417): the status it ends with, or none while it is still going on. `n` is the NVMe slot that action 2 names. [DEDUCED: notes/assumptions/68.md; DESIGN CHOICE: notes/assumptions/106.md] -/
def State.commit (s : State) (source holder action n : Nat) (peerMoving peerLock : Bool) : Option Status × State :=
  match s.leaseFor source holder peerLock with
  | (0, s) =>
    (match action with
    | 0 => s.stageCommit source
    | 1 =>
      (match s.stageCommit source with
      | (some 0, s) =>
        if s.on F.UPD_CTRL_OWNER_LOCK || peerLock then (some 0x0803, s)
        else if source = 3 then (some 0, s.pendSlot s.stagingSlot)
        else if !s.paired then (some 0x0805, s)
        else (match s.partnerCommit 1 n with
          | (some 0, s) => (some 0, s.pendSlot s.stagingSlot)
          | r => r)
      | r => r)
    | 2 =>
      let b := n == 2
      if s.on F.UPD_CTRL_OWNER_LOCK || peerLock then (some 0x0803, s)
      else if b ≠ s.activeSlot ∧ !(s.slot b).verified then (some 0x0807, s)
      else if source = 3 then (some 0, s.pendSlot b)
      else if !s.paired then (some 0x0805, s)
      else (match s.partnerCommit 2 n with
        | (some 0, s) => (some 0, s.pendSlot b)
        | r => r)
    | 3 =>
      if source = 3 then
        (if s.upd.act ≠ .none then (if s.upd.formeOnly then none else some 0, s)
        else if !s.hasStaged then
          (if (s.fm.forme.map (·.id)) = some (leAt (imageForme (s.slot s.stagingSlot).content) 8 8) then some 0 else some 0x0807, s)
        else
          let s := s.actBegin
          (if s.upd.formeOnly ∧ s.upd.act ≠ .none then none else some 0, s))
      else if s.upd.act ≠ .none then (some 0, s)
      else if s.upd.want then (none, s)
      else (match s.upd.fail with
        | some st => (some st, { s with upd := { s.upd with fail := none } })
        | none => (match s.actRequest peerMoving peerLock with
          | (0, s) => (none, s)
          | (st, s) => (some st, s)))
    | _ => (some 0x0807, s))
  | (st, s) => (some st, s)

/-- A Firmware Commit of one action: it is held until its action has ended. [DEDUCED: notes/assumptions/68.md] -/
def State.fwCommit (s : State) (slot action : Nat) (peerMoving peerLock : Bool) : State :=
  match s.adminTask slot .fwCommit with
  | none => s
  | some t =>
    let (a, n) := t.cmd.ranges.headD (0, 0)
    if a ≠ action then s
    else if s.stepWaits then (s.setTask slot { t with state := .held }).wakePartner
    else
      let (src, holder) := s.nvmeHolder t
      match s.commit src holder action n peerMoving peerLock with
      | (some st, s) => (s.updAnswer st).updFinish slot st
      | (none, s) => s.modTask slot fun t => { t with state := .held }

/-- FW_COMMIT_STAGE (R73, R413): action 0. -/
def execFwCommitStage (slot : Nat) (peerMoving peerLock : Bool) (s : State) : Out1 := .next (s.fwCommit slot 0 peerMoving peerLock)

/-- FW_COMMIT_STAGE_ACTIVATE (R73, R416): action 1. -/
def execFwCommitStageActivate (slot : Nat) (peerMoving peerLock : Bool) (s : State) : Out1 := .next (s.fwCommit slot 1 peerMoving peerLock)

/-- FW_COMMIT_ACTIVATE_SLOT (R73, R416): action 2. -/
def execFwCommitActivateSlot (slot : Nat) (peerMoving peerLock : Bool) (s : State) : Out1 := .next (s.fwCommit slot 2 peerMoving peerLock)

/-- FW_COMMIT_ACTIVATE_NOW (R73, R417): action 3. From a host it ends when the activation has started. -/
def execFwCommitActivateNow (slot : Nat) (peerMoving peerLock : Bool) (s : State) : Out1 := .next (s.fwCommit slot 3 peerMoving peerLock)

/-- UPDATE_COMPARE (R413): on a relay channel, bit 0 of dword 0 says that the hash is that of the staged image and bit 1 that it is that of the active one. A host's command is Invalid Command Opcode. -/
def execUpdateCompare (slot : Nat) (s : State) : Out1 :=
  match s.adminTask slot .updateCompare with
  | none => .next s
  | some t =>
    if !isInbound t.ctx then .next (s.finish slot .invalidOpcode)
    else if !t.complete then .next s
    else
      let hash (b : Bool) : Bytes := manifestHash (s.slot b).content
      let b0 := s.hasStaged && t.data == hash s.stagingSlot
      let b1 := t.data == hash s.activeSlot
      .next ((s.modTask slot fun t => { t with dword0 := bit b0 + 2 * bit b1 }).finish slot .success)

/-- IMAGE_BLOCK_ARRIVAL (R407, R410): bytes of an image from a source of Table 19.3. [DEDUCED: notes/assumptions/66.md] -/
def execImageBlockArrival (source holder off : Nat) (data : Bytes) (peerLock : Bool) (s : State) : Out1 :=
  if s.stepWaits then .next s.wakePartner
  else
    let (st, s) := s.takeTransfer source holder off data peerLock
    .next (s.updAnswer st)

/-- LEASE_EXPIRY (R411): 30 minutes without progress; not while an activation goes on. -/
def execLeaseExpiry (s : State) : Out1 :=
  match s.upd.lease with
  | none => .next s
  | some l => if s.now < l.since + 30 * 60000000000 ∨ (s.upd.act ≠ .none ∧ s.upd.act ≠ .returning) then .next s else .next s.leaseEnd

/-- IMAGE_VERIFY_DONE (R409, R412): verification of a complete image ends. The Anvil major of a partner in service is checked last. Over PLDM a failure is a VerifyResult other than 0. [DEDUCED: notes/assumptions/67.md] -/
def execImageVerifyDone (s : State) : Out1 :=
  if s.upd.stage ≠ .verifying then .next s
  else if s.stepWaits then .next s.wakePartner
  else
    let b := s.stagingSlot
    let x := s.slot b
    let major := if s.paired then s.anv.join.peer.map fun h => h.version / 256 else none
    let st := s.verifyImage x major
    let pldm := s.upd.lease.any fun l => l.source == 2
    let s := if pldm then s.send (.pldmReply 1 (bit (st != 0))) else s
    if st = 0 then
      let s := { (s.setSlot b { x with verified := true }) with upd := { (s.setSlot b { x with verified := true }).upd with stage := .staged, verdict := none } }
      let s := (s.progress).updAnswer 0
      .next (if s.upd.lease.any fun l => l.source == 3 then s.raise F.UPD_INT_STATUS_STAGED else s)
    else .next (({ s with upd := { s.upd with stage := .downloading, verdict := some st } } : State).updAnswer st)

/-- IMAGE_RELAY (R413): the verified image goes to the partner as forwarded admin commands. -/
def execImageRelay (s : State) : Out1 :=
  if !s.hasStaged || s.upd.relay.isSome || s.upd.lease.isNone || !s.paired then .next s
  else if s.stepWaits then .next s.wakePartner
  else .next ((State.relayStart { s with upd := { s.upd with stage := .relaying } } s.stagingSlot (s.slot s.stagingSlot).relayCmds).progress)


/-- ACTIVATION_START (R417, R412, R67): Update Compare has reported the same staged hash and the checks pass again, so the partner is told to activate first. [DEDUCED: notes/assumptions/69.md] -/
def execActivationStart (peerMoving peerLock : Bool) (s : State) : Out1 :=
  if !s.upd.want || s.upd.relay.isSome then .next s
  else if s.stepWaits then .next s.wakePartner
  else
    let same := s.upd.compared.any fun c => c.1
    let st := if !same then s.upd.fail.getD 0x0804 else s.actCheck peerMoving peerLock
    let s := { s with upd := { s.upd with want := false } }
    if st ≠ 0 then .next (({ s with upd := { s.upd with fail := some st } } : State).updRefuse st)
    else
      let s := s.asyncAll .fwActivation
      let s := { s with upd := { s.upd with act := .peerFirst, initiator := true, stage := .activating, formeOnly := s.onlyForme, relayed := none } }
      .next (s.progress.relayStart s.stagingSlot [.commit 3 0])

/-- ACTIVATION_HEAD_RESET (R417 steps 2 and 3, R415): everything is handed over and posted, PARK is sent, the pointer is written with STATE 1, and the head resets. The lease of a pair's activation outlasts this reset. [DEDUCED: notes/assumptions/69.md] -/
def execActivationHeadReset (s : State) : Out1 :=
  if s.pwr.entry ≠ some .activation ∨ !s.handedOver then .next s
  else
    let b := s.stagingSlot
    let moved := !s.pwr.bankList.isEmpty
    let s := s.parkNow
    let p : Pointer := { seq := 0, active := b, state := .trial, trials := 0, pendingSlot := false, hashActive := manifestHash (s.slot b).content, hashOther := manifestHash (s.slot !b).content }
    let lease := s.upd.lease
    let first := s.upd.initiator
    let s := (({ s with upd := { s.upd with stage := .idle } } : State).writePointer p).reboot 4
    if s.fm.mode = .forming then .next { s with upd := { s.upd with lease := lease, act := .returning, initiator := first, moved := moved } } else .next s

/-- ACTIVATION_NEXT_HEAD (R417): the partner is back, so Update Compare is sent; when it reports the new image as the partner's active one and the checks pass, this head takes its own steps, and waits otherwise. A partner that fell back ends the activation. [DEDUCED: notes/assumptions/69.md] -/
def execActivationNextHead (peerMoving peerLock : Bool) (s : State) : Out1 :=
  let mine := s.upd.initiator && (s.upd.act == .peerFirst || s.upd.act == .waitingSecond)
  if !mine || s.upd.relay.isSome || s.fm.mode != .paired || s.anv.handback.isSome || !s.anv.taken.isEmpty then .next s
  else if s.stepWaits then .next s.wakePartner
  else
    let wait (s : State) : State :=
      if s.upd.act = .waitingSecond then s else { s with upd := { s.upd with act := .waitingSecond, stage := .waiting, waitFrom := s.now } }
    let go (s : State) : State :=
      if s.actCheck peerMoving peerLock = 0 then (State.actBegin { s with upd := { s.upd with compared := none } }) else wait s
    if s.upd.formeOnly then (if s.upd.relayed = some 3 then .next (go s) else .next s)
    else match s.upd.compared with
      | none => .next (s.relayStart s.stagingSlot [.compare])
      | some (_, true) => .next (go s)
      | some (_, false) =>
        let s := (s.alarm .upd .activationMismatch).raise F.UPD_INT_STATUS_MISMATCH
        .next (State.leaseEnd { s with upd := { s.upd with act := .none, initiator := false, stage := .staged } })

/-- ACTIVATION_WAIT_ALARM (R417): the second head has waited 24 h. -/
def execActivationWaitAlarm (s : State) : Out1 :=
  if s.upd.act = .waitingSecond ∧ s.upd.waitFrom + 24 * 3600000000000 ≤ s.now then .next (s.alarm .upd .activationWait) else .next s

/-- The running image confirms itself (R416). [DEDUCED: notes/assumptions/71.md] -/
def State.confirmImage (s : State) : State :=
  match s.pointer with
  | some p => ((s.writePointer { p with state := .confirmed }).raise F.UPD_INT_STATUS_CONFIRMED).note .upd .confirmed
  | none => s

/-- CONFIRM_TIMER (R416). [DEDUCED: notes/assumptions/71.md] -/
def execConfirmTimer (s : State) : Out1 :=
  let m := s.rd F.UPD_CONFIRM_MINUTES
  if !s.onTrial || m == 0 || !s.inMode [.paired, .solo] || decide (s.now < s.upd.confirmFrom + m * 60000000000) then .next s
  else .next s.confirmImage

/-- Ends an update command of UPD_CMD. -/
def State.updResult (s : State) (code : Nat) : State := s.wr F.UPD_CMD_RESULT code

/-- UPD_CMD 1 (R416). -/
def execUpdConfirmCmd (s : State) : Out1 := if s.onTrial then .next (s.confirmImage.updResult 0) else .next (s.updResult 2)

/-- UPD_CMD 2 (R411): an activation that this head has not begun itself ends with its lease. -/
def execUpdReleaseCmd (s : State) : Out1 :=
  let s := if s.upd.act = .mySteps then s else { s with upd := { s.upd with act := .none, initiator := false } }
  .next (s.leaseEnd.updResult 0)

/-- UPD_CMD 3 (R413): the active image goes to the partner. -/
def execUpdRelayCmd (s : State) : Out1 :=
  if s.stepWaits then .next s.wakePartner
  else if !s.paired then .next ((s.updRefuse 0x0805).updResult 1)
  else if s.upd.relay.isSome then .next ((s.updRefuse 0x0804).updResult 1)
  else .next ((s.relayStart s.activeSlot (s.slot s.activeSlot).relayCmds).updResult 0)

/-- UPD_CMD 4 (R417). -/
def execUpdActivateCmd (peerMoving peerLock : Bool) (s : State) : Out1 :=
  if s.stepWaits then .next s.wakePartner
  else if !s.hasStaged then .next (s.updResult 3)
  else match s.actRequest peerMoving peerLock with
    | (0, s) => .next (s.updResult 0)
    | (st, s) => .next ((s.updRefuse st).updResult 1)

/-- UPD_CMD 5 (R419): the next reset enters Recovery. [DEDUCED: notes/assumptions/71.md] -/
def execUpdRecoveryCmd (s : State) : Out1 := .next (({ s with upd := { s.upd with recoverNext := true } } : State).updResult 0)

/-- A write of UPD_CTRL.OWNER_LOCK (R412). -/
def execOwnerLockWrite (v : Bool) (s : State) : Out1 := .next (s.wr F.UPD_CTRL_OWNER_LOCK (bit v))

/-- The most bytes of a frame at the management port (R76). -/
def mgmtFrameMax : Nat := 9216

/-- Whether the management port takes a packet (R76): PORTS enables the port, which serves Recovery without a forme, and no frame is longer than 9,216 bytes. IPv4 and IPv6 are served alike. -/
def State.mgmtTakes (s : State) (p : MgmtPkt) : Bool :=
  (s.fm.forme.map (·.mgmt)).getD true && decide (p.frame ≤ mgmtFrameMax)

/-- A packet that the management port has taken: its IP version is that of the answer. -/
def State.mgmtTaken (s : State) (p : MgmtPkt) : State := { s with fm := { s.fm with mgmtIpv6 := p.ipv6 } }

/-- TFTP_IMAGE_WRITE (R76, R410, R412): a write of file "image" at the management port, from an address whose low 16 bits are `ip`. -/
def execTftpImageWrite (pkt : MgmtPkt) (ip off : Nat) (data : Bytes) (peerLock : Bool) (s : State) : Out1 :=
  if !s.mgmtTakes pkt then .next s
  else if s.stepWaits then .next s.wakePartner
  else
    let s := s.mgmtTaken pkt
    let (st, s) := s.takeTransfer 1 ip off data peerLock
    .next ((s.updAnswer st).send (.tftpReply (st == 0 || st == 0x0806) (if st = 0x0806 then 0 else st)))

/-- TFTP_COMMIT_WRITE (R410, R412): a write of file "commit"; the answer comes when the action has ended. A commit file names no slot, so action 2 takes the staging slot. [DEDUCED: notes/assumptions/67.md] -/
def execTftpCommitWrite (pkt : MgmtPkt) (ip action : Nat) (peerMoving peerLock : Bool) (s : State) : Out1 :=
  if !s.mgmtTakes pkt then .next s
  else if s.stepWaits then .next s.wakePartner
  else match (s.mgmtTaken pkt).commit 1 ip action (1 + bit s.stagingSlot) peerMoving peerLock with
    | (some st, s) => .next ((s.updAnswer st).send (.tftpReply (st == 0) st))
    | (none, s) => .next s

/-- PLDM_REQUEST_UPDATE (R412): claims the lease; ALREADY_IN_UPDATE_MODE (0x81) while another source holds it, ERROR under an owner lock. [DEDUCED: notes/assumptions/67.md] -/
def execPldmRequestUpdate (mctp : Mctp) (eid : Nat) (peerLock : Bool) (s : State) : Out1 :=
  if !s.mctpTakes mctp 5 then .next s else
  let (st, s) := s.leaseFor 2 eid peerLock
  .next ((s.updAnswer st).send (.pldmReply 0 (if st = 0 then 0 else if st = 0x0804 then 0x81 else 1)))

/-- PLDM_ACTIVATE_FIRMWARE (R412, R417): starts the activation, or is refused with ERROR. -/
def execPldmActivateFirmware (mctp : Mctp) (eid : Nat) (peerMoving peerLock : Bool) (s : State) : Out1 :=
  if !s.mctpTakes mctp 5 then .next s
  else if s.stepWaits then .next s.wakePartner
  else
    let (st, s) := match s.leaseFor 2 eid peerLock with
      | (0, s) => s.actRequest peerMoving peerLock
      | r => r
    .next ((s.updAnswer st).send (.pldmReply 2 (bit (st != 0))))

/-- The framed blocks of an image as a stream of bytes (R407). -/
def framesOf : Nat → Nat → Bytes → Tab Bytes
  | 0, _, _ => []
  | fuel + 1, k, b => if b.isEmpty then [] else (k, b.take 65536) :: framesOf fuel (k + 1) (b.drop 65536)

/-- A received image in Recovery (R419): it goes to the slot that the pointer does not name as ACTIVE, is verified without the partner check, and a pointer with that slot in STATE 1 is written before the head resets. [DEDUCED: notes/assumptions/71.md] -/
def State.recoverWith (s : State) (blocks : Tab Bytes) : Status × State :=
  let b := s.stagingSlot
  let x : Slot := { blocks := blocks }
  let s := s.setSlot b x
  match s.verifyImage x none with
  | 0 =>
    let other := s.slot !b
    let p : Pointer := { seq := 0, active := b, state := .trial, trials := 0, pendingSlot := false, hashActive := manifestHash x.content, hashOther := if other.verified then manifestHash other.content else zeros 48 }
    (0, ((s.setSlot b { x with verified := true }).writePointer p).reboot 4)
  | st => (st, (s.setSlot b {}).updRefuse st)

/-- RECOVERY_IMAGE (R419, R76): an image received over TFTP in Recovery; an empty one stands for the blocks that came through the mailbox of the Ohmust port. [DEDUCED: notes/assumptions/71.md] -/
def execRecoveryImage (pkt : MgmtPkt) (data : Bytes) (s : State) : Out1 :=
  if s.fm.mode ≠ .recovery ∨ (!data.isEmpty ∧ !s.mgmtTakes pkt) then .next s
  else
    let s := if data.isEmpty then s else s.mgmtTaken pkt
    let fromBox := data.isEmpty
    let blocks := if fromBox then s.fm.ohm.box else framesOf 8192 0 data
    let (st, s) := s.recoverWith blocks
    .next (if fromBox then s else s.send (.tftpReply (st == 0) st))

/-- The clears of a scrap-clear file, after the 16-byte ID and a 4-byte count: KIND and INDEX pairs, KIND in the top byte as in Table 17.2 (R419). [DEDUCED: notes/assumptions/71.md] -/
def clearPairs (b : Bytes) : List (Nat × Nat) := (List.range (leAt b 16 4)).map fun i => (byteAt b (23 + 4 * i), leAt b (20 + 4 * i) 3)

/-- SCRAP_CLEAR_FILE (R384, R419): in Recovery, a signed file for this part sets CLEAR in the named entries of both vault copies; any other file is refused. [DEDUCED: notes/assumptions/71.md] -/
def execScrapClearFile (pkt : MgmtPkt) (b : Bytes) (s : State) : Out1 :=
  if s.fm.mode ≠ .recovery ∨ !s.mgmtTakes pkt then .next s
  else
    let n := leAt b 16 4
    let len := 20 + 4 * n
    let ok := decide (1 ≤ n ∧ n ≤ 16) && b.length == len + 104 && leAt b 0 16 == s.fm.hallmark.fuses.deviceId && s.signed (b.take len) (b.drop len) &&
      (clearPairs b).all fun c => ([1, 2, 4, 6, 12] : List Nat).contains c.1
    if !ok then .next (s.send (.tftpReply false 0x0807))
    else
      let mark (t : Tab ScrapEntry) : Tab ScrapEntry := t.map fun e => (e.1, if (clearPairs b).contains (e.2.kind, e.2.index) then { e.2 with clear := true } else e.2)
      .next (({ s with flt := { s.flt with vaultA := s.flt.vaultA.map mark, vaultB := s.flt.vaultB.map mark } } : State).send (.tftpReply true 0))

end Sys2Proof.Machine
end

