-- ==== Sys2Proof/Machine/View.lean ====
section
/-! DEFINITION. What a read of a register gives (R8, R434 to R438): the fields that follow the state of their block, and every other field as it is stored. -/

namespace Sys2Proof.Machine

/-- BOUND and LINE of a station's status register, from the line that a lane is bound to. -/
def State.boundFields (s : State) (t : Station) (lane : Nat) (bound line : Field) : List (Field × Nat) :=
  let l := s.lineOfLane t lane
  [(bound, bit l.isSome), (line, l.getD 0)]

/-- Fields of FOR, STK and CHS that follow the state. -/
def State.liveFront (s : State) : List (Field × Nat) :=
  let q := s.rd F.STK_QSEL_QID
  let c := s.ctx q
  let n := s.ns (s.rd F.CHS_NS_SEL_NSID)
  [(F.FOR_ID_ORDER, s.fm.hallmark.fuses.order), (F.FOR_MODE_MODE, s.fm.mode.code), (F.FOR_MODE_PREV, s.fm.prev.code), (F.FOR_MODE_SAFE, bit s.fm.safe),
   (F.FOR_INT_PENDING_BLOCK, s.intPending), (F.FOR_EVENT_SEQ_SEQ, s.flt.eventSeq),
   (F.STK_QSTATE_STATE, c.state.code), (F.STK_QSTATE_ARB_CLASS, c.arb), (F.STK_QSTATE_DRAIN_CAUSE, c.drainCause),
   (F.STK_QSTATE_CACHED, bit (s.stk.cache.contains q)), (F.STK_QSTATE_OUTSTANDING, c.outstanding),
   (F.STK_SLOTS_IN_USE, s.slotsUsed), (F.STK_TOKENS_IN_USE, s.tokensUsed),
   (F.STK_QCOUNT_LIVE, Tab.count s.stk.ctxs fun _ x => x.state == .live || x.state == .draining),
   (F.CHS_LOCKS_IN_USE, s.locksUsed), (F.CHS_NS_STATE_STATE, n.state.code), (F.CHS_NS_STATE_OWNER, n.owner), (F.CHS_NS_STATE_CLASS, n.cls),
   (F.CHS_NS_STATE_PENDING, min 0xFFFFFF n.pending), (F.CHS_NS_BOUNDARY_BOUNDARY, n.boundary)]

/-- Fields of GLY, ANV, PRF and PUN that follow the state. -/
def State.liveData (s : State) : List (Field × Nat) :=
  let u := s.rd F.PRF_UNIT_SEL_UNIT
  let unit := Tab.get ({} : ProofUnit) s.prf.units u
  let reg := s.prf.regOpen.filter fun (r : RegStream) => r.unitNo == u
  let k := s.rd F.PUN_CORE_SEL_CORE
  let job := Tab.find s.pun.running k
  let cl := k / 6
  [(F.GLY_USED_SLOTS, s.glyUsed), (F.GLY_VAULT_RELEASED, bit s.gly.setA.released + 2 * bit s.gly.setB.released), (F.GLY_VAULT_SEQ, s.gly.dumpSeq),
   (F.ANV_PAIR_HOLDING, bit (!s.anv.taken.isEmpty)), (F.ANV_PAIR_LIST, min 0x7FFF s.anv.taken.length),
   (F.ANV_BUNDLE_UP_SEC0, s.upSec false), (F.ANV_BUNDLE_UP_SEC1, s.upSec true),
   (F.PRF_UNIT_STATUS_STATE, if s.isOut Kind.proof u then 3 else if reg.isSome then 2 else bit unit.station.isSome),
   (F.PRF_UNIT_STATUS_CHECK, match reg, unit.station with | some r, _ => r.check.code | none, some x => x.check.code | none, none => 0),
   (F.PRF_UNIT_STATUS_MISS_HOUR, min 255 (unit.misses.filter fun t => decide (s.now < t + hourNs)).length),
   (F.PUN_CORE_STATUS_STATE, if s.isOut Kind.punch k then 3 else bit job.isSome), (F.PUN_CORE_STATUS_ALG, (job.map (·.alg)).getD 0),
   (F.PUN_CORE_STATUS_KEYED, (job.map (·.keyed)).getD 0), (F.PUN_CORE_STATUS_CLASS, (job.map (·.cls)).getD 0),
   (F.PUN_SLOTS_RSV_FREE, 32 - s.rsvHeld cl), (F.PUN_SLOTS_SEG_HELD, min 255 (s.segHeld cl)),
   (F.PUN_SLOTS_FREE, 256 - (s.pun.slots.filter fun e => e.1 / 256 == cl).length)] ++
    s.boundFields .proof u F.PRF_UNIT_STATUS_BOUND F.PRF_UNIT_STATUS_LINE ++ s.boundFields .punch k F.PUN_CORE_STATUS_BOUND F.PUN_CORE_STATUS_LINE

/-- Fields of MTX and SWG that follow the state. -/
def State.liveIndex (s : State) : List (Field × Nat) :=
  let held (h : Half) : Bool := h.state != .partner
  let fill (h : Half) : Nat := if held h then h.filter.length else 0
  let left (h : Half) : Nat := if held h then Tab.count h.grains fun _ g => g.state == .deferred else 0
  let pct := if s.mtx.half0.state = .loading then s.mtx.half0.loadPct else if s.mtx.half1.state = .loading then s.mtx.half1.loadPct else 0
  let n := s.rd F.SWG_LANE_SEL_LANE
  let t : Station := if n < 40 then .swageC else .swageE
  let stream := s.swg.streams.any fun e => e.2.lane == some n
  [(F.MTX_HALF_HALF0, s.mtx.half0.state.code), (F.MTX_HALF_HALF1, s.mtx.half1.state.code), (F.MTX_HALF_LOAD_PCT, pct), (F.MTX_FILTER_SLOTS_S, s.filterSlots),
   (F.MTX_FILL_USED 0, fill s.mtx.half0), (F.MTX_FILL_USED 1, fill s.mtx.half1), (F.MTX_DEFER_LEFT_COUNT, left s.mtx.half0 + left s.mtx.half1),
   (F.MTX_ALLOC_HWM_HWM 0, s.mtx.half0.hwm), (F.MTX_ALLOC_HWM_HWM 1, s.mtx.half1.hwm),
   (F.SWG_LANE_STATUS_STATE, if s.isOut Kind.swage n then 3 else if stream then 2 else bit (Tab.find s.swg.running n).isSome),
   (F.SWG_LANE_STATUS_KIND, bit (decide (40 ≤ n)))] ++ s.boundFields t n F.SWG_LANE_STATUS_BOUND F.SWG_LANE_STATUS_LINE

/-- Fields of TMP, IMP and HTH that follow the state. -/
def State.liveMedia (s : State) : List (Field × Nat) :=
  let p := s.rd F.TMP_PAIR_SEL_PAIR
  let job := Tab.find s.tmp.running p
  let h := handle (s.rd F.TMP_KEY_SEL_REALM) (s.rd F.TMP_KEY_SEL_PURPOSE) (s.rd F.TMP_KEY_SEL_KEY_GEN)
  let key := s.keyRec h
  let ctr := s.ctr h
  let u := s.rd F.IMP_UNIT_SEL_UNIT
  let imp := Tab.find s.imp.running u
  let plates := (s.admitted.map s.freePlates).sum
  let reserve := if s.plateBytes = 0 then 0 else min plates ((s.rawBytes * 2 / 100 + s.metaBytes + s.plateBytes - 1) / s.plateBytes)
  [(F.TMP_PAIR_STATUS_STATE, if s.isOut Kind.temper p then 3 else match job with | some j => if j.started then 1 else 2 | none => 0),
   (F.TMP_PAIR_STATUS_MODE, (job.map (·.mode)).getD 0), (F.TMP_PAIR_STATUS_SLOTS, (Tab.get [] s.tmp.slots p).length),
   (F.TMP_KEYS_WRAPPED, Tab.count s.tmp.keys fun _ k => k.tier), (F.TMP_KEYS_STORE_FREE, 256 - (s.store (p / 4)).length),
   (F.TMP_KEY_STATE_EPOCH, (key.map fun k => if s.head = 0 then k.epoch0 else k.epoch1).getD 0), (F.TMP_KEY_STATE_STATE, (key.map (·.state.code)).getD 0),
   (F.TMP_KEY_STATE_WARN, bit (decide (2 ^ 60 ≤ ctr.next))), (F.TMP_KEY_STATE_EXHAUSTED, bit ctr.exhausted), (F.TMP_KEY_STATE_PRESENT, bit (key.any (·.tier))),
   (F.TMP_KEY_CTR_NEXT, ctr.next),
   (F.IMP_UNIT_STATUS_STATE, if s.isOut Kind.imposition u then 3 else match imp with | some j => if j.op = 0 then 1 else 2 | none => 0),
   (F.IMP_UNIT_STATUS_CLASS, (imp.map (·.cls)).getD 0),
   (F.IMP_LOST_CNT_MENDING, min 0xFFFF (Tab.count s.imp.lostStripes fun _ e => e.state == .mending)),
   (F.IMP_LOST_CNT_LOST, min 0xFFFF (Tab.count s.imp.lostStripes fun _ e => e.state == .lost)),
   (F.HTH_USER_U, s.hth.userC / (100 * 2 ^ 30)), (F.HTH_USER_LIVE, (s.liveScaled + widthScale * 2 ^ 30 - 1) / (widthScale * 2 ^ 30)),
   (F.HTH_PLATES_FREE, plates - reserve), (F.HTH_PLATES_RESERVE, reserve), (F.HTH_DESCALE_SHARE, s.descaleShare), (F.HTH_DESCALE_PHI, min 127 (s.phi / 10)),
   (F.HTH_LOST_EXT_LISTED, min 0xFFFF (s.lost.filter (·.listed)).length)] ++
    s.boundFields .temper p F.TMP_PAIR_STATUS_BOUND F.TMP_PAIR_STATUS_LINE ++ s.boundFields .imposition u F.IMP_UNIT_STATUS_BOUND F.IMP_UNIT_STATUS_LINE

/-- Bits of SLOTS (Table 20.9): slot 0 holds the key in ROM. -/
def State.keySlots (s : State) : Nat :=
  let f := s.fm.hallmark.fuses
  1 + 2 * bit (!allZero f.signKey1) + 4 * bit (!allZero f.signKey2) + 8 * bit (!allZero f.signKey3)

/-- Seconds until CHALLENGE is served again (R429). -/
def State.debugWait (s : State) : Nat := (s.fm.ohm.waitUntil - s.now + 999999999) / 1000000000

/-- Fields of GMP, STE, HLM, TIM, UPD and DBG that follow the state. Whether Hallmark's entropy tests pass is an open value. [DEDUCED: notes/assumptions/76.md] -/
def State.liveControl (s : State) : List (Field × Nat) :=
  let m := s.module (s.rd F.GMP_MOD_SEL_MODULE)
  let e := s.sess (s.rd F.STE_SESS_SEL_SESSION)
  let f := s.fm.hallmark.fuses
  let lease := s.upd.lease
  let ptr := s.pointer
  [(F.GMP_MOD_STATUS_STATE, m.state.code), (F.GMP_MOD_STATUS_FENCED, bit m.fencedHere), (F.GMP_MOD_STATUS_SPEED, m.speed), (F.GMP_MOD_STATUS_WIDTH, m.lanes),
   (F.GMP_MOD_STATUS_VERSION, m.version),
   (F.STE_SESS_STATUS_STATE, e.state.code), (F.STE_SESS_STATUS_KIND, bit e.sync), (F.STE_SESS_STATUS_ROLE, bit e.isTarget),
   (F.STE_SESS_STATUS_VERSION, e.version / 256 * 16 + e.version % 16), (F.STE_SESS_STATUS_SEGMENT, e.segment),
   (F.STE_SESS_BYTES_SAVED, e.saved / 2 ^ 30), (F.STE_SESS_BYTES_SENT, e.sent / 2 ^ 30),
   (F.HLM_STATUS_SVN_MIN, f.svnMin), (F.HLM_STATUS_SLOTS, s.keySlots), (F.HLM_STATUS_REVOKED, f.signRevoke), (F.HLM_STATUS_LAB_OFF, bit f.labOff),
   (F.HLM_STATUS_BOUND, bit s.fm.hallmark.prs.isSome), (F.HLM_STATUS_ENTROPY_OK, Config.freeValue s.fresh)] ++
  (List.range 4).map (fun n => (F.HLM_DEVICE_ID_ID n, f.deviceId / 2 ^ (32 * n))) ++
  [(F.TIM_NOW_NS, s.timeNow), (F.TIM_UNCERTAINTY_NS, s.timeUnc),
   (F.UPD_LEASE_HELD, bit lease.isSome), (F.UPD_LEASE_SOURCE, (lease.map (·.source)).getD 0), (F.UPD_LEASE_HOLDER, (lease.map (·.holder)).getD 0),
   (F.UPD_LEASE_IDLE, (lease.map fun l => min 30 ((s.now - l.since) / 60000000000)).getD 0),
   (F.UPD_STAGE_STAGE, s.upd.stage.code), (F.UPD_STAGE_SLOT, bit s.stagingSlot), (F.UPD_STAGE_MISSING, (s.slot s.stagingSlot).missing),
   (F.UPD_POINTER_ACTIVE, bit (ptr.any (·.active))), (F.UPD_POINTER_STATE, (ptr.map (·.state.code)).getD 0), (F.UPD_POINTER_TRIALS, (ptr.map (·.trials)).getD 0),
   (F.UPD_POINTER_PENDING, bit (ptr.any (·.pendingSlot))), (F.UPD_POINTER_SEQ, (ptr.map (·.seq)).getD 0),
   (F.UPD_VERSION_VERSION 0, s.upd.slotA.version), (F.UPD_VERSION_VERSION 1, s.upd.slotB.version), (F.DBG_STATUS_WAIT, s.debugWait)] ++
  (List.range 12).map fun n => (F.UPD_HASH_HASH n, leAt s.upd.runHash (4 * n) 4)

/-- What a read of a field returns: zero for a write-only field (R8), the state for a field that follows it, or what is stored. -/
def State.view (s : State) (f : Field) : Nat :=
  if f.acc = .wo then 0
  else match (s.liveFront ++ s.liveData ++ s.liveIndex ++ s.liveMedia ++ s.liveControl).find? fun e => e.1.key == f.key with
    | some e => e.2 % f.span
    | none => s.rd f

/-- The fields of a numbered register, moved to the register at an address. -/
def RegDesc.fieldsAt (r : RegDesc) (addr : Nat) : List Field := r.fields.map fun f => { f with reg := addr }

/-- What a read of the register at an address returns (R8). -/
def State.readReg (s : State) (r : RegDesc) (addr : Nat) : Nat :=
  ((r.fieldsAt addr).map fun f => s.view f * 2 ^ f.lo).sum

end Sys2Proof.Machine
end

