-- ==== Sys2Proof/Machine/RegAccess.lean ====
section
/-! DEFINITION. Accesses to registers: which are bad, what a write does, and how interrupts are claimed (R8, R9, R420, R434 to R440). -/

namespace Sys2Proof.Machine

/-- The state after a meaning that answered with one. -/
def ran (o : Out1) (s : State) : State :=
  match o with
  | .next t => t
  | _ => s

/-- A fact that the row of a command would carry, and that a plain register write does not: nothing constrains it. [DESIGN CHOICE: notes/assumptions/10.md] -/
def State.coin (s : State) : Bool × State :=
  let (v, s) := s.freeVal
  (v % 2 == 1, s)

/-- The register whose bytes cover an address, with its own address. -/
def regOver (addr : Nat) : Option (RegDesc × Nat) :=
  let at_ (a : Nat) : Option (RegDesc × Nat) := (regAt a).bind fun r => if addr < a + r.width / 8 then some (r, a) else none
  (List.range 8).findSome? fun k => if k ≤ addr then at_ (addr - k) else none

/-- Whether the registers of an address answer in the power state (R436, Table 21.6). [DESIGN CHOICE: notes/assumptions/7.md] -/
def State.regOpen (s : State) (addr : Nat) : Bool :=
  let pwr := decide (0x01E00000 ≤ addr ∧ addr < 0x01F00000)
  match s.pwr.state with
  | .run => true
  | .sleep => pwr || blockBase addr / 2 ^ 20 * 2 ^ 20 == 0x01200000 || blockBase addr / 2 ^ 20 * 2 ^ 20 == 0x01300000 || decide (addr < 0x50)
  | .deep => pwr || decide (addr < 12)
  | .off => false

/-- The KIND of a bad access (R434, R436): 1 undefined offset, 4 block powered down, 2 width or alignment; none for a good one. PRF_RDATA also takes 1-byte and 2-byte writes at its own offset. [DEDUCED: notes/assumptions/11.md] -/
def State.badKind (s : State) (addr bytes : Nat) (write : Bool) : Option Nat :=
  match regOver addr with
  | none => some 1
  | some (r, a) =>
    if !s.regOpen a then some 4
    else if addr = a ∧ bytes * 8 = r.width then none
    else if addr = R.PRF_RDATA ∧ write ∧ (bytes = 1 ∨ bytes = 2) then none
    else some 2

/-- Whether a RWL field takes writes (R8): until Forming ends. [DEDUCED: notes/assumptions/14.md] -/
def State.rwlOpen (s : State) : Bool := s.fm.mode == .forming || s.fm.mode == .recovery

/-- What a write does to one field (Table 0.3, R9). The actions of write-only fields follow it. -/
def State.writeField (s : State) (f : Field) (value : Nat) : State :=
  let v := bits value f.hi f.lo
  match f.acc with
  | .rw | .rs => s.wr f v
  | .rwl => if s.rwlOpen then s.wr f v else s
  | .w1c => s.clear f v
  | .w1s => s.raise f v
  | .ro | .wo => s

/-- Writes every field of the register at an address. -/
def State.writeFields (s : State) (r : RegDesc) (addr value : Nat) : State :=
  (r.fieldsAt addr).foldl (fun s f => s.writeField f value) s

/-- Runs a command of the selected lane, core, pair or unit when its start bit is written; whether its known-answer test passes is an open value. [DESIGN CHOICE: notes/assumptions/10.md] -/
def State.katWrite (s : State) (start : Bool) (kat : Bool → State → Out1) : State :=
  if start then
    let (pass, s) := s.coin
    ran (kat pass s) s
  else s

/-- A list of pieces that a proof strike picks at random (R371). [DESIGN CHOICE: notes/assumptions/10.md] -/
def State.strikePicks (s : State) : List (Nat × Nat) × State :=
  let n := Config.freeValue s.fresh % 64
  ((List.range n).map fun i => (Config.freeValue (s.fresh + 2 * i + 1), Config.freeValue (s.fresh + 2 * i + 2)), { s with fresh := s.fresh + 2 * n + 1 })

/-- A byte of head DRAM where the state gives it: one that a debug host has written, or one of the event log (R385) or of the scrap list's working copy (R382). [DESIGN CHOICE: notes/assumptions/73.md] -/
def State.dramByte (s : State) (a : Nat) : Option Byte :=
  match Tab.find s.dram a with
  | some b => some b
  | none =>
    if Config.eventBase ≤ a ∧ a < Config.eventBase + 4194304 then
      (Tab.find s.flt.log ((a - Config.eventBase) / 64)).map fun r => (recBytes r).getD ((a - Config.eventBase) % 64) 0
    else if Config.scrapBase ≤ a ∧ a < Config.scrapBase + 131072 then
      (Tab.find s.flt.scrap ((a - Config.scrapBase) / 32)).map fun e => (entryBytes e).getD ((a - Config.scrapBase) % 32) 0
    else none

/-- Bytes of head DRAM. Where no part of the state holds a byte nothing constrains it. [DESIGN CHOICE: notes/assumptions/73.md] -/
def State.dramRead (s : State) (a n : Nat) : Bytes × State :=
  let (r, s) := s.random n
  ((List.range n).map fun i => (s.dramByte (a + i)).getD (r.getD i 0), s)

/-- The command of STE_CMD (Table 15.10). -/
def State.steWrite (s : State) (cmd : Nat) : State :=
  match cmd with
  | 1 => ran (execSteSnapshot s) s
  | 2 => ran (execSteClone s) s
  | 3 => ran (execSteDelete s) s
  | 4 =>
    let (desc, s) := s.dramRead (s.rd F.STE_ARG0_ARG) 128
    ran (execSteOpenSession desc s) s
  | 5 => ran (execSteStartDelta s) s
  | 6 => ran (execSteCloseSession s) s
  | 7 => ran (execSteBreakSync s) s
  | _ => s

/-- The command of UPD_CMD (Table 19.6). -/
def State.updWrite (s : State) (cmd : Nat) : State :=
  match cmd with
  | 1 => ran (execUpdConfirmCmd s) s
  | 2 => ran (execUpdReleaseCmd s) s
  | 3 => ran (execUpdRelayCmd s) s
  | 4 =>
    let (moving, s) := s.coin
    let (lock, s) := s.coin
    ran (execUpdActivateCmd moving lock s) s
  | 5 => ran (execUpdRecoveryCmd s) s
  | _ => s

/-- A number of 64 bits in two's complement. -/
def signed64 (v : Nat) : Int := if 2 ^ 63 ≤ v then (v : Int) - 2 ^ 64 else v

/-- The actions of the registers of FOR to GLY that a write starts. [DESIGN CHOICE: notes/assumptions/10.md] -/
def State.actFront (s : State) (addr value : Nat) : State :=
  let q := s.rd F.STK_QSEL_QID
  let cmd := bits value 3 0
  if addr = R.STK_QCMD then
    (if cmd = 1 then ran (execStkQcmdCloseChannel q s) s else if cmd = 2 then ran (execStkQcmdRehome q s) s else s)
  else if addr = R.STK_SLOTS_HWM then (if bitOf value 31 then ran (execHwmClear false s) s else s)
  else if addr = R.CHS_LOCKS_HWM then (if bitOf value 31 then ran (execHwmClear true s) s else s)
  else if addr = R.GLY_CTRL then s.galleyEval
  else if addr = R.ANV_CTRL then
    (if bitOf value 1 then
      let (picks, s) := s.strikePicks
      s.strikeStart picks []
    else s)
  else if addr = R.ANV_HANDBACK then
    (let c := bits value 17 16
    if c = 1 then ran (execHandbackNs (bits value 15 0) s) s else if c = 2 then ran (execHandbackList s) s else s)
  else s

/-- The actions of the station registers that a write starts. [DESIGN CHOICE: notes/assumptions/10.md] -/
def State.actStations (s : State) (addr value : Nat) : State :=
  let start := bitOf value 1
  let cmd := bits value 3 0
  if addr = R.PUN_CTRL then s.katWrite start execPunchKatStart
  else if addr = R.SWG_CTRL then s.katWrite start execSwageKatStart
  else if addr = R.TMP_CTRL then s.katWrite start execTemperKatStart
  else if addr = R.PRF_CTRL then s.katWrite start execPrfKatStart
  else if addr = R.IMP_CTRL then ran (execReshapePauseWrite (bitOf value 2) (s.katWrite start execImpKatStart)) s
  else if addr = R.TMP_KEY_CMD then
    (if cmd = 1 then ran (execKeyCreate s) s else if cmd = 2 then ran (execKeySweep s) s else if cmd = 3 then ran (execKeyDestroy s) s else s)
  else if addr = R.PRF_RSTREAM then
    (let s := if bitOf value 30 then s.prfClose else s
    if bitOf value 31 then s.prfOpen else s)
  else if addr = R.PRF_RDATA then s.prfFeed 0 4 value
  else s

/-- The actions of the other registers that a write starts. [DESIGN CHOICE: notes/assumptions/10.md] -/
def State.actControl (s : State) (addr value : Nat) : State :=
  let cmd := bits value 3 0
  if addr = R.IMP_RESHAPE_CMD then (if cmd = 1 then ran (execReshapeMigrateCmd s) s else s)
  else if addr = R.HTH_CTRL then
    (let s := if bitOf value 2 then s.flushStart else s
    let s := if bitOf value 3 then s.auditStart else s
    if bitOf value 4 then s.capSet else s)
  else if addr = R.GMP_MOD_CMD then
    (if cmd = 1 then ran (execGmpModRelease s) s else if cmd = 2 then ran (execGmpModActivate s) s else s)
  else if addr = R.STE_CMD then s.steWrite cmd
  else if addr = R.HLM_CMD then s.hlmCmd cmd
  else if addr = R.PWR_CTRL then
    (let s := if bitOf value 3 then s.wakePartner else s
    if bitOf value 2 then ran (execPowerOffReq s) s
    else
      let (quiet, s) := s.coin
      if bits value 1 0 = 1 then s.bankCheck false false quiet else if bits value 1 0 = 2 then s.bankCheck true false quiet else s)
  else if addr = R.TIM_ADJ then s.correct (signed64 value)
  else if addr = R.UPD_CMD then s.updWrite cmd
  else if addr = R.DBG_CTRL then (if bitOf value 1 then s.lockNow else s)
  else s

/-- The interrupt claims whose source is still pending (R440). [DEDUCED: notes/assumptions/13.md] -/
def State.dropClaims (s : State) : State :=
  { s with fm := { s.fm with smith := { s.fm.smith with claims := s.fm.smith.claims.filter fun (e : Nat × Nat) => s.blockPending e.1 } } }

/-- A write of the register at an address: every field by its access code (R8), then the action that the register starts. -/
def State.storeReg (s : State) (r : RegDesc) (addr value : Nat) : State :=
  ((((s.writeFields r addr value).actFront addr value).actStations addr value).actControl addr value).dropClaims

/-- REGISTER_WRITE (R8, R9, R434): a write of a smith core. A bad access has no effect but its record. -/
def execRegisterWrite (addr bytes value : Nat) (s : State) : Out1 :=
  if s.fm.mode = .dark then .next s
  else match s.badKind addr bytes true, regOver addr with
    | none, some (r, a) => if a = R.PRF_RDATA then .next (s.prfFeed 0 bytes (value % 2 ^ (8 * bytes))) else .next (s.storeReg r a (value % 2 ^ r.width))
    | some k, some (_, a) => if a = R.PRF_RDATA ∧ k = 2 then .next ((s.badAccess 0 2 addr).raise F.PRF_RSTREAM_ERR) else .next (s.badAccess 0 k addr)
    | some k, none => .next (s.badAccess 0 k addr)
    | none, none => .next s

/-- The registers that BAR2 shows (Table 21.2): offset and Foreman address. -/
def bar2Map : List (Nat × Nat) :=
  [(0x000, R.FOR_ID), (0x004, R.FOR_MODE), (0x008, R.FOR_RESET_CAUSE), (0x00C, R.FOR_TEMP), (0x010, R.FOR_MODE_TIME), (0x018, R.FOR_EVENT_SEQ),
   (0x020, R.TIM_NOW), (0x028, R.TIM_STATUS), (0x02C, R.TIM_UNCERTAINTY), (0x030, R.GLY_STATUS), (0x034, R.GLY_BELLOWS), (0x038, R.HTH_LADDER),
   (0x03C, R.ANV_PAIR), (0x040, R.HTH_USER), (0x048, R.ANV_BUNDLE), (0x04C, R.UPD_POINTER), (0x050, R.UPD_STAGE), (0x054, R.UPD_STATUS), (0x058, R.STK_STALE_CNT)] ++
  (List.range 12).map fun n => (0x060 + 4 * n, R.UPD_HASH n)

/-- The first listed register that an access of BAR2 touches: its offset, its Foreman address and its width in bytes. -/
def bar2Touch (off bytes : Nat) : Option (Nat × Nat × Nat) :=
  (bar2Map.map fun e => (e.1, e.2, ((regAt e.2).map (·.width)).getD 32 / 8)).find? fun e => decide (off < e.1 + e.2.2 ∧ e.1 < off + bytes)

/-- BAD_ACCESS (R434, R436, R438): an access of `source` (0 smith core, 1 Ohmust, 2 host BAR2 read). A bad one is recorded, and nothing else changes; a bad write of PRF_RDATA also sets ERR (R163). A good one is no bad access. [DEDUCED: notes/assumptions/11.md] -/
def execBadAccess (source addr bytes : Nat) (write : Bool) (s : State) : Out1 :=
  if s.fm.mode = .dark then .next s
  else if source = 2 then
    match bar2Touch addr bytes with
    | some (off, reg, n) => if off = addr ∧ n = bytes then .next s else .next (s.badAccess 2 2 reg)
    | none => .next s
  else match s.badKind addr bytes write with
    | none => .next s
    | some k =>
      let s := s.badAccess (source % 2) k addr
      if write && k == 2 && (regOver addr).any fun e => e.2 == R.PRF_RDATA then .next (s.raise F.PRF_RSTREAM_ERR) else .next s

/-- BAR2_HOST_WRITE (R438): no effect, and a record with SOURCE 2 and KIND 3. [DEDUCED: notes/assumptions/11.md] -/
def execBar2HostWrite (off : Nat) (s : State) : Out1 :=
  if s.fm.mode = .dark then .next s
  else .next (s.badAccess 2 3 (((bar2Touch off 1).map fun e => e.2.1).getD (off % 4096)))

/-- The domain whose pairs a block's interrupt reaches (R420, and the chapter of each block). [DEDUCED: notes/assumptions/13.md] -/
def blockDomain : Nat → Nat
  | 1 | 19 => 1
  | 2 | 3 => 2
  | 5 | 6 => 3
  | 7 | 8 | 9 | 10 | 11 | 12 => 4
  | 4 => 5
  | 13 => 6
  | _ => 0

/-- BLOCK_INTERRUPT_CLAIM (R420): a pair of the block's domain that is not retired claims a pending block interrupt; the first to claim it handles it. [DEDUCED: notes/assumptions/13.md] -/
def execBlockInterruptClaim (block pair : Nat) (s : State) : Out1 :=
  let s := s.dropClaims
  let able := (domainPairs.getD (blockDomain block) []).contains pair && !s.isOut Kind.smith pair && !bitOf (s.rd F.FOR_SMITH_HALTED) pair
  if s.blockPending block && able && (Tab.find s.fm.smith.claims block).isNone then
    .next { s with fm := { s.fm with smith := { s.fm.smith with claims := Tab.put s.fm.smith.claims block pair } } }
  else .next s

end Sys2Proof.Machine
end

