-- ==== Sys2Proof/Machine/Debug.lean ====
section
/-! DEFINITION. The Ohmust debug port: frames, unlocking, halting, breakpoints and memory (R419, R427 to R432, R437). -/

namespace Sys2Proof.Machine

/-- A request of Table 20.5. -/
structure OhmReq where
  op : Nat
  seq : Nat
  target : Nat := 0
  addr : Nat := 0
  data : Nat := 0
  resv : Nat := 0
deriving DecidableEq, Repr

/-- What an operation answers: STATUS and DATA. -/
structure OhmResp where
  status : Nat
  data : Nat := 0
deriving DecidableEq, Repr

/-- Changes the state of the port. -/
def State.modOhm (s : State) (f : Ohmust → Ohmust) : State := { s with fm := { s.fm with ohm := f s.fm.ohm } }

/-- Changes the state of the smith pairs. -/
def State.modSmith (s : State) (f : Smith → Smith) : State := { s with fm := { s.fm with smith := f s.fm.smith } }

/-- The level that the host has been granted (R429). -/
def State.debugLevel (s : State) : Nat := s.rd F.DBG_STATUS_LEVEL

/-- Whether a pair is halted. -/
def State.pairHalted (s : State) (pair : Nat) : Bool := bitOf (s.rd F.FOR_SMITH_HALTED) pair

/-- NOP: a halt that hands the head over answers 7 until it is complete (R431). -/
def State.ohmNop (s : State) : OhmResp × State := (⟨if s.pwr.entry = some .halt then 7 else 0, 0⟩, s)

/-- HELLO (R6, R56, R429): the head knows version 1.0. Below the forme's minimum, or without a common major, every later request is refused. [DEDUCED: notes/assumptions/74.md] -/
def State.ohmHello (s : State) (offered : Nat) : OhmResp × State :=
  let low := decide (0x0100 < (s.fm.forme.map (·.minOhm)).getD 0)
  if offered / 256 % 256 ≠ 1 then (⟨8, 0⟩, s.modOhm fun o => { o with refused := true })
  else
    let s := s.wr F.DBG_STATUS_VERSION 0x10
    (⟨0, 0x0100 + s.fm.hallmark.fuses.deviceId % 2 ^ 48 * 2 ^ 16⟩, s.modOhm fun o => { o with refused := low })

/-- CHALLENGE (R429): a word of the nonce, which is fresh at word 0; refused while a back-off runs. [DEDUCED: notes/assumptions/74.md] -/
def State.ohmChallenge (s : State) (addr : Nat) : OhmResp × State :=
  if 3 < addr then (⟨4, 0⟩, s)
  else if s.now < s.fm.ohm.waitUntil then (⟨6, 0⟩, s)
  else
    let s : State := if addr = 0 then
        let (n, s) := s.random 32
        s.modOhm fun o => { o with nonce := some n, sig := [], sigLevel := 0 }
      else s
    match s.fm.ohm.nonce with
    | some n => (⟨0, leAt n (8 * addr) 8⟩, s)
    | none => (⟨4, 0⟩, s)

/-- Whether a signature unlocks a level (R422, R429): under DEBUG_KEY, or under the Lenuvex debug key while DEBUG_VENDOR_OFF is 0; never while DBG_CTRL.DISABLE is 1. [DEDUCED: notes/assumptions/74.md] -/
def State.unlocks (s : State) (nonce : Bytes) (level : Nat) (sig : Bytes) : Bool :=
  let f := s.fm.hallmark.fuses
  let h := sha384 (nonce ++ leBytes f.deviceId 16 ++ leBytes level 1)
  !s.on F.DBG_CTRL_DISABLE && ((!allZero f.debugKey && Config.ecdsaVerify f.debugKey h sig) || (!f.debugVendorOff && Config.ecdsaVerify Config.romDebugKey h sig))

/-- Ends a RESPONSE (R429): a success grants the level and clears the count; each failure doubles the wait from 1 s, up to 3,600 s. [DEDUCED: notes/assumptions/74.md] -/
def State.ohmVerdict (s : State) (ok : Bool) (level : Nat) : OhmResp × State :=
  let s := s.modOhm fun o => { o with nonce := none, sig := [], sigLevel := 0 }
  if ok then (⟨0, 0⟩, (s.wr F.DBG_STATUS_LEVEL level).wr F.DBG_STATUS_FAILS 0)
  else
    let s := s.incHeld F.DBG_STATUS_FAILS
    let wait := min 3600 (2 ^ (s.rd F.DBG_STATUS_FAILS - 1))
    (⟨6, 0⟩, s.modOhm fun o => { o with waitUntil := s.now + wait * 1000000000 })

/-- RESPONSE (R428, R429): twelve signature words with one level; the last of them has Hallmark verify the signature. A nonce serves one RESPONSE. [DEDUCED: notes/assumptions/74.md] -/
def State.ohmResponse (s : State) (target addr data : Nat) : OhmResp × State :=
  let level := target % 4
  match s.fm.ohm.nonce with
  | none => (⟨4, 0⟩, s)
  | some n =>
    let o := s.fm.ohm
    if 11 < addr ∨ level = 0 ∨ level = 3 ∨ (o.sig ≠ [] ∧ o.sigLevel ≠ level) then (⟨4, 0⟩, s)
    else
      let sig := Tab.put o.sig addr data
      let s := s.modOhm fun o => { o with sig := sig, sigLevel := level }
      if sig.length < 12 then (⟨0, 0⟩, s)
      else s.ohmVerdict (s.unlocks n level (sig.flatMap fun e => beBytes e.2 8)) level

/-- Halts one pair in lab mode (R432): once every pair that is not retired is halted, the head is in Halted. [DEDUCED: notes/assumptions/72.md] -/
def State.haltPair (s : State) (pair : Nat) : State :=
  let s := s.raise F.FOR_SMITH_HALTED (2 ^ pair)
  if s.inMode [.joining, .paired, .solo, .takeover, .handback, .activation] && (List.range 16).all (fun k => s.pairHalted k || s.isOut Kind.smith k) then s.toMode .halted else s

/-- HALT (R431, R432): in lab mode the named pair, in modes 0x3 to 0x8. Outside it the whole head, which is Paired with no namespace moving, starts to hand everything over. [DEDUCED: notes/assumptions/72.md] -/
def State.ohmHalt (s : State) (target : Nat) : OhmResp × State :=
  if s.labMode then
    if s.inMode [.joining, .paired, .solo, .takeover, .handback, .activation] then (⟨0, 0⟩, s.haltPair (target % 16)) else (⟨4, 0⟩, s)
  else
    let moving := (s.chs.ns.any fun e => e.2.state == .releasing || e.2.state == .acquiring) || s.anv.handback.isSome || s.pwr.entry.isSome
    if s.fm.mode = .paired ∧ !moving then (⟨0, 0⟩, s.leave .halt false) else (⟨4, 0⟩, s)

/-- Forgets what a debug host knows of a pair's registers once the pair runs. [DESIGN CHOICE: notes/assumptions/73.md] -/
def State.pairRan (s : State) (pair : Nat) : State :=
  s.modSmith fun m => { m with regs := m.regs.filter fun (e : Nat × Word) => e.1 / 2 ^ 64 != pair }

/-- RESUME (R431, R432): in lab mode the named pair runs again, and a head in Halted goes back to its mode. Outside lab mode every pair does, breakpoints are cleared, and the head passes through Joining. [DEDUCED: notes/assumptions/72.md] -/
def State.ohmResume (s : State) (target : Nat) : OhmResp × State :=
  let pair := target % 16
  if s.fm.safe then (⟨4, 0⟩, s)
  else if s.labMode then
    if !s.pairHalted pair then (⟨5, 0⟩, s)
    else
      let s := ({ s with dram := [] } : State).pairRan pair
      let s := s.clear F.FOR_SMITH_HALTED (2 ^ pair)
      (⟨0, 0⟩, if s.fm.mode = .halted then s.toMode s.fm.prev else s)
  else if s.fm.mode ≠ .halted then (⟨5, 0⟩, s)
  else
    let s := ({ s with dram := [] } : State).modSmith fun m => { m with regs := [], bps := [] }
    let s := s.wr F.FOR_SMITH_HALTED 0
    let s := { s.portsUp with fm := { s.portsUp.fm with pins := { s.portsUp.fm.pins with alive := true } } }
    let own := s.head == 1
    let s := { s with gly := { s.gly with mirror := [], mirrorData := [] }, anv := { s.anv with ctl := {}, join := {}, joinedAt := s.now } }
    let s := s.setHalf own { s.half own with peerHolds := true }
    (⟨0, 0⟩, (s.toMode .joining).joinHello)

/-- Whether WRITE_MEM, WRITE_REG, STEP and BP_SET are served (R430). -/
def State.stopped (s : State) : Bool := s.fm.mode == .halted || s.fm.mode == .recovery || s.labMode

/-- Whether the registers of a pair can be changed: in lab mode only those of a halted pair. -/
def State.pairStopped (s : State) (pair : Nat) : Bool := s.stopped && (!s.labMode || s.pairHalted pair)

/-- STEP (R428, R430): the pair executes 1 to 65,535 instructions, whose effect on its registers is an open value. -/
def State.ohmStep (s : State) (target data : Nat) : OhmResp × State :=
  if !s.pairStopped (target % 16) then (⟨5, 0⟩, s)
  else if data % 65536 = 0 then (⟨4, 0⟩, s)
  else (⟨0, 0⟩, s.pairRan (target % 16))

/-- BP_SET (R428, R430). -/
def State.ohmBpSet (s : State) (target addr data : Nat) : OhmResp × State :=
  if !s.stopped then (⟨5, 0⟩, s)
  else (⟨0, 0⟩, s.modSmith fun m => { m with bps := Tab.put m.bps (target % 16 * 16 + data % 16) ⟨addr, data / 16 % 4⟩ })

/-- BP_CLEAR (R428). -/
def State.ohmBpClear (s : State) (target data : Nat) : OhmResp × State :=
  (⟨0, 0⟩, s.modSmith fun m => { m with bps := Tab.erase m.bps (target % 16 * 16 + data % 16) })

/-- The base of head DRAM for the port (R437). -/
def dramBase : Nat := 0x0000100000000000

/-- Whether an address lies in head DRAM as training found it (R437). [DESIGN CHOICE: notes/assumptions/73.md] -/
def State.inDram (s : State) (addr : Nat) : Bool := decide (dramBase ≤ addr ∧ addr + 8 ≤ dramBase + s.fm.dramBytes) && addr % 8 == 0

/-- The bytes in which the port accesses the register at an address (R437). -/
def regWidth (addr : Nat) : Nat := ((regAt addr).map fun r => r.width / 8).getD 4

/-- READ_MEM (R430, R434, R437): one register, or 8 bytes of DRAM. A bad access reads zero and is recorded. [DESIGN CHOICE: notes/assumptions/73.md] -/
def State.ohmReadMem (s : State) (target addr : Nat) : OhmResp × State :=
  if !bitOf target 7 then (⟨4, 0⟩, s)
  else if addr < 0x10000000 then
    match s.badKind addr (regWidth addr) false, regAt addr with
    | none, some r => (⟨0, s.readReg r addr⟩, s)
    | k, _ => (⟨4, 0⟩, s.badAccess 1 (k.getD 1) addr)
  else if s.inDram addr then
    let (b, s) := s.dramRead (addr - dramBase) 8
    (⟨0, leAt b 0 8⟩, s)
  else (⟨4, 0⟩, s)

/-- Writes 8 bytes of head DRAM for a debug host. They are kept while the head stays stopped. [DESIGN CHOICE: notes/assumptions/73.md] -/
def State.dramWrite (s : State) (a v : Nat) : State :=
  if s.fm.mode = .halted then { s with dram := (List.range 8).foldl (fun t i => Tab.put t (a + i) (BitVec.ofNat 8 (v / 2 ^ (8 * i)))) s.dram } else s

/-- WRITE_MEM (R430, R434, R437). -/
def State.ohmWriteMem (s : State) (target addr data : Nat) : OhmResp × State :=
  if !s.stopped then (⟨5, 0⟩, s)
  else if !bitOf target 7 then (⟨4, 0⟩, s)
  else if addr < 0x10000000 then
    match s.badKind addr (regWidth addr) true, regAt addr with
    | none, some r => (⟨0, 0⟩, s.storeReg r addr (data % 2 ^ r.width))
    | k, _ => (⟨4, 0⟩, s.badAccess 1 (k.getD 1) addr)
  else if s.inDram addr then (⟨0, 0⟩, s.dramWrite (addr - dramBase) data)
  else (⟨4, 0⟩, s)

/-- READ_REG (R428): a core register. One that the host has not written is an open value, which stays the same while the pair is stopped. [DESIGN CHOICE: notes/assumptions/73.md] -/
def State.ohmReadReg (s : State) (target addr : Nat) : OhmResp × State :=
  let key := target % 16 * 2 ^ 64 + addr
  match Tab.find s.fm.smith.regs key with
  | some v => (⟨0, v.toNat⟩, s)
  | none =>
    let (v, s) := s.freeVal
    let w : Word := BitVec.ofNat 64 v
    (⟨0, w.toNat⟩, if s.pairStopped (target % 16) then s.modSmith fun m => { m with regs := Tab.put m.regs key w } else s)

/-- WRITE_REG (R428, R430). [DESIGN CHOICE: notes/assumptions/73.md] -/
def State.ohmWriteReg (s : State) (target addr data : Nat) : OhmResp × State :=
  if !s.pairStopped (target % 16) then (⟨5, 0⟩, s)
  else (⟨0, 0⟩, s.modSmith fun m => { m with regs := Tab.put m.regs (target % 16 * 2 ^ 64 + addr) (BitVec.ofNat 64 data) })

/-- The bytes of the mailbox from its start. -/
def Ohmust.boxBytes (o : Ohmust) : Bytes := (List.range 8192).flatMap fun i => leBytes (Tab.get 0 o.mailbox (8 * i)) 8

/-- The length of the framed block that the mailbox is to hold next (R407): block 0 gives the content length, and comes in the mailbox itself. [DEDUCED: notes/assumptions/74.md] -/
def Ohmust.blockLen (o : Ohmust) : Nat :=
  let k := o.box.length
  let content := match Tab.find o.box 0 with
    | some b => leAt b 0x10 4
    | none => Tab.get 0 o.mailbox 0x10 % 2 ^ 32
  if k * blockContent < content then min blockContent (content - k * blockContent) + 4 else 65536

/-- MAILBOX (R419): a word of the mailbox, in Recovery. A framed block that is whole and good is taken; a bad one must be sent again. [DEDUCED: notes/assumptions/74.md] -/
def State.ohmMailbox (s : State) (addr data : Nat) : OhmResp × State :=
  if s.fm.mode ≠ .recovery ∨ addr % 8 ≠ 0 ∨ 65536 ≤ addr then (⟨4, 0⟩, s)
  else
    let o := { s.fm.ohm with mailbox := Tab.put s.fm.ohm.mailbox addr data }
    let len := o.blockLen
    let whole := decide (0x10 < 8 * o.mailbox.length) && (List.range ((len + 7) / 8)).all fun i => (Tab.find o.mailbox (8 * i)).isSome
    let o := if !whole then o
      else
        let b := o.boxBytes.take len
        { o with mailbox := [], box := if blockOk b then Tab.put o.box o.box.length b else o.box }
    (⟨0, 0⟩, s.modOhm fun _ => o)

/-- The level that an operation needs (Table 20.6); none for an operation that is not in the table. [DEDUCED: notes/assumptions/74.md] -/
def ohmLevel (op : Nat) : Option Nat :=
  if op ≤ 4 then some 0
  else if op = 0x20 ∨ op = 0x22 ∨ op = 0x30 then some 1
  else if (0x10 ≤ op ∧ op ≤ 0x14) ∨ op = 0x21 ∨ op = 0x23 then some 2
  else none

/-- Runs an operation of Table 20.6. -/
def State.ohmRun (s : State) (q : OhmReq) : OhmResp × State :=
  match q.op with
  | 0x00 => s.ohmNop
  | 0x01 => s.ohmHello q.data
  | 0x02 => s.ohmChallenge q.addr
  | 0x03 => s.ohmResponse q.target q.addr q.data
  | 0x04 => (⟨0, 0⟩, s.lockNow)
  | 0x10 => s.ohmHalt q.target
  | 0x11 => s.ohmResume q.target
  | 0x12 => s.ohmStep q.target q.data
  | 0x13 => s.ohmBpSet q.target q.addr q.data
  | 0x14 => s.ohmBpClear q.target q.data
  | 0x20 => s.ohmReadMem q.target q.addr
  | 0x21 => s.ohmWriteMem q.target q.addr q.data
  | 0x22 => s.ohmReadReg q.target q.addr
  | 0x23 => s.ohmWriteReg q.target q.addr q.data
  | _ => s.ohmMailbox q.addr q.data

/-- The start of every whole frame (R427, R429): the previous response goes out, and the idle time of an unlock starts again. -/
def State.ohmStart (s : State) : State :=
  let o := s.fm.ohm
  (s.send (.ohmReply o.respStatus o.respSeq o.respData)).modOhm fun o => { o with lastFrame := s.now }

/-- Sets the response that the next frame carries. -/
def State.ohmEnd (s : State) (seq : Nat) (r : OhmResp) : State :=
  s.modOhm fun o => { o with respStatus := r.status, respSeq := seq, respData := r.data }

/-- A frame with a good CRC (R5, R427, R428): refused with 8 after a version below the minimum, with 4 for a reserved byte that is not zero or an operation that does not exist, with 2 below its level. In Dark the port is off. [DEDUCED: notes/assumptions/74.md] -/
def State.ohmFrame (s : State) (q : OhmReq) : State :=
  if s.fm.mode = .dark then s
  else
    let s := s.ohmStart
    if s.fm.ohm.refused then s.ohmEnd q.seq ⟨8, 0⟩
    else if q.resv ≠ 0 then s.ohmEnd q.seq ⟨4, 0⟩
    else match ohmLevel q.op with
      | none => s.ohmEnd q.seq ⟨4, 0⟩
      | some l =>
        if s.debugLevel < l then s.ohmEnd q.seq ⟨2, 0⟩
        else
          let (r, s) := s.ohmRun q
          s.ohmEnd q.seq r

/-- OHMUST_FRAME (R427): a frame of the 22 bytes that a host sent in `clocks` clocks. One of another length than 176 clocks is ignored; a bad CRC is answered with status 3. -/
def execOhmustFrame (clocks : Nat) (req : Bytes) (s : State) : Out1 :=
  if clocks ≠ 176 ∨ req.length ≠ 22 ∨ s.fm.mode = .dark then .next s
  else if leAt req 20 2 ≠ crc16 (req.take 20) then .next (s.ohmStart.ohmEnd (byteAt req 1) ⟨3, 0⟩)
  else .next (s.ohmFrame ⟨byteAt req 0, byteAt req 1, byteAt req 2, leAt req 4 8, leAt req 12 8, byteAt req 3⟩)

/-- OHM_NOP (R428). -/
def execOhmNop (seq : Nat) (s : State) : Out1 := .next (s.ohmFrame { op := 0x00, seq := seq })

/-- OHM_HELLO (R429). -/
def execOhmHello (seq version : Nat) (s : State) : Out1 := .next (s.ohmFrame { op := 0x01, seq := seq, data := version })

/-- OHM_CHALLENGE (R429). -/
def execOhmChallenge (seq addr : Nat) (s : State) : Out1 := .next (s.ohmFrame { op := 0x02, seq := seq, addr := addr })

/-- OHM_RESPONSE (R429). -/
def execOhmResponse (seq level addr word : Nat) (s : State) : Out1 := .next (s.ohmFrame { op := 0x03, seq := seq, target := level, addr := addr, data := word })

/-- OHM_LOCK (R429). -/
def execOhmLock (seq : Nat) (s : State) : Out1 := .next (s.ohmFrame { op := 0x04, seq := seq })

/-- OHM_HALT (R431, R432). -/
def execOhmHalt (seq target : Nat) (s : State) : Out1 := .next (s.ohmFrame { op := 0x10, seq := seq, target := target })

/-- HALT_COMPLETE (R358, R431): everything is handed over, PARK goes out, all pairs halt and FOR_MODE reports Halted. [DEDUCED: notes/assumptions/72.md] -/
def execHaltComplete (s : State) : Out1 :=
  if s.pwr.entry = some .halt ∧ s.handedOver then
    let s := s.parkNow.wr F.FOR_SMITH_HALTED 0xFFFF
    .next (({ s with pwr := { s.pwr with entry := none, anaAt := none } } : State).toMode .halted)
  else .next s

/-- OHM_RESUME (R431, R432). -/
def execOhmResume (seq target : Nat) (s : State) : Out1 := .next (s.ohmFrame { op := 0x11, seq := seq, target := target })

/-- OHM_STEP (R428). -/
def execOhmStep (seq target count : Nat) (s : State) : Out1 := .next (s.ohmFrame { op := 0x12, seq := seq, target := target, data := count })

/-- OHM_BP_SET (R428). -/
def execOhmBpSet (seq target addr data : Nat) (s : State) : Out1 := .next (s.ohmFrame { op := 0x13, seq := seq, target := target, addr := addr, data := data })

/-- OHM_BP_CLEAR (R428). -/
def execOhmBpClear (seq target index : Nat) (s : State) : Out1 := .next (s.ohmFrame { op := 0x14, seq := seq, target := target, data := index })

/-- BREAKPOINT_HIT (R432): a breakpoint of a running pair is hit in lab mode, and halts that pair alone. [DEDUCED: notes/assumptions/72.md] -/
def execBreakpointHit (pair index : Nat) (s : State) : Out1 :=
  if s.labMode && decide (pair < 16) && !s.pairHalted pair && (Tab.find s.fm.smith.bps (pair * 16 + index)).isSome then .next (s.haltPair pair) else .next s

/-- OHM_READ_MEM (R437). -/
def execOhmReadMem (seq target addr : Nat) (s : State) : Out1 := .next (s.ohmFrame { op := 0x20, seq := seq, target := target, addr := addr })

/-- OHM_WRITE_MEM (R437). -/
def execOhmWriteMem (seq target addr data : Nat) (s : State) : Out1 := .next (s.ohmFrame { op := 0x21, seq := seq, target := target, addr := addr, data := data })

/-- OHM_READ_REG (R428). -/
def execOhmReadReg (seq target addr : Nat) (s : State) : Out1 := .next (s.ohmFrame { op := 0x22, seq := seq, target := target, addr := addr })

/-- OHM_WRITE_REG (R428). -/
def execOhmWriteReg (seq target addr data : Nat) (s : State) : Out1 := .next (s.ohmFrame { op := 0x23, seq := seq, target := target, addr := addr, data := data })

/-- OHM_MAILBOX (R419). -/
def execOhmMailbox (seq addr data : Nat) (s : State) : Out1 := .next (s.ohmFrame { op := 0x30, seq := seq, addr := addr, data := data })

/-- UNLOCK_IDLE_TIMEOUT (R429): 30 minutes without a frame end the unlock. -/
def execUnlockIdleTimeout (s : State) : Out1 :=
  if s.fm.ohm.lastFrame + 1800000000000 ≤ s.now then .next s.lockNow else .next s

end Sys2Proof.Machine
end

