-- ==== Sys2Proof/Machine/Vault.lean ====
section
/-! DEFINITION. How the vault and the control area lie as bytes: stripes of a dump, the area header and the descriptor table (R122, R123, R133). -/

namespace Sys2Proof.Machine

/-- The channels of the vault in service, in ascending order (R133). -/
def State.vaultChans (s : State) : List Nat :=
  (List.range 8).filter fun k => !(s.flt.out.contains ⟨Kind.vault, k⟩)

/-- Bytes of one unit of a vault stripe on one channel (R133). -/
def vaultUnit : Nat := 65536

/-- The byte-wise XOR of units. -/
def xorUnits (us : List Bytes) : Bytes := us.foldl xorBytes (zeros vaultUnit)

/-- The place of the XOR unit of stripe `k` among `n` channels: it rotates from stripe to stripe (R133). Which way it turns, and where it starts, the spec does not say. [DESIGN CHOICE: notes/assumptions/122.md] -/
def vaultParity (n k : Nat) : Nat := n - 1 - k % n

/-- Stripe `k` of an image over `n` channels, one unit for each channel in order: the data units in their order, and the XOR of them in its place (R133). [DESIGN CHOICE: notes/assumptions/122.md] -/
def vaultStripe (n k : Nat) (image : Bytes) : List Bytes :=
  let ds := (List.range (n - 1)).map fun i => padTo vaultUnit (slice image ((k * (n - 1) + i) * vaultUnit) vaultUnit)
  ds.take (vaultParity n k) ++ [xorUnits ds] ++ ds.drop (vaultParity n k)

/-- The units of a stripe with the one missing unit rebuilt as the XOR of the others (R133); none when more than one is missing. -/
def vaultRebuild (units : List (Option Bytes)) : Option (List Bytes) :=
  if 1 < (units.filter Option.isNone).length then none
  else some (units.map fun u => u.getD (xorUnits (units.filterMap id)))

/-- The data of stripe `k` read back from its units, of which one may be missing (R133). -/
def vaultRead (k : Nat) (units : List (Option Bytes)) : Option Bytes :=
  (vaultRebuild units).map fun us => (us.eraseIdx (vaultParity us.length k)).flatten

/-- Whether a dump set can be read (R133): at most one of the channels that its stripes run over is retired. -/
def State.setReadable (s : State) (d : DumpSet) : Bool :=
  decide ((d.chans.filter fun k => s.flt.out.contains ⟨Kind.vault, k⟩).length ≤ 1)

/-- The parts of a control area (Table 6.2). -/
inductive AreaPart
  | header | descriptors | mapJournal | stripeJournal | persistent | reserved
deriving DecidableEq, Repr

/-- Offset and size of a part of a control area (Table 6.2). -/
def AreaPart.place : AreaPart → Nat × Nat
  | .header => (0, 2 ^ 20)
  | .descriptors => (0x00100000, 2 ^ 31)
  | .mapJournal => (ringBase, ringSize)
  | .stripeJournal => (0xC0100000, 2 ^ 28)
  | .persistent => (0xD0100000, 2 ^ 28)
  | .reserved => (0xE0100000, 511 * 2 ^ 20)

/-- The part of a control area that an offset lies in (Table 6.2). -/
def areaPart (off : Nat) : Option AreaPart :=
  ([.header, .descriptors, .mapJournal, .stripeJournal, .persistent, .reserved] : List AreaPart).find? fun p =>
    decide (p.place.1 ≤ off ∧ off < p.place.1 + p.place.2)

/-- The area header (Table 6.2): the magic "GLAY", the head index, G in GiB and the dump-set sequence of the last restore, each a 64-bit little-endian word in the table's order, and zeros to 1 MiB. The table gives no offsets within the header. [DESIGN CHOICE: notes/assumptions/122.md] -/
def Control.header (c : Control) : Bytes :=
  padTo (2 ^ 20) (leBytes 0x59414C47 8 ++ leBytes c.head 8 ++ leBytes c.g 8 ++ leBytes c.restoreSeq 8)

/-- The offset of descriptor `d` in a control area (Table 6.2). -/
def descOffset (d : Nat) : Nat := AreaPart.descriptors.place.1 + 64 * (d % movedDesc)

/-- Descriptor `d` as the own control area holds it (Table 6.3); a free one is zeros. -/
def State.descAt (s : State) (d : Nat) : Bytes := ((Tab.find s.gly.own d).map Piece.desc).getD (zeros 64)

end Sys2Proof.Machine
end

