-- ==== Sys2Proof/Machine/Forming.lean ====
section
/-! DEFINITION. The steps of Forming after the forme is read (Table 2.6, R34, R35, R46, R47, R131, R141, R294, R295, R367, R383). -/

namespace Sys2Proof.Machine

/-- Whether the step after `done` may be taken: the head is in Forming, that step is the last one done, and neither guard (R136) nor a committed dump holds it. [DESIGN CHOICE: notes/assumptions/7.md] -/
def State.formingAt (s : State) (done : Nat) : Bool :=
  s.fm.mode == .forming && s.fm.powerUp == .released && s.fm.formStep == done && !s.on F.GLY_STATUS_GUARD && s.gly.dump.isNone

/-- Records that a step of Forming is done. -/
def State.stepDone (s : State) (n : Nat) : State := { s with fm := { s.fm with formStep := n } }

/-- PLL_LOCK (step 4, R366): the bundles that PAIR enables start training. -/
def execPllLock (s : State) : Out1 :=
  if !s.formingAt 3 then .next s
  else
    let mask := (s.fm.forme.map (·.bundles)).getD 0
    let train (s : State) (b : Bool) : State :=
      if s.bundleRetired b then s.wr (bundleField b) 3
      else if bitOf mask (bit b) then (s.modBundle b fun x => { x with tryAt := s.now }).wr (bundleField b) 1
      else s
    .next (((train (train s false) true)).stepDone 4)

/-- DRAM_TRAINING_DONE (steps 5 and 6, R34, R35): `two` says that a channel holds two DIMMs, `bytes` is the DRAM found. The rate code is checked first, then the MEMORY fit; then DRAM is partitioned and the queue contexts are cleared. -/
def execDramTrainingDone (two : Bool) (bytes : Nat) (s : State) : Out1 :=
  if !s.formingAt 4 then .next s
  else match s.fm.forme with
    | none => .next s
    | some f =>
      if two && decide (3 ≤ f.rate) then .next (s.formeReject 0x0E)
      else if bytes < f.regionBytes + f.cacheGib * 2 ^ 30 then .next (s.formeReject 0x0A)
      else
        let s := { s with fm := { s.fm with dramBytes := bytes, cacheLost := 0 }, stk := { s.stk with ctxs := [] } }
        let own := f.head == 1
        let s := s.setHalf own { s.half own with slots := f.filterGib * 402653184 }
        .next ((s.wr F.FOR_EVENT_BASE_ADDR Config.eventBase).stepDone 6)

/-- The entries that a Forming drops (Table 17.3). -/
def ScrapEntry.leaves (e : ScrapEntry) : Bool := e.lapse || (e.clear && ([1, 2, 4, 6, 12] : List Nat).contains e.kind)

/-- Reads the scrap list at step 7 (R382 to R384): both copies merged, without the entries that leave. With neither copy readable the list is empty, with an alarm. -/
def State.readScrap (s : State) : State :=
  let found := s.vaultScrap
  let t := (found.getD []).filter fun e => !e.2.leaves
  let q := t.foldl (fun a e => max a e.2.seq) 0
  let s := { s with flt := { s.flt with scrap := t, vaultA := some t, vaultB := some t, scrapSeq := q, out := scrapChans t, scrapLost := found.isNone } }
  let s := s.wr F.FOR_SCRAP_BASE_ADDR Config.scrapBase
  let s := (scrapChans t).foldl State.showRetired s
  if found.isNone then s.alarm .for_ .scrapLost else s

/-- What retired vault channels and Ethernet lanes mean from the start (R59, R133, R134). -/
def State.formRetired (s : State) : State :=
  let n := (s.flt.out.filter fun c => c.kind == Kind.vault).length
  let s := if 1 ≤ n then s.wr F.GLY_VAULT_STRIPE_6 1 else s
  let s := if 2 ≤ n then ((s.wr F.GLY_VAULT_UNUSABLE 1).raise F.GLY_INT_STATUS_VAULT).alarm .gly .vaultUnusable else s
  (s.flt.out.filter fun c => c.kind == Kind.ethLane).foldl (fun s c => s.ethRetire c.index) s

/-- Step 8 (R46, R147, R148): the line references are checked and the lines are bound; the answer is a rejection reason, if any. [DEDUCED: notes/assumptions/90.md] -/
def State.bindAll (s : State) (f : Forme) : Option Nat × State :=
  if !f.linesOk then (some 0x0B, s)
  else match s.bindLines f f.lines [] with
    | none => (some 0x0C, s)
    | some (ls, moved) =>
      let s := { s with fm := { s.fm with lines := ls.foldl (fun t l => Tab.put t l.1 l.2) [] } }
      let s := moved.foldl (fun s m => s.logRec (Kind.source m.1.kind) 2 .laneReplaced 0 ⟨m.1.kind, m.2.1⟩ [m.2.2]) s
      (none, ls.foldl (fun s l => s.wr (F.FOR_LINE_FORME_ID l.1) f.id) s)

/-- LANE_SELF_TEST_DONE (steps 7 and 8, R46, R377, R382 to R384): `failing` lists the channels that failed their self-test as (kind, index). Vault channels that failed during a dump are entered now. -/
def execLaneSelfTestDone (failing : List (Nat × Nat)) (s : State) : Out1 :=
  if !s.formingAt 6 then .next s
  else match s.fm.forme with
    | none => .next s
    | some f =>
      let seals := s.flt.atSeal
      let s := s.readScrap
      let s := { s with flt := { s.flt with atSeal := [] } }
      let s := seals.foldl (fun s c => s.putOut c.1 4 1 c.2) s
      let s := failing.foldl (fun s c => (s.katFailed c.1).putOut ⟨c.1, c.2⟩ 3 0 0) s
      match (s.formRetired.stepDone 7).bindAll f with
      | (some r, s) => .next (s.formeReject r)
      | (none, s) => .next (s.stepDone 8)

/-- Sets U at the first Forming that finds modules (R301), from the modules found. [DEDUCED: notes/assumptions/42.md] -/
def State.firstCap (s : State) : State :=
  if s.hth.userC ≠ 0 then s
  else
    let seen : State := { s with gmp := { s.gmp with mods := s.gmp.mods.map fun e => (e.1, if e.2.state = .admitting then { e.2 with state := .admitted } else e.2) } }
    { s with hth := { s.hth with userC := seen.capSet.hth.userC, spareC := seen.capSet.hth.spareC } }

/-- BACKEND_DISCOVERY_DONE (step 9, R47, R301, R320, R366): `found` lists the modules found with the speed and lanes of their links. A head that finds FENCE_IN asserted sends REJOIN and waits at this step. -/
def execBackendDiscoveryDone (found : List (ModuleInfo × Nat × Nat)) (s : State) : Out1 :=
  if !s.formingAt 8 then .next s
  else if s.fm.pins.fenceIn then .next (if s.anv.rejoinWait then s else s.joinHello)
  else
    let s := found.foldl (fun s m => s.moduleFound m.1 m.2.1 m.2.2) s
    let n := Tab.count s.gmp.mods fun _ m => m.state == .admitting
    let s := ((s.fm.forme.map (·.classes)).getD []).foldl (fun s c => if n < c.d + 2 then s.alarm .hth .classShort 0 [c.id, n] else s) s
    let s := if n = 0 then s else s.firstCap
    .next ((s.wr F.GMP_CTRL_ENABLE 1).stepDone 9)

/-- The set that a restore reads: the one with the higher sequence of those written and not released. -/
def State.restoreSet (s : State) : Option Bool :=
  let ok (b : Bool) : Bool := (s.dumpSet b).written && !(s.dumpSet b).released
  if ok false && ok true then some (decide (s.gly.setA.seq < s.gly.setB.seq))
  else if ok false then some false
  else if ok true then some true
  else none

/-- A piece as it comes out of the vault: what only DRAM held about its refinement is gone. [DEDUCED: notes/assumptions/88.md] -/
def Piece.restored (p : Piece) : Piece :=
  { p with task := none, localDone := true, mirrorAck := false, applied := false, logged := 0, grains := [], journalled := false, verify := [], refs := 0, drops := [], applying := false }

/-- The event log continues behind the restored records (R385). [DEDUCED: notes/assumptions/90.md] -/
def State.joinLog (s : State) (old : Tab EventRec) : State :=
  let top := old.foldl (fun a e => max a e.2.seq) 0
  let log := s.flt.log.foldl (fun t e => Tab.put t ((e.2.seq + top) % 65536) { e.2 with seq := e.2.seq + top }) old
  { s with flt := { s.flt with log := log, eventSeq := s.flt.eventSeq + top, unacked := s.flt.unacked.map fun (e : Nat × Nat) => (e.1 + top, e.2) } }

/-- Restores a dump set (R138, R141): each phase with its mark, and every complete segment. Pieces of `badOwn` and `badMirror` fail DESC_CRC or DIGEST and count as missing; without phase 1 no descriptor survives. A piece without slots lies in no data phase. [DEDUCED: notes/assumptions/88.md] -/
def State.restoreFrom (s : State) (b : Bool) (badOwn badMirror : List Nat) : State :=
  let d := s.dumpSet b
  let s := { s with gly := { s.gly with restored := some b, lastRestore := d.seq } }
  if !d.phase1 || !s.setReadable d then { s with gly := { s.gly with galleyLost := true } }
  else
    let own := d.own.map fun e => (e.1, e.2.restored)
    let (good, gone) := own.partition fun e => (d.phase2 || e.2.slotCnt == 0) && !badOwn.contains e.1
    let inSegs := (d.segPieces.take d.segments).flatten
    let mirror := d.mirror.filter fun e => (inSegs.contains e.1 || e.2.slotCnt == 0) && !badMirror.contains e.1
    let gens := own.foldl (fun t e => Tab.set 0 t e.1 e.2.gen) ([] : Tab Nat)
    let s := { s with gly := { s.gly with own := good, missing := gone, mirror := mirror, gens := gens }, anv := { s.anv with ctl := d.ctlMirror } }
    s.joinLog d.ctlOwn.log

/-- The metadata on flash, as `flash` gives it when the partner has written since, or as this head left it. [DEDUCED: notes/assumptions/9.md] -/
def State.flashImage (s : State) (flash : Option Image) : Image := flash.getD s.hth.journal.image

/-- GALLEY_RESTORE (step 10, R133, R134, R140 to R145, R295): `formatOk` is the vault's format check. When both galley copies are lost (`bothLost`) the journal tail is rebuilt by the tag scan over the metadata on flash. [DEDUCED: notes/assumptions/9.md] -/
def execGalleyRestore (formatOk : Bool) (badOwn badMirror : List Nat) (bothLost : Bool) (flash : Option Image) (s : State) : Out1 :=
  if !s.formingAt 9 then .next s
  else
    let s := if formatOk || s.on F.GLY_VAULT_UNUSABLE then s
      else ((s.wr F.GLY_VAULT_UNUSABLE 1).raise F.GLY_INT_STATUS_VAULT).alarm .gly .vaultUnusable
    let s := if !formatOk then s
      else match s.restoreSet with
        | none => s
        | some b => s.restoreFrom b badOwn badMirror
    let s := if bothLost then
        let s := s.loadCkpt
        ((s.loadImage (s.flashImage flash)).tagScan true).alarm .gly .galleyLost
      else s
    .next (({ s with gly := { s.gly with galleyLost := s.gly.galleyLost || bothLost } } : State).stepDone 10)

/-- The control area that the restore brought back: empty when nothing was restored. -/
def State.restoredCtl (s : State) : Control :=
  match s.gly.restored with
  | none => {}
  | some b => if (s.dumpSet b).phase1 then (s.dumpSet b).ctlOwn else {}

/-- Lifetime counters come back from the checkpoint (R294). -/
def State.lifeCounters (s : State) : State :=
  let c := s.hth.journal.ckpt
  (((s.wr F.IMP_LOST_CNT_TOTAL c.lostTotal).wr F.HTH_DESCALE_CNT_SHEETS c.freed).wr F.HTH_DESCALE_CNT_MOVED c.copied).wr F.ANV_TAKEOVER_LAST_COUNT c.takeovers

/-- Stamps, stripe epochs and grain allocation resume beyond their marks (R101, R185, R253). -/
def State.resumeMarks (s : State) (c : Control) : State :=
  let k := s.hth.journal.ckpt
  let st := max c.stampHwm k.stampHwm + 2 ^ 24
  let e := ((if epochAfter c.epochMark k.epochMark then c.epochMark else k.epochMark) + 2 ^ 20) % 2 ^ 32
  let own := s.head == 1
  let mark := if own then max c.hwm1 k.hwm1 else max c.hwm0 k.hwm0
  let s := { s with chs := { s.chs with hwm := st }, hth := { s.hth with epoch := e, epochMark := e } }.wr F.CHS_LAST_STAMP_STAMP st
  s.setHalf own { s.half own with hwm := max (s.half own).hwm (mark + 2 ^ 24) }

/-- Goes through an unfinished deletion walk: the pages passed after the checkpoint are dropped again (R330). -/
def State.rewalk (s : State) (w : Nat × Nat) : State :=
  match Tab.find s.vols w.1 with
  | none => s
  | some v =>
    if v.state ≠ .deleting ∨ v.holder ≠ s.head then s
    else
      let n := w.2 - v.walk
      let lo := ((v.pages.drop n).head?.map Prod.fst).getD 0
      let left := v.pages.drop n
      let v := { v with pages := left, walk := w.2, map := v.map.filter fun c => !left.isEmpty && decide (lo ≤ c.1) }
      { s with vols := Tab.put s.vols w.1 v, ste := { s.ste with walks := s.ste.walks ++ [w.1] } }

/-- The persistent state of the control area takes effect again: deferred ranges, reservations that persist through power loss, sessions, walks, the takeover and bank lists, the rebuild from its stripe 0 (R269) and the reshape from its boundary. [DEDUCED: notes/assumptions/90.md] -/
def State.resumeState (s : State) (c : Control) : State :=
  let own := s.head == 1
  let s := s.setHalf own { s.half own with deferred := if own then c.deferred1 else c.deferred0, state := .loading }
  let s := c.walks.foldl State.rewalk s
  { s with
    stk := { s.stk with resv := c.resv.filter fun r => r.2.ptpl }
    ste := { s.ste with peerSessions := c.sessions }
    anv := { s.anv with taken := c.taken }
    pwr := { s.pwr with bankList := c.banked }
    imp := { s.imp with rebuild := c.rebuild.map fun r => { r with stripe := 0 }, reshape := (reshapeTurn c.reshape c.peerReshape).1.map Reshape.restart, peerReshape := (reshapeTurn c.reshape c.peerReshape).2.map Reshape.restart } }

/-- An entry that names a sheet which replay left To erase or Free (R299): it moves to a copy of its grain in a descaling sheet, or its grain is Lost with cause 1. -/
def State.checkErased (s : State) : State :=
  let own := s.head == 1
  let bad := (s.half own).grains.filter fun e => (e.2.state == .live || e.2.state == .deferred) && ((s.sheet e.2.sheet).state == .toErase || (s.sheet e.2.sheet).state == .free)
  bad.foldl (fun s e =>
    let g := mkGid own e.2.gen e.1
    let s := (s.raise F.HTH_INT_STATUS_ERASE_CHECK).alarm .hth .sortSuspect 0 [g]
    let homes := s.hth.sheets.filter fun x => x.2.role == .descale && (x.2.state == .opened || x.2.state == .closed)
    match homes.findSome? fun x => (x.2.sorts.find? fun r => r.gid == g).map fun r => (mkAddr x.1 r.offset, r.units) with
    | some (a, u) => s.journal [.move g e.2.addr a u]
    | none => s.loseGrain g 1) s

/-- Members on modules that were not found are missing (R264). [DEDUCED: notes/assumptions/90.md] -/
def State.absentMembers (s : State) : State :=
  let ms := (s.hth.sheets.flatMap fun e => e.2.members.map Prod.fst).eraseDups
  let here (m : Nat) : Bool := (s.module m).state == .admitting || (s.module m).state == .admitted
  (ms.filter fun m => !here m).foldl (fun s m => (s.alarm .gmp .memberMissing 0 [m]).moduleGone m) s

/-- Plates that stand as members and that no sheet of this head lists: the spares of a rebuild that a power failure broke off, which are abandoned to be erased (R269). -/
def State.strayPlates (s : State) : State :=
  let stray := s.hth.plates.filter fun p => p.2.state == .member && (s.sheet p.2.sheet).head == s.head && !(s.sheet p.2.sheet).members.contains (p.1 / 2 ^ 25, p.1 % 2 ^ 25)
  s.journal (stray.map fun p => .plate (p.1 / 2 ^ 25) (p.1 % 2 ^ 25) { p.2 with state := .toErase, sheet := 0 })

/-- JOURNAL_REPLAY (step 11, R101, R185, R236, R253, R262, R269, R291, R294): the checkpoint is loaded from flash, the restored ring is replayed from SEQ_END + 1, and open stripes are settled. Replay stops at the first batch of which a record fails its CRC or which has no END: `bad` lists the SEQs of such batches. After a tag scan the tables and marks already stand. [DEDUCED: notes/assumptions/9.md] -/
def execJournalReplay (flash : Option Image) (bad : List Nat) (s : State) : Out1 :=
  if !s.formingAt 10 then .next s
  else
    let c := s.restoredCtl
    let s := if s.gly.galleyLost && s.hth.audit.isSome then s else s.loadCkpt
    let e := s.hth.journal.ckpt.seqEnd
    let ring := (c.ring.filter fun b => decide (e < b.seq)).takeWhile fun b => !bad.contains b.seq
    let top := ring.foldl (fun a b => max a b.seq) e
    let s := s.lifeCounters
    let s := if s.gly.galleyLost && s.hth.audit.isSome then s
      else
        let s := (s.loadImage (s.flashImage flash)).replayBatches ring
        let s := if flash.isNone then s.replayBatches s.anv.ctl.ring else { s with anv := { s.anv with ctl := { s.anv.ctl with ring := [] } } }
        s.resumeMarks c
    let s := { s with hth := { s.hth with journal := { s.hth.journal with seq := top, ring := ring } } }
    let s := (s.resumeState c).nonceResume c.nonces
    let s := c.opens.foldl State.settleStripe s
    .next (((s.checkErased).absentMembers.strayPlates).stepDone 11)

/-- The ENABLE bits that Forming sets. [DEDUCED: notes/assumptions/14.md] -/
def enables : List Field :=
  [F.STK_CTRL_ENABLE, F.CHS_CTRL_ENABLE, F.GLY_CTRL_ENABLE, F.ANV_CTRL_ENABLE, F.PUN_CTRL_ENABLE, F.MTX_CTRL_ENABLE, F.SWG_CTRL_ENABLE, F.TMP_CTRL_ENABLE, F.PRF_CTRL_ENABLE, F.IMP_CTRL_ENABLE, F.HTH_CTRL_ENABLE, F.GMP_CTRL_ENABLE, F.STE_CTRL_ENABLE, F.UPD_CTRL_ENABLE]

/-- The clocks of Joining start, and ALIVE toggles (R354). -/
def State.joinStart (s : State) : State :=
  State.widthReshape (State.galleyEval { s with
    fm := { s.fm with pins := { s.fm.pins with alive := true } }
    anv := { s.anv with joinedAt := s.now }
    pwr := { s.pwr with timerFrom := s.now }
    hth := { s.hth with journal := { s.hth.journal with lastFlush := s.now } } })

/-- How Joining begins (R41, R367): alone at once with a bundle mask other than 0x3, and with HELLO when a bundle is up. -/
def State.joinOrAlone (s : State) : State :=
  let s := s.logReserve
  if s.bundleMask ≠ 3 then s.startAlone else if s.bundleState false = 2 ∨ s.bundleState true = 2 then s.joinHello else s

/-- FORMING_END (step 12, R19, R41, R274, R354, R367): FOR_MODE reports Joining, the front links train, ALIVE toggles and HELLO goes out. Every namespace is held until Joining says who serves it. A head whose bundle mask is not 0x3 starts alone. [DEDUCED: notes/assumptions/14.md, notes/assumptions/90.md] -/
def execFormingEnd (s : State) : Out1 :=
  if !s.formingAt 11 then .next s
  else
    let s := enables.foldl (fun s f => s.wr f 1) s
    let s := ((List.range 12).foldl (fun s k => s.openChannel (65520 + k)) (s.stepDone 12)).toMode .joining
    .next ((s.portsUp.joinStart.nsFromVolumes fun _ => .heldNs).joinOrAlone)

/-- Takes the copy of the scrap list that the partner holds when neither vault copy could be read (R383). [DEDUCED: notes/assumptions/90.md] -/
def State.takeScrapCopy (s : State) : State :=
  if !s.flt.scrapLost then s
  else
    let t := s.flt.scrap.foldl (fun t e => Tab.put t e.1 e.2) (s.flt.partnerCopy.filter fun e => !e.2.leaves)
    let new := (scrapChans t).filter fun c => !s.flt.out.contains c
    let q := t.foldl (fun a e => max a e.2.seq) s.flt.scrapSeq
    let s := { s with flt := { s.flt with scrap := t, vaultA := some t, vaultB := some t, scrapSeq := q, out := s.flt.out ++ new, scrapLost := false, partnerCopy := [] } }
    new.foldl (fun s c => (s.showRetired c).retireEffect c 0 []) s

/-- What this head was to do for namespaces that the partner now serves is the partner's (Table 16.5). [DEDUCED: notes/assumptions/82.md] -/
def State.standBy (s : State) : State := { s with anv := { s.anv with taken := [] }, ste := { s.ste with walks := [] } }

/-- JOIN_BACKLOG_DONE (R142, R352, R236, R383): the backlog and the control areas are sent and Joining ends. The peer in service raises the seats, deasserts CLAIM_ACK_OUT and gives up the lost partner's journal, which the control areas now hold; the joiner stands by and loads its half; two heads from Forming settle their pieces, own what their volume records name, and free the grains that were in flight. [DEDUCED: notes/assumptions/90.md] -/
def execJoinBacklogDone (s : State) : Out1 :=
  if !s.joined1 then .next s
  else if s.fm.mode = .solo then
    let s := { s.raiseSeats with fm := { s.raiseSeats.fm with pins := { s.raiseSeats.fm.pins with claimAckOut := false } } }
    let s := { s.foldLost.2 with hth := { s.foldLost.2.hth with journal := { s.foldLost.2.hth.journal with image := s.foldLost.1 } } }
    .next ((s.wr F.ANV_TONGS_CLAIM_OUT 0).pairUp)
  else if s.fm.mode ≠ .joining then .next s
  else
    let s := s.takeScrapCopy
    let own := s.head == 1
    let resume (s : State) : State := let s := s.nonceResume (s.control.nonces ++ s.tmp.backMarks); { s with tmp := { s.tmp with backMarks := [] } }
    if s.bothForming then
      let s := (s.settlePieces s.anv.join.copies).nsFromVolumes fun v => if v.holder = s.head then .loc else .remote
      let s := s.resumeSessions (Tab.keysWhere s.vols fun _ v => v.state != .free && v.holder == s.head)
      let s := ((resume s).freeInflight own).pairUp
      .next { s with anv := { s.anv with join := { s.anv.join with copies := [] } } }
    else
      let s := (s.standBy.nsFromVolumes fun _ => .remote).setHalf own { s.half own with peerHolds := true }
      .next ((resume s).wr F.ANV_PAIR_STANDBY 1).pairUp

end Sys2Proof.Machine
end

