-- ==== Sys2Proof/Machine/Supply.lean ====
section
/-! DEFINITION. Supply events, guard, the dump to the vault, and the thermal response (R133 to R140, R446, R453). -/

namespace Sys2Proof.Machine

/-- SUPPLY_EVENT_START (R135, R396): POWER_WARN_N is asserted (`warn`) or the core rail falls below its warning level. A Banked head wakes for it; a Deep-banked one does not. [DEDUCED: notes/assumptions/92.md] -/
def execSupplyEventStart (warn : Bool) (s : State) : Out1 :=
  let s := { s with fm := { s.fm with pins := { s.fm.pins with powerWarn := s.fm.pins.powerWarn || warn } } }
  if !s.awake || s.fm.mode == .deepBanked || s.gly.dump.isSome || s.gly.supply.isSome then .next s
  else
    let s := s.wakeSource 4 []
    .next { s with gly := { s.gly with supply := some { t0 := s.now } } }

/-- SUPPLY_DIP_END (R135): the supply is back in range within 200 µs. -/
def execSupplyDipEnd (s : State) : Out1 :=
  match s.gly.supply with
  | none => .next s
  | some e =>
    if e.guard ∨ e.t0 + 200000 < s.now then .next s
    else .next (({ s with gly := { s.gly with supply := none }, fm := { s.fm with pins := { s.fm.pins with powerWarn := false } } } : State).inc F.GLY_BROWN_CNT_DIPS)

/-- GUARD_ENTER (R135, R136): out of range for 200 µs; the vault is powered and armed. [DEDUCED: notes/assumptions/92.md] -/
def execGuardEnter (s : State) : Out1 :=
  match s.gly.supply with
  | none => .next s
  | some e =>
    if e.guard ∨ s.now < e.t0 + 200000 then .next s
    else
      let s := { s with gly := { s.gly with supply := some { e with guard := true } }, fm := { s.fm with pins := { s.fm.pins with vaultVcc := true } } }
      .next (((s.wr F.GLY_STATUS_GUARD 1).inc F.GLY_BROWN_CNT_WARNINGS).raise F.GLY_INT_STATUS_GUARD_IN)

/-- The moment of commitment, 50.2 ms after the start of a supply event (R135). -/
def SupplyEvent.commitAt (e : SupplyEvent) : Nat := e.t0 + 50200000

/-- GUARD_WINDOW_START (R135): in guard, before t0 + 50.2 ms, the supply returns to range. -/
def execGuardWindowStart (s : State) : Out1 :=
  match s.gly.supply with
  | none => .next s
  | some e =>
    if !e.guard || e.window.isSome || decide (e.commitAt ≤ s.now) then .next s
    else .next { s with gly := { s.gly with supply := some { e with window := some s.now } }, fm := { s.fm with pins := { s.fm.pins with powerWarn := false } } }

/-- The set that a dump goes to (R140): a released one, one that is erased first; else one without a seal; else the one with the lower sequence. False is A. [DEDUCED: notes/assumptions/88.md] -/
def State.dumpTarget (s : State) : Bool :=
  let a := s.gly.setA
  let b := s.gly.setB
  if a.released && b.released then !a.erased && b.erased
  else if a.released || b.released then b.released
  else if a.sealed && b.sealed then decide (b.seq < a.seq)
  else a.sealed

/-- Bytes of a phase 3 segment (R138). -/
def segBytes : Nat := 64 * 2 ^ 20

/-- The segments of phase 3 (R138): the pieces that end in each, in ascending stamp order, and the bytes of each. [DEDUCED: notes/assumptions/88.md] -/
def dumpSegments (mirror : List (Nat × Piece)) : List (List Nat) × List Nat :=
  let order := mirror.foldl (fun a p => insertBy (fun (x y : Nat × Piece) => decide (y.2.stamp < x.2.stamp)) p a) []
  let (ends, total) := order.foldl (fun (a : List (Nat × Nat) × Nat) e => let n := a.2 + e.2.slotCnt * 4224; (a.1 ++ [(e.1, (n - 1) / segBytes)], n)) ([], 0)
  let count := (total + segBytes - 1) / segBytes
  ((List.range count).map fun k => (ends.filter fun e => e.2 == k).map Prod.fst, (List.range count).map fun k => min segBytes (total - k * segBytes))

/-- Stops ALIVE and powers down the ports and every compute-die lane (R137): what is not published is discarded, and no command is answered any more. [DEDUCED: notes/assumptions/92.md] -/
def State.powerDown (s : State) : State :=
  let s := (List.range 4).foldl (fun (s : State) p => s.wr (F.PRT_ETH_LINK_UP p) 0) s
  let s := (List.range 2).foldl (fun (s : State) p => ((s.wr (F.PRT_FRONT_LINK_SPEED p) 0).wr (F.PRT_FRONT_LINK_WIDTH p) 0).wr (F.PRT_FRONT_LINK_FLIT p) 0) s
  let s := (s.wr F.ANV_BUNDLE_STATE0 0).wr F.ANV_BUNDLE_STATE1 0
  { s with
    fm := { s.fm with pins := { s.fm.pins with alive := false, frontTx := false, backTxGated := true } }
    stk := { resv := s.stk.resv, linksDown := true }
    chs := { s.chs with input := [], locks := [] }
    gly := { s.gly with own := s.gly.own.filter fun e => e.2.commit, waiting := [] }
    prf := { condemned := s.prf.condemned }, pun := {}, swg := {}
    tmp := { s.tmp with stores := [], slots := [], queued := [], running := [], held := [] }
    imp := { s.imp with running := [], queued := [] } }

/-- Whether a dump committed now is skipped (R139): the vault is unusable, or DRAM holds no galley that the vault does not hold. [DEDUCED: notes/assumptions/88.md] -/
def State.dumpSkips (s : State) : Bool :=
  s.on F.GLY_VAULT_UNUSABLE || s.fm.mode == .recovery || (s.fm.mode == .forming && decide (s.fm.formStep < 10))

/-- Commits the dump (R137 to R140): E is kept as it stands, and the dump record and what the phases are to hold are fixed. [DEDUCED: notes/assumptions/88.md] -/
def State.commitDump (s : State) (thermal : Bool) : State :=
  let skip := s.dumpSkips
  let b := s.dumpTarget
  let e := s.energy
  let s := { s.powerDown with gly := { s.powerDown.gly with supply := none } }
  let s := ((s.inc F.GLY_BROWN_CNT_DUMPS).wr F.GLY_STATUS_GUARD 0).wr F.GLY_STATUS_DUMPING 1
  let s := { s with fm := { s.fm with pins := { s.fm.pins with vaultVcc := !s.on F.GLY_VAULT_UNUSABLE } } }
  if skip then { s with gly := { s.gly with dump := some ⟨b, true, 4, [], e, s.now, thermal⟩ } }
  else
    let mirror := s.gly.mirror.filter fun x => x.2.dataIn
    let (pieces, left) := dumpSegments mirror
    let q := s.gly.dumpSeq + 1
    let d : DumpSet :=
      { written := true, seq := q, head := s.head, epoch := s.rd F.GMP_PAIR_EPOCH_EPOCH, g := s.galleyGib, gp := s.galleyGib, six := s.on F.GLY_VAULT_STRIPE_6, chans := s.vaultChans
        released := false, erased := false, own := s.gly.own, mirror := mirror, segPieces := pieces, ctlOwn := s.control, ctlMirror := s.anv.ctl }
    let s := { (s.setDump b d) with gly := { (s.setDump b d).gly with dumpSeq := q, dump := some ⟨b, false, 1, left, e, s.now, thermal⟩ } }
    ((((s.wr F.GLY_DUMP_LAST_ENERGY 0).wr F.GLY_DUMP_LAST_TIME 0).wr F.GLY_DUMP_LAST_SEGMENTS 0).wr F.GLY_DUMP_LAST_SEALED 0).wr F.GLY_DUMP_LAST_PHASES 0

/-- GUARD_WINDOW_BREAK (R135): the supply leaves range during a window; at or after t0 + 50.2 ms the dump is committed. -/
def execGuardWindowBreak (warn : Bool) (s : State) : Out1 :=
  match s.gly.supply with
  | none => .next s
  | some e =>
    if e.window.isNone then .next s
    else
      let s := { s with fm := { s.fm with pins := { s.fm.pins with powerWarn := warn } } }
      if e.commitAt ≤ s.now then .next (s.commitDump false)
      else .next { s with gly := { s.gly with supply := some { e with window := none } } }

/-- GUARD_RESUME (R135, R136): 10 ms in range; held writes go to Chase in their order, and what waited for the end of guard begins. [DEDUCED: notes/assumptions/92.md] -/
def execGuardResume (s : State) : Out1 :=
  match s.gly.supply with
  | none => .next s
  | some e =>
    if !(e.window.any fun w => decide (w + 10000000 ≤ s.now)) then .next s
    else
      let held := s.stk.held
      let s := { s with gly := { s.gly with supply := none }, stk := { s.stk with held := [] }, fm := { s.fm with pins := { s.fm.pins with vaultVcc := !s.flt.writing.isEmpty } } }
      let s := ((s.wr F.GLY_STATUS_GUARD 0).inc F.GLY_BROWN_CNT_RESUMES).note .gly .guardResume
      .next (held.foldl State.handOver s).takeGuarded.drainNext

/-- DUMP_COMMIT (R135, R137): out of range at t0 + 50.2 ms. -/
def execDumpCommit (s : State) : Out1 :=
  match s.gly.supply with
  | none => .next s
  | some e => if e.guard ∧ e.window.isNone ∧ e.commitAt ≤ s.now then .next (s.commitDump false) else .next s

/-- Whether the energy left after the next segment still seals the dump (R138): E at commitment, less what has been spent since t0 and the segment's cost, is at least 46.5 J. In 96ths of a joule, times bytes per GiB. [DEDUCED: notes/assumptions/88.md] -/
def State.affords (s : State) (d : Dump) (spent bytes : Nat) : Bool :=
  decide (4464 * 2 ^ 30 + spent * 96 * 2 ^ 30 + bytes * s.perGib ≤ d.atCommit * 96 * 2 ^ 30)

/-- Goes on with phase 3: the next segment, the end of the phase, or the seal when the energy does not suffice. -/
def State.nextSegment (s : State) (d : Dump) (spent : Nat) : State :=
  let at_ (s : State) (n : Nat) : State := { s with gly := { s.gly with dump := some { d with phase := n } } }
  match d.left with
  | [] => at_ (s.raise F.GLY_DUMP_LAST_PHASES 4) 4
  | n :: _ => if s.affords d spent n then at_ s 3 else at_ s 4

/-- DUMP_PHASE_COMPLETE (R138): a phase or a segment is in the vault, and its mark is written; `spent` is the energy in J used since t0. -/
def execDumpPhaseComplete (spent : Nat) (s : State) : Out1 :=
  match s.gly.dump with
  | none => .next s
  | some d =>
    let x := s.dumpSet d.setB
    if d.skipped then .next s
    else match d.phase with
      | 1 => .next ((({ (s.setDump d.setB { x with phase1 := true }) with gly := { (s.setDump d.setB { x with phase1 := true }).gly with dump := some { d with phase := 2 } } } : State)).raise F.GLY_DUMP_LAST_PHASES 1)
      | 2 => .next (((s.setDump d.setB { x with phase2 := true }).raise F.GLY_DUMP_LAST_PHASES 2).nextSegment d spent)
      | 3 => .next (((s.setDump d.setB { x with segments := x.segments + 1 }).wr F.GLY_DUMP_LAST_SEGMENTS (x.segments + 1)).nextSegment { d with left := d.left.tail } spent)
      | _ => .next s

/-- DUMP_SEAL (R138, R139, R445, R446, R453): the seal is written, or nothing when the dump is skipped. After a thermal dump THERMTRIP_N is asserted; otherwise the head falls to Dark while POWER_WARN_N is asserted (`warn`), a RESET_N that is still low takes effect, and else the head resets into Forming with cause 3. [DEDUCED: notes/assumptions/87.md] -/
def execDumpSeal (spent : Nat) (warn rstLow : Bool) (s : State) : Out1 :=
  match s.gly.dump with
  | none => .next s
  | some d =>
    if d.phase ≠ 4 then .next s
    else
      let s := { s with fm := { s.fm with pins := { s.fm.pins with powerWarn := warn, resetLow := rstLow, vaultVcc := false } } }
      let s := if d.skipped then s
        else (((s.setDump d.setB { s.dumpSet d.setB with sealed := true }).wr F.GLY_DUMP_LAST_ENERGY spent).wr F.GLY_DUMP_LAST_TIME ((s.now - d.committedAt) / 1000000)).wr F.GLY_DUMP_LAST_SEALED 1
      if d.thermal then .next { s.goDark with fm := { s.goDark.fm with pins := { s.goDark.fm.pins with thermtrip := true } } }
      else if warn then .next s.goDark
      else if rstLow then .next (s.holdReset 1)
      else .next (s.reboot 3)

/-- Tmax of the ordering code in °C (R2). -/
def State.tmax (s : State) : Int := if s.fm.hallmark.fuses.order = 1 then 105 else 100

/-- The hottest of three die temperatures. -/
def hottest (io c0 c1 : Int) : Int := max io (max c0 c1)

/-- Takes new die temperatures, which FOR_TEMP shows in two's complement. [DEDUCED: notes/assumptions/89.md] -/
def State.temps (s : State) (io c0 c1 : Int) : State :=
  let w (t : Int) : Nat := (t % 256).toNat
  (((s.wr F.FOR_TEMP_IO (w io)).wr F.FOR_TEMP_C0 (w c0)).wr F.FOR_TEMP_C1 (w c1)).wr F.FOR_TEMP_HOT (w (hottest io c0 c1))

/-- THERMAL_WARN (R453): Tmax − 5 °C. [DEDUCED: notes/assumptions/89.md] -/
def execThermalWarn (io c0 c1 : Int) (s : State) : Out1 :=
  if !s.awake then .next s
  else
    let s := s.temps io c0 c1
    if hottest io c0 c1 < s.tmax - 5 then .next s
    else .next (((s.raise F.FOR_INT_STATUS_THERMAL).alarm .for_ .thermal 0 [s.rd F.FOR_TEMP_HOT]).smartSet 1 true)

/-- THERMAL_THROTTLE (R453): at Tmax the station, fabric and smith clocks are stepped down. -/
def execThermalThrottle (io c0 c1 : Int) (s : State) : Out1 :=
  if !s.awake then .next s
  else
    let s := s.temps io c0 c1
    if hottest io c0 c1 < s.tmax then .next s else .next { s with fm := { s.fm with thermalLow := true } }

/-- THERMAL_RECOVER (R453): 2 °C below Tmax the clocks come back. -/
def execThermalRecover (io c0 c1 : Int) (s : State) : Out1 :=
  if !s.awake then .next s
  else
    let s := s.temps io c0 c1
    if s.tmax - 2 < hottest io c0 c1 then .next s
    else
      let s : State := if hottest io c0 c1 < s.tmax - 5 then s.smartSet 1 false else s
      .next { s with fm := { s.fm with thermalLow := false } }

/-- THERMAL_PARK (R453): Tmax + 5 °C for 100 ms. A paired head hands everything over and sends PARK; in Solo it keeps serving at its lowest clock. An entry to sleep gives way. [DEDUCED: notes/assumptions/89.md] -/
def execThermalPark (io c0 c1 : Int) (s : State) : Out1 :=
  if !s.awake then .next s
  else
    let s := s.temps io c0 c1
    if hottest io c0 c1 < s.tmax + 5 then .next s
    else
      let s := { s with fm := { s.fm with thermalLow := true } }
      let s := s.bankAbort 1
      if s.paired && s.pwr.entry.isNone then .next (s.leave .thermal false) else .next s

/-- THERMAL_DUMP (R453): Tmax + 10 °C for 1 ms commits the dump. [DEDUCED: notes/assumptions/89.md] -/
def execThermalDump (io c0 c1 : Int) (s : State) : Out1 :=
  if !s.awake then .next s
  else
    let s := s.temps io c0 c1
    if hottest io c0 c1 < s.tmax + 10 then .next s
    else match s.gly.dump with
      | some d => .next { s with gly := { s.gly with dump := some { d with thermal := true } } }
      | none => .next (s.commitDump true)

/-- THERMTRIP (R453): Tmax + 15 °C during that dump; it ends unsealed. [DEDUCED: notes/assumptions/89.md] -/
def execThermtrip (io c0 c1 : Int) (s : State) : Out1 :=
  if !s.awake then .next s
  else
    let s := s.temps io c0 c1
    if hottest io c0 c1 < s.tmax + 15 ∨ !(s.gly.dump.any (·.thermal)) then .next s
    else .next { s.goDark with fm := { s.goDark.fm with pins := { s.goDark.fm.pins with thermtrip := true } } }

end Sys2Proof.Machine
end

