-- ==== Sys2Proof/Machine/Dispatch.lean ====
section
/-! DEFINITION. The dispatch: one arm for each command, one meaning for each arm. -/

namespace Sys2Proof.Machine

/-- The effect of a command on everything but the queue. -/
def exec (i : Instr) (s : State) : Host.Outcome State Fault Refusal :=
  match i with
  | .standbySupplyUp addr => Sys2Proof.Machine.execStandbySupplyUp addr s
  | .mainPwrEnAssert => Sys2Proof.Machine.execMainPwrEnAssert s
  | .coreResetRelease warn => Sys2Proof.Machine.execCoreResetRelease warn s
  | .pwrOkLow => Sys2Proof.Machine.execPwrOkLow s
  | .resetNLow => Sys2Proof.Machine.execResetNLow s
  | .pllLock => Sys2Proof.Machine.execPllLock s
  | .dramTrainingDone two bytes => Sys2Proof.Machine.execDramTrainingDone two bytes s
  | .laneSelfTestDone failing => Sys2Proof.Machine.execLaneSelfTestDone failing s
  | .backendDiscoveryDone found => Sys2Proof.Machine.execBackendDiscoveryDone found s
  | .galleyRestore formatOk badOwn badMirror bothLost flash => Sys2Proof.Machine.execGalleyRestore formatOk badOwn badMirror bothLost flash s
  | .journalReplay flash bad => Sys2Proof.Machine.execJournalReplay flash bad s
  | .formingEnd => Sys2Proof.Machine.execFormingEnd s
  | .reFormOffer raw => Sys2Proof.Machine.execReFormOffer raw s
  | .lineGroupDrained progress bad => Sys2Proof.Machine.execLineGroupDrained progress bad s
  | .supplyEventStart warn => Sys2Proof.Machine.execSupplyEventStart warn s
  | .supplyDipEnd => Sys2Proof.Machine.execSupplyDipEnd s
  | .guardEnter => Sys2Proof.Machine.execGuardEnter s
  | .guardWindowStart => Sys2Proof.Machine.execGuardWindowStart s
  | .guardWindowBreak warn => Sys2Proof.Machine.execGuardWindowBreak warn s
  | .guardResume => Sys2Proof.Machine.execGuardResume s
  | .dumpCommit => Sys2Proof.Machine.execDumpCommit s
  | .dumpPhaseComplete spent => Sys2Proof.Machine.execDumpPhaseComplete spent s
  | .dumpSeal spent warn rstLow => Sys2Proof.Machine.execDumpSeal spent warn rstLow s
  | .coreRailReset => Sys2Proof.Machine.execCoreRailReset s
  | .thermalWarn io c0 c1 => Sys2Proof.Machine.execThermalWarn io c0 c1 s
  | .thermalThrottle io c0 c1 => Sys2Proof.Machine.execThermalThrottle io c0 c1 s
  | .thermalPark io c0 c1 => Sys2Proof.Machine.execThermalPark io c0 c1 s
  | .thermalDump io c0 c1 => Sys2Proof.Machine.execThermalDump io c0 c1 s
  | .thermtrip io c0 c1 => Sys2Proof.Machine.execThermtrip io c0 c1 s
  | .wakeNLow bad => Sys2Proof.Machine.execWakeNLow bad s
  | .wakeTimerExpiry bad => Sys2Proof.Machine.execWakeTimerExpiry bad s
  | .wakeDigestCheck mirror d copy => Sys2Proof.Machine.execWakeDigestCheck mirror d copy s
  | .bankingTimerExpiry deep peerQuiet => Sys2Proof.Machine.execBankingTimerExpiry deep peerQuiet s
  | .bankReqBanked peerQuiet => Sys2Proof.Machine.execBankReqBanked peerQuiet s
  | .bankReqDeep peerQuiet => Sys2Proof.Machine.execBankReqDeep peerQuiet s
  | .bankEnterComplete => Sys2Proof.Machine.execBankEnterComplete s
  | .powerOffReq => Sys2Proof.Machine.execPowerOffReq s
  | .wakePartnerReq => Sys2Proof.Machine.execWakePartnerReq s
  | .hostLoadSample written read => Sys2Proof.Machine.execHostLoadSample written read s
  | .laneClockGate kind lane => Sys2Proof.Machine.execLaneClockGate kind lane s
  | .smithClockGate core => Sys2Proof.Machine.execSmithClockGate core s
  | .timeSnapshot => Sys2Proof.Machine.execTimeSnapshot s
  | .emberCalibration ns => Sys2Proof.Machine.execEmberCalibration ns s
  | .timeQualityLapse => Sys2Proof.Machine.execTimeQualityLapse s
  | .timAdjWrite offset => Sys2Proof.Machine.execTimAdjWrite offset s
  | .ptpSync offset locked bound port => Sys2Proof.Machine.execPtpSync offset locked bound port s
  | .pcieSqDoorbell ctx tail => Sys2Proof.Machine.execPcieSqDoorbell ctx tail s
  | .cqHeadDoorbell ctx head => Sys2Proof.Machine.execCqHeadDoorbell ctx head s
  | .commandFetch ctx cmds => Sys2Proof.Machine.execCommandFetch ctx cmds s
  | .contextFill ctx entry => Sys2Proof.Machine.execContextFill ctx entry s
  | .capsuleArrival conn cmds headerOk dataOk => Sys2Proof.Machine.execCapsuleArrival conn cmds headerOk dataOk s
  | .spillRingFetch ctx => Sys2Proof.Machine.execSpillRingFetch ctx s
  | .nvmeofConnect conn cntlid hqid qsize admin keepAliveMs roce lport mtu => Sys2Proof.Machine.execNvmeofConnect conn cntlid hqid qsize admin keepAliveMs roce lport mtu s
  | .tcpIcreq conn lport hdrDigest dataDigest cpda => Sys2Proof.Machine.execTcpIcreq conn lport hdrDigest dataDigest cpda s
  | .h2cData conn ttag cccid offset data last headerOk dataOk => Sys2Proof.Machine.execH2cData conn ttag cccid offset data last headerOk dataOk s
  | .h2cTermReq conn => Sys2Proof.Machine.execH2cTermReq conn s
  | .rdmaReadComplete slot data => Sys2Proof.Machine.execRdmaReadComplete slot data s
  | .cnpReceived conn => Sys2Proof.Machine.execCnpReceived conn s
  | .linkStateChange front port idx speed width fec up => Sys2Proof.Machine.execLinkStateChange front port idx speed width fec up s
  | .functionLevelReset port fn => Sys2Proof.Machine.execFunctionLevelReset port fn s
  | .frontLinkLoss port => Sys2Proof.Machine.execFrontLinkLoss port s
  | .controllerEnable cntlid port fn asq asqSize acq acqSize => Sys2Proof.Machine.execControllerEnable cntlid port fn asq asqSize acq acqSize s
  | .controllerDisable cntlid => Sys2Proof.Machine.execControllerDisable cntlid s
  | .numvfsWrite port n => Sys2Proof.Machine.execNumvfsWrite port n s
  | .vfDisable port => Sys2Proof.Machine.execVfDisable port s
  | .associationEnd cntlid => Sys2Proof.Machine.execAssociationEnd cntlid s
  | .keepAliveExpiry cntlid => Sys2Proof.Machine.execKeepAliveExpiry cntlid s
  | .nvmeRead slot copies => Sys2Proof.Machine.execNvmeRead slot copies s
  | .readDataSent slot => Sys2Proof.Machine.execReadDataSent slot s
  | .nvmeWrite slot => Sys2Proof.Machine.execNvmeWrite slot s
  | .writeZeroes slot => Sys2Proof.Machine.execWriteZeroes slot s
  | .deallocate slot => Sys2Proof.Machine.execDeallocate slot s
  | .nvmeFlush slot => Sys2Proof.Machine.execNvmeFlush slot s
  | .flushComplete slot => Sys2Proof.Machine.execFlushComplete slot s
  | .compare slot buf copies => Sys2Proof.Machine.execCompare slot buf copies s
  | .compareAndWrite slot bufC bufW copies => Sys2Proof.Machine.execCompareAndWrite slot bufC bufW copies s
  | .verify slot copies => Sys2Proof.Machine.execVerify slot copies s
  | .createIoCq slot cqid base size vector ien pc aggrThr aggrTime => Sys2Proof.Machine.execCreateIoCq slot cqid base size vector ien pc aggrThr aggrTime s
  | .createIoSq slot qid cqid base size prio pc => Sys2Proof.Machine.execCreateIoSq slot qid cqid base size prio pc s
  | .deleteIoSq slot qid => Sys2Proof.Machine.execDeleteIoSq slot qid s
  | .deleteIoCq slot cqid => Sys2Proof.Machine.execDeleteIoCq slot cqid s
  | .nsCreate slot a => Sys2Proof.Machine.execNsCreate slot a s
  | .nsDelete slot => Sys2Proof.Machine.execNsDelete slot s
  | .nsAttach slot nsid cntlid => Sys2Proof.Machine.execNsAttach slot nsid cntlid s
  | .nsDetach slot nsid cntlid => Sys2Proof.Machine.execNsDetach slot nsid cntlid s
  | .getLogPage slot lid => Sys2Proof.Machine.execGetLogPage slot lid s
  | .keepAlive slot => Sys2Proof.Machine.execKeepAlive slot s
  | .setFeaturesArbitration slot burst hpw mpw lpw wrr => Sys2Proof.Machine.execSetFeaturesArbitration slot burst hpw mpw lpw wrr s
  | .reservationRegister slot action cur new cptpl ignoreKey => Sys2Proof.Machine.execReservationRegister slot action cur new cptpl ignoreKey s
  | .reservationAcquire slot action rtype cur pre => Sys2Proof.Machine.execReservationAcquire slot action rtype cur pre s
  | .reservationRelease slot action rtype cur => Sys2Proof.Machine.execReservationRelease slot action rtype cur s
  | .reservationReport slot => Sys2Proof.Machine.execReservationReport slot s
  | .unsupportedCommand slot => Sys2Proof.Machine.execUnsupportedCommand slot s
  | .fwImageDownload slot buf peerLock => Sys2Proof.Machine.execFwImageDownload slot buf peerLock s
  | .fwCommitStage slot peerMoving peerLock => Sys2Proof.Machine.execFwCommitStage slot peerMoving peerLock s
  | .fwCommitStageActivate slot peerMoving peerLock => Sys2Proof.Machine.execFwCommitStageActivate slot peerMoving peerLock s
  | .fwCommitActivateSlot slot peerMoving peerLock => Sys2Proof.Machine.execFwCommitActivateSlot slot peerMoving peerLock s
  | .fwCommitActivateNow slot peerMoving peerLock => Sys2Proof.Machine.execFwCommitActivateNow slot peerMoving peerLock s
  | .updateCompare slot => Sys2Proof.Machine.execUpdateCompare slot s
  | .tokenIssue slot => Sys2Proof.Machine.execTokenIssue slot s
  | .completionPost ctx => Sys2Proof.Machine.execCompletionPost ctx s
  | .msixCoalesceTimer ctx => Sys2Proof.Machine.execMsixCoalesceTimer ctx s
  | .drainComplete ctx => Sys2Proof.Machine.execDrainComplete ctx s
  | .fetchHoldWrite v => Sys2Proof.Machine.execFetchHoldWrite v s
  | .stkQcmdCloseChannel qid => Sys2Proof.Machine.execStkQcmdCloseChannel qid s
  | .stkQcmdRehome qid => Sys2Proof.Machine.execStkQcmdRehome qid s
  | .hwmClear locks => Sys2Proof.Machine.execHwmClear locks s
  | .chaseStamp slot => Sys2Proof.Machine.execChaseStamp slot s
  | .stampHoldWrite v => Sys2Proof.Machine.execStampHoldWrite v s
  | .pieceDataLand d buf => Sys2Proof.Machine.execPieceDataLand d buf s
  | .galleyRunAvailable => Sys2Proof.Machine.execGalleyRunAvailable s
  | .localDramWriteComplete d => Sys2Proof.Machine.execLocalDramWriteComplete d s
  | .piecePublish d => Sys2Proof.Machine.execPiecePublish d s
  | .pieceApply d => Sys2Proof.Machine.execPieceApply d s
  | .pieceRelease d => Sys2Proof.Machine.execPieceRelease d s
  | .statusSendTimer => Sys2Proof.Machine.execStatusSendTimer s
  | .partnerStatusTimeout => Sys2Proof.Machine.execPartnerStatusTimeout s
  | .unprotModeExit => Sys2Proof.Machine.execUnprotModeExit s
  | .galleyLogConfirm d module2 => Sys2Proof.Machine.execGalleyLogConfirm d module2 s
  | .forceUnprotWrite v => Sys2Proof.Machine.execForceUnprotWrite v s
  | .bellowsPoll energy status pecOk => Sys2Proof.Machine.execBellowsPoll energy status pecOk s
  | .bellowsTimeout => Sys2Proof.Machine.execBellowsTimeout s
  | .vaultSetErase b => Sys2Proof.Machine.execVaultSetErase b s
  | .vaultRestripeDone => Sys2Proof.Machine.execVaultRestripeDone s
  | .dumpSetRelease b => Sys2Proof.Machine.execDumpSetRelease b s
  | .grainJobPlace job line mask d g => Sys2Proof.Machine.execGrainJobPlace job line mask d g s
  | .refineDigestMismatch d read copy => Sys2Proof.Machine.execRefineDigestMismatch d read copy s
  | .sortRepairDurable gid => Sys2Proof.Machine.execSortRepairDurable gid s
  | .prfOpen check => Sys2Proof.Machine.execPrfOpen check s
  | .prfClose => Sys2Proof.Machine.execPrfClose s
  | .prfCloseOpen check => Sys2Proof.Machine.execPrfCloseOpen check s
  | .prfPendingOpen u => Sys2Proof.Machine.execPrfPendingOpen u s
  | .prfRdataWrite width value => Sys2Proof.Machine.execPrfRdataWrite width value s
  | .prfKatStart pass => Sys2Proof.Machine.execPrfKatStart pass s
  | .punchJobSubmit cluster desc seg ref progress bad => Sys2Proof.Machine.execPunchJobSubmit cluster desc seg ref progress bad s
  | .punchJobEnd core progress bad => Sys2Proof.Machine.execPunchJobEnd core progress bad s
  | .punchResume cluster line progress bad => Sys2Proof.Machine.execPunchResume cluster line progress bad s
  | .punchParityError core => Sys2Proof.Machine.execPunchParityError core s
  | .punchKatStart pass => Sys2Proof.Machine.execPunchKatStart pass s
  | .matrixLookup d g => Sys2Proof.Machine.execMatrixLookup d g s
  | .mtxLookup chan req => Sys2Proof.Machine.execMtxLookup chan req s
  | .mtxPlace chan req => Sys2Proof.Machine.execMtxPlace chan req s
  | .mtxRef chan req => Sys2Proof.Machine.execMtxRef chan req s
  | .mtxUnpin chan req => Sys2Proof.Machine.execMtxUnpin chan req s
  | .mtxMove chan req => Sys2Proof.Machine.execMtxMove chan req s
  | .mtxFetchFp chan req => Sys2Proof.Machine.execMtxFetchFp chan req s
  | .mtxIndexDelta chan req => Sys2Proof.Machine.execMtxIndexDelta chan req s
  | .mtxHandoff chan req half hwm pins placers deferred => Sys2Proof.Machine.execMtxHandoff chan req half hwm pins placers deferred s
  | .mtxResponse resp => Sys2Proof.Machine.execMtxResponse resp s
  | .freeChainAppend hb => Sys2Proof.Machine.execFreeChainAppend hb s
  | .indexRemoval hb => Sys2Proof.Machine.execIndexRemoval hb s
  | .grainPlaced g => Sys2Proof.Machine.execGrainPlaced g s
  | .strictVerify d g => Sys2Proof.Machine.execStrictVerify d g s
  | .halfLoadStart hb => Sys2Proof.Machine.execHalfLoadStart hb s
  | .halfLoadDone hb => Sys2Proof.Machine.execHalfLoadDone hb s
  | .catchupGrain hb => Sys2Proof.Machine.execCatchupGrain hb s
  | .swageGrainCompress cluster desc src => Sys2Proof.Machine.execSwageGrainCompress cluster desc src s
  | .swageGrainExpand cluster desc src => Sys2Proof.Machine.execSwageGrainExpand cluster desc src s
  | .swageStreamCompress cluster desc src => Sys2Proof.Machine.execSwageStreamCompress cluster desc src s
  | .swageStreamExpand cluster desc src => Sys2Proof.Machine.execSwageStreamExpand cluster desc src s
  | .swageJobEnd lane checkOk sortOk => Sys2Proof.Machine.execSwageJobEnd lane checkOk sortOk s
  | .swageKatStart pass => Sys2Proof.Machine.execSwageKatStart pass s
  | .temperJobSubmit cluster desc src aux => Sys2Proof.Machine.execTemperJobSubmit cluster desc src aux s
  | .temperJobEnd pair lanesAgree => Sys2Proof.Machine.execTemperJobEnd pair lanesAgree s
  | .keyUnwrap cluster h => Sys2Proof.Machine.execKeyUnwrap cluster h s
  | .nonceHwmDurable h => Sys2Proof.Machine.execNonceHwmDurable h s
  | .keyCreate => Sys2Proof.Machine.execKeyCreate s
  | .keyInstallConfirm h => Sys2Proof.Machine.execKeyInstallConfirm h s
  | .keySweep => Sys2Proof.Machine.execKeySweep s
  | .keySweepEnd => Sys2Proof.Machine.execKeySweepEnd s
  | .keyDestroy => Sys2Proof.Machine.execKeyDestroy s
  | .keyDestroyZero realm => Sys2Proof.Machine.execKeyDestroyZero realm s
  | .temperKatStart pass => Sys2Proof.Machine.execTemperKatStart pass s
  | .impositionJobSubmit desc src => Sys2Proof.Machine.execImpositionJobSubmit desc src s
  | .impositionJobEnd u treesAgree => Sys2Proof.Machine.execImpositionJobEnd u treesAgree s
  | .impKatStart pass => Sys2Proof.Machine.execImpKatStart pass s
  | .stripeCloseTimer sheet => Sys2Proof.Machine.execStripeCloseTimer sheet s
  | .stripeOpenDurable sheet stripe => Sys2Proof.Machine.execStripeOpenDurable sheet stripe s
  | .stripeChunksConfirmed sheet stripe => Sys2Proof.Machine.execStripeChunksConfirmed sheet stripe s
  | .memberMissing m => Sys2Proof.Machine.execMemberMissing m s
  | .rebuildStripe => Sys2Proof.Machine.execRebuildStripe s
  | .rebuildSheetDone => Sys2Proof.Machine.execRebuildSheetDone s
  | .rebuildRelocate id => Sys2Proof.Machine.execRebuildRelocate id s
  | .rebuildShareSample used => Sys2Proof.Machine.execRebuildShareSample used s
  | .mendWaitTimeout slot => Sys2Proof.Machine.execMendWaitTimeout slot s
  | .reshapeMigrateCmd => Sys2Proof.Machine.execReshapeMigrateCmd s
  | .reshapeSheetCheckpoint => Sys2Proof.Machine.execReshapeSheetCheckpoint s
  | .reshapeBoundaryWrite => Sys2Proof.Machine.execReshapeBoundaryWrite s
  | .reshapePauseWrite v => Sys2Proof.Machine.execReshapePauseWrite v s
  | .sheetOpen role cls lost => Sys2Proof.Machine.execSheetOpen role cls lost s
  | .journalBatchDurable logged => Sys2Proof.Machine.execJournalBatchDurable logged s
  | .flushIntervalTimer => Sys2Proof.Machine.execFlushIntervalTimer s
  | .flushNow => Sys2Proof.Machine.execFlushNow s
  | .checkpointDurable => Sys2Proof.Machine.execCheckpointDurable s
  | .auditStart => Sys2Proof.Machine.execAuditStart s
  | .auditEnd => Sys2Proof.Machine.execAuditEnd s
  | .descaleCopyDone => Sys2Proof.Machine.execDescaleCopyDone s
  | .descaleErase sheet => Sys2Proof.Machine.execDescaleErase sheet s
  | .descalePauseWrite v => Sys2Proof.Machine.execDescalePauseWrite v s
  | .wearCheck => Sys2Proof.Machine.execWearCheck s
  | .capSet => Sys2Proof.Machine.execCapSet s
  | .healthSample => Sys2Proof.Machine.execHealthSample s
  | .gmpIdentify m port media => Sys2Proof.Machine.execGmpIdentify m port media s
  | .gmpHello m port version media => Sys2Proof.Machine.execGmpHello m port version media s
  | .gmpHealth m port media => Sys2Proof.Machine.execGmpHealth m port media s
  | .gmpOwner m port plate media => Sys2Proof.Machine.execGmpOwner m port plate media s
  | .gmpRead m port plate offset length what media => Sys2Proof.Machine.execGmpRead m port plate offset length what media s
  | .gmpWrite m port plate offset data media => Sys2Proof.Machine.execGmpWrite m port plate offset data media s
  | .gmpErase m port plate media => Sys2Proof.Machine.execGmpErase m port plate media s
  | .gmpClaim m port plate expect seat media => Sys2Proof.Machine.execGmpClaim m port plate expect seat media s
  | .gmpFence m port on media => Sys2Proof.Machine.execGmpFence m port on media s
  | .gmpSetAnchor m port gen a b number media => Sys2Proof.Machine.execGmpSetAnchor m port gen a b number media s
  | .gmpFwDownload m port offset data media => Sys2Proof.Machine.execGmpFwDownload m port offset data media s
  | .gmpFwActivate m port media => Sys2Proof.Machine.execGmpFwActivate m port media s
  | .gmpCompletion => Sys2Proof.Machine.execGmpCompletion s
  | .gmpStaleTransfer m tag gen => Sys2Proof.Machine.execGmpStaleTransfer m tag gen s
  | .gmpTimeout tag => Sys2Proof.Machine.execGmpTimeout tag s
  | .moduleLinkUp info speed lanes => Sys2Proof.Machine.execModuleLinkUp info speed lanes s
  | .moduleAdmitConfirm m serial => Sys2Proof.Machine.execModuleAdmitConfirm m serial s
  | .moduleAdmitTimeout m => Sys2Proof.Machine.execModuleAdmitTimeout m s
  | .moduleRemoval m => Sys2Proof.Machine.execModuleRemoval m s
  | .moduleFenceRetry m => Sys2Proof.Machine.execModuleFenceRetry m s
  | .gmpModRelease => Sys2Proof.Machine.execGmpModRelease s
  | .gmpModActivate => Sys2Proof.Machine.execGmpModActivate s
  | .moduleFwTimeout m => Sys2Proof.Machine.execModuleFwTimeout m s
  | .steSnapshot => Sys2Proof.Machine.execSteSnapshot s
  | .snapshotComplete volume => Sys2Proof.Machine.execSnapshotComplete volume s
  | .steClone => Sys2Proof.Machine.execSteClone s
  | .steDelete => Sys2Proof.Machine.execSteDelete s
  | .deleteWalkBatch n => Sys2Proof.Machine.execDeleteWalkBatch n s
  | .deletePauseWrite v => Sys2Proof.Machine.execDeletePauseWrite v s
  | .steOpenSession desc => Sys2Proof.Machine.execSteOpenSession desc s
  | .steStartDelta => Sys2Proof.Machine.execSteStartDelta s
  | .steCloseSession => Sys2Proof.Machine.execSteCloseSession s
  | .steBreakSync => Sys2Proof.Machine.execSteBreakSync s
  | .replHello k rec key => Sys2Proof.Machine.execReplHello k rec key s
  | .replHelloAck k rec key => Sys2Proof.Machine.execReplHelloAck k rec key s
  | .replKeys k rec => Sys2Proof.Machine.execReplKeys k rec s
  | .replDeltaBegin k rec => Sys2Proof.Machine.execReplDeltaBegin k rec s
  | .replExtents k rec => Sys2Proof.Machine.execReplExtents k rec s
  | .replFpList k rec => Sys2Proof.Machine.execReplFpList k rec s
  | .replHave k rec => Sys2Proof.Machine.execReplHave k rec s
  | .replGrains k rec => Sys2Proof.Machine.execReplGrains k rec s
  | .replSegmentEnd k rec => Sys2Proof.Machine.execReplSegmentEnd k rec s
  | .replSegmentAck k rec => Sys2Proof.Machine.execReplSegmentAck k rec s
  | .replDeltaEnd k rec => Sys2Proof.Machine.execReplDeltaEnd k rec s
  | .replDeltaAck k rec => Sys2Proof.Machine.execReplDeltaAck k rec s
  | .replWrite k rec => Sys2Proof.Machine.execReplWrite k rec s
  | .replWriteAck k rec => Sys2Proof.Machine.execReplWriteAck k rec s
  | .replSyncMark k rec => Sys2Proof.Machine.execReplSyncMark k rec s
  | .syncMarkTimer k => Sys2Proof.Machine.execSyncMarkTimer k s
  | .replMendReq k rec => Sys2Proof.Machine.execReplMendReq k rec s
  | .replMendData k rec => Sys2Proof.Machine.execReplMendData k rec s
  | .replClose k rec => Sys2Proof.Machine.execReplClose k rec s
  | .replError k rec => Sys2Proof.Machine.execReplError k rec s
  | .syncTimeout k => Sys2Proof.Machine.execSyncTimeout k s
  | .replConnectionLoss k => Sys2Proof.Machine.execReplConnectionLoss k s
  | .anvFlitReceive b flit => Sys2Proof.Machine.execAnvFlitReceive b flit s
  | .anvNak b fack last => Sys2Proof.Machine.execAnvNak b fack last s
  | .anvLaneLockLoss b => Sys2Proof.Machine.execAnvLaneLockLoss b s
  | .anvHello h => Sys2Proof.Machine.execAnvHello h s
  | .anvHelloAck h => Sys2Proof.Machine.execAnvHelloAck h s
  | .helloRetryTimer => Sys2Proof.Machine.execHelloRetryTimer s
  | .anvStatus mode flags e ereq ecov time quality unc => Sys2Proof.Machine.execAnvStatus mode flags e ereq ecov time quality unc s
  | .anvPark => Sys2Proof.Machine.execAnvPark s
  | .anvRejoin h => Sys2Proof.Machine.execAnvRejoin h s
  | .anvReleased => Sys2Proof.Machine.execAnvReleased s
  | .anvBindOffer nonce has cert => Sys2Proof.Machine.execAnvBindOffer nonce has cert s
  | .anvBindXfer wrapped => Sys2Proof.Machine.execAnvBindXfer wrapped s
  | .anvBindProof mac => Sys2Proof.Machine.execAnvBindProof mac s
  | .anvMirrorData slot data => Sys2Proof.Machine.execAnvMirrorData slot data s
  | .anvMirrorDesc idx desc fwd => Sys2Proof.Machine.execAnvMirrorDesc idx desc fwd s
  | .anvMirrorAck idx gen result => Sys2Proof.Machine.execAnvMirrorAck idx gen result s
  | .anvCommit idx gen => Sys2Proof.Machine.execAnvCommit idx gen s
  | .anvRelease idx gen => Sys2Proof.Machine.execAnvRelease idx gen s
  | .anvRing area off recs => Sys2Proof.Machine.execAnvRing area off recs s
  | .anvRingAck area off => Sys2Proof.Machine.execAnvRingAck area off s
  | .anvFwdCmd chan fwdId cntlid cmds family => Sys2Proof.Machine.execAnvFwdCmd chan fwdId cntlid cmds family s
  | .anvDataReq fwdId off len tag gen buf => Sys2Proof.Machine.execAnvDataReq fwdId off len tag gen buf s
  | .anvData chan fwdId off tag gen data => Sys2Proof.Machine.execAnvData chan fwdId off tag gen data s
  | .anvReadData fwdId off data => Sys2Proof.Machine.execAnvReadData fwdId off data s
  | .anvResult chan fwdId st direct dword0 => Sys2Proof.Machine.execAnvResult chan fwdId st direct dword0 s
  | .anvCancel chan fwdId => Sys2Proof.Machine.execAnvCancel chan fwdId s
  | .anvCredit chan n => Sys2Proof.Machine.execAnvCredit chan n s
  | .nsMoveStart nsid handback => Sys2Proof.Machine.execNsMoveStart nsid handback s
  | .anvMoveBegin chan nsid asks => Sys2Proof.Machine.execAnvMoveBegin chan nsid asks s
  | .boundarySend nsid => Sys2Proof.Machine.execBoundarySend nsid s
  | .anvBoundary body => Sys2Proof.Machine.execAnvBoundary body s
  | .anvMoveDone nsid => Sys2Proof.Machine.execAnvMoveDone nsid s
  | .moveHoldLong nsid => Sys2Proof.Machine.execMoveHoldLong nsid s
  | .anvClearance sheet grant => Sys2Proof.Machine.execAnvClearance sheet grant s
  | .anvMediaReturn body n lost rebuild reshape => Sys2Proof.Machine.execAnvMediaReturn body n lost rebuild reshape s
  | .strikeStart id steps lines silent => Sys2Proof.Machine.execStrikeStart id steps lines silent s
  | .strikeTongsSeen id lines => Sys2Proof.Machine.execStrikeTongsSeen id lines s
  | .strikeDigestReq id l => Sys2Proof.Machine.execStrikeDigestReq id l s
  | .strikeDigestResp id l => Sys2Proof.Machine.execStrikeDigestResp id l s
  | .strikeDryBegin id l us => Sys2Proof.Machine.execStrikeDryBegin id l us s
  | .strikeDryResult id result us => Sys2Proof.Machine.execStrikeDryResult id result us s
  | .strikeOwnerResult id asked bitmap => Sys2Proof.Machine.execStrikeOwnerResult id asked bitmap s
  | .strikeEnd id => Sys2Proof.Machine.execStrikeEnd id s
  | .strikeIntervalTimer picks kats => Sys2Proof.Machine.execStrikeIntervalTimer picks kats s
  | .strikeNow picks kats => Sys2Proof.Machine.execStrikeNow picks kats s
  | .strikeResponseTimeout => Sys2Proof.Machine.execStrikeResponseTimeout s
  | .bellowsLoadResult result energy pecOk => Sys2Proof.Machine.execBellowsLoadResult result energy pecOk s
  | .aliveStale t0 => Sys2Proof.Machine.execAliveStale t0 s
  | .takeoverReplayDone flash => Sys2Proof.Machine.execTakeoverReplayDone flash s
  | .fenceInAssert => Sys2Proof.Machine.execFenceInAssert s
  | .claimAckInAssert => Sys2Proof.Machine.execClaimAckInAssert s
  | .watchdogExpiry pair => Sys2Proof.Machine.execWatchdogExpiry pair s
  | .bundlesDownTimeout => Sys2Proof.Machine.execBundlesDownTimeout s
  | .bundleDown b => Sys2Proof.Machine.execBundleDown b s
  | .bundleTrainRetry b => Sys2Proof.Machine.execBundleTrainRetry b s
  | .bundleTrained b ok => Sys2Proof.Machine.execBundleTrained b ok s
  | .bundleStable b => Sys2Proof.Machine.execBundleStable b s
  | .joinBacklogDone => Sys2Proof.Machine.execJoinBacklogDone s
  | .startAloneTimer => Sys2Proof.Machine.execStartAloneTimer s
  | .handbackNs nsid => Sys2Proof.Machine.execHandbackNs nsid s
  | .handbackList => Sys2Proof.Machine.execHandbackList s
  | .linkDownDelay => Sys2Proof.Machine.execLinkDownDelay s
  | .channelError kind index st kat tries gib bad => Sys2Proof.Machine.execChannelError kind index st kat tries gib bad s
  | .scrapEntryDurable slot => Sys2Proof.Machine.execScrapEntryDurable slot s
  | .alarmEventResend seq => Sys2Proof.Machine.execAlarmEventResend seq s
  | .pldmEventAck mctp seq => Sys2Proof.Machine.execPldmEventAck mctp seq s
  | .pldmGetSensor mctp id measured => Sys2Proof.Machine.execPldmGetSensor mctp id measured s
  | .pldmGetStateSensor mctp id => Sys2Proof.Machine.execPldmGetStateSensor mctp id s
  | .imageBlockArrival source holder off data peerLock => Sys2Proof.Machine.execImageBlockArrival source holder off data peerLock s
  | .leaseExpiry => Sys2Proof.Machine.execLeaseExpiry s
  | .imageVerifyDone => Sys2Proof.Machine.execImageVerifyDone s
  | .imageRelay => Sys2Proof.Machine.execImageRelay s
  | .activationStart peerMoving peerLock => Sys2Proof.Machine.execActivationStart peerMoving peerLock s
  | .activationHeadReset => Sys2Proof.Machine.execActivationHeadReset s
  | .activationNextHead peerMoving peerLock => Sys2Proof.Machine.execActivationNextHead peerMoving peerLock s
  | .confirmTimer => Sys2Proof.Machine.execConfirmTimer s
  | .updConfirmCmd => Sys2Proof.Machine.execUpdConfirmCmd s
  | .updReleaseCmd => Sys2Proof.Machine.execUpdReleaseCmd s
  | .updRelayCmd => Sys2Proof.Machine.execUpdRelayCmd s
  | .updActivateCmd peerMoving peerLock => Sys2Proof.Machine.execUpdActivateCmd peerMoving peerLock s
  | .updRecoveryCmd => Sys2Proof.Machine.execUpdRecoveryCmd s
  | .ownerLockWrite v => Sys2Proof.Machine.execOwnerLockWrite v s
  | .tftpImageWrite pkt ip off data peerLock => Sys2Proof.Machine.execTftpImageWrite pkt ip off data peerLock s
  | .tftpCommitWrite pkt ip action peerMoving peerLock => Sys2Proof.Machine.execTftpCommitWrite pkt ip action peerMoving peerLock s
  | .pldmRequestUpdate mctp eid peerLock => Sys2Proof.Machine.execPldmRequestUpdate mctp eid peerLock s
  | .pldmActivateFirmware mctp eid peerMoving peerLock => Sys2Proof.Machine.execPldmActivateFirmware mctp eid peerMoving peerLock s
  | .recoveryImage pkt data => Sys2Proof.Machine.execRecoveryImage pkt data s
  | .scrapClearFile pkt b => Sys2Proof.Machine.execScrapClearFile pkt b s
  | .ohmustFrame clocks req => Sys2Proof.Machine.execOhmustFrame clocks req s
  | .ohmNop seq => Sys2Proof.Machine.execOhmNop seq s
  | .ohmHello seq version => Sys2Proof.Machine.execOhmHello seq version s
  | .ohmChallenge seq addr => Sys2Proof.Machine.execOhmChallenge seq addr s
  | .ohmResponse seq level addr word => Sys2Proof.Machine.execOhmResponse seq level addr word s
  | .ohmLock seq => Sys2Proof.Machine.execOhmLock seq s
  | .ohmHalt seq target => Sys2Proof.Machine.execOhmHalt seq target s
  | .haltComplete => Sys2Proof.Machine.execHaltComplete s
  | .ohmResume seq target => Sys2Proof.Machine.execOhmResume seq target s
  | .ohmStep seq target count => Sys2Proof.Machine.execOhmStep seq target count s
  | .ohmBpSet seq target addr data => Sys2Proof.Machine.execOhmBpSet seq target addr data s
  | .ohmBpClear seq target index => Sys2Proof.Machine.execOhmBpClear seq target index s
  | .breakpointHit pair index => Sys2Proof.Machine.execBreakpointHit pair index s
  | .ohmReadMem seq target addr => Sys2Proof.Machine.execOhmReadMem seq target addr s
  | .ohmWriteMem seq target addr data => Sys2Proof.Machine.execOhmWriteMem seq target addr data s
  | .ohmReadReg seq target addr => Sys2Proof.Machine.execOhmReadReg seq target addr s
  | .ohmWriteReg seq target addr data => Sys2Proof.Machine.execOhmWriteReg seq target addr data s
  | .ohmMailbox seq addr data => Sys2Proof.Machine.execOhmMailbox seq addr data s
  | .unlockIdleTimeout => Sys2Proof.Machine.execUnlockIdleTimeout s
  | .hlmAdmitOpen => Sys2Proof.Machine.execHlmAdmitOpen s
  | .admitWindowExpiry => Sys2Proof.Machine.execAdmitWindowExpiry s
  | .hlmSvnRaise vdd => Sys2Proof.Machine.execHlmSvnRaise vdd s
  | .hlmErasePairRecord => Sys2Proof.Machine.execHlmErasePairRecord s
  | .hlmRevokeSlot slot vdd => Sys2Proof.Machine.execHlmRevokeSlot slot vdd s
  | .dbgLockNow => Sys2Proof.Machine.execDbgLockNow s
  | .dbgDisable => Sys2Proof.Machine.execDbgDisable s
  | .blockInterruptClaim block pair => Sys2Proof.Machine.execBlockInterruptClaim block pair s
  | .registerWrite addr bytes value => Sys2Proof.Machine.execRegisterWrite addr bytes value s
  | .badAccess source addr bytes write => Sys2Proof.Machine.execBadAccess source addr bytes write s
  | .bar2HostWrite off => Sys2Proof.Machine.execBar2HostWrite off s
  | .thermalRecover io c0 c1 => Sys2Proof.Machine.execThermalRecover io c0 c1 s
  | .standbySupplyLoss => Sys2Proof.Machine.execStandbySupplyLoss s
  | .fenceInDeassert => Sys2Proof.Machine.execFenceInDeassert s
  | .mgmtPortReset => Sys2Proof.Machine.execMgmtPortReset s
  | .powerWarnNDeassert => Sys2Proof.Machine.execPowerWarnNDeassert s
  | .activationWaitAlarm => Sys2Proof.Machine.execActivationWaitAlarm s

end Sys2Proof.Machine
end

