-- ==== Sys2Proof/Machine/Step.lean ====
section
/-! DEFINITION. One step of the block: the command at the front of the queue, or one tick when nothing waits. -/

namespace Sys2Proof.Machine

/-- One step. It takes the command that has waited longest and answers what it does; with nothing waiting, time passes and owed clearances are given. [DESIGN CHOICE: notes/assumptions/2.md] -/
def step (s : State) : Host.Outcome State Fault Refusal :=
  match s.pending with
  | c :: rest => exec c { s with pending := rest }
  | [] => .next s.idle

/-- The state with the command that a word spells at the front of its queue; the state itself where it spells none. [DEDUCED: notes/assumptions/100.md] -/
def State.withFetchWord (s : State) (nbits w : Nat) : State :=
  match Sys2Proof.decodeTableWord nbits w with
  | some c => { s with pending := c :: s.pending }
  | none => s

end Sys2Proof.Machine
end

