-- ==== Sys2Proof/Machine/Touches.lean ====
section
/-! DEFINITION. The parts of the state, and which of them each command may change. -/

namespace Sys2Proof.Machine

/-- A part of the state: the register fields of a block, or one of the components of State. -/
inductive Part
  | regs (b : Block)
  | dram | fm | flt | upd | pwr | clk | stk | chs | gly | prf | pun | mtx | swg | tmp | imp | hth | gmp | ste | anv | vols | lost | outbox | fresh
deriving DecidableEq, Repr

/-- The block of a register field, by its Foreman-space address shifted right by 19 (Table 21.1); a key has six bits more than an address. -/
def Field.inBlock (f : Field) (b : Block) : Prop := f.key / 2 ^ 25 = b.source

/-- A part is in `t` as it was in `s`. -/
def Part.kept (p : Part) (s t : State) : Prop :=
  match p with
  | .regs b => ∀ f : Field, f.inBlock b → t.rd f = s.rd f
  | .dram => t.dram = s.dram
  | .fm => t.fm = s.fm
  | .flt => t.flt = s.flt
  | .upd => t.upd = s.upd
  | .pwr => t.pwr = s.pwr
  | .clk => t.clk = s.clk
  | .stk => t.stk = s.stk
  | .chs => t.chs = s.chs
  | .gly => t.gly = s.gly
  | .prf => t.prf = s.prf
  | .pun => t.pun = s.pun
  | .mtx => t.mtx = s.mtx
  | .swg => t.swg = s.swg
  | .tmp => t.tmp = s.tmp
  | .imp => t.imp = s.imp
  | .hth => t.hth = s.hth
  | .gmp => t.gmp = s.gmp
  | .ste => t.ste = s.ste
  | .anv => t.anv = s.anv
  | .vols => t.vols = s.vols
  | .lost => t.lost = s.lost
  | .outbox => t.outbox = s.outbox
  | .fresh => t.fresh = s.fresh

/-- Every part. -/
def everyPart : List Part :=
  [.regs .for_, .regs .stk, .regs .chs, .regs .gly, .regs .anv, .regs .pun, .regs .mtx, .regs .swg, .regs .tmp, .regs .prf, .regs .imp, .regs .hth, .regs .gmp, .regs .ste, .regs .hlm, .regs .pwr, .regs .tim, .regs .upd, .regs .dbg, .regs .prt,
   .dram, .fm, .flt, .upd, .pwr, .clk, .stk, .chs, .gly, .prf, .pun, .mtx, .swg, .tmp, .imp, .hth, .gmp, .ste, .anv, .vols, .lost, .outbox, .fresh]

/-- What a batch of journal records changes (R290). -/
def journalParts : List Part := [.regs .hth, .mtx, .tmp, .imp, .hth, .vols, .outbox]

/-- What an alarm changes (R385, R387): its counters and its interrupt bit, the event log, the confirmation period, and what it sends. -/
def alarmParts : List Part := [.regs .for_, .flt, .upd, .outbox]

/-- What the end of a command changes (R90, R109, R348): its slot and token, its locks, the pieces it leaves, and the RESULT of a forward. -/
def endParts : List Part := [.stk, .chs, .gly, .outbox]

/-- What a mode change changes (R439). -/
def modeParts : List Part := [.regs .for_, .fm, .upd]

/-- What a GMP command to a module changes (R307 to R309). -/
def moduleParts : List Part := [.gmp, .outbox]

/-- The parts that a command may change; the queue of commands is changed by none. -/
def touches : Instr → List Part
  | .standbySupplyUp _ => [.fm, .pwr]
  | .mainPwrEnAssert => [.fm]
  | .coreResetRelease _ => everyPart
  | .pwrOkLow => everyPart
  | .resetNLow => everyPart
  | .pllLock => [.regs .anv, .fm, .anv]
  | .dramTrainingDone _ _ => everyPart
  | .laneSelfTestDone _ => everyPart
  | .backendDiscoveryDone _ => alarmParts ++ [.regs .hth, .regs .gmp, .fm, .stk, .hth, .gmp, .anv]
  | .galleyRestore _ _ _ _ _ => journalParts ++ alarmParts ++ [.regs .chs, .regs .gly, .regs .imp, .fm, .chs, .gly, .gmp, .anv, .lost]
  | .journalReplay _ _ => journalParts ++ alarmParts ++ [.regs .chs, .regs .anv, .regs .tmp, .regs .imp, .fm, .pwr, .stk, .chs, .gmp, .ste, .anv, .lost]
  | .formingEnd => journalParts ++ alarmParts ++ endParts ++ [.regs .stk, .regs .chs, .regs .gly, .regs .anv, .regs .pun, .regs .mtx, .regs .swg, .regs .tmp, .regs .prf, .regs .imp, .regs .gmp, .regs .ste, .regs .upd, .fm, .pwr, .gmp, .anv]
  | .reFormOffer _ => alarmParts ++ [.regs .upd, .fm]
  | .lineGroupDrained _ _ => alarmParts ++ [.regs .pun, .regs .tmp, .regs .upd, .fm, .prf, .pun, .swg, .tmp, .imp]
  | .supplyEventStart _ => alarmParts ++ endParts ++ [.regs .stk, .regs .anv, .regs .pwr, .regs .tim, .fm, .pwr, .clk, .mtx, .tmp, .gmp, .anv]
  | .supplyDipEnd => [.regs .gly, .fm, .gly]
  | .guardEnter => [.regs .gly, .fm, .gly]
  | .guardWindowStart => [.fm, .gly]
  | .guardWindowBreak _ => [.regs .gly, .regs .anv, .regs .prt, .fm, .stk, .chs, .gly, .prf, .pun, .swg, .tmp, .imp]
  | .guardResume => journalParts ++ alarmParts ++ endParts ++ [.regs .chs, .regs .gly, .regs .tmp, .regs .ste, .fm, .pun, .gmp, .ste, .fresh]
  | .dumpCommit => [.regs .gly, .regs .anv, .regs .prt, .fm, .stk, .chs, .gly, .prf, .pun, .swg, .tmp, .imp]
  | .dumpPhaseComplete _ => [.regs .gly, .gly]
  | .dumpSeal _ _ _ => everyPart
  | .coreRailReset => everyPart
  | .thermalWarn _ _ _ => alarmParts ++ [.stk]
  | .thermalThrottle _ _ _ => [.regs .for_, .fm]
  | .thermalPark _ _ _ => alarmParts ++ [.regs .stk, .regs .mtx, .regs .pwr, .fm, .pwr, .stk, .mtx]
  | .thermalDump _ _ _ => [.regs .for_, .regs .gly, .regs .anv, .regs .prt, .fm, .stk, .chs, .gly, .prf, .pun, .swg, .tmp, .imp]
  | .thermtrip _ _ _ => everyPart
  | .wakeNLow _ => alarmParts ++ endParts ++ [.regs .stk, .regs .anv, .regs .pwr, .regs .tim, .fm, .pwr, .clk, .mtx, .tmp, .gmp, .anv]
  | .wakeTimerExpiry _ => alarmParts ++ endParts ++ [.regs .stk, .regs .anv, .regs .pwr, .regs .tim, .fm, .pwr, .clk, .mtx, .tmp, .gmp, .anv]
  | .wakeDigestCheck _ _ _ => journalParts ++ alarmParts ++ [.regs .gly, .regs .prf, .stk, .gly, .lost]
  | .bankingTimerExpiry _ _ => [.regs .stk, .regs .mtx, .regs .pwr, .pwr, .mtx, .outbox]
  | .bankReqBanked _ => [.regs .stk, .regs .mtx, .regs .pwr, .pwr, .mtx, .outbox]
  | .bankReqDeep _ => [.regs .stk, .regs .mtx, .regs .pwr, .pwr, .mtx, .outbox]
  | .bankEnterComplete => everyPart
  | .powerOffReq => [.regs .stk, .regs .mtx, .regs .pwr, .pwr, .mtx, .outbox]
  | .wakePartnerReq => [.outbox]
  | .hostLoadSample _ _ => [.regs .pwr, .pwr, .outbox]
  | .laneClockGate _ _ => [.pwr]
  | .smithClockGate _ => [.fm]
  | .timeSnapshot => [.clk]
  | .emberCalibration _ => alarmParts ++ [.regs .tim, .clk]
  | .timeQualityLapse => alarmParts ++ [.regs .tim]
  | .timAdjWrite _ => [.regs .tim, .clk]
  | .ptpSync _ _ _ _ => alarmParts ++ [.regs .tim, .clk]
  | .pcieSqDoorbell _ _ => [.stk]
  | .cqHeadDoorbell _ _ => [.stk]
  | .commandFetch _ _ => journalParts ++ endParts ++ [.regs .stk]
  | .contextFill _ _ => [.regs .stk, .flt, .stk, .prf, .pun, .swg, .tmp, .imp]
  | .capsuleArrival _ _ _ _ => journalParts ++ endParts ++ [.regs .stk, .regs .chs, .regs .prf]
  | .spillRingFetch _ => journalParts ++ endParts ++ [.regs .stk, .regs .chs, .regs .prf]
  | .nvmeofConnect _ _ _ _ _ _ _ _ _ => [.stk, .outbox, .fresh]
  | .tcpIcreq _ _ _ _ _ => [.stk, .outbox]
  | .h2cData _ _ _ _ _ _ _ _ => journalParts ++ alarmParts ++ endParts ++ [.regs .stk, .regs .chs, .regs .prf]
  | .h2cTermReq _ => journalParts ++ endParts ++ [.regs .chs]
  | .rdmaReadComplete _ _ => journalParts ++ endParts ++ [.regs .stk, .regs .chs, .regs .prf]
  | .cnpReceived _ => [.stk, .fresh]
  | .linkStateChange _ _ _ _ _ _ _ => journalParts ++ endParts ++ [.regs .chs, .regs .prt]
  | .functionLevelReset _ _ => journalParts ++ endParts ++ [.regs .chs]
  | .frontLinkLoss _ => journalParts ++ endParts ++ [.regs .chs, .regs .prt]
  | .controllerEnable _ _ _ _ _ _ _ => [.stk]
  | .controllerDisable _ => journalParts ++ endParts ++ [.regs .chs]
  | .numvfsWrite _ _ => journalParts ++ endParts ++ [.regs .chs, .regs .prt]
  | .vfDisable _ => journalParts ++ endParts ++ [.regs .chs, .regs .prt]
  | .associationEnd _ => journalParts ++ endParts ++ [.regs .chs]
  | .keepAliveExpiry _ => journalParts ++ endParts ++ [.regs .chs]
  | .nvmeRead _ _ => journalParts ++ alarmParts ++ endParts ++ [.regs .chs, .regs .gly, .regs .prf, .regs .imp, .prf, .pun, .swg, .lost]
  | .readDataSent _ => journalParts ++ endParts
  | .nvmeWrite _ => journalParts ++ alarmParts ++ endParts ++ [.regs .chs]
  | .writeZeroes _ => journalParts ++ alarmParts ++ endParts ++ [.regs .chs]
  | .deallocate _ => journalParts ++ alarmParts ++ endParts ++ [.regs .chs]
  | .nvmeFlush _ => journalParts ++ alarmParts ++ endParts ++ [.regs .chs]
  | .flushComplete _ => journalParts ++ endParts
  | .compare _ _ _ => journalParts ++ alarmParts ++ endParts ++ [.regs .stk, .regs .chs, .regs .gly, .regs .prf, .regs .imp, .prf, .pun, .swg, .lost]
  | .compareAndWrite _ _ _ _ => journalParts ++ alarmParts ++ endParts ++ [.regs .stk, .regs .chs, .regs .gly, .regs .prf, .regs .imp, .prf, .pun, .swg, .lost]
  | .verify _ _ => journalParts ++ alarmParts ++ endParts ++ [.regs .chs, .regs .gly, .regs .prf, .regs .imp, .prf, .pun, .swg, .lost]
  | .createIoCq _ _ _ _ _ _ _ _ _ => journalParts ++ endParts
  | .createIoSq _ _ _ _ _ _ _ => journalParts ++ endParts
  | .deleteIoSq _ _ => journalParts ++ endParts ++ [.regs .chs]
  | .deleteIoCq _ _ => journalParts ++ endParts
  | .nsCreate _ _ => journalParts ++ endParts ++ [.regs .chs, .fresh]
  | .nsDelete _ => journalParts ++ endParts ++ [.regs .chs, .lost]
  | .nsAttach _ _ _ => journalParts ++ endParts
  | .nsDetach _ _ _ => journalParts ++ endParts
  | .getLogPage _ _ => journalParts ++ endParts
  | .keepAlive _ => journalParts ++ endParts
  | .setFeaturesArbitration _ _ _ _ _ _ => journalParts ++ endParts
  | .reservationRegister _ _ _ _ _ _ => journalParts ++ endParts ++ [.regs .chs]
  | .reservationAcquire _ _ _ _ _ => journalParts ++ endParts ++ [.regs .chs]
  | .reservationRelease _ _ _ _ => journalParts ++ endParts ++ [.regs .chs]
  | .reservationReport _ => journalParts ++ endParts
  | .unsupportedCommand _ => journalParts ++ endParts ++ [.regs .chs]
  | .fwImageDownload _ _ _ => journalParts ++ alarmParts ++ endParts ++ [.regs .stk, .regs .chs, .regs .prf, .regs .upd]
  | .fwCommitStage _ _ _ => journalParts ++ alarmParts ++ endParts ++ [.regs .stk, .regs .anv, .regs .mtx, .regs .pwr, .regs .upd, .fm, .pwr]
  | .fwCommitStageActivate _ _ _ => journalParts ++ alarmParts ++ endParts ++ [.regs .stk, .regs .anv, .regs .mtx, .regs .pwr, .regs .upd, .fm, .pwr]
  | .fwCommitActivateSlot _ _ _ => journalParts ++ alarmParts ++ endParts ++ [.regs .stk, .regs .anv, .regs .mtx, .regs .pwr, .regs .upd, .fm, .pwr]
  | .fwCommitActivateNow _ _ _ => journalParts ++ alarmParts ++ endParts ++ [.regs .stk, .regs .anv, .regs .mtx, .regs .pwr, .regs .upd, .fm, .pwr]
  | .updateCompare _ => journalParts ++ endParts
  | .tokenIssue _ => [.stk, .outbox]
  | .completionPost _ => [.stk, .outbox]
  | .msixCoalesceTimer _ => [.stk, .outbox]
  | .drainComplete _ => journalParts ++ endParts ++ [.regs .stk, .regs .prt]
  | .fetchHoldWrite _ => [.regs .stk]
  | .stkQcmdCloseChannel _ => journalParts ++ endParts ++ [.regs .chs]
  | .stkQcmdRehome _ => alarmParts ++ [.regs .stk, .fm, .stk]
  | .hwmClear _ => [.regs .stk, .regs .chs]
  | .chaseStamp _ => journalParts ++ alarmParts ++ endParts ++ [.regs .chs]
  | .stampHoldWrite _ => [.regs .chs]
  | .pieceDataLand _ _ => journalParts ++ endParts ++ [.regs .stk, .regs .chs, .regs .prf, .gmp]
  | .galleyRunAvailable => moduleParts ++ [.gly]
  | .localDramWriteComplete _ => [.gly]
  | .piecePublish _ => journalParts ++ alarmParts ++ endParts ++ [.regs .tmp, .pun, .ste, .fresh]
  | .pieceApply _ => journalParts ++ endParts ++ [.regs .chs, .regs .mtx, .regs .ste, .gmp, .ste, .lost]
  | .pieceRelease _ => [.gly, .outbox]
  | .statusSendTimer => [.outbox]
  | .partnerStatusTimeout => alarmParts ++ [.regs .gly, .stk, .gly]
  | .unprotModeExit => alarmParts ++ [.regs .gly, .stk, .gly]
  | .galleyLogConfirm _ _ => moduleParts ++ [.gly]
  | .forceUnprotWrite _ => alarmParts ++ [.regs .gly, .stk, .gly]
  | .bellowsPoll _ _ _ => alarmParts ++ [.regs .gly, .stk, .gly]
  | .bellowsTimeout => alarmParts ++ [.regs .gly, .stk, .gly]
  | .vaultSetErase _ => [.gly]
  | .vaultRestripeDone => [.gly]
  | .dumpSetRelease _ => [.gly]
  | .grainJobPlace _ _ _ _ _ => alarmParts ++ [.gly, .prf, .hth]
  | .refineDigestMismatch _ _ _ => journalParts ++ alarmParts ++ [.regs .gly, .stk, .gly, .lost]
  | .sortRepairDurable _ => journalParts ++ [.stk, .prf]
  | .prfOpen _ => [.regs .prf, .prf]
  | .prfClose => [.regs .prf, .prf]
  | .prfCloseOpen _ => [.regs .prf, .prf]
  | .prfPendingOpen _ => [.regs .prf, .prf]
  | .prfRdataWrite _ _ => [.regs .for_, .regs .prf, .prf]
  | .prfKatStart _ => [.regs .pun, .regs .swg, .regs .tmp, .regs .prf, .regs .imp, .flt, .prf, .pun, .swg, .tmp, .imp]
  | .punchJobSubmit _ _ _ _ _ _ => [.regs .pun, .pun]
  | .punchJobEnd _ _ _ => [.regs .pun, .pun]
  | .punchResume _ _ _ _ => [.regs .pun, .pun]
  | .punchParityError _ => [.regs .pun, .flt, .prf, .pun, .swg, .tmp, .imp]
  | .punchKatStart _ => [.regs .pun, .regs .swg, .regs .tmp, .regs .prf, .regs .imp, .flt, .prf, .pun, .swg, .tmp, .imp]
  | .matrixLookup _ _ => journalParts ++ alarmParts ++ endParts ++ [.regs .chs, .regs .mtx]
  | .mtxLookup _ _ => journalParts ++ alarmParts ++ [.regs .mtx, .stk, .anv]
  | .mtxPlace _ _ => journalParts ++ [.stk, .anv]
  | .mtxRef _ _ => journalParts ++ [.regs .mtx, .stk, .anv]
  | .mtxUnpin _ _ => journalParts ++ [.stk, .anv]
  | .mtxMove _ _ => journalParts ++ [.stk, .anv]
  | .mtxFetchFp _ _ => [.anv, .outbox]
  | .mtxIndexDelta _ _ => [.mtx, .anv, .outbox]
  | .mtxHandoff _ _ _ _ _ _ _ => [.regs .mtx, .mtx, .anv, .outbox]
  | .mtxResponse _ => journalParts ++ alarmParts ++ endParts ++ [.regs .chs, .regs .prf, .regs .imp, .regs .ste, .prf, .pun, .swg, .gmp, .ste, .anv, .lost]
  | .freeChainAppend _ => [.mtx]
  | .indexRemoval _ => journalParts ++ alarmParts ++ [.regs .mtx, .stk]
  | .grainPlaced _ => [.mtx]
  | .strictVerify _ _ => journalParts ++ alarmParts ++ [.regs .mtx, .regs .prf, .regs .imp, .stk, .gly, .prf, .pun, .swg, .lost]
  | .halfLoadStart _ => [.regs .mtx, .mtx]
  | .halfLoadDone _ => alarmParts ++ [.regs .mtx, .mtx]
  | .catchupGrain _ => journalParts ++ alarmParts ++ [.regs .mtx, .regs .prf, .regs .imp, .stk, .prf, .pun, .swg, .lost]
  | .swageGrainCompress _ _ _ => [.regs .swg, .swg]
  | .swageGrainExpand _ _ _ => [.regs .swg, .swg]
  | .swageStreamCompress _ _ _ => [.regs .swg, .swg]
  | .swageStreamExpand _ _ _ => [.regs .swg, .swg]
  | .swageJobEnd _ _ _ => [.regs .swg, .flt, .prf, .pun, .swg, .tmp, .imp]
  | .swageKatStart _ => [.regs .pun, .regs .swg, .regs .tmp, .regs .prf, .regs .imp, .flt, .prf, .pun, .swg, .tmp, .imp]
  | .temperJobSubmit _ _ _ _ => alarmParts ++ [.regs .tmp, .tmp]
  | .temperJobEnd _ _ => alarmParts ++ [.regs .tmp, .prf, .pun, .swg, .tmp, .imp]
  | .keyUnwrap _ _ => alarmParts ++ [.regs .pun, .regs .tmp, .pun, .tmp]
  | .nonceHwmDurable _ => journalParts ++ alarmParts ++ [.regs .tmp, .pun, .ste, .fresh]
  | .keyCreate => journalParts ++ [.regs .tmp, .pun, .fresh]
  | .keyInstallConfirm _ => journalParts ++ alarmParts ++ [.regs .pun, .regs .tmp, .pun, .ste, .fresh]
  | .keySweep => journalParts ++ [.regs .tmp]
  | .keySweepEnd => journalParts ++ alarmParts ++ [.regs .prf, .regs .imp, .stk, .prf, .pun, .swg, .lost]
  | .keyDestroy => journalParts ++ [.regs .tmp]
  | .keyDestroyZero _ => journalParts ++ [.regs .tmp, .pun]
  | .temperKatStart _ => alarmParts ++ [.regs .pun, .regs .swg, .regs .tmp, .regs .prf, .regs .imp, .prf, .pun, .swg, .tmp, .imp]
  | .impositionJobSubmit _ _ => [.imp]
  | .impositionJobEnd _ _ => moduleParts ++ [.regs .imp, .flt, .prf, .pun, .swg, .tmp, .imp, .hth]
  | .impKatStart _ => [.regs .pun, .regs .swg, .regs .tmp, .regs .prf, .regs .imp, .flt, .prf, .pun, .swg, .tmp, .imp]
  | .stripeCloseTimer _ => [.hth, .outbox]
  | .stripeOpenDurable _ _ => [.imp, .hth]
  | .stripeChunksConfirmed _ _ => journalParts ++ alarmParts ++ [.stk, .gmp]
  | .memberMissing _ => journalParts ++ alarmParts ++ [.regs .imp, .stk]
  | .rebuildStripe => journalParts ++ alarmParts ++ [.regs .imp, .gmp, .lost]
  | .rebuildSheetDone => journalParts ++ [.regs .imp]
  | .rebuildRelocate _ => [.regs .imp, .imp]
  | .rebuildShareSample _ => [.regs .imp]
  | .mendWaitTimeout _ => journalParts ++ endParts
  | .reshapeMigrateCmd => journalParts ++ [.regs .imp]
  | .reshapeSheetCheckpoint => journalParts ++ alarmParts ++ [.regs .prf, .regs .imp, .stk, .prf, .pun, .swg, .lost]
  | .reshapeBoundaryWrite => journalParts ++ [.regs .imp]
  | .reshapePauseWrite _ => [.regs .imp, .imp]
  | .sheetOpen _ _ _ => journalParts ++ alarmParts ++ [.regs .gmp, .gmp]
  | .journalBatchDurable _ => journalParts ++ alarmParts ++ endParts ++ [.regs .mtx, .regs .imp, .regs .ste, .gmp]
  | .flushIntervalTimer => journalParts ++ [.gmp, .anv]
  | .flushNow => journalParts ++ [.gmp, .anv]
  | .checkpointDurable => journalParts ++ [.gly, .gmp, .anv]
  | .auditStart => [.hth]
  | .auditEnd => journalParts ++ alarmParts ++ [.stk]
  | .descaleCopyDone => journalParts ++ alarmParts ++ [.regs .prf, .regs .imp, .stk, .prf, .pun, .swg, .lost]
  | .descaleErase _ => journalParts ++ [.gmp]
  | .descalePauseWrite _ => [.regs .hth]
  | .wearCheck => alarmParts ++ [.hth]
  | .capSet => alarmParts ++ [.regs .hth, .stk, .hth]
  | .healthSample => [.hth]
  | .gmpIdentify _ _ _ => moduleParts
  | .gmpHello _ _ _ _ => moduleParts
  | .gmpHealth _ _ _ => moduleParts
  | .gmpOwner _ _ _ _ => moduleParts
  | .gmpRead _ _ _ _ _ _ _ => moduleParts
  | .gmpWrite _ _ _ _ _ _ => moduleParts
  | .gmpErase _ _ _ _ => moduleParts
  | .gmpClaim _ _ _ _ _ _ => moduleParts
  | .gmpFence _ _ _ _ => moduleParts
  | .gmpSetAnchor _ _ _ _ _ _ _ => moduleParts
  | .gmpFwDownload _ _ _ _ _ => moduleParts
  | .gmpFwActivate _ _ _ => moduleParts
  | .gmpCompletion => journalParts ++ alarmParts ++ [.regs .anv, .regs .mtx, .regs .prf, .regs .imp, .regs .gmp, .fm, .stk, .prf, .pun, .swg, .gmp, .lost]
  | .gmpStaleTransfer _ _ _ => [.regs .gmp, .hth]
  | .gmpTimeout _ => journalParts ++ alarmParts ++ [.regs .mtx, .regs .prf, .regs .imp, .regs .gmp, .prf, .pun, .swg, .gmp, .lost]
  | .moduleLinkUp _ _ _ => alarmParts ++ [.gmp]
  | .moduleAdmitConfirm _ _ => alarmParts ++ [.regs .imp, .regs .hth, .regs .gmp, .stk, .hth, .gmp]
  | .moduleAdmitTimeout _ => alarmParts ++ [.gmp]
  | .moduleRemoval _ => journalParts ++ alarmParts ++ [.regs .imp, .regs .gmp, .stk, .gmp]
  | .moduleFenceRetry _ => moduleParts
  | .gmpModRelease => alarmParts ++ [.regs .hth, .regs .gmp, .stk, .hth, .gmp]
  | .gmpModActivate => journalParts ++ [.regs .gmp, .gmp]
  | .moduleFwTimeout _ => journalParts ++ alarmParts ++ [.regs .imp, .regs .gmp, .stk, .gmp]
  | .steSnapshot => journalParts ++ [.regs .chs, .regs .ste, .chs, .ste]
  | .snapshotComplete _ => journalParts ++ alarmParts ++ [.regs .tmp, .regs .ste, .pun, .gmp, .ste, .anv, .fresh]
  | .steClone => journalParts ++ [.regs .chs, .regs .ste, .chs, .ste]
  | .steDelete => journalParts ++ [.regs .chs, .regs .ste, .chs, .ste]
  | .deleteWalkBatch _ => journalParts ++ [.regs .mtx, .regs .ste, .stk, .ste]
  | .deletePauseWrite _ => [.regs .ste]
  | .steOpenSession _ => journalParts ++ [.regs .ste, .stk, .ste, .fresh]
  | .steStartDelta => journalParts ++ alarmParts ++ [.regs .tmp, .regs .ste, .pun, .ste, .fresh]
  | .steCloseSession => journalParts ++ alarmParts ++ endParts ++ [.regs .chs, .regs .tmp, .regs .ste, .pun, .ste, .fresh]
  | .steBreakSync => journalParts ++ alarmParts ++ endParts ++ [.regs .chs, .regs .ste, .ste]
  | .replHello _ _ _ => journalParts ++ alarmParts ++ endParts ++ [.regs .chs, .regs .tmp, .regs .ste, .pun, .ste, .fresh]
  | .replHelloAck _ _ _ => journalParts ++ alarmParts ++ endParts ++ [.regs .chs, .regs .tmp, .regs .ste, .pun, .ste, .fresh]
  | .replKeys _ _ => journalParts ++ alarmParts ++ [.regs .chs, .regs .tmp, .regs .ste, .chs, .pun, .ste, .fresh]
  | .replDeltaBegin _ _ => journalParts ++ alarmParts ++ endParts ++ [.regs .mtx, .regs .tmp, .regs .ste, .pun, .ste, .fresh]
  | .replExtents _ _ => journalParts ++ alarmParts ++ endParts ++ [.regs .tmp, .regs .ste, .pun, .ste, .fresh]
  | .replFpList _ _ => journalParts ++ alarmParts ++ endParts ++ [.regs .chs, .regs .tmp, .regs .ste, .pun, .gmp, .ste, .fresh]
  | .replHave _ _ => journalParts ++ alarmParts ++ endParts ++ [.regs .tmp, .regs .ste, .pun, .ste, .fresh]
  | .replGrains _ _ => journalParts ++ alarmParts ++ endParts ++ [.regs .tmp, .regs .ste, .pun, .ste, .fresh]
  | .replSegmentEnd _ _ => journalParts ++ alarmParts ++ endParts ++ [.regs .chs, .regs .tmp, .regs .ste, .pun, .gmp, .ste, .fresh]
  | .replSegmentAck _ _ => journalParts ++ alarmParts ++ endParts ++ [.regs .tmp, .regs .ste, .pun, .ste, .fresh]
  | .replDeltaEnd _ _ => journalParts ++ alarmParts ++ endParts ++ [.regs .chs, .regs .tmp, .regs .ste, .pun, .ste, .fresh]
  | .replDeltaAck _ _ => journalParts ++ alarmParts ++ endParts ++ [.regs .chs, .regs .tmp, .regs .ste, .pun, .ste, .fresh]
  | .replWrite _ _ => journalParts ++ alarmParts ++ endParts ++ [.regs .chs, .regs .tmp, .regs .ste, .pun, .gmp, .ste, .fresh]
  | .replWriteAck _ _ => journalParts ++ alarmParts ++ endParts ++ [.regs .tmp, .regs .ste, .pun, .ste, .fresh]
  | .replSyncMark _ _ => journalParts ++ alarmParts ++ endParts ++ [.regs .chs, .regs .tmp, .regs .ste, .pun, .ste, .fresh]
  | .syncMarkTimer _ => journalParts ++ alarmParts ++ [.regs .chs, .regs .tmp, .chs, .pun, .ste, .fresh]
  | .replMendReq _ _ => journalParts ++ alarmParts ++ endParts ++ [.regs .tmp, .regs .ste, .pun, .ste, .lost, .fresh]
  | .replMendData _ _ => journalParts ++ alarmParts ++ endParts ++ [.regs .tmp, .regs .ste, .pun, .ste, .lost, .fresh]
  | .replClose _ _ => journalParts ++ alarmParts ++ endParts ++ [.regs .chs, .regs .tmp, .regs .ste, .pun, .ste, .fresh]
  | .replError _ _ => journalParts ++ alarmParts ++ endParts ++ [.regs .chs, .regs .tmp, .regs .ste, .pun, .ste, .fresh]
  | .syncTimeout _ => journalParts ++ alarmParts ++ endParts ++ [.regs .chs, .regs .ste, .ste]
  | .replConnectionLoss _ => journalParts ++ alarmParts ++ endParts ++ [.regs .ste, .ste, .fresh]
  | .anvFlitReceive _ _ => [.regs .anv, .anv, .outbox]
  | .anvNak _ _ _ => [.regs .anv, .flt, .prf, .pun, .swg, .tmp, .imp, .anv]
  | .anvLaneLockLoss _ => [.flt, .prf, .pun, .swg, .tmp, .imp, .anv]
  | .anvHello _ => alarmParts ++ endParts ++ [.regs .stk, .regs .anv, .regs .pwr, .regs .tim, .fm, .pwr, .clk, .mtx, .tmp, .hth, .gmp, .anv, .fresh]
  | .anvHelloAck _ => alarmParts ++ [.regs .anv, .fm, .gly, .mtx, .hth, .anv, .fresh]
  | .helloRetryTimer => [.outbox]
  | .anvStatus _ _ _ _ _ _ _ _ => journalParts ++ alarmParts ++ [.regs .gly, .regs .anv, .regs .tim, .regs .upd, .fm, .clk, .stk, .gly, .anv]
  | .anvPark => [.regs .anv, .anv]
  | .anvRejoin _ => alarmParts ++ [.regs .anv, .fm, .gmp, .anv]
  | .anvReleased => [.anv, .outbox]
  | .anvBindOffer _ _ _ => alarmParts ++ [.regs .anv, .fm, .anv, .fresh]
  | .anvBindXfer _ => alarmParts ++ [.regs .anv, .fm, .anv]
  | .anvBindProof _ => alarmParts ++ [.regs .anv, .fm, .gly, .hth, .anv]
  | .anvMirrorData _ _ => [.gly, .anv]
  | .anvMirrorDesc _ _ _ => [.gly, .anv, .outbox]
  | .anvMirrorAck _ _ _ => [.gly, .anv, .outbox]
  | .anvCommit _ _ => [.gly, .anv]
  | .anvRelease _ _ => [.gly, .anv]
  | .anvRing _ _ _ => [.flt, .pwr, .stk, .chs, .mtx, .tmp, .imp, .hth, .ste, .anv, .vols, .outbox]
  | .anvRingAck _ _ => journalParts ++ alarmParts ++ [.stk, .gmp, .anv]
  | .anvFwdCmd _ _ _ _ _ => journalParts ++ endParts ++ [.regs .stk, .regs .chs, .regs .ste, .ste, .anv]
  | .anvDataReq _ _ _ _ _ _ => journalParts ++ endParts ++ [.regs .stk, .regs .chs, .regs .prf, .anv]
  | .anvData _ _ _ _ _ _ => journalParts ++ alarmParts ++ endParts ++ [.regs .stk, .regs .chs, .regs .prf, .anv]
  | .anvReadData _ _ _ => [.stk, .anv, .outbox]
  | .anvResult _ _ _ _ _ => journalParts ++ alarmParts ++ endParts ++ [.regs .chs, .regs .ste, .regs .upd, .anv]
  | .anvCancel _ _ => journalParts ++ endParts ++ [.anv]
  | .anvCredit _ _ => journalParts ++ alarmParts ++ endParts ++ [.regs .chs, .anv]
  | .nsMoveStart _ _ => alarmParts ++ [.regs .stk, .regs .pwr, .fm, .pwr, .stk, .chs]
  | .anvMoveBegin _ _ _ => alarmParts ++ [.regs .stk, .regs .pwr, .fm, .pwr, .stk, .chs, .anv]
  | .boundarySend _ => [.chs, .outbox]
  | .anvBoundary _ => journalParts ++ endParts ++ [.regs .chs, .regs .anv, .pwr, .ste, .anv, .fresh]
  | .anvMoveDone _ => journalParts ++ alarmParts ++ endParts ++ [.regs .stk, .regs .chs, .regs .anv, .regs .mtx, .regs .ste, .regs .pwr, .fm, .pwr, .ste, .anv]
  | .moveHoldLong _ => [.regs .chs]
  | .anvClearance _ _ => [.hth, .anv, .outbox]
  | .anvMediaReturn _ _ _ _ _ => [.imp, .hth, .anv]
  | .strikeStart _ _ _ _ => moduleParts ++ [.regs .anv, .anv]
  | .strikeTongsSeen _ _ => alarmParts ++ [.regs .chs, .regs .anv, .regs .pun, .regs .swg, .regs .tmp, .regs .prf, .regs .imp, .chs, .gly, .prf, .pun, .swg, .tmp, .imp, .anv, .fresh]
  | .strikeDigestReq _ _ => [.regs .anv, .anv, .outbox]
  | .strikeDigestResp _ _ => alarmParts ++ [.regs .chs, .regs .anv, .regs .pun, .regs .swg, .regs .tmp, .regs .prf, .regs .imp, .chs, .gly, .prf, .pun, .swg, .tmp, .imp, .anv, .fresh]
  | .strikeDryBegin _ _ _ => [.regs .anv, .anv, .outbox]
  | .strikeDryResult _ _ _ => alarmParts ++ [.regs .anv, .regs .pun, .regs .swg, .regs .tmp, .regs .prf, .regs .imp, .gly, .prf, .pun, .swg, .tmp, .imp, .anv, .fresh]
  | .strikeOwnerResult _ _ _ => alarmParts ++ [.regs .anv, .regs .pun, .regs .swg, .regs .tmp, .regs .prf, .regs .imp, .prf, .pun, .swg, .tmp, .imp, .anv, .fresh]
  | .strikeEnd _ => [.regs .anv, .anv]
  | .strikeIntervalTimer _ _ => alarmParts ++ [.regs .anv, .regs .pun, .regs .swg, .regs .tmp, .regs .prf, .regs .imp, .prf, .pun, .swg, .tmp, .imp, .anv, .fresh]
  | .strikeNow _ _ => alarmParts ++ [.regs .anv, .regs .pun, .regs .swg, .regs .tmp, .regs .prf, .regs .imp, .prf, .pun, .swg, .tmp, .imp, .anv, .fresh]
  | .strikeResponseTimeout => alarmParts ++ [.regs .chs, .regs .anv, .regs .pun, .regs .swg, .regs .tmp, .regs .prf, .regs .imp, .chs, .gly, .prf, .pun, .swg, .tmp, .imp, .anv, .fresh]
  | .bellowsLoadResult _ _ _ => alarmParts ++ [.regs .gly, .regs .anv, .stk, .gly, .anv]
  | .aliveStale _ => journalParts ++ alarmParts ++ endParts ++ [.regs .stk, .regs .chs, .regs .gly, .regs .anv, .regs .pun, .regs .mtx, .regs .tmp, .regs .ste, .regs .pwr, .regs .tim, .regs .upd, .fm, .pwr, .clk, .pun, .swg, .gmp, .ste, .anv, .lost]
  | .takeoverReplayDone _ => journalParts ++ alarmParts ++ endParts ++ [.regs .chs, .regs .gly, .regs .anv, .regs .mtx, .regs .imp, .regs .ste, .fm, .gmp, .ste, .anv, .lost, .fresh]
  | .fenceInAssert => alarmParts ++ [.regs .anv, .fm, .stk, .gmp, .anv]
  | .claimAckInAssert => alarmParts ++ [.regs .anv, .fm, .stk, .gmp, .anv]
  | .watchdogExpiry _ => [.fm]
  | .bundlesDownTimeout => [.fm, .anv]
  | .bundleDown _ => alarmParts ++ [.regs .anv, .stk, .anv]
  | .bundleTrainRetry _ => [.regs .anv, .anv]
  | .bundleTrained _ _ => alarmParts ++ [.regs .anv, .stk, .anv]
  | .bundleStable _ => [.regs .anv, .stk]
  | .joinBacklogDone => journalParts ++ alarmParts ++ endParts ++ [.regs .stk, .regs .chs, .regs .gly, .regs .anv, .regs .pun, .regs .mtx, .regs .swg, .regs .tmp, .regs .prf, .regs .imp, .regs .gmp, .regs .pwr, .regs .prt, .fm, .pwr, .gmp, .ste, .anv, .lost, .fresh]
  | .startAloneTimer => alarmParts ++ [.regs .anv, .fm, .gmp, .anv]
  | .handbackNs _ => journalParts ++ modeParts ++ [.regs .anv, .anv]
  | .handbackList => journalParts ++ modeParts ++ [.regs .anv, .anv]
  | .linkDownDelay => journalParts ++ alarmParts ++ endParts ++ [.regs .stk, .regs .chs, .regs .pwr, .regs .prt, .fm, .pwr]
  | .channelError _ _ _ _ _ _ _ => journalParts ++ alarmParts ++ endParts ++ [.regs .stk, .regs .chs, .regs .gly, .regs .anv, .regs .mtx, .regs .imp, .regs .pwr, .regs .prt, .fm, .pwr, .gmp, .anv, .lost]
  | .scrapEntryDurable _ => [.regs .for_, .regs .gly, .regs .pun, .regs .swg, .regs .tmp, .regs .prf, .regs .imp, .regs .prt, .fm, .flt, .outbox]
  | .alarmEventResend _ => [.flt, .outbox]
  | .pldmEventAck _ _ => [.flt]
  | .pldmGetSensor _ _ _ => [.outbox]
  | .pldmGetStateSensor _ _ => [.outbox]
  | .imageBlockArrival _ _ _ _ _ => alarmParts ++ [.regs .upd]
  | .leaseExpiry => [.regs .upd, .upd]
  | .imageVerifyDone => alarmParts ++ [.regs .upd]
  | .imageRelay => [.upd, .stk, .chs, .outbox]
  | .activationStart _ _ => alarmParts ++ [.regs .anv, .regs .upd, .stk, .chs]
  | .activationHeadReset => everyPart
  | .activationNextHead _ _ => alarmParts ++ [.regs .stk, .regs .anv, .regs .mtx, .regs .pwr, .regs .upd, .fm, .pwr, .stk, .chs, .mtx]
  | .confirmTimer => alarmParts ++ [.regs .upd]
  | .updConfirmCmd => alarmParts ++ [.regs .upd]
  | .updReleaseCmd => [.regs .upd, .upd]
  | .updRelayCmd => alarmParts ++ [.regs .upd, .stk, .chs]
  | .updActivateCmd _ _ => alarmParts ++ [.regs .anv, .regs .upd, .stk, .chs]
  | .updRecoveryCmd => [.regs .upd, .upd]
  | .ownerLockWrite _ => [.regs .upd]
  | .tftpImageWrite _ _ _ _ _ => alarmParts ++ [.regs .upd, .fm]
  | .tftpCommitWrite _ _ _ _ _ => alarmParts ++ [.regs .stk, .regs .anv, .regs .mtx, .regs .pwr, .regs .upd, .fm, .pwr, .stk, .chs, .mtx]
  | .pldmRequestUpdate _ _ _ => alarmParts ++ [.regs .upd]
  | .pldmActivateFirmware _ _ _ _ => alarmParts ++ [.regs .anv, .regs .upd, .stk, .chs]
  | .recoveryImage _ _ => everyPart
  | .scrapClearFile _ _ => [.flt, .outbox]
  | .ohmustFrame _ _ => everyPart
  | .ohmNop _ => everyPart
  | .ohmHello _ _ => everyPart
  | .ohmChallenge _ _ => everyPart
  | .ohmResponse _ _ _ _ => everyPart
  | .ohmLock _ => everyPart
  | .ohmHalt _ _ => everyPart
  | .haltComplete => modeParts ++ [.pwr, .outbox]
  | .ohmResume _ _ => everyPart
  | .ohmStep _ _ _ => everyPart
  | .ohmBpSet _ _ _ _ => everyPart
  | .ohmBpClear _ _ _ => everyPart
  | .breakpointHit _ _ => modeParts
  | .ohmReadMem _ _ _ => everyPart
  | .ohmWriteMem _ _ _ _ => everyPart
  | .ohmReadReg _ _ _ => everyPart
  | .ohmWriteReg _ _ _ _ => everyPart
  | .ohmMailbox _ _ _ => everyPart
  | .unlockIdleTimeout => [.regs .dbg]
  | .hlmAdmitOpen => [.regs .hlm, .fm]
  | .admitWindowExpiry => [.regs .hlm]
  | .hlmSvnRaise _ => [.regs .hlm, .fm, .fresh]
  | .hlmErasePairRecord => [.regs .hlm, .fm]
  | .hlmRevokeSlot _ _ => [.regs .hlm, .fm, .fresh]
  | .dbgLockNow => [.regs .dbg]
  | .dbgDisable => [.regs .dbg]
  | .blockInterruptClaim _ _ => [.fm]
  | .registerWrite _ _ _ => everyPart
  | .badAccess _ _ _ _ => [.regs .for_]
  | .bar2HostWrite _ => [.regs .for_]
  | .thermalRecover _ _ _ => [.regs .for_, .fm, .stk, .outbox]
  | .standbySupplyLoss => everyPart
  | .fenceInDeassert => [.regs .anv, .fm]
  | .mgmtPortReset => everyPart
  | .powerWarnNDeassert => everyPart
  | .activationWaitAlarm => alarmParts

end Sys2Proof.Machine
end

