-- ==== Sys2Proof/Safety.lean ====
section
/-! DEFINITION. What a legal state is, and the words in which the statements say what a command leaves alone. -/

namespace Sys2Proof.Machine

/-- The SAFE flag stands only together with mode 0xB (R439). -/
def SafeFlagLegal (s : State) : Prop := s.fm.safe = true → s.fm.mode = Mode.halted

/-- A table lists its keys in strictly rising order. -/
def Tab.rising {α : Type} (t : Tab α) : Prop := t.Pairwise fun a b => a.1 < b.1

/-- What every step keeps: the SAFE flag is legal, and the register fields and the bytes of head DRAM are listed in their one canonical order. -/
def Legal (s : State) : Prop := SafeFlagLegal s ∧ Tab.rising s.flds ∧ Tab.rising s.dram

/-- Every register field but those with these keys reads in `t` as it does in `s`. -/
def FieldsBut (s t : State) (ks : List Nat) : Prop := ∀ f : Field, f.key ∉ ks → t.rd f = s.rd f

/-- Between `s` and `t` nothing but the register fields with these keys may differ. -/
def OnlyFields (s t : State) (ks : List Nat) : Prop := t = { s with flds := t.flds } ∧ FieldsBut s t ks

/-- The Ohmust port serves operations of a level (R428, R429): the head is not in Dark, no version was refused, and the level is granted. -/
abbrev OhmOpen (s : State) (level : Nat) : Prop := s.fm.mode ≠ .dark ∧ s.fm.ohm.refused = false ∧ level ≤ s.debugLevel

/-- The response that the next frame carries (R427). -/
abbrev OhmAnswers (t : State) (seq status data : Nat) : Prop :=
  t.fm.ohm.respSeq = seq ∧ t.fm.ohm.respStatus = status ∧ t.fm.ohm.respData = data

/-- The fields that the record of a bad access writes (R434). -/
def accErrKeys : List Nat := [F.FOR_ACC_ERR_SOURCE.key, F.FOR_ACC_ERR_KIND.key, F.FOR_ACC_ERR_COUNT.key, F.FOR_ACC_ERR_ADDR.key, F.FOR_INT_STATUS_ACC_ERR.key]

/-- The command in a task slot has ended with a result, and waits to post (R94). -/
def Ended (t : State) (n : Nat) (r : Result) : Prop := (t.task? n).map (·.state) = some (.done r)

/-- A command that is dispatched and came over one of this head's own queues. -/
abbrev RunsHere (s : State) (n : Nat) (op : Opcode) (x : Task) : Prop := s.running n op = some x ∧ isInbound x.ctx = false

/-- A batch of journal records waits for durability, with what happens once it is durable (R290). -/
abbrev BatchWaits (t : State) (recs : List JRec) (after : List After) : Prop := ∃ b ∈ t.hth.journal.waiting, b.recs = recs ∧ b.after = after

/-- A well-formed query of an operation that this head's half answers (R198). -/
abbrev Asks (s : State) (req : Bytes) (op : Nat) (half : Bool) : Prop :=
  s.anv.lost = false ∧ s.gly.dump = none ∧ req.length = 64 ∧ (mtxReq req).op = op ∧ (mtxReq req).ok = true ∧ s.holdsHalf half = true

/-- A known-answer test of a lane failed: the interrupt bit `f` is set, and the lane is reported to its steward as a channel error. -/
abbrev KatFailed (s t : State) (f : Field) (kind lane : Nat) : Prop :=
  t.on f = true ∧ ∃ r : FaultReport, t.flt.reported = s.flt.reported ++ [r] ∧ r.chan = ⟨kind, lane⟩ ∧ r.status = 0

/-- A GMP command of an opcode can go to a module now (R307, R309): it may be sent, the module has a free slot, and a tag was never issued. -/
abbrev GmpReady (s : State) (m op : Nat) : Prop := s.gmpMay m op = true ∧ (s.gmpSlot m).isSome = true ∧ s.gmp.freshTag < 65536

/-- A GMP command has gone out under the next tag, the module has carried it out, and its completion waits in the ring (R307 to R309). -/
def GmpSent (s t : State) (m : Nat) (c : GmpCmd) (data : Bytes) (use : GmpUse) : Prop :=
  ∃ slot gen a, s.gmpSlot m = some slot ∧ gen = Tab.get 0 s.gmp.gens s.gmp.freshTag ∧ a = (s.dev m).act s.head c data 0 ∧
    t.outbox = s.outbox ++ [.gmp m slot (c.bytes s.gmp.freshTag gen) data] ∧ Tab.find t.gmp.flying s.gmp.freshTag = some ⟨m, slot, gen, c, use, s.now, false⟩ ∧
    t.gmp.ring = s.gmp.ring ++ [⟨m, a.words s.gmp.freshTag gen slot 0 (s.ringPhase m), a.data⟩] ∧ t.dev m = a.dev

/-- A sealed record of a type has been served (R334): one that is not this session's changes nothing, one out of sequence or with a bad tag closes the connection with ERROR 3 or 4, and otherwise the facts hold of its body, the state after SEQ was counted and the next state. -/
def SealedRow (s : State) (k : Nat) (ty : ReplType) (rec : Bytes) (t : State) (facts : Bytes → State → Prop) : Prop :=
  match s.openRecord k ty rec with
  | .other => t = s
  | .sequence => t = s.replError k 3 true
  | .tag => t = (s.alarm .ste .tagFail 0x0601 [k]).replError k 4 true
  | .body b => facts b (s.modSess k fun e => { e with seqIn := e.seqIn + 1 })

/-- The state once a message of a TYPE has left the inbox and nothing else was done with it (R357). -/
abbrev Unheard (s : State) (type : Nat) : State := { s with anv := { s.anv with inbox := s.anv.inbox.eraseP fun (m : AnvMsg) => m.type == type } }

/-- Anvil carries this head's messages: ANV_CTRL.ENABLE is 1 and the partner does not count as lost (R357). -/
abbrev Talks (s : State) : Prop := s.on F.ANV_CTRL_ENABLE = true ∧ s.anv.lost = false ∧ s.gly.dump = none

/-- This head takes in the partner's messages: the partner does not count as lost (R357), and no dump has powered Anvil down (R137). -/
abbrev Hears (s : State) : Prop := s.anv.lost = false ∧ s.gly.dump = none

/-- Records of a session that stamp something are served at once: the head is not in guard, and nothing of the session that guard held still waits (R136). -/
abbrev GuardFree (s : State) (k : Nat) : Prop := s.inGuard = false ∧ (s.ste.guarded.any fun g => g.session == k) = false

/-- What STE_CMD leaves when a command of it has ended (R327, Table 15.2). -/
def SteEnds (t : State) (result arg : Nat) : Prop :=
  t.rd F.STE_CMD_RESULT = result ∧ t.on F.STE_CMD_BUSY = false ∧ t.rd F.STE_ARG1_RESULT = arg ∧ t.on F.STE_INT_STATUS_CMD_DONE = true

/-- STE_CMD takes a command now. -/
abbrev SteReady (s : State) : Prop := s.on F.STE_CMD_BUSY = false ∧ s.on F.STE_CTRL_ENABLE = true ∧ s.ste.waiting = none

end Sys2Proof.Machine
end

