-- ==== Sys2Proof/Certificates/Slice0/Obligations.lean ====
section
/-! DEFINITION. The statements for the provers: what each command does and where it completes, what the machine keeps, and what every command leaves alone. -/

open Sys2Proof Sys2Proof.Machine

/-- A step takes the command that has waited longest and does what exec does with it, with the rest of the queue left in place; with nothing waiting, one tick passes (the model's choice, see the assumption log). -/
def Obligations.StepRunsFront : Prop :=
  (∀ (s : State) (c : Instr) (rest : List Instr), s.pending = c :: rest → step s = exec c { s with pending := rest })
  ∧ (∀ (s : State) (c : Instr), step { s with pending := c :: s.pending } = exec c s)
  ∧ (∀ (s : State), s.pending = [] → step s = .next s.idle)
  ∧ (∀ (s : State) (c d : Instr) (rest : List Instr), s.pending = c :: d :: rest → ∀ t, step s = .next t → t.pending = d :: rest → step t = exec d { t with pending := rest })

/-- What reset leaves: every register field at its reset value, FOR_MODE in Forming (R439), the SAFE flag clear, no line to the partner asserted, nothing waiting and nothing sent. That the supplies are up, the fuses read 0 and the vault is empty is the model's choice (the assumption log). -/
def Obligations.ResetState : Prop :=
  (∀ f : Field, State.reset.rd f = f.reset)
  ∧ State.reset.fm.mode = .forming ∧ State.reset.fm.safe = false ∧ State.reset.fm.pins.fenceOut = false ∧ State.reset.fm.pins.claimAckOut = false ∧ State.reset.fm.pins.alive = false
  ∧ State.reset.pending = [] ∧ State.reset.outbox = [] ∧ State.reset.dram = [] ∧ State.reset.stk.slots = [] ∧ State.reset.gly.own = [] ∧ State.reset.gly.mirror = [] ∧ State.reset.hth.journal.waiting = []
  ∧ State.reset.pwr.state = .run ∧ State.reset.anv.takeover = none ∧ State.reset.upd.lease = none ∧ State.reset.debugLevel = 0

/-- The invariant holds after reset. -/
def Obligations.LegalAtReset : Prop := Legal State.reset

/-- Every step keeps the invariant: the SAFE flag stands only together with mode 0xB (R439), and register fields and DRAM bytes stay in canonical order. So does every command on its own, whatever waits behind it. -/
def Obligations.LegalKept : Prop :=
  (∀ (s t : State), Legal s → step s = .next t → Legal t) ∧ (∀ (c : Instr) (s t : State), Legal s → exec c s = .next t → Legal t)

/-- The frame of every command: what `touches` does not name stays as it was, register block by register block and component by component, and the queue is as it was. -/
def Obligations.Frames : Prop :=
  ∀ (c : Instr) (s t : State), exec c s = .next t → (∀ p : Part, p ∉ touches c → p.kept s t) ∧ t.pending = s.pending

/-- The time base (R402 to R406): the snapshot of an ember edge, the calibration of the period, corrections by step and by slew, PTP discipline and the lapse to holdover. Sideband monitoring (R426): sensors of Table 20.4 and the acknowledgement of alarms. -/
def Obligations.TimeBaseAndSensors : Prop :=
  (∀ s : State, s.pwr.state = .run → s.clk.running = true →
    exec .timeSnapshot s = .next { s with clk := { s.clk with snap := some ⟨s.now, s.rd F.TIM_EMBER_COUNT, s.rd F.TIM_EMBER_PERIOD_PERIOD, s.rd F.TIM_STATUS_QUALITY, s.rd F.TIM_UNCERTAINTY_NS⟩ } })
  ∧ (∀ (s : State) (ns : Nat), s.pwr.state = .run → s.clk.windows.length < 16 →
    ∃ t, exec (.emberCalibration ns) s = .next t ∧
      t.rd F.TIM_EMBER_PERIOD_PERIOD = (2 * ns + s.clk.windows.sum) / (s.clk.windows.length + 1) % F.TIM_EMBER_PERIOD_PERIOD.span)
  ∧ (∀ (s : State) (off : Int), 1000000 < off →
    ∃ t, exec (.timAdjWrite off) s = .next t ∧ t.now = (s.now + off.toNat) % F.TIM_NOW_NS.span ∧ t.rd F.TIM_STATUS_STEP = 1)
  ∧ (∀ (s : State) (off : Int), off ≤ 1000000 → s.rd F.TIM_STATUS_QUALITY ≠ 0 →
    ∃ t, exec (.timAdjWrite off) s = .next t ∧ t.now = s.now ∧ t.clk.slewLeft = off ∧ OnlyFields { s with clk := t.clk } t [F.TIM_RATE_PPB.key])
  ∧ (∀ s : State, 2 ≤ s.rd F.TIM_STATUS_QUALITY → s.clk.lastSync + 2000000000 ≤ s.now →
    ∃ t, exec .timeQualityLapse s = .next t ∧ t.rd F.TIM_STATUS_QUALITY = 1 ∧ t.rd F.TIM_STATUS_QUALITY_CHG = 1)
  ∧ (∀ (s : State) (off : Int) (bound port : Nat), s.ptpTakes port = true → s.timeSource true = 2 →
    ∃ t, exec (.ptpSync off true bound port) s = .next t ∧ t.rd F.TIM_STATUS_QUALITY = 3 ∧ t.rd F.TIM_STATUS_FOLLOWING = 2 ∧
      t.rd F.TIM_UNCERTAINTY_NS = min (max bound 50) 0xFFFFFFFF)
  ∧ (∀ (s : State) (m : Nat) (p : Mctp), s.mctpTakes p 2 = true → exec (.pldmGetSensor p 1 m) s = .next (s.send (.pldmReply 3 (s.rd F.FOR_TEMP_HOT))))
  ∧ (∀ (s : State) (m : Nat) (p : Mctp), s.mctpTakes p 2 = true → exec (.pldmGetSensor p 7 m) s = .next (s.send (.pldmReply 3 s.energy)))
  ∧ (∀ (s : State) (p : Mctp), s.mctpTakes p 2 = true → exec (.pldmGetStateSensor p 8) s = .next (s.send (.pldmReply 4 s.fm.mode.code)))
  ∧ (∀ (s : State) (p : Mctp), s.mctpTakes p 2 = true → exec (.pldmGetStateSensor p 9) s = .next (s.send (.pldmReply 4 (s.rd F.TIM_STATUS_QUALITY))))
  ∧ (∀ (s : State) (p : Mctp) (q : Nat), s.mctpTakes p 2 = true → ∃ t, exec (.pldmEventAck p q) s = .next t ∧ Tab.find t.flt.unacked q = none ∧
      (∀ x, x ≠ q → Tab.find t.flt.unacked x = Tab.find s.flt.unacked x) ∧ t = { s with flt := { s.flt with unacked := t.flt.unacked } })
  ∧ (∀ (s : State) (q at0 : Nat) (r : EventRec), Tab.find s.flt.unacked q = some at0 → Tab.find s.flt.log (q % 65536) = some r → at0 + 1000000000 ≤ s.now →
      ∃ t, exec (.alarmEventResend q) s = .next t ∧ t.outbox = s.outbox ++ [.pldmEvent q (recBytes r)] ∧ Tab.find t.flt.unacked q = some s.now)

/-- Hallmark's commands and the debug control register (R422, R424, R425, R429, R443). -/
def Obligations.HallmarkCommands : Prop :=
  (∀ s : State, ∃ t, exec .hlmAdmitOpen s = .next t ∧ t.rd F.HLM_STATUS_ADMIT = 1 ∧ t.rd F.HLM_CMD_RESULT = 0 ∧
      OnlyFields { s with fm := t.fm } t [F.HLM_STATUS_ADMIT.key, F.HLM_CMD_RESULT.key])
  ∧ (∀ s : State, s.rd F.HLM_STATUS_ADMIT = 1 → s.fm.hallmark.admitAt + 600000000000 ≤ s.now →
      ∃ t, exec .admitWindowExpiry s = .next t ∧ t.rd F.HLM_STATUS_ADMIT = 0 ∧ OnlyFields s t [F.HLM_STATUS_ADMIT.key])
  ∧ (∀ (s : State) (v : Nat), s.confirmedSvn = some v → s.fm.hallmark.fuses.svnMin < v → s.fm.mode = .recovery →
      ∃ t, exec (.hlmSvnRaise true) s = .next t ∧ t.fm.hallmark.fuses = { s.fm.hallmark.fuses with svnMin := min 64 v } ∧ t.rd F.HLM_CMD_RESULT = 0)
  ∧ (∀ (s : State) (vdd : Bool), s.confirmedSvn = none →
      ∃ t, exec (.hlmSvnRaise vdd) s = .next t ∧ t.fm.hallmark = s.fm.hallmark ∧ t.rd F.HLM_CMD_RESULT = 3)
  ∧ (∀ s : State, s.admitted = [] →
      ∃ t, exec .hlmErasePairRecord s = .next t ∧ t.fm.hallmark.prs = none ∧ t.rd F.HLM_CMD_RESULT = 0)
  ∧ (∀ s : State, s.admitted ≠ [] →
      ∃ t, exec .hlmErasePairRecord s = .next t ∧ t.fm = s.fm ∧ t.rd F.HLM_CMD_RESULT = 1)
  ∧ (∀ (s : State) (k : Nat), k < 4 → s.imageSigner ≠ some k → s.fm.mode = .recovery →
      ∃ t, exec (.hlmRevokeSlot k true) s = .next t ∧ t.fm.hallmark.fuses = { s.fm.hallmark.fuses with signRevoke := s.fm.hallmark.fuses.signRevoke ||| 2 ^ k } ∧ t.rd F.HLM_CMD_RESULT = 0)
  ∧ (∀ (s : State) (k : Nat) (vdd : Bool), k < 4 → s.imageSigner = some k →
      ∃ t, exec (.hlmRevokeSlot k vdd) s = .next t ∧ t.fm.hallmark = s.fm.hallmark ∧ t.rd F.HLM_CMD_RESULT = 2)
  ∧ (∀ s : State, ∃ t, exec .dbgLockNow s = .next t ∧ t.rd F.DBG_STATUS_LEVEL = 0 ∧ OnlyFields s t [F.DBG_STATUS_LEVEL.key])
  ∧ (∀ s : State, ∃ t, exec .dbgDisable s = .next t ∧ t.rd F.DBG_CTRL_DISABLE = 1 ∧ OnlyFields s t [F.DBG_CTRL_DISABLE.key])

/-- Frames, HELLO, the unlock and its end (R427 to R429). -/
def Obligations.OhmustUnlock : Prop :=
  (∀ (s : State) (seq : Nat), OhmOpen s 0 → s.pwr.entry ≠ some .halt →
    ∃ t, exec (.ohmNop seq) s = .next t ∧ OhmAnswers t seq 0 0 ∧ t.outbox = s.outbox ++ [.ohmReply s.fm.ohm.respStatus s.fm.ohm.respSeq s.fm.ohm.respData])
  ∧ (∀ (s : State) (req : Bytes), s.fm.mode ≠ .dark → req.length = 22 → leAt req 20 2 ≠ crc16 (req.take 20) →
    ∃ t, exec (.ohmustFrame 176 req) s = .next t ∧ OhmAnswers t (byteAt req 1) 3 0)
  ∧ (∀ (s : State) (clocks : Nat) (req : Bytes), clocks ≠ 176 → exec (.ohmustFrame clocks req) s = .next s)
  ∧ (∀ (s : State) (req : Bytes), req.length = 22 → leAt req 20 2 = crc16 (req.take 20) → byteAt req 0 = 4 → byteAt req 3 = 0 →
    exec (.ohmustFrame 176 req) s = exec (.ohmLock (byteAt req 1)) s)
  ∧ (∀ (s : State) (req : Bytes), OhmOpen s 0 → req.length = 22 → leAt req 20 2 = crc16 (req.take 20) → byteAt req 3 ≠ 0 →
    ∃ t, exec (.ohmustFrame 176 req) s = .next t ∧ OhmAnswers t (byteAt req 1) 4 0 ∧ t.debugLevel = s.debugLevel)
  ∧ (∀ (s : State) (seq : Nat), OhmOpen s 0 →
    ∃ t, exec (.ohmHello seq 0x0100) s = .next t ∧ OhmAnswers t seq 0 (0x0100 + s.fm.hallmark.fuses.deviceId % 2 ^ 48 * 2 ^ 16) ∧ t.rd F.DBG_STATUS_VERSION = 0x10)
  ∧ (∀ (s : State) (seq : Nat), OhmOpen s 0 → s.fm.ohm.waitUntil ≤ s.now →
    ∃ t n, exec (.ohmChallenge seq 0) s = .next t ∧ t.fm.ohm.nonce = some n ∧ OhmAnswers t seq 0 (leAt n 0 8))
  ∧ (∀ (s : State) (seq addr : Nat), OhmOpen s 0 → addr < 4 → s.now < s.fm.ohm.waitUntil →
    ∃ t, exec (.ohmChallenge seq addr) s = .next t ∧ t.fm.ohm.nonce = s.fm.ohm.nonce ∧ OhmAnswers t seq 6 0)
  ∧ (∀ (s : State) (seq level addr word : Nat) (n : Bytes), OhmOpen s 0 → s.fm.ohm.nonce = some n → addr < 12 → (level = 1 ∨ level = 2) →
      s.fm.ohm.sigLevel = level → 12 ≤ (Tab.put s.fm.ohm.sig addr word).length →
    let good := s.unlocks n level ((Tab.put s.fm.ohm.sig addr word).flatMap fun e => beBytes e.2 8)
    ∃ t, exec (.ohmResponse seq level addr word) s = .next t ∧ OhmAnswers t seq (if good then 0 else 6) 0 ∧
      t.debugLevel = (if good then level else s.debugLevel) ∧ t.fm.ohm.nonce = none)
  ∧ (∀ (s : State) (seq level addr word : Nat) (n : Bytes), OhmOpen s 0 → s.fm.ohm.nonce = some n → addr < 12 → (level = 1 ∨ level = 2) →
      s.fm.ohm.sigLevel = level → 12 ≤ (Tab.put s.fm.ohm.sig addr word).length → s.rd F.DBG_CTRL_DISABLE = 1 →
    ∃ t, exec (.ohmResponse seq level addr word) s = .next t ∧ OhmAnswers t seq 6 0 ∧ t.debugLevel = s.debugLevel ∧ t.fm.ohm.nonce = none ∧ s.now < t.fm.ohm.waitUntil)
  ∧ (∀ (s : State) (seq : Nat), OhmOpen s 0 → ∃ t, exec (.ohmLock seq) s = .next t ∧ OhmAnswers t seq 0 0 ∧ t.debugLevel = 0)
  ∧ (∀ s : State, s.fm.ohm.lastFrame + 1800000000000 ≤ s.now → ∃ t, exec .unlockIdleTimeout s = .next t ∧ t.debugLevel = 0)

/-- Halting, stepping and breakpoints of the Ohmust port (R428, R430 to R432), in lab mode and outside it. -/
def Obligations.OhmustControl : Prop :=
  (∀ (s : State) (seq pair : Nat), OhmOpen s 2 → pair < 16 → s.labMode = true → s.fm.mode = .solo →
    ∃ t, exec (.ohmHalt seq pair) s = .next t ∧ OhmAnswers t seq 0 0 ∧ t.pairHalted pair = true)
  ∧ (∀ (s : State) (seq target : Nat), OhmOpen s 2 → s.labMode = false → s.fm.mode ≠ .paired →
    ∃ t, exec (.ohmHalt seq target) s = .next t ∧ OhmAnswers t seq 4 0 ∧ t.fm.mode = s.fm.mode ∧ t.pwr = s.pwr)
  ∧ (∀ s : State, s.pwr.entry = some .halt → s.handedOver = true →
    ∃ t, exec .haltComplete s = .next t ∧ t.fm.mode = .halted ∧ t.pwr.entry = none ∧ t.rd F.FOR_SMITH_HALTED = 0xFFFF)
  ∧ (∀ (s : State) (seq pair : Nat), OhmOpen s 2 → pair < 16 → s.labMode = true → s.fm.safe = false → s.fm.mode = .halted → s.pairHalted pair = true →
    ∃ t, exec (.ohmResume seq pair) s = .next t ∧ OhmAnswers t seq 0 0 ∧ t.pairHalted pair = false ∧ t.fm.mode = s.fm.prev)
  ∧ (∀ (s : State) (seq pair count : Nat), OhmOpen s 2 → pair < 16 → s.pairStopped pair = true → 0 < count → count < 65536 →
    ∃ t, exec (.ohmStep seq pair count) s = .next t ∧ OhmAnswers t seq 0 0 ∧ ∀ r, r < 2 ^ 64 → Tab.find t.fm.smith.regs (pair * 2 ^ 64 + r) = none)
  ∧ (∀ (s : State) (seq pair addr data : Nat), OhmOpen s 2 → pair < 16 → data < 64 → s.stopped = true →
    ∃ t, exec (.ohmBpSet seq pair addr data) s = .next t ∧ OhmAnswers t seq 0 0 ∧ Tab.find t.fm.smith.bps (pair * 16 + data % 16) = some ⟨addr, data / 16⟩)
  ∧ (∀ (s : State) (seq pair addr data : Nat), OhmOpen s 2 → s.stopped = false →
    ∃ t, exec (.ohmBpSet seq pair addr data) s = .next t ∧ OhmAnswers t seq 5 0 ∧ t.fm.smith = s.fm.smith)
  ∧ (∀ (s : State) (seq pair index : Nat), OhmOpen s 2 → pair < 16 → index < 16 →
    ∃ t, exec (.ohmBpClear seq pair index) s = .next t ∧ OhmAnswers t seq 0 0 ∧ Tab.find t.fm.smith.bps (pair * 16 + index) = none)
  ∧ (∀ (s : State) (pair index : Nat) (b : Breakpoint), s.labMode = true → pair < 16 → s.pairHalted pair = false → Tab.find s.fm.smith.bps (pair * 16 + index) = some b →
    ∃ t, exec (.breakpointHit pair index) s = .next t ∧ t.pairHalted pair = true)

/-- Memory, core registers and the mailbox of the Ohmust port (R419, R428, R430, R437). -/
def Obligations.OhmustMemory : Prop :=
  (∀ (s : State) (seq : Nat), OhmOpen s 1 → s.pwr.state = .run →
    ∃ t, exec (.ohmReadMem seq 0x80 R.FOR_INT_ENABLE) s = .next t ∧ OhmAnswers t seq 0 (s.rd F.FOR_INT_ENABLE_EN))
  ∧ (∀ (s : State) (seq addr : Nat), OhmOpen s 1 → 0x10000000 ≤ addr → s.inDram addr = false →
    ∃ t, exec (.ohmReadMem seq 0x80 addr) s = .next t ∧ OhmAnswers t seq 4 0)
  ∧ (∀ (s : State) (seq addr data : Nat), OhmOpen s 2 → s.fm.mode = .halted → s.inDram addr = true →
    ∃ t, exec (.ohmWriteMem seq 0x80 addr data) s = .next t ∧ OhmAnswers t seq 0 0 ∧
      (∀ i, i < 8 → t.dramByte (addr - dramBase + i) = some (BitVec.ofNat 8 (data / 2 ^ (8 * i)))) ∧
      ∀ a, (a < addr - dramBase ∨ addr - dramBase + 8 ≤ a) → Tab.find t.dram a = Tab.find s.dram a)
  ∧ (∀ (s : State) (seq addr data : Nat), OhmOpen s 2 → s.stopped = false →
    ∃ t, exec (.ohmWriteMem seq 0x80 addr data) s = .next t ∧ OhmAnswers t seq 5 0 ∧ t.dram = s.dram)
  ∧ (∀ (s : State) (seq pair addr : Nat) (v : Word), OhmOpen s 1 → pair < 16 → Tab.find s.fm.smith.regs (pair * 2 ^ 64 + addr) = some v →
    ∃ t, exec (.ohmReadReg seq pair addr) s = .next t ∧ OhmAnswers t seq 0 v.toNat)
  ∧ (∀ (s : State) (seq pair addr data : Nat), OhmOpen s 2 → pair < 16 → s.pairStopped pair = true →
    ∃ t, exec (.ohmWriteReg seq pair addr data) s = .next t ∧ OhmAnswers t seq 0 0 ∧ Tab.find t.fm.smith.regs (pair * 2 ^ 64 + addr) = some (BitVec.ofNat 64 data))
  ∧ (∀ (s : State) (seq data : Nat), OhmOpen s 1 → s.fm.mode = .recovery → s.fm.ohm.mailbox = [] →
    ∃ t, exec (.ohmMailbox seq 0 data) s = .next t ∧ OhmAnswers t seq 0 0 ∧ t.fm.ohm.mailbox = [(0, data)])
  ∧ (∀ (s : State) (seq addr data : Nat), OhmOpen s 1 → s.fm.mode ≠ .recovery →
    ∃ t, exec (.ohmMailbox seq addr data) s = .next t ∧ OhmAnswers t seq 4 0 ∧ t.fm.ohm.mailbox = s.fm.ohm.mailbox)

/-- Register writes by access code, bad accesses, and interrupt claims (R8, R9, R420, R434, R438). -/
def Obligations.RegisterAccess : Prop :=
  (∀ (s : State) (v : Nat), s.fm.mode ≠ .dark → s.pwr.state = .run →
    ∃ t, exec (.registerWrite R.FOR_INT_ENABLE 4 v) s = .next t ∧ t.rd F.FOR_INT_ENABLE_EN = v % 16)
  ∧ (∀ (s : State) (v : Nat), s.fm.mode ≠ .dark → s.pwr.state = .run → v % 2 = 1 →
    ∃ t, exec (.registerWrite R.FOR_INT_STATUS 4 v) s = .next t ∧ t.rd F.FOR_INT_STATUS_MODE_CHG = 0)
  ∧ (∀ (s : State) (v : Nat), s.fm.mode ≠ .dark → s.pwr.state = .run →
    ∃ t, exec (.registerWrite R.FOR_ID 4 v) s = .next t ∧ FieldsBut s t [])
  ∧ (∀ (s : State) (addr bytes v k : Nat), s.fm.mode ≠ .dark → s.badKind addr bytes true = some k → (∀ r, regOver addr ≠ some (r, R.PRF_RDATA)) →
    ∃ t, exec (.registerWrite addr bytes v) s = .next t ∧ t.rd F.FOR_INT_STATUS_ACC_ERR = 1 ∧ t.rd F.FOR_ACC_ERR_SOURCE = 0 ∧
      OnlyFields s t accErrKeys)
  ∧ (∀ (s : State) (source addr bytes k : Nat), s.fm.mode ≠ .dark → source < 2 → s.badKind addr bytes false = some k →
    ∃ t, exec (.badAccess source addr bytes false) s = .next t ∧ t.rd F.FOR_INT_STATUS_ACC_ERR = 1 ∧ t.rd F.FOR_ACC_ERR_SOURCE = source ∧
      OnlyFields s t accErrKeys)
  ∧ (∀ (s : State) (off : Nat), s.fm.mode ≠ .dark →
    ∃ t, exec (.bar2HostWrite off) s = .next t ∧ t.rd F.FOR_INT_STATUS_ACC_ERR = 1 ∧ t.rd F.FOR_ACC_ERR_SOURCE = 2 ∧ t.rd F.FOR_ACC_ERR_KIND = 3 ∧
      OnlyFields s t accErrKeys)
  ∧ (∀ (s : State) (block pair : Nat), s.fm.smith.claims = [] → s.blockPending block = true → pair ∈ domainPairs.getD (blockDomain block) [] →
      s.isOut Kind.smith pair = false → s.pairHalted pair = false →
    ∃ t, exec (.blockInterruptClaim block pair) s = .next t ∧ t.fm.smith.claims = [(block, pair)])

/-- Power-up and its sequence (R400, R445, Table 22.3): each step in its turn, and the boot that ends in Forming or in Recovery. -/
def Obligations.PowerUpSequence : Prop :=
  (∀ (s : State) (addr : Nat), s.fm.powerUp = .unpowered →
    exec (.standbySupplyUp addr) s = .next { s with fm := { s.fm with powerUp := .standby, pins := { s.fm.pins with sbAddr := 0x30 + addr % 8 } }, pwr := { s.pwr with state := .run } })
  ∧ (∀ (s : State) (addr : Nat), s.fm.powerUp ≠ .unpowered → exec (.standbySupplyUp addr) s = .next s)
  ∧ (∀ s : State, s.fm.powerUp = .standby →
    exec .mainPwrEnAssert s = .next { s with fm := { s.fm with powerUp := .mainOn, pins := { s.fm.pins with mainPwrEn := true } } })
  ∧ (∀ s : State, s.fm.powerUp = .mainOn → (s.fm.mode = .dark ∨ s.fm.mode = .forming) →
    ∃ t, exec (.coreResetRelease false) s = .next t ∧ t.fm.powerUp = .released ∧ (t.fm.mode = .forming ∨ t.fm.mode = .recovery))
  ∧ (∀ s : State, s.fm.powerUp = .mainOn → s.upd.recoverNext = false → s.upd.ptr0 = none → s.upd.ptr1 = none →
    ∃ t, exec (.coreResetRelease false) s = .next t ∧ t.fm.powerUp = .released ∧ t.fm.mode = .recovery)
  ∧ (∀ s : State, s.fm.powerUp = .mainOn → ∃ t, exec (.coreResetRelease true) s = .next t ∧ t.fm.powerUp = .heldByWarn ∧ t.fm.mode = s.fm.mode)
  ∧ (∀ s : State, s.fm.powerUp = .heldByWarn → (s.fm.mode = .dark ∨ s.fm.mode = .forming) →
    ∃ t, exec .powerWarnNDeassert s = .next t ∧ t.fm.powerUp = .released ∧ (t.fm.mode = .forming ∨ t.fm.mode = .recovery))
  ∧ (∀ (s : State) (bad : List Nat), s.fm.powerUp = .wakeOnly → ∃ t, exec (.wakeNLow bad) s = .next t ∧ t.fm.powerUp = .mainOn ∧ t.fm.pins.mainPwrEn = true)
  ∧ (∀ (s : State) (bad : List Nat), s.fm.powerUp = .released → s.fm.mode = .banked → s.pwr.state = .sleep →
    ∃ t, exec (.wakeNLow bad) s = .next t ∧ t.fm.mode = .paired ∧ t.pwr.state = .run ∧ t.rd F.PWR_STATE_LAST_WAKE = 1)
  ∧ (∀ s : State, ∃ t, exec .standbySupplyLoss s = .next t ∧ t.fm.mode = .dark ∧ t.fm.powerUp = .unpowered ∧ (∀ f : Field, t.rd f = f.reset) ∧
      t.gly.setA = s.gly.setA ∧ t.gly.setB = s.gly.setB ∧ t.flt.vaultA = s.flt.vaultA ∧ t.fm.hallmark.fuses = s.fm.hallmark.fuses)

/-- Resets of a running head (R135, R366, R404, R439, R445): the cause that FOR_RESET_CAUSE shows, the mode, and what a reset keeps. -/
def Obligations.Resets : Prop :=
  (∀ s : State, s.awake = true → s.upd.recoverNext = false →
    ∃ t, exec .pwrOkLow s = .next t ∧ t.fm.mode = .forming ∧ t.fm.powerUp = .mainOn ∧ t.fm.pins.pwrOk = false ∧ t.rd F.FOR_RESET_CAUSE_CAUSE = 2)
  ∧ (∀ s : State, s.awake = true → s.upd.recoverNext = false →
    ∃ t, exec .coreRailReset s = .next t ∧ t.fm.mode = .forming ∧ t.fm.powerUp = .mainOn ∧ t.rd F.FOR_RESET_CAUSE_CAUSE = 2 ∧ t.gly.setA = s.gly.setA ∧ t.gly.setB = s.gly.setB)
  ∧ (∀ s : State, s.awake = true → s.gly.dump = none →
    ∃ t, exec .resetNLow s = .next t ∧ t.fm.mode = .forming ∧ t.fm.powerUp = .mainOn ∧ t.rd F.FOR_RESET_CAUSE_CAUSE = 1 ∧ t.fm.hallmark.prs = s.fm.hallmark.prs)
  ∧ (∀ (s : State) (d : Dump), s.gly.dump = some d →
    ∃ t, exec .resetNLow s = .next t ∧ t = { s with fm := { s.fm with pins := { s.fm.pins with resetLow := true } } })
  ∧ (∀ s : State, s.awake = true → s.gly.dump = none → s.upd.recoverNext = false → s.upd.ptr0 = none → s.upd.ptr1 = none →
    ∃ t, exec .mgmtPortReset s = .next t ∧ t.fm.mode = .recovery ∧ t.fm.powerUp = .released ∧ t.rd F.FOR_RESET_CAUSE_CAUSE = 6)
  ∧ (∀ s : State, s.awake = true → s.gly.dump = none →
    ∃ t, exec .mgmtPortReset s = .next t ∧ t.fm.powerUp = .released ∧ (t.fm.mode = .forming ∨ t.fm.mode = .recovery))
  ∧ (∀ s : State, ∃ t, exec .fenceInDeassert s = .next t ∧ t.fm.pins.fenceIn = false ∧ t.fm.pins.backTxGated = s.fm.safe ∧ OnlyFields { s with fm := t.fm } t [F.ANV_TONGS_FENCE_IN.key])

/-- What a re-form offer leads to (R49, R50), and the last group of a re-form (R51 to R53). The steps of Forming (R34, R35, R44 to R47, Table 2.6): each step runs after the one before it, and a forme that fails one leads to Recovery with its reason. -/
def Obligations.FormingAndReForming : Prop :=
  (∀ s : State, s.formingAt 3 = true → ∃ t, exec .pllLock s = .next t ∧ t.fm.formStep = 4)
  ∧ (∀ (s : State) (f : Forme) (bytes : Nat), s.formingAt 4 = true → s.fm.forme = some f → f.regionBytes + f.cacheGib * 2 ^ 30 ≤ bytes →
    ∃ t, exec (.dramTrainingDone false bytes) s = .next t ∧ t.fm.formStep = 6 ∧ t.fm.dramBytes = bytes ∧ t.stk.ctxs = [])
  ∧ (∀ (s : State) (f : Forme) (bytes : Nat), s.formingAt 4 = true → s.fm.forme = some f → s.onTrial = false → bytes < f.regionBytes + f.cacheGib * 2 ^ 30 →
    ∃ t, exec (.dramTrainingDone false bytes) s = .next t ∧ t.fm.mode = .recovery ∧ t.rd F.FOR_FORME_STATUS_REASON = 0x0A)
  ∧ (∀ (s : State) (f : Forme) (bytes : Nat), s.formingAt 4 = true → s.fm.forme = some f → s.onTrial = false → 3 ≤ f.rate →
    ∃ t, exec (.dramTrainingDone true bytes) s = .next t ∧ t.fm.mode = .recovery ∧ t.rd F.FOR_FORME_STATUS_REASON = 0x0E)
  ∧ (∀ (s : State) (f : Forme) (failing : List (Nat × Nat)), s.formingAt 6 = true → s.fm.forme = some f → s.onTrial = false → f.linesOk = false →
    ∃ t, exec (.laneSelfTestDone failing) s = .next t ∧ t.fm.mode = .recovery ∧ t.rd F.FOR_FORME_STATUS_REASON = 0x0B)
  ∧ (∀ (s : State) (f : Forme) (ls : List (Nat × RunLine)), s.formingAt 6 = true → s.fm.forme = some f → f.linesOk = true → s.flt.vaultA = some [] → s.flt.vaultB = some [] →
      s.flt.atSeal = [] → s.flt.out = [] → s.bindLines f f.lines [] = some (ls, []) →
    ∃ t, exec (.laneSelfTestDone []) s = .next t ∧ t.fm.formStep = 8 ∧ t.fm.lines = ls.foldl (fun t l => Tab.put t l.1 l.2) [] ∧ t.flt.scrap = [])
  ∧ (∀ (s : State) (found : List (ModuleInfo × Nat × Nat)), s.formingAt 8 = true → s.fm.pins.fenceIn = false →
    ∃ t, exec (.backendDiscoveryDone found) s = .next t ∧ t.fm.formStep = 9 ∧ t.rd F.GMP_CTRL_ENABLE = 1)
  ∧ (∀ (s : State) (ok lost : Bool) (a b : List Nat) (flash : Option Image), s.formingAt 9 = true →
    ∃ t, exec (.galleyRestore ok a b lost flash) s = .next t ∧ t.fm.formStep = 10)
  ∧ (∀ (s : State) (flash : Option Image) (bad : List Nat), s.formingAt 10 = true →
    ∃ t, exec (.journalReplay flash bad) s = .next t ∧ t.fm.formStep = 11)
  ∧ (∀ s : State, s.formingAt 11 = true →
    ∃ t, exec .formingEnd s = .next t ∧ t.fm.mode = .joining ∧ t.fm.formStep = 12 ∧ t.fm.pins.alive = true ∧ t.rd F.STK_CTRL_ENABLE = 1)
  ∧ (∀ (s : State) (f : Forme) (raw : Bytes), s.fm.forme = some f → s.fm.mode = .paired → s.fm.reform = none → s.stepWaits = false →
    ∃ t, exec (.reFormOffer raw) s = .next t ∧
      match s.offerForme raw with
      | .error r => t.rd F.FOR_FORME_STATUS_REASON = r % 256 ∧ t.fm = s.fm
      | .ok g => if g.id = f.id then t = s else if g.statics = f.statics then t.fm.reform.isSome = true ∨ t.rd F.FOR_FORME_ID_ID = g.id % 2 ^ 64
        else t.fm.pendingForme = some raw ∧ t.rd F.FOR_FORME_STATUS_PENDING = 1)
  ∧ (∀ (s : State) (f : Forme) (r : ReForm) (raw : Bytes), s.fm.forme = some f → s.fm.mode = .paired → s.fm.reform = some r →
    ∃ t, exec (.reFormOffer raw) s = .next t ∧ t.fm.reform = some r ∧ t.rd F.UPD_INT_STATUS_REFUSED = 1)
  ∧ (∀ (s : State) (r : ReForm) (g : List Nat) (progress : List (Nat × Nat)) (bad : List Nat), s.fm.reform = some r → r.groups = [g] → r.suspended = false → s.inGuard = false → s.upd.formeOnly = false →
      (∀ id ∈ g, s.lineBusy id = false) →
    ∃ t, exec (.lineGroupDrained progress bad) s = .next t ∧ t.fm.reform = none ∧ t.fm.forme = some r.target)

/-- Supply events and guard (R135, R136): a dip, the entry to guard, its window, the resumption, and the commitment at 50.2 ms. -/
def Obligations.SupplyAndGuard : Prop :=
  (∀ (s : State) (warn : Bool), s.awake = true → s.pwr.state = .run → s.fm.mode ≠ .deepBanked → s.gly.dump = none → s.gly.supply = none →
    ∃ t, exec (.supplyEventStart warn) s = .next t ∧ t.gly.supply = some { t0 := s.now })
  ∧ (∀ (s : State) (e : SupplyEvent), s.gly.supply = some e → e.guard = false → s.now ≤ e.t0 + 200000 →
    ∃ t, exec .supplyDipEnd s = .next t ∧ t.gly.supply = none ∧ t.rd F.GLY_BROWN_CNT_DIPS = (s.rd F.GLY_BROWN_CNT_DIPS + 1) % F.GLY_BROWN_CNT_DIPS.span)
  ∧ (∀ (s : State) (e : SupplyEvent), s.gly.supply = some e → e.guard = false → e.t0 + 200000 ≤ s.now →
    ∃ t, exec .guardEnter s = .next t ∧ t.gly.supply = some { e with guard := true } ∧ t.fm.pins.vaultVcc = true ∧ t.rd F.GLY_STATUS_GUARD = 1 ∧
      t.rd F.GLY_INT_STATUS_GUARD_IN = 1 ∧ t.rd F.GLY_BROWN_CNT_WARNINGS = (s.rd F.GLY_BROWN_CNT_WARNINGS + 1) % F.GLY_BROWN_CNT_WARNINGS.span)
  ∧ (∀ (s : State) (e : SupplyEvent), s.gly.supply = some e → e.guard = true → e.window = none → s.now < e.commitAt →
    exec .guardWindowStart s = .next { s with gly := { s.gly with supply := some { e with window := some s.now } }, fm := { s.fm with pins := { s.fm.pins with powerWarn := false } } })
  ∧ (∀ (s : State) (e : SupplyEvent) (w : Nat) (warn : Bool), s.gly.supply = some e → e.window = some w → s.now < e.commitAt →
    exec (.guardWindowBreak warn) s = .next { s with gly := { s.gly with supply := some { e with window := none } }, fm := { s.fm with pins := { s.fm.pins with powerWarn := warn } } })
  ∧ (∀ (s : State) (e : SupplyEvent) (w : Nat) (warn : Bool), s.gly.supply = some e → e.window = some w → e.commitAt ≤ s.now →
    ∃ t, exec (.guardWindowBreak warn) s = .next t ∧ t.gly.dump.isSome = true ∧ t.rd F.GLY_STATUS_DUMPING = 1)
  ∧ (∀ (s : State) (e : SupplyEvent) (w : Nat), s.gly.supply = some e → e.window = some w → w + 10000000 ≤ s.now → s.stk.held = [] → s.ste.guarded = [] →
    ∃ t, exec .guardResume s = .next t ∧ t.gly.supply = none ∧ t.rd F.GLY_STATUS_GUARD = 0 ∧
      t.rd F.GLY_BROWN_CNT_RESUMES = (s.rd F.GLY_BROWN_CNT_RESUMES + 1) % F.GLY_BROWN_CNT_RESUMES.span)
  ∧ (∀ s : State, ∃ t, exec .guardResume s = .next t)
  ∧ (∀ (s : State) (e : SupplyEvent), s.gly.supply = some e → e.guard = true → e.window = none → e.commitAt ≤ s.now →
    ∃ t, exec .dumpCommit s = .next t ∧ t.gly.dump.isSome = true ∧ t.gly.supply = none ∧ t.rd F.GLY_STATUS_DUMPING = 1 ∧ t.rd F.GLY_STATUS_GUARD = 0 ∧
      t.fm.pins.alive = false ∧ t.fm.mode = s.fm.mode)

/-- The dump itself (R137 to R140, R446): the set it is written to, its phases and their marks, and where its end leads. -/
def Obligations.DumpPhases : Prop :=
  (∀ (s : State) (e : SupplyEvent), s.gly.supply = some e → e.guard = true → e.window = none → e.commitAt ≤ s.now → s.dumpSkips = false →
    ∃ t d, exec .dumpCommit s = .next t ∧ t.gly.dump = some d ∧ (t.dumpSet d.setB).written = true ∧ (t.dumpSet d.setB).seq = s.gly.dumpSeq + 1 ∧ t.dumpSet (!d.setB) = s.dumpSet (!d.setB) ∧
      (((s.dumpSet false).released = true ∨ (s.dumpSet true).released = true) → (s.dumpSet d.setB).released = true) ∧
      ((s.dumpSet false).released = false → (s.dumpSet true).released = false → ((s.dumpSet false).sealed = false ∨ (s.dumpSet true).sealed = false) → (s.dumpSet d.setB).sealed = false) ∧
      ((s.dumpSet false).released = false → (s.dumpSet true).released = false → (s.dumpSet false).sealed = true → (s.dumpSet true).sealed = true → (s.dumpSet d.setB).seq ≤ (s.dumpSet (!d.setB)).seq))
  ∧ (∀ (s : State) (d : Dump) (spent : Nat), s.gly.dump = some d → d.skipped = false → d.phase = 1 →
    ∃ t, exec (.dumpPhaseComplete spent) s = .next t ∧ (t.dumpSet d.setB).phase1 = true ∧ t.gly.dump = some { d with phase := 2 })
  ∧ (∀ (s : State) (d : Dump) (spent : Nat), s.gly.dump = some d → d.skipped = false → d.phase = 2 → d.left = [] →
    ∃ t, exec (.dumpPhaseComplete spent) s = .next t ∧ (t.dumpSet d.setB).phase2 = true ∧ t.gly.dump = some { d with phase := 4 })
  ∧ (∀ (s : State) (d : Dump) (spent n : Nat) (rest : List Nat), s.gly.dump = some d → d.skipped = false → d.phase = 3 → d.left = n :: rest →
    ∃ t, exec (.dumpPhaseComplete spent) s = .next t ∧ (t.dumpSet d.setB).segments = (s.dumpSet d.setB).segments + 1)
  ∧ (∀ (s : State) (d : Dump) (spent : Nat) (rstLow : Bool), s.gly.dump = some d → d.phase = 4 → d.skipped = false → d.thermal = false →
    ∃ t, exec (.dumpSeal spent true rstLow) s = .next t ∧ (t.dumpSet d.setB).sealed = true ∧ t.fm.mode = .dark ∧ t.gly.dump = none)
  ∧ (∀ (s : State) (d : Dump) (spent : Nat), s.gly.dump = some d → d.phase = 4 → d.skipped = false → d.thermal = false →
    ∃ t, exec (.dumpSeal spent false true) s = .next t ∧ (t.dumpSet d.setB).sealed = true ∧ t.fm.mode = .forming ∧ t.fm.powerUp = .mainOn ∧ t.rd F.FOR_RESET_CAUSE_CAUSE = 1)
  ∧ (∀ (s : State) (d : Dump) (spent : Nat), s.gly.dump = some d → d.phase = 4 → d.skipped = true → d.thermal = false → s.upd.ptr0 = none → s.upd.ptr1 = none → s.upd.recoverNext = false →
    ∃ t, exec (.dumpSeal spent false false) s = .next t ∧ t.dumpSet d.setB = s.dumpSet d.setB ∧ t.fm.mode = .recovery ∧ t.rd F.FOR_RESET_CAUSE_CAUSE = 3)

/-- The thermal response (R453): each threshold and its step, measured from Tmax of the ordering code. -/
def Obligations.ThermalResponse : Prop :=
  (∀ (s : State) (io c0 c1 : Int), s.awake = true → s.tmax - 5 ≤ hottest io c0 c1 →
    ∃ t, exec (.thermalWarn io c0 c1) s = .next t ∧ t.rd F.FOR_INT_STATUS_THERMAL = 1 ∧ t.rd F.FOR_TEMP_HOT = (hottest io c0 c1 % 256).toNat)
  ∧ (∀ (s : State) (io c0 c1 : Int), s.awake = true → s.tmax ≤ hottest io c0 c1 →
    ∃ t, exec (.thermalThrottle io c0 c1) s = .next t ∧ t.fm.thermalLow = true ∧ OnlyFields { s with fm := t.fm } t [F.FOR_TEMP_IO.key, F.FOR_TEMP_C0.key, F.FOR_TEMP_C1.key, F.FOR_TEMP_HOT.key])
  ∧ (∀ (s : State) (io c0 c1 : Int), s.awake = true → hottest io c0 c1 ≤ s.tmax - 2 →
    ∃ t, exec (.thermalRecover io c0 c1) s = .next t ∧ t.fm.thermalLow = false ∧ OnlyFields { s with fm := t.fm, stk := { s.stk with smart := t.stk.smart } } t [F.FOR_TEMP_IO.key, F.FOR_TEMP_C0.key, F.FOR_TEMP_C1.key, F.FOR_TEMP_HOT.key])
  ∧ (∀ (s : State) (io c0 c1 : Int), s.awake = true → s.tmax + 5 ≤ hottest io c0 c1 → s.fm.mode = .paired → s.pwr.entry = none → s.owned ≠ [] →
    ∃ t, exec (.thermalPark io c0 c1) s = .next t ∧ t.fm.thermalLow = true ∧ t.pwr.entry = some .thermal)
  ∧ (∀ (s : State) (io c0 c1 : Int), s.awake = true → s.tmax + 10 ≤ hottest io c0 c1 → s.gly.dump = none →
    ∃ t d, exec (.thermalDump io c0 c1) s = .next t ∧ t.gly.dump = some d ∧ d.thermal = true ∧ t.rd F.GLY_STATUS_DUMPING = 1)
  ∧ (∀ (s : State) (io c0 c1 : Int) (d : Dump), s.awake = true → s.tmax + 15 ≤ hottest io c0 c1 → s.gly.dump = some d → d.thermal = true →
    ∃ t, exec (.thermtrip io c0 c1) s = .next t ∧ t.fm.mode = .dark ∧ t.fm.pins.thermtrip = true ∧ t.gly.setA = s.gly.setA ∧ t.gly.setB = s.gly.setB)

/-- Banking and waking (R389, R391 to R396, R400, R69): the entry to sleep, power-off, the sleep itself, the wakes and the clock gates. -/
def Obligations.BankingAndWaking : Prop :=
  (∀ (s : State) (q : Bool), s.pwr.entry = none → ({ s with pwr := { s.pwr with peerQuiet := q } } : State).bankable false = true → s.owned ≠ [] →
    ∃ t, exec (.bankReqBanked q) s = .next t ∧ t.pwr.entry = some .sleep ∧ t.rd F.PWR_STATE_STEP = 1 ∧ t.fm.mode = .paired)
  ∧ (∀ (s : State) (q : Bool), s.pwr.entry = none → ({ s with pwr := { s.pwr with peerQuiet := q } } : State).bankable true = true → s.owned ≠ [] →
    ∃ t, exec (.bankReqDeep q) s = .next t ∧ t.pwr.entry = some .deep ∧ t.rd F.PWR_STATE_STEP = 1 ∧ t.fm.mode = .paired)
  ∧ (∀ (s : State) (deep q : Bool) (f : Forme), s.fm.forme = some f → f.bankMin ≠ 0 → s.pwr.timerFrom + f.bankMin * 60000000000 ≤ s.now → s.pwr.lowLoad = true →
      s.pwr.entry = none → ({ s with pwr := { s.pwr with timerFrom := s.now, lowLoad := true, peerQuiet := q } } : State).bankable deep = true → s.owned ≠ [] →
    ∃ t, exec (.bankingTimerExpiry deep q) s = .next t ∧ t.pwr.entry = some (if deep then .deep else .sleep) ∧ t.pwr.byTimer = true)
  ∧ (∀ s : State, s.pwr.entry = some .sleep → s.handedOver = true → s.bankBroken = false →
    ∃ t, exec .bankEnterComplete s = .next t ∧ t.fm.mode = .banked ∧ t.pwr.state = .sleep ∧ t.pwr.entry = none ∧ t.pun.slots = [] ∧ t.tmp.stores = [] ∧ t.tmp.slots = [] ∧ t.clk.running = false)
  ∧ (∀ s : State, s.pwr.entry = some .off → s.handedOver = true →
    ∃ t, exec .bankEnterComplete s = .next t ∧ t.fm.mode = .dark ∧ t.pwr.state = .off)
  ∧ (∀ s : State, s.pwr.entry = none → s.serving = true → s.owned ≠ [] →
    ∃ t, exec .powerOffReq s = .next t ∧ t.pwr.entry = some .off ∧ t.rd F.PWR_STATE_STEP = 1)
  ∧ (∀ (s : State) (t0 : Nat), s.pwr.anaAt = some t0 → t0 + 100000000 ≤ s.now → s.bankBroken = false → s.stk.linksDown = false → s.pwr.entry ≠ some .activation →
    ∃ t, exec .linkDownDelay s = .next t ∧ t.stk.linksDown = true ∧ t.fm.pins.frontTx = false)
  ∧ (∀ (s : State) (bad : List Nat), s.pwr.timerHit = true → s.pwr.state = .sleep →
    ∃ t, exec (.wakeTimerExpiry bad) s = .next t ∧ t.fm.mode = .paired ∧ t.pwr.state = .run ∧ t.rd F.PWR_STATE_LAST_WAKE = 5)
  ∧ (∀ (s : State) (m : Bool) (d : Nat) (p : Piece) (copy : Bytes), (m, d) ∈ s.gly.wakeDue → Tab.find (if m then s.gly.mirror else s.gly.own) d = some p → p.dataIn = true → crc64 p.data ≠ p.digest →
      s.anv.lost = false → crc64 copy = p.digest →
    ∃ t, exec (.wakeDigestCheck m d copy) s = .next t ∧ Tab.find (if m then t.gly.mirror else t.gly.own) d = some { p with data := copy } ∧ t.rd F.GLY_INT_STATUS_WAKE_DIGEST = 1)
  ∧ (∀ (s : State) (d : Nat) (p : Piece) (copy : Bytes), (false, d) ∈ s.gly.wakeDue → Tab.find s.gly.own d = some p → p.dataIn = true → crc64 p.data ≠ p.digest →
      (s.anv.lost = true ∨ crc64 copy ≠ p.digest) →
    ∃ t, exec (.wakeDigestCheck false d copy) s = .next t ∧ t.rd F.GLY_INT_STATUS_WAKE_DIGEST = 1 ∧ t.rd F.GLY_INT_STATUS_PIECE_LOST = 1)
  ∧ (∀ s : State, s.rd F.ANV_PAIR_PEER_MODE = 9 → exec .wakePartnerReq s = .next (s.anvHello .hello anvilVersion))
  ∧ (∀ (s : State) (w r : Nat), ∃ t, exec (.hostLoadSample w r) s = .next t ∧ t.rd F.PWR_LOAD_LOAD = min 255 (max (w * 100 / 160000000000) (r * 100 / 380000000000)))
  ∧ (∀ (s : State) (kind lane : Nat), ∃ t, exec (.laneClockGate kind lane) s = .next t ∧ ((kind, lane) ∈ t.pwr.gatedLanes ↔ s.laneHasJob kind lane = false) ∧
      (∀ l ∈ t.pwr.gatedLanes, s.laneHasJob l.1 l.2 = false) ∧ t = { s with pwr := { s.pwr with gatedLanes := t.pwr.gatedLanes } })
  ∧ (∀ (s : State) (core : Nat), ∃ t, exec (.smithClockGate core) s = .next t ∧ core ∈ t.fm.smith.gated ∧ t = { s with fm := { s.fm with smith := { s.fm.smith with gated := t.fm.smith.gated } } })

/-- Doorbells, fetches and context fills (R80, R81, R84, R85): a doorbell moves its pointer and nothing else, a fetch takes a task slot, a bad fill faults the context. -/
def Obligations.DoorbellsAndFetch : Prop :=
  (∀ (s : State) (c tail : Nat), (s.ctx c).transport = .pcie → (s.ctx c).hasSq = true → (s.ctx c).state = .live → tail ≤ (s.ctx c).sqSize →
    ∃ t, exec (.pcieSqDoorbell c tail) s = .next t ∧ t.ctx c = { s.ctx c with sqTail := tail } ∧ (∀ o, o ≠ c → t.ctx o = s.ctx o) ∧
      t = { s with stk := { s.stk with ctxs := t.stk.ctxs } })
  ∧ (∀ (s : State) (c head : Nat), (s.ctx c).hasCq = true → (s.ctx c).cqHome = c → head ≤ (s.ctx c).cqSize →
    ∃ t, exec (.cqHeadDoorbell c head) s = .next t ∧ t.ctx c = { s.ctx c with cqHead := head } ∧ (∀ o, o ≠ c → t.ctx o = s.ctx o) ∧
      t = { s with stk := { s.stk with ctxs := t.stk.ctxs } })
  ∧ (∀ (s s1 : State) (c n : Nat) (cmd : HostCmd), (s.ctx c).transport = .pcie → fetchUnit [cmd] = true → 1 ≤ s.queued c → s.mayFetch c 1 = true → s.arbAllows c = true →
      s.touch c = some s1 → s.freeSlot = some n →
    ∃ t, exec (.commandFetch c [cmd]) s = .next t ∧ (t.task? n).map (·.cmd) = some cmd ∧ (t.ctx c).sqHead = ((s.ctx c).sqHead + 1) % ((s.ctx c).sqSize + 1))
  ∧ (∀ (s : State) (c : Nat) (e : Bytes), (s.ctx c).state = .live → ctxCrcOk e = false →
    ∃ t, exec (.contextFill c e) s = .next t ∧ t.ctx c = { s.ctx c with former := .live, state := .faulted } ∧ t.rd F.STK_INT_STATUS_CTX_FAULT = 1)
  ∧ (∀ (s s1 : State) (c : Nat) (e : Bytes), ctxCrcOk e = true → s.touch c = some s1 → exec (.contextFill c e) s = .next s1)
  ∧ (∀ (s : State) (c : Nat) (e : Bytes), ctxCrcOk e = true → s.touch c = none → exec (.contextFill c e) s = .next (s.raise F.STK_INT_STATUS_SET_BUSY))

/-- NVMe-oF connections and capsules (R60, R61, R78, R86, R88, R90): Connect and ICReq, capsules in slots and spill rings, data PDUs, and the ends of connections. -/
def Obligations.Connections : Prop :=
  (∀ (s : State) (k c cntlid hqid qsize ms lport mtu : Nat) (admin : Bool), (s.conn k).live = true → (s.conn k).transport = .tcp → s.on F.STK_CTRL_ENABLE = true →
      cntlidOk s.head cntlid = true → (admin = true → keepAliveOk ms = true) → s.emptyCtx = some c → s.spillUsed + (qsize + 1) * 64 ≤ s.spillPool →
    ∃ t, exec (.nvmeofConnect k cntlid hqid qsize admin ms false lport mtu) s = .next t ∧ (t.ctx c).state = .live ∧ (t.ctx c).hqid = hqid ∧ (t.ctx c).sqSize = qsize ∧
      (t.conn k).ctx = c ∧ (t.ctrl cntlid).enabled = true ∧ t.stk.spillReserved = s.stk.spillReserved + (qsize + 1) * 64)
  ∧ (∀ (s : State) (k c cntlid hqid qsize ms lport mtu : Nat) (admin : Bool), (s.conn k).live = true → (s.conn k).transport = .tcp → s.on F.STK_CTRL_ENABLE = true →
      cntlidOk s.head cntlid = true → (admin = true → keepAliveOk ms = true) → s.emptyCtx = some c → s.spillPool < s.spillUsed + (qsize + 1) * 64 →
    exec (.nvmeofConnect k cntlid hqid qsize admin ms false lport mtu) s = .next (s.send (.connectFail k Result.connectBusy)))
  ∧ (∀ (s : State) (k cntlid hqid qsize ms lport mtu : Nat), (s.conn k).live = true → (s.conn k).transport = .tcp → s.on F.STK_CTRL_ENABLE = true →
      cntlidOk s.head cntlid = true → (ms < 1000 ∨ 3600000 < ms) →
    exec (.nvmeofConnect k cntlid hqid qsize true ms false lport mtu) s = .next (s.send (.connectFail k Result.invalidField)))
  ∧ (∀ (s : State) (k c cntlid hqid qsize ms lport mtu : Nat) (admin : Bool), (s.conn k).live = false → Tab.count s.stk.conns (fun _ c => c.live && c.transport == .roce) < 32768 →
      (mtu = 1024 ∨ mtu = 2048 ∨ mtu = 4096) → s.lportUp lport = true → s.on F.STK_CTRL_ENABLE = true → cntlidOk s.head cntlid = true → (admin = true → keepAliveOk ms = true) →
      s.emptyCtx = some c → s.spillUsed + (qsize + 1) * 64 ≤ s.spillPool →
    ∃ t, exec (.nvmeofConnect k cntlid hqid qsize admin ms true lport mtu) s = .next t ∧ (t.conn k).live = true ∧ (t.conn k).transport = .roce ∧ (t.conn k).mtu = mtu ∧ (t.ctx c).transport = .roce)
  ∧ (∀ (s : State) (k lport : Nat) (hd dd : Bool), (s.conn k).live = false → s.lportUp lport = true → Tab.count s.stk.conns (fun _ c => c.live && c.transport == .tcp) < 32768 →
    ∃ t, exec (.tcpIcreq k lport hd dd 0) s = .next t ∧ (t.conn k).live = true ∧ (t.conn k).hdrDigest = hd ∧ (t.conn k).dataDigest = dd ∧ t.outbox = s.outbox ++ [.icResp k 131072 0 hd dd])
  ∧ (∀ (s s1 : State) (k n : Nat) (cmd : HostCmd) (dataOk : Bool), (s.conn k).live = true → fetchUnit [cmd] = true → cmd.inCapsule = false →
      Tab.get [] s.stk.spill (s.conn k).ctx = [] → s.mayFetch (s.conn k).ctx 1 = true → (s.portServes (s.conn k).ctx true = true ∨ cmd.capData = []) → s.touch (s.conn k).ctx = some s1 → s.freeSlot = some n →
    ∃ t, exec (.capsuleArrival k [cmd] true dataOk) s = .next t ∧ (t.task? n).map (·.cmd) = some cmd)
  ∧ (∀ (s : State) (k : Nat) (cmd : HostCmd) (dataOk : Bool), (s.conn k).live = true → fetchUnit [cmd] = true → (s.ctx (s.conn k).ctx).state = .live → s.mayFetch (s.conn k).ctx 1 = false →
      s.spillUsed + 4096 * spillPages cmd.capData.length ≤ s.spillPool →
    ∃ t, exec (.capsuleArrival k [cmd] true dataOk) s = .next t ∧
      Tab.get [] t.stk.spill (s.conn k).ctx = Tab.get [] s.stk.spill (s.conn k).ctx ++ [⟨cmd, dataOk || !(s.conn k).dataDigest⟩])
  ∧ (∀ (s : State) (k : Nat) (cmds : List HostCmd) (dataOk : Bool), (s.conn k).live = true → (s.conn k).hdrDigest = true →
    ∃ t, exec (.capsuleArrival k cmds false dataOk) s = .next t ∧ (t.conn k).live = false)
  ∧ (∀ (s s1 : State) (c n : Nat) (a : Spilled), Tab.get [] s.stk.spill c = [a] → fetchUnit [a.cmd] = true → a.cmd.inCapsule = false → s.mayFetch c 1 = true → s.arbAllows c = true →
      (s.portServes c true = true ∨ a.cmd.capData = []) → s.touch c = some s1 → s.freeSlot = some n →
    ∃ t, exec (.spillRingFetch c) s = .next t ∧ (t.task? n).map (·.cmd) = some a.cmd ∧ Tab.get [] t.stk.spill c = [])
  ∧ (∀ (s : State) (k tag cid off n : Nat) (data : Bytes) (x : Task), (s.conn k).live = true → (s.conn k).transport = .tcp → s.portServes (s.conn k).ctx true = true → data.length ≤ 131072 →
      (Tab.get {} s.stk.tokens tag).slot = some n → (Tab.get {} s.stk.tokens tag).conn = k →
      (Tab.get {} s.stk.tokens tag).cccid = cid → (Tab.get {} s.stk.tokens tag).next = off → s.task? n = some x → (s.ctx x.ctx).transport = .tcp → off + data.length < x.need → off + data.length ≤ (Tab.get {} s.stk.tokens tag).stop →
    ∃ t, exec (.h2cData k tag cid off data false true true) s = .next t ∧ t.task? n = some { x with data := overlay x.data off data } ∧
      (Tab.get {} t.stk.tokens tag).next = off + data.length)
  ∧ (∀ (s : State) (k tag cid off : Nat) (data : Bytes) (last : Bool), (s.conn k).live = true → (s.conn k).transport = .tcp → s.portServes (s.conn k).ctx true = true → data.length ≤ 131072 →
      (Tab.get {} s.stk.tokens tag).slot = none →
    ∃ t, exec (.h2cData k tag cid off data last true true) s = .next t ∧ t.rd F.STK_STALE_CNT_COUNT = (s.rd F.STK_STALE_CNT_COUNT + 1) % F.STK_STALE_CNT_COUNT.span ∧
      t.rd F.STK_INT_STATUS_STALE = 1 ∧ t.stk = s.stk)
  ∧ (∀ (s : State) (k tag cid off : Nat) (data : Bytes) (last : Bool), (s.conn k).live = true → (s.conn k).transport = .tcp → s.portServes (s.conn k).ctx true = true → 131072 < data.length →
    ∃ t, exec (.h2cData k tag cid off data last true true) s = .next t ∧ (t.conn k).live = false)
  ∧ (∀ (s : State) (k : Nat), (s.conn k).live = true → (s.conn k).transport = .tcp → ∃ t, exec (.h2cTermReq k) s = .next t ∧ (t.conn k).live = false)
  ∧ (∀ (s : State) (n : Nat) (x : Task) (data : Bytes), s.task? n = some x → x.state = .dispatched → x.cmd.op = .write → x.asked = none → (s.ctx x.ctx).transport = .roce → s.portServes x.ctx true = true →
      data.length = x.need → piFail (s.volOf x.cmd.nsid) x.cmd.pi x.cmd.blocks data x.cmd.metaBuf = none →
    ∃ t, exec (.rdmaReadComplete n data) s = .next t ∧ (t.task? n).map (·.data) = some data)
  ∧ (∀ (s : State) (k : Nat), (s.conn k).live = true → (s.conn k).transport = .roce →
    ∃ t, exec (.cnpReceived k) s = .next t ∧ Tab.get 0 t.stk.rates (s.conn k).lport = Config.freeValue s.fresh ∧ (∀ l, l ≠ (s.conn k).lport → Tab.get 0 t.stk.rates l = Tab.get 0 s.stk.rates l) ∧ t.fresh = s.fresh + 1)

/-- Links, resets of functions and controllers, and their ends (R57 to R59, R63 to R65, R82, R92). -/
def Obligations.LinksAndResets : Prop :=
  (∀ (s : State) (port idx speed width : Nat) (fec : Bool), frontLinkOk speed width = true → s.stk.linksDown = false → s.rd (F.PRT_FRONT_LINK_SPEED port) ≠ speed →
    ∃ t, exec (.linkStateChange true port idx speed width fec true) s = .next t ∧ t.rd (F.PRT_FRONT_LINK_SPEED port) = speed ∧
      t.rd (F.PRT_FRONT_LINK_WIDTH port) = width ∧ t.rd (F.PRT_FRONT_LINK_FLIT port) = (if speed = 6 then 1 else 0) ∧ t.rd (F.PRT_FRONT_LINK_CHG port) = 1)
  ∧ (∀ (s : State) (port idx speed width c : Nat) (fec : Bool), (s.ctrl c).fabric = false → (s.ctrl c).port = port → (s.ctrl c).enabled = true →
    ∃ t, exec (.linkStateChange true port idx speed width fec false) s = .next t ∧ t.rd (F.PRT_FRONT_LINK_SPEED port) = 0 ∧ (t.ctrl c).enabled = false ∧ (t.ctrl c).draining = true)
  ∧ (∀ (s : State) (port idx lanes : Nat), splitLanes (s.rd (F.PRT_ETH_LINK_SPLIT port)) = lanes → idx * lanes < 8 → s.on (F.PRT_ETH_LINK_ENABLED port) = true →
      bitOf (s.rd (F.PRT_ETH_LINK_RETIRED port)) idx = false → s.stk.linksDown = false → bitOf (s.rd (F.PRT_ETH_LINK_UP port)) idx = false →
    ∃ t, exec (.linkStateChange false port idx (100 * lanes) lanes true true) s = .next t ∧ bitOf (t.rd (F.PRT_ETH_LINK_UP port)) idx = true ∧ bitOf (t.rd (F.PRT_ETH_LINK_CHG port)) idx = true)
  ∧ (∀ (s : State) (port idx speed width : Nat) (fec : Bool), idx < 8 → bitOf (s.rd (F.PRT_ETH_LINK_UP port)) idx = true →
    ∃ t, exec (.linkStateChange false port idx speed width fec false) s = .next t ∧ bitOf (t.rd (F.PRT_ETH_LINK_UP port)) idx = false ∧ bitOf (t.rd (F.PRT_ETH_LINK_CHG port)) idx = true)
  ∧ (∀ (s : State) (port fn c : Nat), (s.ctrl c).fabric = false → (s.ctrl c).port = port → (s.ctrl c).fn = fn → (s.ctrl c).enabled = true →
    ∃ t, exec (.functionLevelReset port fn) s = .next t ∧ (t.ctrl c).enabled = false ∧ (t.ctrl c).draining = true)
  ∧ (∀ (s : State) (port c : Nat), (s.ctrl c).fabric = false → (s.ctrl c).port = port → (s.ctrl c).enabled = true →
    ∃ t, exec (.frontLinkLoss port) s = .next t ∧ (t.ctrl c).enabled = false ∧ (t.ctrl c).draining = true)
  ∧ (∀ (s : State) (cntlid port fn asq n acq m c : Nat), s.on F.STK_CTRL_ENABLE = true → cntlidOk s.head cntlid = true → s.fnExists port fn = true → (s.ctrl cntlid).enabled = false →
      (s.ctrl cntlid).draining = false → s.emptyCtx = some c →
    ∃ t, exec (.controllerEnable cntlid port fn asq n acq m) s = .next t ∧ (t.ctrl cntlid).enabled = true ∧ (t.ctrl cntlid).rdy = true ∧ (t.ctx c).state = .live ∧ (t.ctx c).kind = .admin ∧
      (t.ctx c).sqBase = asq ∧ (t.ctx c).cqBase = acq)
  ∧ (∀ (s : State) (c : Nat), (s.ctrl c).enabled = true → ∃ t, exec (.controllerDisable c) s = .next t ∧ (t.ctrl c).enabled = false ∧ (t.ctrl c).draining = true)
  ∧ (∀ (s : State) (port n : Nat), n ≤ ((s.fm.forme.map (·.vfs)).getD []).getD port 0 → n < (F.PRT_FRONT_LINK_NUMVF port).span → port ∉ s.stk.vfEnable → s.rd (F.PRT_FRONT_LINK_NUMVF port) = 0 →
    ∃ t, exec (.numvfsWrite port n) s = .next t ∧ t.rd (F.PRT_FRONT_LINK_NUMVF port) = n ∧ port ∈ t.stk.vfEnable ∧ OnlyFields { s with stk := { s.stk with vfEnable := t.stk.vfEnable } } t [(F.PRT_FRONT_LINK_NUMVF port).key])
  ∧ (∀ (s : State) (port n c : Nat), ((s.fm.forme.map (·.vfs)).getD []).getD port 0 < n → (s.ctrl c).fabric = false → (s.ctrl c).port = port → 0 < (s.ctrl c).fn → (s.ctrl c).enabled = true →
    ∃ t, exec (.numvfsWrite port n) s = .next t ∧ port ∉ t.stk.vfEnable ∧ (t.ctrl c).enabled = false ∧ (t.ctrl c).draining = true ∧ .numVfsOff port ∈ t.outbox)
  ∧ (∀ (s : State) (port : Nat), ∃ t, exec (.vfDisable port) s = .next t ∧ port ∉ t.stk.vfEnable ∧
      (∀ c, (s.ctrl c).fabric = false → (s.ctrl c).port = port → 0 < (s.ctrl c).fn → (s.ctrl c).enabled = true → (t.ctrl c).enabled = false ∧ (t.ctrl c).draining = true) ∧
      ((∀ e ∈ s.stk.ctrls, e.2.fabric = false → e.2.port = port → 0 < e.2.fn → e.2.enabled = false ∧ e.2.draining = false) → t.rd (F.PRT_FRONT_LINK_NUMVF port) = 0))
  ∧ (∀ (s : State) (c : Nat), c ≠ 0 → (s.ctrl c).fabric = true → (s.ctrl c).enabled = true → ∃ t, exec (.associationEnd c) s = .next t ∧ (t.ctrl c).enabled = false ∧ (t.ctrl c).draining = true)
  ∧ (∀ (s : State) (c : Nat), c ≠ 0 → (s.ctrl c).fabric = true → (s.ctrl c).enabled = true → 0 < (s.ctrl c).keepAliveMs → (s.ctrl c).keepAliveAt + (s.ctrl c).keepAliveMs * 1000000 ≤ s.now →
    ∃ t, exec (.keepAliveExpiry c) s = .next t ∧ (t.ctrl c).enabled = false ∧ (t.ctrl c).draining = true)

/-- Queue creation and deletion, attachment and features (R67, R77, R78, R87, R92, R93). -/
def Obligations.QueueAdmin : Prop :=
  (∀ (s : State) (n cqid base size vec c thr time : Nat) (ien pc : Bool) (x : Task), s.adminTask n .createCq = some x → isInbound x.ctx = false → cqid ≠ 0 →
      cqid ≤ queueLimit (s.ctx x.ctx).fn → vec < vectorLimit (s.ctx x.ctx).fn → s.queueOf (s.ctx x.ctx).cntlid cqid true = none → s.emptyCtx = some c →
    ∃ t, exec (.createIoCq n cqid base size vec ien pc thr time) s = .next t ∧ Ended t n .success ∧ (t.ctx c).state = .live ∧ (t.ctx c).hasCq = true ∧ (t.ctx c).hasSq = false ∧
      (t.ctx c).cqid = cqid ∧ (t.ctx c).cqBase = base ∧ (t.ctx c).cqSize = size ∧ (t.ctx c).vector = vec)
  ∧ (∀ (s : State) (n qid cqid base size prio h : Nat) (pc : Bool) (x : Task), s.adminTask n .createSq = some x → isInbound x.ctx = false → qid ≠ 0 → qid ≤ queueLimit (s.ctx x.ctx).fn →
      s.queueOf (s.ctx x.ctx).cntlid qid false = none → s.queueOf (s.ctx x.ctx).cntlid cqid true = some h → (s.ctx h).state = .live → (s.ctx h).hasSq = false →
    ∃ t, exec (.createIoSq n qid cqid base size prio pc) s = .next t ∧ Ended t n .success ∧ (t.ctx h).hasSq = true ∧ (t.ctx h).hqid = qid ∧ (t.ctx h).sqBase = base ∧ (t.ctx h).sqSize = size ∧
      (t.ctx h).arb = prioClass prio)
  ∧ (∀ (s : State) (n qid cqid base size prio : Nat) (pc : Bool) (x : Task), s.adminTask n .createSq = some x → isInbound x.ctx = false → qid ≠ 0 → qid ≤ queueLimit (s.ctx x.ctx).fn →
      s.queueOf (s.ctx x.ctx).cntlid qid false = none → s.queueOf (s.ctx x.ctx).cntlid cqid true = none →
    ∃ t, exec (.createIoSq n qid cqid base size prio pc) s = .next t ∧ Ended t n .cqInvalid)
  ∧ (∀ (s : State) (n cqid base size vec thr time : Nat) (ien pc : Bool) (x : Task), s.adminTask n .createCq = some x → isInbound x.ctx = false → cqid ≠ 0 →
      cqid ≤ queueLimit (s.ctx x.ctx).fn → vectorLimit (s.ctx x.ctx).fn ≤ vec → s.queueOf (s.ctx x.ctx).cntlid cqid true = none →
    ∃ t, exec (.createIoCq n cqid base size vec ien pc thr time) s = .next t ∧ Ended t n .vectorInvalid)
  ∧ (∀ (s : State) (n qid cqid base size prio : Nat) (pc : Bool) (x : Task), s.adminTask n .createSq = some x → isInbound x.ctx = false →
      (qid = 0 ∨ queueLimit (s.ctx x.ctx).fn < qid ∨ (s.queueOf (s.ctx x.ctx).cntlid qid false).isSome = true) →
    ∃ t, exec (.createIoSq n qid cqid base size prio pc) s = .next t ∧ Ended t n .queueInvalid)
  ∧ (∀ (s : State) (n qid c : Nat) (x : Task), s.adminTask n .deleteSq = some x → s.queueOf (s.ctx x.ctx).cntlid qid false = some c → (s.ctx c).state = .live →
    ∃ t, exec (.deleteIoSq n qid) s = .next t ∧ (t.ctx c).state = .draining ∧ (t.ctx c).drainCause = 1)
  ∧ (∀ (s : State) (n cqid h : Nat) (x : Task), s.adminTask n .deleteCq = some x → isInbound x.ctx = false → x.ctx ≠ h → s.queueOf (s.ctx x.ctx).cntlid cqid true = some h →
      (∀ e ∈ s.stk.ctxs, e.2.hasSq = true → e.2.cqHome ≠ h) →
    ∃ t, exec (.deleteIoCq n cqid) s = .next t ∧ Ended t n .success ∧ t.ctx h = {})
  ∧ (∀ (s : State) (n cqid h : Nat) (x : Task), s.adminTask n .deleteCq = some x → isInbound x.ctx = false → s.queueOf (s.ctx x.ctx).cntlid cqid true = some h →
      (∃ e ∈ s.stk.ctxs, e.2.hasSq = true ∧ e.2.cqHome = h) →
    ∃ t, exec (.deleteIoCq n cqid) s = .next t ∧ Ended t n .queueDeletion)
  ∧ (∀ (s : State) (n nsid c : Nat) (x : Task), s.adminTask n .nsAttach = some x → isInbound x.ctx = false → (s.ns nsid).state ≠ .unused →
    ∃ t, exec (.nsAttach n nsid c) s = .next t ∧ Ended t n .success ∧ nsid ∈ (t.ctrl c).attached)
  ∧ (∀ (s : State) (n nsid c : Nat) (x : Task), s.adminTask n .nsDetach = some x → isInbound x.ctx = false → s.nsHeldAt c nsid = [] →
    ∃ t, exec (.nsDetach n nsid c) s = .next t ∧ Ended t n .success ∧ nsid ∉ (t.ctrl c).attached)
  ∧ (∀ (s : State) (n : Nat) (x : Task), s.adminTask n .keepAlive = some x → isInbound x.ctx = false →
    ∃ t, exec (.keepAlive n) s = .next t ∧ Ended t n .success ∧ (t.ctrl (s.ctx x.ctx).cntlid).keepAliveAt = s.now)
  ∧ (∀ (s : State) (n burst hpw mpw lpw : Nat) (wrr : Bool) (x : Task), s.adminTask n .setArbitration = some x → isInbound x.ctx = false →
    ∃ t, exec (.setFeaturesArbitration n burst hpw mpw lpw wrr) s = .next t ∧ Ended t n .success ∧
      t.ctrl (s.ctx x.ctx).cntlid = { s.ctrl (s.ctx x.ctx).cntlid with burst := burst, hpw := hpw, mpw := mpw, lpw := lpw, wrr := wrr })
  ∧ (∀ (s : State) (n nsid c : Nat) (x : Task), s.adminTask n .nsDetach = some x → x.state = .fetched → s.nsHeldAt c nsid ≠ [] →
    ∃ t, exec (.nsDetach n nsid c) s = .next t ∧ t.task? n = some { x with state := .held, behind := s.nsHeldAt c nsid } ∧ nsid ∉ (t.ctrl c).attached)
  ∧ (∀ (s : State) (n : Nat) (r : Result) (x : Task), s.task? n = some x → x.state = .fetched → isInbound x.ctx = false → x.cmd.unsupported = some r → x.cmd.op ≠ .fusedCompare → x.cmd.op ≠ .fusedWrite →
    ∃ t, exec (.unsupportedCommand n) s = .next t ∧ Ended t n r)
  ∧ (∀ c : HostCmd, (c.op = .other → c.unsupported = some .invalidOpcode) ∧ (c.op ≠ .other → c.uses = none → c.badField = true → c.unsupported = some .invalidField))

/-- Reservations (R72), which the owner's head serves and mirrors: the result of the command and the state it leaves. -/
def Obligations.Reservations : Prop :=
  (∀ (s : State) (n action cur new cptpl : Nat) (ign : Bool) (x : Task), s.adminTask n .resRegister = some x → isInbound x.ctx = false →
      (s.ctrl (s.ctx x.ctx).cntlid).attached.contains x.cmd.nsid = true → (s.ns x.cmd.nsid).state = .loc →
    ∃ t, exec (.reservationRegister n action cur new cptpl ign) s = .next t ∧
      Ended t n (registerResv action cur new cptpl ign x.cmd.host (Tab.get {} s.stk.resv x.cmd.nsid)).1 ∧
      Tab.get {} t.stk.resv x.cmd.nsid = (registerResv action cur new cptpl ign x.cmd.host (Tab.get {} s.stk.resv x.cmd.nsid)).2)
  ∧ (∀ (s : State) (n action rtype cur pre : Nat) (x : Task), s.adminTask n .resAcquire = some x → isInbound x.ctx = false →
      (s.ctrl (s.ctx x.ctx).cntlid).attached.contains x.cmd.nsid = true → (s.ns x.cmd.nsid).state = .loc →
    ∃ t, exec (.reservationAcquire n action rtype cur pre) s = .next t ∧
      Ended t n (acquireResv action rtype cur pre x.cmd.host (Tab.get {} s.stk.resv x.cmd.nsid)).1 ∧
      Tab.get {} t.stk.resv x.cmd.nsid = (acquireResv action rtype cur pre x.cmd.host (Tab.get {} s.stk.resv x.cmd.nsid)).2)
  ∧ (∀ (s : State) (n action rtype cur : Nat) (x : Task), s.adminTask n .resRelease = some x → isInbound x.ctx = false →
      (s.ctrl (s.ctx x.ctx).cntlid).attached.contains x.cmd.nsid = true → (s.ns x.cmd.nsid).state = .loc →
    ∃ t, exec (.reservationRelease n action rtype cur) s = .next t ∧
      Ended t n (releaseResv action rtype cur x.cmd.host (Tab.get {} s.stk.resv x.cmd.nsid)).1 ∧
      Tab.get {} t.stk.resv x.cmd.nsid = (releaseResv action rtype cur x.cmd.host (Tab.get {} s.stk.resv x.cmd.nsid)).2)
  ∧ (∀ (s : State) (n : Nat) (x : Task), s.adminTask n .resReport = some x → isInbound x.ctx = false → (s.ns x.cmd.nsid).state ≠ .unused →
      (s.ctrl (s.ctx x.ctx).cntlid).attached.contains x.cmd.nsid = true →
    ∃ t, exec (.reservationReport n) s = .next t ∧ Ended t n .success ∧ .resvReport x.ctx x.cmd.cid (Tab.get {} s.stk.resv x.cmd.nsid) ∈ t.outbox)
  ∧ (∀ (cur new host cptpl : Nat) (r : Reservation), r.keyOf host = none → registerResv 0 cur new cptpl false host r =
      (.success, { r with regs := r.regs ++ [(host, new)], gen := r.gen + 1, ptpl := if cptpl = 2 then false else if cptpl = 3 then true else r.ptpl }))
  ∧ (∀ (rtype cur pre host : Nat) (r : Reservation), r.keyOf host = some cur → r.holder = none → 1 ≤ rtype → rtype ≤ 6 →
      acquireResv 0 rtype cur pre host r = (.success, { r with holder := some host, rtype := rtype }))
  ∧ (∀ (rtype cur host : Nat) (r : Reservation), r.keyOf host = some cur → releaseResv 1 rtype cur host r = (.success, { r with regs := [], holder := none, rtype := 0, gen := r.gen + 1 }))

/-- Tokens, posting, interrupts, drains and the registers that steer them (R81, R88, R92, R94 to R98, R118). -/
def Obligations.PostingAndDrains : Prop :=
  (∀ (s : State) (n : Nat) (x : Task), s.task? n = some x → x.state = .stamped → x.complete = false → x.token = none → x.cmd.inCapsule = false → (s.ctx x.ctx).transport = .tcp → isInbound x.ctx = false →
      s.stk.freshTag < 65536 →
    ∃ t, exec (.tokenIssue n) s = .next t ∧ t.outbox = s.outbox ++ [.r2t (s.ctx x.ctx).xportRef s.stk.freshTag x.cmd.cid x.data.length (x.need - x.data.length)] ∧
      (t.task? n).bind (·.token) = some s.stk.freshTag ∧ (Tab.get {} t.stk.tokens s.stk.freshTag).slot = some n)
  ∧ (∀ (s : State) (c n : Nat) (x : Task) (r : Result), s.postable c = some (n, x) → x.state = .done r → s.holdsPosts = false → x.discard = false → completesHost r.internalStatus = true → s.postsFirst c x = true →
    ∃ t, exec (.completionPost c) s = .next t ∧ t.task? n = none ∧ (t.ctx c).postSeq = ((s.ctx c).postSeq + 1) % 2 ^ 32 ∧
      .completion c x.cmd.cid (nvmeOf x.cmd.op r).sct (nvmeOf x.cmd.op r).sc (nvmeOf x.cmd.op r).dnr x.dword0 (s.ctx c).sqHead (s.ctx c).hqid (s.ctx (s.ctx c).cqHome).phase ∈ t.outbox)
  ∧ (∀ (s : State) (c : Nat), (s.ctx c).transport = .pcie → (s.ctx c).ien = true → 0 < (s.ctx c).unsignalled →
    ∃ t, exec (.msixCoalesceTimer c) s = .next t ∧ t.outbox = s.outbox ++ [.msix c (s.ctx c).vector] ∧ t.ctx c = { s.ctx c with unsignalled := 0 })
  ∧ (∀ (s : State) (c : Nat), (s.ctx c).state = .draining → s.slotsOf c = [] →
    ∃ t, exec (.drainComplete c) s = .next t ∧ (t.ctx c).state ≠ .draining ∧ t.rd F.STK_INT_STATUS_DRAIN_DONE = 1)
  ∧ (∀ (s : State) (v : Bool), ∃ t, exec (.fetchHoldWrite v) s = .next t ∧ t.rd F.STK_CTRL_FETCH_HOLD = bit v ∧ OnlyFields s t [F.STK_CTRL_FETCH_HOLD.key])
  ∧ (∀ (s : State) (c : Nat), isChannel c = true → (s.ctx c).state = .live →
    ∃ t, exec (.stkQcmdCloseChannel c) s = .next t ∧ (t.ctx c).state = .draining ∧ (t.ctx c).drainCause = 5)
  ∧ (∀ (s : State) (c d : Nat), (s.ctx c).state = .faulted → s.spareCtx = some d →
    ∃ t, exec (.stkQcmdRehome c) s = .next t ∧ (t.ctx c).state = .retired ∧ (t.ctx d).state = (s.ctx c).former)
  ∧ (∀ (s : State), ∃ t, exec (.hwmClear true) s = .next t ∧ t.rd F.CHS_LOCKS_HWM_HWM = s.locksUsed % F.CHS_LOCKS_HWM_HWM.span ∧ OnlyFields s t [F.CHS_LOCKS_HWM_HWM.key])
  ∧ (∀ (s : State), ∃ t, exec (.hwmClear false) s = .next t ∧ t.rd F.STK_SLOTS_HWM_HWM = s.slotsUsed % F.STK_SLOTS_HWM_HWM.span ∧ OnlyFields s t [F.STK_SLOTS_HWM_HWM.key])

/-- Chase's answer to a command that Stick hands over (R100, R101, R102, R109, R112, R113): a Local namespace stamps it, a Remote one forwards it, and the handover can be held. -/
def Obligations.ChaseHandover : Prop :=
  (∀ (s : State) (n : Nat) (x : Task), s.task? n = some x → x.state = .fetched → x.cmd.op.isStamped = true → x.cmd.op ≠ .fusedWrite → x.cmd.op ≠ .fusedCompare → x.cmd.unsupported = none →
      s.on F.CHS_CTRL_ENABLE = true → s.on F.CHS_CTRL_STAMP_HOLD = false → s.earlierWaits n x = false → x.cmd.nsid ≠ 0xFFFFFFFF → (s.ns x.cmd.nsid).state = .loc →
      s.resvExcludes x.cmd = false → s.pastEnd x = false → s.gly.supply = none → s.sourceWaits n x = false → s.locksFree (isInbound x.ctx) x.cmd.lockCount = true →
    ∃ t, exec (.chaseStamp n) s = .next t ∧ (t.task? n).map (·.stamp) = some (s.rd F.CHS_LAST_STAMP_STAMP + 1) ∧
      t.rd F.CHS_LAST_STAMP_STAMP = (s.rd F.CHS_LAST_STAMP_STAMP + 1) % F.CHS_LAST_STAMP_STAMP.span ∧
      (t.ns x.cmd.nsid).pending = (s.ns x.cmd.nsid).pending + 1)
  ∧ (∀ (s : State) (n : Nat) (x : Task), s.task? n = some x → x.state = .fetched → x.cmd.op.isStamped = true → x.cmd.op ≠ .fusedWrite → x.fusedWith = none → x.cmd.unsupported = none →
      isInbound x.ctx = false → s.on F.CHS_CTRL_ENABLE = true → s.on F.CHS_CTRL_STAMP_HOLD = false → s.earlierWaits n x = false → x.cmd.nsid ≠ 0xFFFFFFFF → (s.ns x.cmd.nsid).state = .remote →
      (s.ctx (s.chanNow (fwdChannel x.ctx))).credits ≠ 0 →
    ∃ t, exec (.chaseStamp n) s = .next t ∧ (t.task? n).map (·.state) = some (.forwarded (s.chanNow (fwdChannel x.ctx))) ∧
      (t.task? n).map (·.stamp) = some x.stamp ∧ t.rd F.CHS_LAST_STAMP_STAMP = s.rd F.CHS_LAST_STAMP_STAMP ∧
      t.rd F.CHS_FWD_CNT_COUNT = (s.rd F.CHS_FWD_CNT_COUNT + 1) % F.CHS_FWD_CNT_COUNT.span)
  ∧ (∀ (s : State) (n : Nat) (x : Task), s.task? n = some x → x.state = .fetched → x.cmd.op.isStamped = true → x.cmd.op ≠ .fusedWrite → x.cmd.unsupported = none →
      s.on F.CHS_CTRL_ENABLE = true → s.on F.CHS_CTRL_STAMP_HOLD = true → isInbound x.ctx = false →
    exec (.chaseStamp n) s = .next s)
  ∧ (∀ (s : State) (v : Bool), ∃ t, exec (.stampHoldWrite v) s = .next t ∧ t.rd F.CHS_CTRL_STAMP_HOLD = bit v ∧ OnlyFields s t [F.CHS_CTRL_STAMP_HOLD.key])
  ∧ (∀ (s : State) (n : Nat) (x : Task), s.task? n = some x → x.cmd.op = .flush → x.cmd.nsid = 0xFFFFFFFF → x.state = .fetched → isInbound x.ctx = false →
      x.cmd.unsupported = none → s.on F.CHS_CTRL_ENABLE = true → s.on F.CHS_CTRL_STAMP_HOLD = false → s.earlierWaits n x = false → s.sourceWaits n x = false → s.fm.mode = .solo →
    ∃ t, exec (.nvmeFlush n) s = .next t ∧ (t.task? n).map (·.state) = some .dispatched ∧ (t.task? n).map (·.stamp) = some (s.rd F.CHS_LAST_STAMP_STAMP + 1) ∧ t.rd F.CHS_FWD_CNT_COUNT = s.rd F.CHS_FWD_CNT_COUNT)
  ∧ (∀ (s : State) (n : Nat) (x : Task), RunsHere s n .flush x → x.cmd.nsid ≠ 0xFFFFFFFF → x.waitParts = 0 → s.flushReady x.cmd.nsid x.stamp = true →
    ∃ t, exec (.flushComplete n) s = .next t ∧ Ended t n .success)
  ∧ (∀ (s : State) (n : Nat) (x : Task), s.running n .flush = some x → x.cmd.nsid ≠ 0xFFFFFFFF → s.flushReady x.cmd.nsid x.stamp = false →
    exec (.flushComplete n) s = .next s)

/-- The I/O commands that read, check or compare (R70, R104, R106, R107, R112). -/
def Obligations.ReadsAndCompares : Prop :=
  (∀ (s s1 : State) (n : Nat) (st : Status) (copies : List (Nat × Bytes)) (src : List (Nat × Source)) (x : Task), RunsHere s n .read x → x.sources = [] →
      s.readBlocks copies x.cmd.nsid x.stamp x.cmd.lbaList = (src, s1) → firstFailure src = some st →
    ∃ t, exec (.nvmeRead n copies) s = .next t ∧ Ended t n (.internal st))
  ∧ (∀ (s s1 s2 : State) (n : Nat) (copies : List (Nat × Bytes)) (src : List (Nat × Source)) (bs : List (Bytes × Bytes)) (x : Task), RunsHere s n .read x → x.sources = [] →
      s.readBlocks copies x.cmd.nsid x.stamp x.cmd.lbaList = (src, s1) → firstFailure src = none → s1.mending src = [] → s1.portServes x.ctx false = true → s1.imp.waits = [] →
      s1.blocksBytes x.cmd.nsid x.stamp src = (some bs, s2) →
    ∃ t, exec (.nvmeRead n copies) s = .next t ∧
      match egressFail (s2.volOf x.cmd.nsid) x.cmd.pi 0 bs with
      | some w => Ended t n (.piFail 0x040B w)
      | none => (t.task? n).map (·.sources) = some src ∧ t.outbox = s2.outbox ++ [.readBlocks x.ctx x.cmd.cid 0 (hostBlocks (s2.volOf x.cmd.nsid) x.cmd.pi bs)])
  ∧ (∀ (s : State) (n : Nat) (x : Task), RunsHere s n .read x → x.sources ≠ [] →
    ∃ t, exec (.readDataSent n) s = .next t ∧ Ended t n .success)
  ∧ (∀ (s s1 : State) (n : Nat) (buf : Bytes) (copies : List (Nat × Bytes)) (src : List (Nat × Source)) (r : Result) (x : Task), RunsHere s n .compare x → x.complete = true →
      s.judge copies x (compareBlocks (s.volOf x.cmd.nsid) x) = (some (src, r), s1) →
    ∃ t, exec (.compare n buf copies) s = .next t ∧ Ended t n r)
  ∧ (∀ (s s1 : State) (n w : Nat) (bufC bufW : Bytes) (copies : List (Nat × Bytes)) (src : List (Nat × Source)) (r : Result) (x u : Task), RunsHere s n .fusedCompare x → x.complete = true →
      x.fusedWith = some w → w ≠ n → s.task? w = some u → u.complete = true → u.pieces = [] → isInbound u.ctx = false →
      s.judge copies x (compareBlocks (s.volOf x.cmd.nsid) x) = (some (src, r), s1) → r ≠ .success →
    ∃ t, exec (.compareAndWrite n bufC bufW copies) s = .next t ∧ Ended t w .fusedFailed ∧ Ended t n r)
  ∧ (∀ (s s1 : State) (n w d a k : Nat) (bufC bufW : Bytes) (copies : List (Nat × Bytes)) (src : List (Nat × Source)) (x u : Task), RunsHere s n .fusedCompare x → x.complete = true →
      x.fusedWith = some w → w ≠ n → s.task? w = some u → u.complete = true → u.pieces = [] → u.cmd.ranges = [(a, k)] →
      s.judge copies x (compareBlocks (s.volOf x.cmd.nsid) x) = (some (src, .success), s1) → s1.usedDescs.length < movedDesc → s1.freeDesc = some d →
    ∃ t p, exec (.compareAndWrite n bufC bufW copies) s = .next t ∧ Tab.find t.gly.own d = some p ∧ p.kind = .cawHalf ∧ p.stamp = x.stamp ∧ p.slba = a ∧ p.nlb = k ∧ p.commit = false ∧ p.task = some w)
  ∧ (∀ (s s1 : State) (n : Nat) (copies : List (Nat × Bytes)) (src : List (Nat × Source)) (st : Status) (x : Task), RunsHere s n .verify x →
      s.readBlocks copies x.cmd.nsid x.stamp x.cmd.lbaList = (src, s1) → firstFailure src = some st →
    ∃ t, exec (.verify n copies) s = .next t ∧ Ended t n (.internal st))
  ∧ (∀ (s s1 s2 : State) (n : Nat) (copies : List (Nat × Bytes)) (src : List (Nat × Source)) (bs : List (Bytes × Bytes)) (x : Task), RunsHere s n .verify x →
      s.readBlocks copies x.cmd.nsid x.stamp x.cmd.lbaList = (src, s1) → firstFailure src = none → s1.blocksBytes x.cmd.nsid x.stamp src = (some bs, s2) →
    ∃ t, exec (.verify n copies) s = .next t ∧
      Ended t n (match egressFail (s.volOf x.cmd.nsid) x.cmd.pi 0 bs with | some w => .piFail 0x040B w | none => .success))

/-- The I/O commands that change data, and what publishes them (R104, R105, R110, R113): a range inside one atomic unit becomes one unpublished piece of the command's stamp. -/
def Obligations.WritesBecomePieces : Prop :=
  (∀ (s : State) (n d a k : Nat) (x : Task), RunsHere s n .write x → x.pieces = [] → x.cmd.ranges = [(a, k)] → 0 < k → a % s.unitBlocks x.cmd.nsid + k ≤ s.unitBlocks x.cmd.nsid → s.usedDescs.length < movedDesc → s.freeDesc = some d →
    ∃ t p, exec (.nvmeWrite n) s = .next t ∧ Tab.find t.gly.own d = some p ∧ p.kind = .write ∧ p.stamp = x.stamp ∧ p.nsid = x.cmd.nsid ∧ p.slba = a ∧ p.nlb = k ∧ p.commit = false ∧ (t.task? n).map (·.pieces) = some [d])
  ∧ (∀ (s : State) (n d a k : Nat) (x : Task), RunsHere s n .writeZeroes x → x.pieces = [] → x.cmd.ranges = [(a, k)] → 0 < k → a % s.unitBlocks x.cmd.nsid + k ≤ s.unitBlocks x.cmd.nsid → s.usedDescs.length < movedDesc → s.freeDesc = some d →
    ∃ t p, exec (.writeZeroes n) s = .next t ∧ Tab.find t.gly.own d = some p ∧ p.kind = .zeroes ∧ p.slotCnt = 0 ∧ p.tag = x.cmd.pi.appTag ∧ p.stamp = x.stamp ∧ p.slba = a ∧ p.nlb = k ∧ p.commit = false)
  ∧ (∀ (s : State) (n d a k : Nat) (x : Task), RunsHere s n .deallocate x → x.pieces = [] → x.cmd.ranges = [(a, k)] → 0 < k → a % s.unitBlocks x.cmd.nsid + k ≤ s.unitBlocks x.cmd.nsid → s.usedDescs.length < movedDesc → s.freeDesc = some d →
    ∃ t p, exec (.deallocate n) s = .next t ∧ Tab.find t.gly.own d = some p ∧ p.kind = .deallocate ∧ p.slotCnt = 0 ∧ p.stamp = x.stamp ∧ p.slba = a ∧ p.nlb = k ∧ p.commit = false)
  ∧ (∀ (s : State) (n : Nat) (x : Task), s.task? n = some x → x.cmd.op = .deallocate → x.state = .fetched → isInbound x.ctx = false → 256 < x.cmd.ranges.length →
    ∃ t, exec (.deallocate n) s = .next t ∧ Ended t n .invalidField)
  ∧ (∀ (s : State) (d n : Nat) (p : Piece) (x : Task), s.pubHeld = false → Tab.find s.gly.own d = some p → p.repl = none → p.task = some n → s.task? n = some x → x.state = .dispatched → x.complete = true →
      x.pieces = [d] → s.mayPublish [d] = true → isInbound x.ctx = false → x.fusedWith = none → x.token = none → s.ste.sessions = [] →
    ∃ t, exec (.piecePublish d) s = .next t ∧ Ended t n .success ∧ Tab.find t.gly.own d = some { p with commit := true })
  ∧ (∀ (s : State) (d : Nat) (p : Piece), Tab.find s.gly.own d = some p → p.dataIn = true →
    exec (.localDramWriteComplete d) s = .next (s.setPiece d { p with localDone := true }))
  ∧ (∀ (s : State) (d : Nat) (p : Piece), Tab.find s.gly.own d = some p → p.applied = true → p.journalled = true → s.pieceOwed d = false → s.isRepeated p = false → s.mirrors = false →
    ∃ t, exec (.pieceRelease d) s = .next t ∧ Tab.find t.gly.own d = none ∧ t = { s with gly := { s.gly with own := t.gly.own, waiting := t.gly.waiting } })
  ∧ (∀ (s : State) (d : Nat) (p : Piece) (module2 : Bool), Tab.find s.gly.own d = some p → p.dataIn = true → s.ackWhere = .flash → p.inLog = true →
    exec (.galleyLogConfirm d module2) s = .next (s.setPiece d { p with logged := setBits p.logged (bit module2) (bit module2) 1 }))
  ∧ (∀ (s s1 : State) (d : Nat) (p : Piece) (module2 : Bool), Tab.find s.gly.own d = some p → p.dataIn = true → p.commit = false → s.ackWhere = .flash → p.inLog = false → s.logWrite (p.desc ++ p.data) = some s1 →
    exec (.galleyLogConfirm d module2) s = .next (s1.setPiece d { p with inLog := true }))

/-- How a piece gets its data and its slots, and how it is applied to the map (R107, R121, R123, R124, R289). -/
def Obligations.PiecesLandAndApply : Prop :=
  (∀ (s : State) (d n : Nat) (p : Piece) (x : Task), Tab.find s.gly.own d = some p → p.dataIn = false → p.repl = none → p.task = some n → s.task? n = some x → p.kind = .zeroes →
      s.mirrors = false → s.gly.repeats = [] →
    ∃ t q, exec (.pieceDataLand d []) s = .next t ∧ Tab.find t.gly.own d = some q ∧ q.dataIn = true ∧ q.data = [] ∧ q.arrival = s.now ∧ q.zeroGrains = p.wholeGrains)
  ∧ (∀ (s : State) (d n slot a k : Nat) (p : Piece) (x : Task), Tab.find s.gly.own d = some p → p.dataIn = false → p.repl = none → p.task = some n → s.task? n = some x → p.kind = .write → p.slotCnt ≠ 0 →
      x.complete = true → x.cmd.ranges = [(a, k)] → s.gly.waiting = [] → firstFit s.slotCap p.slotCnt 0 s.runs = some slot → s.mirrors = false → s.gly.repeats = [] →
    ∃ t q, exec (.pieceDataLand d []) s = .next t ∧ Tab.find t.gly.own d = some q ∧ q.dataIn = true ∧ q.slot = slot ∧ q.arrival = s.now ∧
      q.data = slotImage (s.pieceVol p) x.cmd.pi x.data x.cmd.metaBuf (p.slba - a) p.nlb ∧ q.digest = crc64 q.data)
  ∧ (∀ (s : State) (d n : Nat) (p : Piece) (x : Task), Tab.find s.gly.own d = some p → p.dataIn = false → p.repl = none → p.task = some n → s.task? n = some x → p.kind = .write → p.slotCnt ≠ 0 →
      x.complete = true → s.gly.waiting = [] → firstFit s.slotCap p.slotCnt 0 s.runs = none →
    exec (.pieceDataLand d []) s = .next { s with gly := { s.gly with waiting := [d] } })
  ∧ (∀ (s : State) (d n slot : Nat) (rest : List Nat) (p : Piece) (x : Task), s.gly.waiting = d :: rest → Tab.find s.gly.own d = some p → p.dataIn = false → p.repl = none → p.task = some n → s.task? n = some x →
      p.kind = .write → p.slotCnt ≠ 0 → x.complete = true → firstFit s.slotCap p.slotCnt 0 s.runs = some slot → s.mirrors = false → s.gly.repeats = [] →
    ∃ t q, exec .galleyRunAvailable s = .next t ∧ Tab.find t.gly.own d = some q ∧ q.dataIn = true ∧ q.slot = slot ∧ d ∉ t.gly.waiting)
  ∧ (∀ (s : State) (d : Nat) (p : Piece), Tab.find s.gly.own d = some p → p.commit = true → p.dataIn = true → p.applied = false → p.applying = false → p.isForeign = true → p.kind = .deallocate →
      p.zeroGrains = p.allGrains → p.allGrains ≠ [] → p.verify = [] → p.listFp = [] → p.digestOk = true → s.hth.journal.waiting = [] → s.journalFull = false → s.mayApply d p = true → s.copiedPages p = [] →
    ∃ t b, exec (.pieceApply d) s = .next t ∧ t.hth.journal.waiting = [b] ∧ b.after = [.applied d] ∧ b.recs = extentRecs (s.pieceVolNum p) (s.newCells p) ∧
      (Tab.find t.gly.own d).map (·.applied) = some false)
  ∧ (∀ (s : State) (d : Nat) (p : Piece), Tab.find s.gly.own d = some p → s.mayApply d p = false → exec (.pieceApply d) s = .next s)
  ∧ (∀ (s : State) (d : Nat) (p : Piece) (read copy : Bytes), Tab.find s.gly.own d = some p → p.dataIn = true → s.changesMap d p = false → crc64 read ≠ p.digest → p.grains = [] →
      s.fm.mode ≠ .solo → crc64 copy = p.digest →
    ∃ t, exec (.refineDigestMismatch d read copy) s = .next t ∧ Tab.find t.gly.own d = some { p with data := copy, grains := [], verify := [] } ∧ t.lost = s.lost)
  ∧ (∀ (s : State) (d : Nat) (p : Piece) (read copy : Bytes), Tab.find s.gly.own d = some p → p.dataIn = true → s.changesMap d p = false → crc64 read ≠ p.digest → p.grains = [] → p.kind = .write →
      (s.fm.mode = .solo ∨ crc64 copy ≠ p.digest) →
    ∃ t e, exec (.refineDigestMismatch d read copy) s = .next t ∧ Tab.find t.gly.own d = none ∧ e ∈ t.lost ∧ e.nsid = p.nsid ∧ e.slba = p.slba ∧ e.nlb = p.nlb ∧ e.cause = 4)
  ∧ (∀ (s : State) (d : Nat) (p : Piece) (read copy : Bytes), Tab.find s.gly.own d = some p → crc64 read = p.digest → exec (.refineDigestMismatch d read copy) s = .next s)

/-- The energy cover of the galley, the status exchange and the vault between dumps (R127, R128, R131, R133, R134, R145). -/
def Obligations.GalleyUpkeep : Prop :=
  (∀ s : State, Talks s →
    exec .statusSendTimer s = .next { s with outbox := s.outbox ++ [.anv .status pairChan [s.fm.mode.code, bit (s.on F.ANV_PAIR_PARKED) + 2 * bit (s.on F.GLY_VAULT_UNUSABLE), s.energy, joulesUp s.eReq, joulesUp s.eCov, s.now] []] })
  ∧ (∀ s : State, s.gly.peer.seen = true → s.gly.lastStatus + 3000000000 ≤ s.now →
    ∃ t, exec .partnerStatusTimeout s = .next t ∧ t.gly.peer = { s.gly.peer with e := 0, seen := false })
  ∧ (∀ (s : State) (c : UnprotCause) (t0 : Nat), s.galleyEval.gly.unprot = some c → s.galleyEval.gly.calmSince = some t0 → (s.gly.unprotAtForming = true ∨ t0 + 60000000000 ≤ s.now) → s.serving = true →
      s.on F.GLY_CTRL_FORCE_UNPROT = false →
    ∃ t, exec .unprotModeExit s = .next t ∧ t.gly.unprot = none ∧ t.rd F.GLY_STATUS_UNPROT = 0)
  ∧ (∀ (s : State) (v : Bool), ∃ t, exec (.forceUnprotWrite v) s = .next t ∧ t.rd F.GLY_CTRL_FORCE_UNPROT = bit v ∧ (v = true → t.on F.GLY_STATUS_UNPROT = true))
  ∧ (∀ (s : State) (e st : Nat), s.bellowsOn = true → s.now < s.gly.lastAnswer + 3000000000 → s.gly.pecFails + 1 < 3 →
    exec (.bellowsPoll e st false) s = .next { s with outbox := s.outbox ++ [.bellows 0x5A 0x10 0, .bellows 0x5A 0x11 0], gly := { s.gly with pecFails := s.gly.pecFails + 1, good := 0, lastAnswer := s.now } })
  ∧ (∀ (s : State) (e st : Nat), s.bellowsOn = true → s.now < s.gly.lastAnswer + 3000000000 → 2 ≤ s.gly.pecFails → s.on F.GLY_BELLOWS_STALE = false →
    ∃ t, exec (.bellowsPoll e st false) s = .next t ∧ t.rd F.GLY_BELLOWS_STALE = 1 ∧ t.energy = 0 ∧ t.rd F.GLY_INT_STATUS_BELLOWS = 1)
  ∧ (∀ (s : State) (e st : Nat), s.bellowsOn = true → s.now < s.gly.lastAnswer + 3000000000 → bitOf st 1 = false → s.on F.GLY_BELLOWS_STALE = false → s.gly.loadCap = none →
    ∃ t, exec (.bellowsPoll e st true) s = .next t ∧ t.rd F.GLY_BELLOWS_ENERGY = e % F.GLY_BELLOWS_ENERGY.span ∧ t.rd F.GLY_BELLOWS_STATUS = st % F.GLY_BELLOWS_STATUS.span ∧
      t.gly.pecFails = 0 ∧ t.gly.lastAnswer = s.now)
  ∧ (∀ (s : State), s.bellowsOn = true → s.gly.lastAnswer + 3000000000 ≤ s.now → s.on F.GLY_BELLOWS_STALE = false →
    ∃ t, exec .bellowsTimeout s = .next t ∧ t.rd F.GLY_BELLOWS_STALE = 1 ∧ t.energy = 0 ∧ t.rd F.GLY_INT_STATUS_BELLOWS = 1)
  ∧ (∀ (s : State) (b : Bool), (s.dumpSet b).released = true →
    ∃ t, exec (.vaultSetErase b) s = .next t ∧ t.dumpSet b = { released := true, erased := true, seq := (s.dumpSet b).seq } ∧ t.dumpSet (!b) = s.dumpSet (!b))
  ∧ (∀ (s : State) (b : Bool), (s.dumpSet b).released = false → exec (.vaultSetErase b) s = .next s)
  ∧ (∀ s : State, exec .vaultRestripeDone s = .next { s with gly := { s.gly with restripe := false } })
  ∧ (∀ (s : State) (b : Bool), (s.dumpSet b).released = false → (s.dumpSet b).written = true → s.gly.restored = some b → s.gly.unneeded = false → s.restoredSafe b = true → s.gly.ckptSince = true →
    ∃ t, exec (.dumpSetRelease b) s = .next t ∧ t.dumpSet b = { s.dumpSet b with released := true } ∧ t.gly.restored = none)
  ∧ (∀ (s : State) (b : Bool), s.gly.restored = some b → s.gly.unneeded = false → s.restoredSafe b = false → exec (.dumpSetRelease b) s = .next s)

/-- Grain jobs and the register streams of Proof (R148, R158, R161, R163, R164): placement, the six operations on a register stream and the known-answer test. -/
def Obligations.JobsAndProofUnits : Prop :=
  (∀ (s : State) (job line mask d g c : Nat) (l : RunLine), Tab.find s.prf.jobs job = none → s.line line = some l → l.kind ≠ 4 → l.kind ≠ 6 → l.draining = false →
      s.leastLoaded (l.clusters (l.jobStages mask)) = some c →
    ∃ t j, exec (.grainJobPlace job line mask d g) s = .next t ∧ Tab.find t.prf.jobs job = some j ∧ j.line = line ∧ j.cluster = c ∧ j.left = l.jobStages mask ∧ j.piece = d ∧ j.grain = g ∧
      Tab.find t.prf.held job = none)
  ∧ (∀ (s : State) (job line mask d g : Nat) (j : GrainJob) (l : RunLine) (c : Chan) (a b : Station) (rest : List Station), Tab.find s.prf.jobs job = some j → s.line j.line = some l → j.lane = some c →
      j.left = a :: b :: rest →
    ∃ t j', exec (.grainJobPlace job line mask d g) s = .next t ∧ Tab.find t.prf.jobs job = some j' ∧ j'.left = b :: rest ∧ j'.line = j.line ∧ j'.cluster = j.cluster)
  ∧ (∀ (s : State) (job line mask d g : Nat) (j : GrainJob) (l : RunLine) (c : Chan) (a : Station), Tab.find s.prf.jobs job = some j → s.line j.line = some l → j.lane = some c → j.left = [a] →
      2 ≤ l.kind →
    ∃ t, exec (.grainJobPlace job line mask d g) s = .next t ∧ Tab.find t.prf.jobs job = none)
  ∧ (∀ (s : State) (job line mask d g : Nat) (l : RunLine), Tab.find s.prf.jobs job = none → s.line line = some l → l.kind ≠ 4 → l.kind ≠ 6 → l.draining = true →
    exec (.grainJobPlace job line mask d g) s = .next { s with prf := { s.prf with held := Tab.put s.prf.held job line } })
  ∧ (∀ (s : State) (job line mask d g : Nat) (l : RunLine), Tab.find s.prf.jobs job = none → s.line line = some l → l.kind ≠ 4 → l.kind ≠ 6 → l.draining = false →
      l.clusters (l.jobStages mask) = [] →
    ∃ t, exec (.grainJobPlace job line mask d g) s = .next t ∧ Tab.find t.prf.jobs job = none ∧ Tab.find t.prf.held job = some line ∧ t.rd F.FOR_INT_STATUS_ALARM % 2 = 1)
  ∧ (∀ (s : State) (check : Nat) (c : Check), checkOf (check % 4) = some c → s.prf.regOpen = none → s.prf.regPending = none → s.isOut Kind.proof (s.rd F.PRF_UNIT_SEL_UNIT) = false →
      (s.proofUnit (s.rd F.PRF_UNIT_SEL_UNIT)).station = none →
    ∃ t, exec (.prfOpen check) s = .next t ∧ t.prf.regOpen = some ⟨s.rd F.PRF_UNIT_SEL_UNIT, c, []⟩ ∧ t.rd F.PRF_RSTREAM_OPENED = 1 ∧ t.rd F.PRF_RRESULT_RESULT = 0)
  ∧ (∀ (s : State) (check : Nat) (c : Check) (x : Stream), checkOf (check % 4) = some c → s.prf.regOpen = none → s.prf.regPending = none → s.isOut Kind.proof (s.rd F.PRF_UNIT_SEL_UNIT) = false →
      (s.proofUnit (s.rd F.PRF_UNIT_SEL_UNIT)).station = some x →
    ∃ t, exec (.prfOpen check) s = .next t ∧ t.prf.regOpen = none ∧ t.prf.regPending = some ⟨s.rd F.PRF_UNIT_SEL_UNIT, c, []⟩ ∧ t.rd F.PRF_RSTREAM_PENDING = 1)
  ∧ (∀ (s : State) (check : Nat), check % 4 = 3 → ∃ t, exec (.prfOpen check) s = .next t ∧ t.prf = s.prf ∧ t.on F.PRF_RSTREAM_ERR = true)
  ∧ (∀ (s : State) (r : RegStream), s.prf.regOpen = some r →
    ∃ t, exec .prfClose s = .next t ∧ t.prf.regOpen = none ∧ t.rd F.PRF_RSTREAM_OPENED = 0 ∧ t.rd F.PRF_RRESULT_RESULT = checkValue r.check r.fed % F.PRF_RRESULT_RESULT.span)
  ∧ (∀ (s : State) (r : RegStream), s.prf.regOpen = none → s.prf.regPending = some r → ∃ t, exec .prfClose s = .next t ∧ t.prf.regPending = none ∧ t.rd F.PRF_RSTREAM_PENDING = 0)
  ∧ (∀ s : State, s.prf.regOpen = none → s.prf.regPending = none → ∃ t, exec .prfClose s = .next t ∧ t.prf = s.prf ∧ t.on F.PRF_RSTREAM_ERR = true)
  ∧ (∀ (s : State) (check : Nat) (c : Check) (r : RegStream), checkOf (check % 4) = some c → s.prf.regOpen = some r → s.prf.regPending = none → s.isOut Kind.proof (s.rd F.PRF_UNIT_SEL_UNIT) = false →
      (s.proofUnit (s.rd F.PRF_UNIT_SEL_UNIT)).station = none →
    ∃ t, exec (.prfCloseOpen check) s = .next t ∧ t.prf.regOpen = some ⟨s.rd F.PRF_UNIT_SEL_UNIT, c, []⟩ ∧ t.rd F.PRF_RSTREAM_OPENED = 1)
  ∧ (∀ (s : State) (r : RegStream), s.prf.regPending = some r →
    ∃ t, exec (.prfPendingOpen r.unitNo) s = .next t ∧ t.prf.regOpen = some r ∧ t.prf.regPending = none ∧ (t.proofUnit r.unitNo).station = none ∧ t.rd F.PRF_RSTREAM_OPENED = 1 ∧ t.rd F.PRF_RSTREAM_PENDING = 0)
  ∧ (∀ (s : State) (width value : Nat) (r : RegStream), width = 1 ∨ width = 2 ∨ width = 4 → s.prf.regOpen = some r →
    exec (.prfRdataWrite width value) s = .next { s with prf := { s.prf with regOpen := some { r with fed := r.fed ++ leBytes value width } } })
  ∧ (∀ (s : State) (width value : Nat), width ≠ 1 → width ≠ 2 → width ≠ 4 →
    ∃ t, exec (.prfRdataWrite width value) s = .next t ∧ t.prf = s.prf ∧ t.on F.PRF_RSTREAM_ERR = true ∧ t.rd F.FOR_ACC_ERR_KIND = 2)
  ∧ (∀ s : State, s.isOut Kind.proof (s.rd F.PRF_UNIT_SEL_UNIT) = false → ∃ t, exec (.prfKatStart false) s = .next t ∧ t.on F.PRF_INT_STATUS_KAT_FAIL = true)
  ∧ (∀ s : State, exec (.prfKatStart true) s = .next s)

/-- Punch (R169 to R180): what a submitted descriptor comes to, how jobs are preempted and resume, and how they end. -/
def Obligations.PunchJobs : Prop :=
  (∀ (s : State) (c : Nat) (desc seg ref : Bytes) (pr : List (Nat × Nat)) (bad : List Nat) (j : PunchJob), punchJob desc seg ref = j → s.punchInvalid c desc j = true →
    ∃ t, exec (.punchJobSubmit c desc seg ref pr bad) s = .next t ∧ t.pun.running = s.pun.running ∧ t.pun.queued = s.pun.queued ∧ t.on F.PUN_INT_STATUS_DESC_INVALID = true ∧
      t.pun.results = s.pun.results ++ [{ tag := j.tag, status := 0x0407, digest := none, equal := false, bytes := s.punchCount c j, slot := j.slot, desc := punchBack desc 0x0407 false (s.punchCount c j) none, dst := j.dst }])
  ∧ (∀ (s : State) (c k : Nat) (desc seg ref : Bytes) (pr : List (Nat × Nat)) (bad : List Nat) (j : PunchJob) (h : HashState), punchJob desc seg ref = j → s.punchInvalid c desc j = false →
      s.on F.PUN_CTRL_ENABLE = true → s.pun.queued = [] → s.pun.aside = [] → s.punchReady c j = true → (s.freeCores c j.line).head? = some k → s.punchBegin c k j bad = .ok h →
    ∃ t, exec (.punchJobSubmit c desc seg ref pr bad) s = .next t ∧ Tab.find t.pun.running k = some { j with st := some h } ∧ t.pun.queued = [])
  ∧ (∀ (s : State) (c v k : Nat) (x : PunchJob) (desc seg ref : Bytes) (pr : List (Nat × Nat)) (bad : List Nat) (j : PunchJob), punchJob desc seg ref = j → s.punchInvalid c desc j = false →
      s.on F.PUN_CTRL_ENABLE = true → s.pun.queued = [] → s.pun.aside = [] → j.isFirst = true → j.keyed = 0 → s.punchReady c j = true → s.freeCores c j.line = [] → s.victim c j.line j.cls pr = some v →
      Tab.find s.pun.running v = some x → x.second = none → s.laneOff Kind.punch v = false → s.rsvHeld (v / 6) < 32 → s.slotFree (v / 6) = some k →
    ∃ t y, exec (.punchJobSubmit c desc seg ref pr bad) s = .next t ∧ (v / 6, y) ∈ t.pun.aside ∧ y.tag = x.tag ∧ y.preempted = x.preempted + 1 ∧ y.second = some k ∧
      (Tab.find t.pun.slots k).any (·.preempted) = true ∧ (Tab.find t.pun.running v).map (·.tag) = some j.tag ∧
      t.rd F.PUN_PREEMPT_CNT_DONE = (s.rd F.PUN_PREEMPT_CNT_DONE + 1) % F.PUN_PREEMPT_CNT_DONE.span)
  ∧ (∀ (s : State) (k : Nat) (pr : List (Nat × Nat)) (bad : List Nat) (j : PunchJob) (h : HashState), Tab.find s.pun.running k = some j → j.st = some h → j.isLast = true → s.pun.queued = [] →
    let e := hashAbsorb j.alg j.keyed h (slice j.seg j.taken (j.segLen - j.taken))
    let d := hashFinish j.alg j.keyed e
    ∃ t r, exec (.punchJobEnd k pr bad) s = .next t ∧ Tab.find t.pun.running k = none ∧ t.rd F.PUN_JOB_CNT_COUNT = (s.rd F.PUN_JOB_CNT_COUNT + 1) % F.PUN_JOB_CNT_COUNT.span ∧
      t.pun.results = s.pun.results ++ [r] ∧ r.tag = j.tag ∧ r.status = 0 ∧ r.digest = (if j.cmpOnly then none else some d) ∧ r.equal = (j.cmp && d == j.reference.take (hashLen j.alg)) ∧ r.bytes = e.count)
  ∧ (∀ (s : State) (k : Nat) (key : Bytes) (pr : List (Nat × Nat)) (bad : List Nat) (j : PunchJob), Tab.find s.pun.running k = some j → j.st = some (hashStart j.alg j.keyed key) → j.taken = 0 → j.isLast = true →
      j.cmpOnly = false → s.pun.queued = [] →
    ∃ t r, exec (.punchJobEnd k pr bad) s = .next t ∧ t.pun.results = s.pun.results ++ [r] ∧ r.digest = some (digestOf j.alg j.keyed key (slice j.seg 0 j.segLen)))
  ∧ (∀ (s : State) (k x : Nat) (pr : List (Nat × Nat)) (bad : List Nat) (j : PunchJob) (h : HashState), Tab.find s.pun.running k = some j → j.st = some h → j.isLast = false → j.isFirst = true → j.second = none →
      s.pun.queued = [] → s.slotFree (k / 6) = some x →
    ∃ t v, exec (.punchJobEnd k pr bad) s = .next t ∧ Tab.find t.pun.slots x = some v ∧ v.hs = hashAbsorb j.alg j.keyed h (slice j.seg j.taken (j.segLen - j.taken)) ∧ v.line = j.line ∧ v.tag = j.tag ∧
      v.preempted = false ∧ v.crc = v.crcOver)
  ∧ (∀ (s : State) (c line k m : Nat) (pr : List (Nat × Nat)) (bad : List Nat) (j : PunchJob) (v : SaveSlot), s.on F.PUN_CTRL_ENABLE = true → s.asideNext c line = some j → (s.freeCores c line).head? = some k →
      s.pun.queued = [] → j.second = some m → Tab.find s.pun.slots m = some v → v.crc = v.crcOver → m ∉ bad →
    ∃ t, exec (.punchResume c line pr bad) s = .next t ∧ Tab.find t.pun.running k = some { j with st := some v.hs } ∧ t.pun.aside = s.pun.aside.erase (c, j))
  ∧ (∀ (s : State) (c line k m : Nat) (pr : List (Nat × Nat)) (bad : List Nat) (j : PunchJob), s.on F.PUN_CTRL_ENABLE = true → s.asideNext c line = some j → (s.freeCores c line).head? = some k →
      s.pun.queued = [] → j.second = some m → m ∈ bad →
    ∃ t r, exec (.punchResume c line pr bad) s = .next t ∧ t.pun.results = s.pun.results ++ [r] ∧ r.tag = j.tag ∧ r.status = 0x0405 ∧ t.on F.PUN_INT_STATUS_CTX_LOST = true)
  ∧ (∀ (s : State) (k : Nat) (j : PunchJob), k < 48 → s.isOut Kind.punch k = false → Tab.find s.pun.running k = some j → j.second ≠ none → s.pun.queued = [] →
    ∃ t r, exec (.punchParityError k) s = .next t ∧ t.flt.reported = s.flt.reported ++ [r] ∧ r.chan = ⟨Kind.punch, k⟩ ∧ r.status = 0 ∧ Tab.find t.pun.running k = none ∧ t.pun.aside = s.pun.aside ++ [(k / 6, j)] ∧
      t.on F.PUN_INT_STATUS_CORE_FAULT = true)
  ∧ (∀ s : State, s.rd F.PUN_CORE_SEL_CORE < 48 → s.isOut Kind.punch (s.rd F.PUN_CORE_SEL_CORE) = false →
    ∃ t, exec (.punchKatStart false) s = .next t ∧ KatFailed s t F.PUN_INT_STATUS_KAT_FAIL Kind.punch (s.rd F.PUN_CORE_SEL_CORE))

/-- Swage (R214 to R224): each of the four operations is refused with 0x0B04 or queued and started on a lane, and a job ends by its operation. -/
def Obligations.SwageJobs : Prop :=
  (∀ (s : State) (c : Nat) (desc src : Bytes) (j : SwageJob), swageJob desc src = j → j.op = 0 → s.swageInvalid c desc j = true →
    ∃ t, exec (.swageGrainCompress c desc src) s = .next t ∧ t.swg = { s.swg with results := s.swg.results ++ [{ tag := j.tag, status := 0x0B04, out := [], dst := j.dst, desc := descBack desc 0x0B04 0 }] } ∧
      t.rd F.SWG_FAIL_CNT_DESC_INVALID = (s.rd F.SWG_FAIL_CNT_DESC_INVALID + 1) % F.SWG_FAIL_CNT_DESC_INVALID.span)
  ∧ (∀ (s : State) (c n : Nat) (desc src : Bytes) (j : SwageJob), swageJob desc src = j → j.op = 0 → s.swageInvalid c desc j = false → s.swg.queued = [] → s.swageLane c j = some n →
    exec (.swageGrainCompress c desc src) s = .next { s with swg := { s.swg with running := Tab.put s.swg.running n j } })
  ∧ (∀ (s : State) (c n : Nat) (desc src : Bytes) (j : SwageJob), swageJob desc src = j → j.op = 1 → s.swageInvalid c desc j = false → s.swg.queued = [] → s.swageLane c j = some n →
    exec (.swageGrainExpand c desc src) s = .next { s with swg := { s.swg with running := Tab.put s.swg.running n j } })
  ∧ (∀ (s : State) (c n : Nat) (desc src : Bytes) (j : SwageJob), swageJob desc src = j → j.op = 2 → s.swageInvalid c desc j = false → s.swg.queued = [] → s.ctxBusy (c, j) = false → s.swageLane c j = some n →
    exec (.swageStreamCompress c desc src) s = .next { s with swg := { s.swg with running := Tab.put s.swg.running n j } })
  ∧ (∀ (s : State) (c n : Nat) (desc src : Bytes) (j : SwageJob), swageJob desc src = j → j.op = 3 → s.swageInvalid c desc j = false → s.swg.queued = [] → s.ctxBusy (c, j) = false → s.swageLane c j = some n →
    exec (.swageStreamExpand c desc src) s = .next { s with swg := { s.swg with running := Tab.put s.swg.running n j } })
  ∧ (∀ (s : State) (n : Nat) (sortOk : Bool) (j : SwageJob), Tab.find s.swg.running n = some j → j.op = 0 → s.dumping = false → s.swg.queued = [] →
    ∃ t r, exec (.swageJobEnd n true sortOk) s = .next t ∧ Tab.find t.swg.running n = none ∧ t.swg.results = s.swg.results ++ [r] ∧ r.tag = j.tag ∧ r.status = (swCompress j).1 ∧
      r.out = if (swCompress j).1 = 0 then (swCompress j).2.1 else [])
  ∧ (∀ (s : State) (n : Nat) (checkOk : Bool) (j : SwageJob), Tab.find s.swg.running n = some j → j.op = 1 → j.former = none → s.dumping = false → s.swg.queued = [] →
    ∃ t r, exec (.swageJobEnd n checkOk false) s = .next t ∧ Tab.find t.swg.running n = none ∧ t.swg.results = s.swg.results ++ [r] ∧ r.tag = j.tag ∧ r.status = (swExpand j).1 ∧
      r.out = if (swExpand j).1 = 0 then (swExpand j).2 else [])
  ∧ (∀ (s : State) (n : Nat) (checkOk : Bool) (j : SwageJob), Tab.find s.swg.running n = some j → j.op = 1 → j.former = none → s.lineKind j.line = some 2 → (swExpand j).1 = 0x0B03 → s.dumping = false →
    ∃ t, exec (.swageJobEnd n checkOk true) s = .next t ∧ t.swg.results = s.swg.results)
  ∧ (∀ (s : State) (n : Nat) (checkOk sortOk : Bool) (j : SwageJob), Tab.find s.swg.running n = some j → s.dumping = true →
    exec (.swageJobEnd n checkOk sortOk) s = .next { s with swg := { s.swg with running := Tab.erase s.swg.running n } })
  ∧ (∀ (s : State) (n : Nat) (sortOk : Bool) (j : SwageJob), Tab.find s.swg.running n = some j → j.op % 2 = 0 → s.dumping = false →
    ∃ t r, exec (.swageJobEnd n false sortOk) s = .next t ∧ t.swg.results = s.swg.results ∧ t.flt.reported = s.flt.reported ++ [r] ∧ r.chan = ⟨Kind.swage, n⟩ ∧ t.on F.SWG_INT_STATUS_VERIFY_FAIL = true)
  ∧ (∀ s : State, s.rd F.SWG_LANE_SEL_LANE < 120 → s.isOut Kind.swage (s.rd F.SWG_LANE_SEL_LANE) = false →
    ∃ t, exec (.swageKatStart false) s = .next t ∧ KatFailed s t F.SWG_INT_STATUS_KAT_FAIL Kind.swage (s.rd F.SWG_LANE_SEL_LANE))

/-- The queries between heads (R188, R190, R194, R196, R198, R201): what each operation of Table 9.6 does at the head that holds the half. -/
def Obligations.MatrixQueries : Prop :=
  (∀ (s : State) (chan : Nat) (req : Bytes), Asks s req 1 (fpHalf (mtxReq req).fp) →
    ∃ res g t, (Unheard s 0x40).lookup (mtxReq req).fp (mtxReq req).realm (mtxReq req).alg s.peer 0 = (res, g, t) ∧
      exec (.mtxLookup chan req) s = .next (t.mtxAnswer chan (mtxReq req).tag g res (if res = .found ∨ res = .adopt then 0 else t.hth.journal.seq)))
  ∧ (∀ (s : State) (chan : Nat) (req : Bytes), Asks s req 2 (gidHalf (mtxReq req).gid) → s.awaits (mtxReq req).gid s.peer = true →
    ∃ t st, exec (.mtxPlace chan req) s = .next t ∧ (t.grainAt (mtxReq req).gid).placer = none ∧
      BatchWaits t [.place (mtxReq req).gid (mtxReq req).addr (mtxReq req).units st (s.grainAt (mtxReq req).gid).fpalg (s.grainAt (mtxReq req).gid).noindex] [.answer chan (mtxReq req).tag (mtxReq req).gid 5] ∧
      (st = .live ∨ st = .deferred))
  ∧ (∀ (s : State) (chan : Nat) (req : Bytes), Asks s req 2 (gidHalf (mtxReq req).gid) → s.awaits (mtxReq req).gid s.peer = false →
    exec (.mtxPlace chan req) s = .next ((Unheard s 0x40).mtxAnswer chan (mtxReq req).tag (mtxReq req).gid .stale))
  ∧ (∀ (s : State) (chan : Nat) (req : Bytes) (e : Grain), Asks s req 3 (gidHalf (mtxReq req).gid) → s.grain? (mtxReq req).gid = some e → (mtxReq req).w3 < 2 ^ 31 → 0 < (mtxReq req).w3 →
    ∃ t, exec (.mtxRef chan req) s = .next t ∧ BatchWaits t (s.refRecs (mtxReq req).gid (mtxReq req).w3) [.answer chan (mtxReq req).tag (mtxReq req).gid 5])
  ∧ (∀ (s : State) (chan : Nat) (req : Bytes), Asks s req 3 (gidHalf (mtxReq req).gid) → s.grain? (mtxReq req).gid = none →
    exec (.mtxRef chan req) s = .next ((Unheard s 0x40).mtxAnswer chan (mtxReq req).tag (mtxReq req).gid .stale))
  ∧ (∀ (s : State) (chan : Nat) (req : Bytes) (e : Grain) (p : Nat × Nat), Asks s req 4 (gidHalf (mtxReq req).gid) → s.grain? (mtxReq req).gid = some e → e.count ≠ 0 → e.pins.find? (fun x => x.1 == s.peer) = some p →
    ∃ t, exec (.mtxUnpin chan req) s = .next t ∧ (t.grainAt (mtxReq req).gid).pins = e.pins.erase p ∧ (t.grainAt (mtxReq req).gid).count = e.count)
  ∧ (∀ (s : State) (chan : Nat) (req : Bytes), Asks s req 5 (gidHalf (mtxReq req).gid) → s.holdsAddr (mtxReq req).gid (mtxReq req).w3 = true → (mtxReq req).units ≠ 0 →
    ∃ t, exec (.mtxMove chan req) s = .next t ∧ BatchWaits t [.move (mtxReq req).gid (mtxReq req).w3 (mtxReq req).addr (mtxReq req).units] [.answer chan (mtxReq req).tag (mtxReq req).gid 5])
  ∧ (∀ (s : State) (chan : Nat) (req : Bytes), Asks s req 5 (gidHalf (mtxReq req).gid) → s.holdsAddr (mtxReq req).gid (mtxReq req).w3 = false →
    exec (.mtxMove chan req) s = .next ((Unheard s 0x40).mtxAnswer chan (mtxReq req).tag (mtxReq req).gid .stale))
  ∧ (∀ (s : State) (chan : Nat) (req fp : Bytes), Asks s req 6 (gidHalf (mtxReq req).gid) → (s.grain? (mtxReq req).gid).bind (·.fp) = some fp →
    exec (.mtxFetchFp chan req) s = .next ((Unheard s 0x40).mtxAnswer chan (mtxReq req).tag (mtxReq req).gid .done 0 fp))
  ∧ (∀ (s : State) (chan : Nat) (req : Bytes), Asks s req 6 (gidHalf (mtxReq req).gid) → (s.grain? (mtxReq req).gid).bind (·.fp) = none →
    exec (.mtxFetchFp chan req) s = .next ((Unheard s 0x40).mtxAnswer chan (mtxReq req).tag (mtxReq req).gid .nofp))
  ∧ (∀ (s : State) (chan : Nat) (req : Bytes), Hears s → req.length = 64 → (mtxReq req).op = 7 → (mtxReq req).ok = true → (mtxReq req).gid ≠ 0 → gidHalf (mtxReq req).gid = fpHalf (mtxReq req).fp →
      (s.half (fpHalf (mtxReq req).fp)).state = .loading →
      (Tab.get {} (s.half (fpHalf (mtxReq req).fp)).buckets ((filterPlace (s.halfSlots (fpHalf (mtxReq req).fp)) (mtxReq req).fp).1 / 64)).seq < (mtxReq req).w3 →
    ∃ t b, exec (.mtxIndexDelta chan req) s = .next t ∧
      b = Tab.get {} (t.half (fpHalf (mtxReq req).fp)).buckets ((filterPlace (s.halfSlots (fpHalf (mtxReq req).fp)) (mtxReq req).fp).1 / 64) ∧
      ⟨(mtxReq req).fp, (mtxReq req).gid, (mtxReq req).realm, (mtxReq req).alg⟩ ∈ b.entries ∧ b.seq = (mtxReq req).w3)
  ∧ (∀ (s : State) (chan : Nat) (req : Bytes) (half : Bool) (hwm : Nat), Hears s → req.length = 64 → (mtxReq req).op = 8 → (mtxReq req).ok = true → (s.half half).state = .partner →
    ∃ t, exec (.mtxHandoff chan req half hwm [] [] []) s = .next t ∧ (t.half half).state = .borrowed ∧ (t.half half).hwm = hwm + 2 ^ 24 ∧ t.on F.MTX_INT_STATUS_HALF_CHG = true)
  ∧ (∀ (s : State) (chan : Nat) (req : Bytes), Hears s → req.length = 64 → (mtxReq req).op = 2 → (mtxReq req).ok = false →
    exec (.mtxPlace chan req) s = .next ((Unheard s 0x40).mtxAnswer chan (mtxReq req).tag (mtxReq req).gid .invalid))
  ∧ (∀ (s : State) (resp : Bytes) (q : Query) (d : Nat) (p : Piece), Hears s → s.mtx.outstanding.find? (fun x => x.tag == (mtxReq resp).tag) = some q → q.op = 1 → (mtxReq resp).op = 0 →
      s.queryPiece q = some d → Tab.find s.gly.own d = some p → (s.pieceClass p).map (·.strict) ≠ some true →
    ∃ t, exec (.mtxResponse resp) s = .next t ∧ (Tab.find t.gly.own d).map (·.grains) = some (p.grains ++ [(q.index, (mtxReq resp).gid)]) ∧ (Tab.find t.gly.own d).map (·.verify) = some p.verify ∧
      t.mtx.outstanding = s.mtx.outstanding.filter (fun x => x.tag != (mtxReq resp).tag))
  ∧ (∀ (s : State) (resp : Bytes) (q : Query), Hears s → s.mtx.outstanding.find? (fun x => x.tag == (mtxReq resp).tag) = some q → q.op = 6 → (mtxReq resp).op ≠ 5 →
    exec (.mtxResponse resp) s = .next (State.suspectAnswer { Unheard s 0x40 with mtx := { s.mtx with outstanding := s.mtx.outstanding.filter fun x => x.tag != (mtxReq resp).tag } } q.gid none))
  ∧ (∀ (s : State) (chan hwm : Nat) (req : Bytes) (half : Bool) (a b c : List (Nat × Nat)), s.anv.lost = true →
    exec (.mtxLookup chan req) s = .next (Unheard s 0x40) ∧ exec (.mtxPlace chan req) s = .next (Unheard s 0x40) ∧ exec (.mtxRef chan req) s = .next (Unheard s 0x40) ∧ exec (.mtxUnpin chan req) s = .next (Unheard s 0x40) ∧
    exec (.mtxMove chan req) s = .next (Unheard s 0x40) ∧ exec (.mtxFetchFp chan req) s = .next (Unheard s 0x40) ∧ exec (.mtxIndexDelta chan req) s = .next (Unheard s 0x40) ∧
    exec (.mtxHandoff chan req half hwm a b c) s = .next (Unheard s 0x40) ∧ exec (.mtxResponse req) s = .next (Unheard s 0x40))

/-- Lookups at the holder of a half (R194): FOUND with a pin, NEW with a grain In flight and an index entry, DEFERRED while the half is not loaded. -/
def Obligations.MatrixLookups : Prop :=
  (∀ (s : State) (fp : Bytes) (realm alg head piece : Nat) (e : IndexEntry) (g : Grain), s.defers (fpHalf fp) = false → filterMaybe (s.halfSlots (fpHalf fp)) (s.half (fpHalf fp)).filter fp = true →
      s.matching fp realm alg = [e] → s.grain? e.gid = some g → g.state = .live →
    (s.lookup fp realm alg head piece).1 = .found ∧ (s.lookup fp realm alg head piece).2.1 = e.gid ∧
      (head, piece) ∈ ((s.lookup fp realm alg head piece).2.2.grainAt e.gid).pins ∧
      (s.lookup fp realm alg head piece).2.2.rd F.MTX_FOUND_CNT_FOUND = (s.rd F.MTX_FOUND_CNT_FOUND + 1) % F.MTX_FOUND_CNT_FOUND.span)
  ∧ (∀ (s : State) (fp : Bytes) (realm alg head piece : Nat), s.defers (fpHalf fp) = false → filterMaybe (s.halfSlots (fpHalf fp)) (s.half (fpHalf fp)).filter fp = false →
      100 * (s.half (fpHalf fp)).filter.length < 90 * (s.half (fpHalf fp)).slots →
    (s.lookup fp realm alg head piece).1 = .new ∧ (s.lookup fp realm alg head piece).2.1 = (s.allocRec (fpHalf fp)).1 ∧
      ((s.lookup fp realm alg head piece).2.2.grainAt (s.allocRec (fpHalf fp)).1).state = .inFlight ∧
      ((s.lookup fp realm alg head piece).2.2.grainAt (s.allocRec (fpHalf fp)).1).placer = some head ∧
      BatchWaits (s.lookup fp realm alg head piece).2.2 [(s.allocRec (fpHalf fp)).2, .indexIns fp (s.allocRec (fpHalf fp)).1 realm alg] [])
  ∧ (∀ (s : State) (fp : Bytes) (realm alg head piece : Nat), s.defers (fpHalf fp) = true →
    (s.lookup fp realm alg head piece).1 = .deferred ∧ (s.lookup fp realm alg head piece).2.1 = (s.allocRec (fpHalf fp)).1 ∧
      BatchWaits (s.lookup fp realm alg head piece).2.2 [(s.allocRec (fpHalf fp)).2] [])

/-- Matrix in the background (R181, R185, R188, R194 to R201): lookups of published pieces, the free chain, index removal, placements, strict verification, half loads and catch-up. -/
def Obligations.MatrixUpkeep : Prop :=
  (∀ (s : State) (d g : Nat) (p : Piece), Tab.find s.gly.own d = some p → p.dataIn = true → p.commit = true → g ∈ p.needs → (∀ x ∈ p.grains, x.1 ≠ g) → p.digestOk = true → s.inherited p g = none →
    exec (.matrixLookup d g) s = .next (match s.grainPayload p g with
      | none => s
      | some (dat, tr) =>
        if allZero dat && tr.isEmpty then s.setPiece d { p with zeroGrains := p.zeroGrains ++ [g] }
        else match s.fingerprint (s.pieceVol p).realm (((s.pieceClass p).map (·.alg)).getD 0) (dat ++ tr) with
          | none => s
          | some fp =>
            if s.holdsHalf (fpHalf fp) then s.runLookup d g fp (s.pieceVol p).realm (((s.pieceClass p).map (·.alg)).getD 0)
            else if s.mtx.outstanding.any fun q => q.op == 1 && q.piece == some (d, p.gen) && q.index == g then s
            else (s.inc F.MTX_LOOKUP_CNT_REMOTE).query { op := 1, tag := 0, fp := fp, realm := (s.pieceVol p).realm, fpalg := ((s.pieceClass p).map (·.alg)).getD 0, piece := some (d, p.gen), index := g }))
  ∧ (∀ (s : State) (d g : Nat) (fp : Bytes) (realm alg : Nat) (p : Piece), Tab.find s.gly.own d = some p → p.commit = true →
    s.runLookup d g fp realm alg = (s.lookup fp realm alg s.head d).2.2.noteGrain d g (s.lookup fp realm alg s.head d).2.1 ((((s.lookup fp realm alg s.head d).2.2.pieceClass p).map (·.strict)).getD false && (s.lookup fp realm alg s.head d).1 == .found && p.kind != .repeated))
  ∧ (∀ (s : State) (d g gid : Nat) (p : Piece), Tab.find s.gly.own d = some p → p.dataIn = true → p.commit = true → g ∈ p.needs → (∀ x ∈ p.grains, x.1 ≠ g) → p.digestOk = true →
      s.inherited p g = some (some gid) → s.holdsHalf (gidHalf gid) = true → (s.grain? gid).any (fun e => e.state != .lost) = true →
    exec (.matrixLookup d g) s = .next ((s.pin gid s.head d).noteGrain d g gid false))
  ∧ (∀ (s : State) (d g : Nat) (p : Piece), Tab.find s.gly.own d = some p → p.digestOk = false → exec (.matrixLookup d g) s = .next s)
  ∧ (∀ (s : State) (hb : Bool) (i : Nat) (rest : List Nat), (s.half hb).freed = i :: rest → (Tab.get {} (s.half hb).grains i).gen ≠ 0xFFFF → (s.half hb).freeHead = 0 →
    ∃ t, exec (.freeChainAppend hb) s = .next t ∧ (t.half hb).freed = rest ∧ (t.half hb).freeHead = i ∧ (t.half hb).freeTail = i)
  ∧ (∀ (s : State) (hb : Bool) (i : Nat) (rest : List Nat), (s.half hb).freed = i :: rest → (Tab.get {} (s.half hb).grains i).gen = 0xFFFF →
    exec (.freeChainAppend hb) s = .next (s.setHalf hb { s.half hb with freed := rest }))
  ∧ (∀ (s : State) (hb : Bool) (e : IndexEntry) (rest : List IndexEntry), (s.half hb).removal = e :: rest →
    ∃ t, exec (.indexRemoval hb) s = .next t ∧ (t.half hb).removal = rest ∧ BatchWaits t [.indexDel e.fp e.gid e.realm e.fpalg] [])
  ∧ (∀ (s : State) (g : Nat), (g, true) ∈ s.mtx.placing →
    exec (.grainPlaced g) s = .next { s with mtx := { s.mtx with placing := s.mtx.placing.filter fun p => p.1 != g } })
  ∧ (∀ (s : State) (d g gid u : Nat) (p : Piece), Tab.find s.gly.own d = some p → p.grains.find? (fun x => x.1 == g) = some (g, gid) → gid ∈ p.verify → s.grainPlaced gid = true → s.readUnitNow gid = some u →
    exec (.strictVerify d g) s = .next (match s.grainPayload p g with
      | none => s
      | some (dat, tr) => match s.grainBytes (s.target gid) u with
        | (none, t) => t
        | (some pay, t) => if pay = dat ++ tr then t.setPiece d { p with verify := p.verify.erase gid } else t.collide d g gid p))
  ∧ (∀ (s : State) (d g gid : Nat) (p : Piece), ∃ n,
    (Tab.find (s.collide d g gid p).gly.own d).map (·.grains) = some (p.grains.map fun x => if x.1 = g then (g, n) else x) ∧ (Tab.find (s.collide d g gid p).gly.own d).map (·.verify) = some (p.verify.erase gid) ∧
      (s.collide d g gid p).rd F.MTX_NOINDEX_CNT_COLLISION = (s.rd F.MTX_NOINDEX_CNT_COLLISION + 1) % F.MTX_NOINDEX_CNT_COLLISION.span ∧ (s.collide d g gid p).on F.MTX_INT_STATUS_COLLISION = true)
  ∧ (∀ (s : State) (hb : Bool), (s.half hb).state = .partner → bit hb = s.head →
    ∃ t, exec (.halfLoadStart hb) s = .next t ∧ (t.half hb).state = .loading ∧ (t.half hb).filter = [] ∧ t.on F.MTX_INT_STATUS_HALF_CHG = true)
  ∧ (∀ (s : State) (hb : Bool), (s.anv.takeover = none ∨ bit hb = s.head) → (s.half hb).state = .loading →
    ∃ t, exec (.halfLoadDone hb) s = .next t ∧ (t.half hb).state = .loaded ∧
      (t.half hb).filter = (s.half hb).buckets.flatMap fun b => b.2.entries.map fun e => filterPlace (s.halfSlots hb) e.fp)
  ∧ (∀ (s : State) (hb : Bool), (s.anv.takeover = none ∨ bit hb = s.head) → (s.half hb).state = .returning →
    ∃ t, exec (.halfLoadDone hb) s = .next t ∧ (t.half hb).state = .partner ∧ (t.half hb).deltas = false)
  ∧ (∀ (s : State) (hb : Bool) (i u : Nat) (e : Grain), (s.half hb).state = .loaded → s.nextDeferred hb = some (i, e) → s.readUnitNow (mkGid hb e.gen i) = some u →
    exec (.catchupGrain hb) s = .next (match s.checkSort (mkGid hb e.gen i) u with
      | (.sound b, t) => (match (t.sortPlain (mkGid hb e.gen i) b).bind (t.fingerprint (SortBody.ofBytes b).realm e.fpalg) with
        | none => t
        | some fp => t.catchUp hb (mkGid hb e.gen i) e fp (SortBody.ofBytes b).realm)
      | (_, t) => t))
  ∧ (∀ (s : State) (hb : Bool) (g realm : Nat) (e : Grain) (fp : Bytes), s.matching fp realm e.fpalg = [] → (s.half hb).closed = false →
    BatchWaits (s.catchUp hb g e fp realm) [.indexIns fp g realm e.fpalg] [] ∧
      (s.catchUp hb g e fp realm).rd F.MTX_CATCHUP_CNT_INDEXED = (s.rd F.MTX_CATCHUP_CNT_INDEXED + 1) % F.MTX_CATCHUP_CNT_INDEXED.span)
  ∧ (∀ (s : State) (hb : Bool) (g realm : Nat) (e : Grain) (x : IndexEntry) (fp : Bytes), s.matching fp realm e.fpalg = [x] → x.gid ≠ g → s.entryLive x = true → (s.grainAt x.gid).ovf = false → (s.grainAt x.gid).refcnt + e.count < 0xFFFFFFFF →
    BatchWaits (s.catchUp hb g e fp realm) [.aliasTo g x.gid e.count] [] ∧
      (s.catchUp hb g e fp realm).rd F.MTX_CATCHUP_CNT_MERGED = (s.rd F.MTX_CATCHUP_CNT_MERGED + 1) % F.MTX_CATCHUP_CNT_MERGED.span)

/-- The key commands of Temper and their ends (R230, R231, R232, R235): creation, installation, the sweep of an old data generation, destruction, and the marks of the nonce counters. -/
def Obligations.KeyCommands : Prop :=
  (∀ (s : State) (c : Nat), s.rd F.TMP_KEY_SEL_PURPOSE ≤ 8 → s.on F.TMP_KEY_CMD_BUSY = false → s.createRefusal (s.rd F.TMP_KEY_SEL_REALM) (s.rd F.TMP_KEY_SEL_PURPOSE) = some c →
    ∃ t, exec .keyCreate s = .next t ∧ t.tmp = s.tmp ∧ t.rd F.TMP_KEY_CMD_RESULT = c % F.TMP_KEY_CMD_RESULT.span ∧ t.rd F.TMP_KEY_CMD_BUSY = 0)
  ∧ (∀ s : State, s.rd F.TMP_KEY_SEL_PURPOSE = 4 → s.on F.TMP_KEY_CMD_BUSY = false → s.createRefusal (s.rd F.TMP_KEY_SEL_REALM) 4 = none → s.currentGen (s.rd F.TMP_KEY_SEL_REALM) 4 = none → s.fm.mode ≠ .solo →
    ∃ t, exec .keyCreate s = .next t ∧ t.rd F.TMP_KEY_CMD_BUSY = 1 ∧ (t.keyRec (handle (s.rd F.TMP_KEY_SEL_REALM) 4 0)).map (·.state) = some .installing ∧ (t.keyRec (handle (s.rd F.TMP_KEY_SEL_REALM) 4 0)).map (·.len) = some 64)
  ∧ (∀ s : State, s.rd F.TMP_KEY_SEL_PURPOSE = 4 → s.on F.TMP_KEY_CMD_BUSY = false → s.createRefusal (s.rd F.TMP_KEY_SEL_REALM) 4 = none → s.currentGen (s.rd F.TMP_KEY_SEL_REALM) 4 = none → s.fm.mode = .solo →
    ∃ t, exec .keyCreate s = .next t ∧ t.rd F.TMP_KEY_CMD_BUSY = 0 ∧ t.rd F.TMP_KEY_CMD_RESULT = 0 ∧ (t.keyRec (handle (s.rd F.TMP_KEY_SEL_REALM) 4 0)).map (·.state) = some .current)
  ∧ (∀ (s : State) (h : Nat) (k : KeyRec), s.keyRec h = some k → k.state = .installing → s.currentGen (handleRealm h) (handlePurpose h) = none → handlePurpose h ≠ 5 → s.tmp.held = [] →
    ∃ t, exec (.keyInstallConfirm h) s = .next t ∧ t.keyRec h = some { k with state := .current } ∧ t.rd F.TMP_KEY_CMD_RESULT = 0 ∧ t.rd F.TMP_KEY_CMD_BUSY = 0)
  ∧ (∀ (s : State) (g : Nat) (k : KeyRec), (∀ h, s.tmp.sweep = some h → handleRealm h ≠ s.rd F.TMP_KEY_SEL_REALM) → s.oldestGen (s.rd F.TMP_KEY_SEL_REALM) 4 = some g →
      s.keyRec (handle (s.rd F.TMP_KEY_SEL_REALM) 4 g) = some k → k.state = .live →
    ∃ t, exec .keySweep s = .next t ∧ t.tmp.sweep = some (handle (s.rd F.TMP_KEY_SEL_REALM) 4 g) ∧ t.keyRec (handle (s.rd F.TMP_KEY_SEL_REALM) 4 g) = some { k with state := .sweeping } ∧ t.rd F.TMP_KEY_CMD_RESULT = 0)
  ∧ (∀ (s : State) (h : Nat), s.tmp.sweep = some h → handleRealm h = s.rd F.TMP_KEY_SEL_REALM →
    ∃ t, exec .keySweep s = .next t ∧ t.tmp = s.tmp ∧ t.rd F.TMP_KEY_CMD_RESULT = 3)
  ∧ (∀ (s : State) (h : Nat), s.tmp.sweep = some h → s.sweepLeft h = [] → (s.packing.any fun p => p.under h) = false → ∃ t, exec .keySweepEnd s = .next t ∧ t.keyRec h = none ∧ t.tmp.sweep = none ∧ BatchWaits t [.key h none] [])
  ∧ (∀ (s : State) (h : Nat) (p : Packed), s.tmp.sweep = some h → s.sweepLeft h = [] → p ∈ s.packing → p.under h = true → exec .keySweepEnd s = .next s)
  ∧ (∀ s : State, s.realmUsed (s.rd F.TMP_KEY_SEL_REALM) = true → ∃ t, exec .keyDestroy s = .next t ∧ t.tmp = s.tmp ∧ t.rd F.TMP_KEY_CMD_RESULT = 2)
  ∧ (∀ (s : State) (e : Nat × KeyRec), s.realmUsed (s.rd F.TMP_KEY_SEL_REALM) = false → e ∈ s.tmp.keys → handleRealm e.1 = s.rd F.TMP_KEY_SEL_REALM →
    ∃ t, exec .keyDestroy s = .next t ∧ t.rd F.TMP_KEY_CMD_BUSY = 1 ∧ ∀ h k, handleRealm h = s.rd F.TMP_KEY_SEL_REALM → t.keyRec h = some k → k.state = .destroying)
  ∧ (∀ s : State, s.realmUsed (s.rd F.TMP_KEY_SEL_REALM) = false → (∀ e ∈ s.tmp.keys, handleRealm e.1 ≠ s.rd F.TMP_KEY_SEL_REALM) →
    ∃ t, exec .keyDestroy s = .next t ∧ t.tmp = s.tmp ∧ t.rd F.TMP_KEY_CMD_RESULT = 0 ∧ t.rd F.TMP_KEY_CMD_BUSY = 0)
  ∧ (∀ (s : State) (realm h : Nat) (k : KeyRec), s.tmp.keys = [(h, k)] → handleRealm h = realm → k.state = .destroying → s.tmp.running = [] → s.pun.running = [] →
    ∃ t, exec (.keyDestroyZero realm) s = .next t ∧ t.tmp.keys = [] ∧ t.rd F.TMP_KEY_CMD_RESULT = 0 ∧ t.rd F.TMP_KEY_CMD_BUSY = 0)
  ∧ (∀ (s : State) (realm : Nat) (e : Nat × CipherJob), e ∈ s.tmp.running → handleRealm e.2.key = realm → exec (.keyDestroyZero realm) s = .next s)
  ∧ (∀ (s : State) (realm : Nat) (e : Nat × PunchJob), e ∈ s.pun.running → e.2.keyed ≠ 0 → handleRealm e.2.key = realm → exec (.keyDestroyZero realm) s = .next s)
  ∧ (∀ (s : State) (h m : Nat), (s.ctr h).epochWait = none → (s.ctr h).journalling = some m → s.tmp.running = [] → s.ste.sessions = [] →
    ∃ t, exec (.nonceHwmDurable h) s = .next t ∧ t.ctr h = { s.ctr h with hwm := m, journalling := none })
  ∧ (∀ (s : State) (c h : Nat), s.isOut Kind.keyUnit 0 = false → s.tmp.running = [] → s.tmp.queued = [] →
    ∃ t, exec (.keyUnwrap c h) s = .next t ∧ match s.plainKey h with
      | some _ => t.store c = lruPut 256 (s.keyInUse c) h (s.store c)
      | none => t = s)

/-- Cipher jobs of Temper (R240 to R248) and jobs of Imposition (R254 to R259): refusal, start, and the two ways a job ends. AES, GCM and XTS follow their standards (log entry 6). -/
def Obligations.CipherAndParityJobs : Prop :=
  (∀ (s : State) (c : Nat) (desc src aux : Bytes) (st : Status), s.cipherRefusal desc (cipherJob desc src aux) = some st →
    ∃ t, exec (.temperJobSubmit c desc src aux) s = .next t ∧ t.tmp.running = s.tmp.running ∧ t.tmp.queued = s.tmp.queued ∧ ∃ r, t.tmp.results = s.tmp.results ++ [r] ∧ r.tag = (cipherJob desc src aux).tag ∧ r.status = st ∧ r.out = [])
  ∧ (∀ (s : State) (c n p : Nat) (l : RunLine) (k : KeyRec) (desc src aux : Bytes), s.cipherRefusal desc (cipherJob desc src aux) = none → s.fm.lines = [(n, l)] → (cipherJob desc src aux).line = n → s.on F.TMP_CTRL_ENABLE = true →
      s.tmp.queued = [] → s.freePairs l c = [p] → p / 4 = c → (cipherJob desc src aux).mode = 0 → (cipherJob desc src aux).key ∈ s.store c → s.keyRec (cipherJob desc src aux).key = some k →
    ∃ t, exec (.temperJobSubmit c desc src aux) s = .next t ∧ t.tmp.queued = [] ∧ Tab.find t.tmp.running p = some { cipherJob desc src aux with started := true, counter := 0 })
  ∧ (∀ (s : State) (p : Nat) (j : CipherJob) (k : KeyRec), Tab.find s.tmp.running p = some j → j.started = true → s.keyRec j.key = some k → s.tmp.queued = [] →
    ∃ t, exec (.temperJobEnd p true) s = .next t ∧ Tab.find t.tmp.running p = none ∧ ∃ r, t.tmp.results = s.tmp.results ++ [r] ∧ r.tag = j.tag ∧ match s.plainKey j.key with
      | none => r.status = 0x0603
      | some key => match s.cipherRun p j k key with
        | some (out, aux) => r.status = 0 ∧ r.outLen = j.srcLen ∧ r.counter = (if j.dec then 0 else j.counter) ∧ r.out = out ∧ r.aux = aux
        | none => r.status = 0x0601 ∧ r.out = zeros j.srcLen)
  ∧ (∀ (s : State) (p : Nat) (j : CipherJob), Tab.find s.tmp.running p = some j → j.started = true →
    ∃ t, exec (.temperJobEnd p false) s = .next t ∧ Tab.find t.tmp.running p = none ∧ KatFailed s t F.TMP_INT_STATUS_CHECK_FAIL Kind.temper p ∧
      t.rd F.TMP_CHECK_CNT_COUNT = (s.rd F.TMP_CHECK_CNT_COUNT + 1) % F.TMP_CHECK_CNT_COUNT.span)
  ∧ (∀ s : State, s.isOut Kind.temper (s.rd F.TMP_PAIR_SEL_PAIR) = false →
    ∃ t, exec (.temperKatStart false) s = .next t ∧ KatFailed s t F.TMP_INT_STATUS_KAT_FAIL Kind.temper (s.rd F.TMP_PAIR_SEL_PAIR))
  ∧ (∀ (s : State) (desc : Bytes) (src : List Bytes), impInvalid desc (impJob desc src) = true →
    exec (.impositionJobSubmit desc src) s = .next { s with imp := { s.imp with results := s.imp.results ++
      [{ tag := (impJob desc src).tag, status := 0x0408, desc := impDone desc 0x0408 0 0, dstA := leAt desc 0x18 8, dstB := leAt desc 0x20 8 }] } })
  ∧ (∀ (s : State) (desc : Bytes) (src : List Bytes) (u : Nat) (rest : List Nat), impInvalid desc (impJob desc src) = false → s.on F.IMP_CTRL_ENABLE = true → s.imp.queued = [] → s.freeUnits (impJob desc src).line = u :: rest →
    exec (.impositionJobSubmit desc src) s = .next { s with imp := { s.imp with running := Tab.put s.imp.running u (impJob desc src) } })
  ∧ (∀ (s : State) (u : Nat) (j : ImpJob), Tab.find s.imp.running u = some j → j.use = .submitted → j.op = 0 → s.imp.queued = [] →
    ∃ t r, exec (.impositionJobEnd u true) s = .next t ∧ Tab.find t.imp.running u = none ∧ t.imp.results = s.imp.results ++ [r] ∧ r.tag = j.tag ∧ r.status = 0 ∧
      r.outA = parityP j.len ((j.src.map fun b => b.take j.len ++ zeros (j.len - b.length)).take j.width) ∧ r.outB = parityQ j.len ((j.src.map fun b => b.take j.len ++ zeros (j.len - b.length)).take j.width) ∧
      r.crcA = crc64 r.outA ∧ r.crcB = crc64 r.outB ∧ r.desc = impDone j.desc 0 r.crcA r.crcB)
  ∧ (∀ (s : State) (u sheet stripe : Nat) (j : ImpJob), Tab.find s.imp.running u = some j → j.use = .stripe sheet stripe →
    exec (.impositionJobEnd u true) s = .next ((State.sendStripe { s with imp := { s.imp with running := Tab.erase s.imp.running u } } sheet stripe j.outputs.1 j.outputs.2).impTake j.line))
  ∧ (∀ (s : State) (u : Nat) (j : ImpJob), Tab.find s.imp.running u = some j →
    ∃ t, exec (.impositionJobEnd u false) s = .next t ∧ t.imp.results = s.imp.results ∧ KatFailed s t F.IMP_INT_STATUS_UNIT_FAULT Kind.imposition u)
  ∧ (∀ s : State, s.isOut Kind.imposition (s.rd F.IMP_UNIT_SEL_UNIT) = false →
    ∃ t, exec (.impKatStart false) s = .next t ∧ KatFailed s t F.IMP_INT_STATUS_KAT_FAIL Kind.imposition (s.rd F.IMP_UNIT_SEL_UNIT))

/-- The writing of stripes (R260, R262, R282) and what becomes of missing members (R264 to R267, R272). -/
def Obligations.StripesAndRebuild : Prop :=
  (∀ (s : State) (id : Nat) (c : OpenStripe), (s.sheet id).cur = some c → c.firstAt + 500000 ≤ s.now → (s.sheet id).head = s.head → s.hth.flights = [] →
    ∃ t, exec (.stripeCloseTimer id) s = .next t ∧ (t.sheet id).cur = none ∧ (t.sheet id).dead = (s.sheet id).dead + (stripeUnits (s.sheet id).width - c.fill) ∧
      t.hth.flights = [⟨id, c.stripe, c.epoch, (s.sheet id).width, s.head, .waitOpen, c.sorts, [], (s.hth.inflightSeq + 1) % 2 ^ 32, []⟩])
  ∧ (∀ (s : State) (id : Nat) (c : OpenStripe), (s.sheet id).cur = some c → s.now < c.firstAt + 500000 → exec (.stripeCloseTimer id) s = .next s)
  ∧ (∀ (s : State) (id k : Nat) (f : Flight), s.flight id k = some f → f.phase = .waitOpen → s.sifSafe f.seq = true →
    exec (.stripeOpenDurable id k) s = .next (State.impSubmit { s with hth := { s.hth with flights := s.hth.flights.map fun x => if x.sheet = id ∧ x.stripe = k then { x with phase := .parity } else x } } (s.stripeJob f)) ∧
      (s.stripeJob f).op = 0 ∧ (s.stripeJob f).src = f.dataBodies ∧ (s.stripeJob f).use = .stripe f.sheet f.stripe)
  ∧ (∀ (s : State) (id k : Nat) (f : Flight), s.flight id k = some f → s.sifSafe f.seq = false → exec (.stripeOpenDurable id k) s = .next s)
  ∧ (∀ (s : State) (id k : Nat) (f : Flight), s.hth.flights = [f] → f.sheet = id → f.stripe = k → f.phase = .sent → (∀ m < f.width + 2, m ∈ f.confirmed ∨ m ∈ (s.sheet id).missing ∨ m ∈ f.spoiled) →
      s.sifSafe ((s.hth.inflightSeq + 1) % 2 ^ 32) = false →
    ∃ t, exec (.stripeChunksConfirmed id k) s = .next t ∧ t.hth.flights = [{ f with phase := .closeWritten, seq := (s.hth.inflightSeq + 1) % 2 ^ 32 }] ∧ t.hth.inflightSeq = (s.hth.inflightSeq + 1) % 2 ^ 32)
  ∧ (∀ (s : State) (id k : Nat) (f : Flight), s.hth.flights = [f] → f.sheet = id → f.stripe = k → f.phase = .sent → (∀ m < f.width + 2, m ∈ f.confirmed ∨ m ∈ (s.sheet id).missing ∨ m ∈ f.spoiled) →
      s.sifSafe ((s.hth.inflightSeq + 1) % 2 ^ 32) = true → f.sorts = [] → (s.sheet id).isMap = false →
    ∃ t, exec (.stripeChunksConfirmed id k) s = .next t ∧ t.hth.flights = [] ∧ t.hth.inflightSeq = (s.hth.inflightSeq + 1) % 2 ^ 32)
  ∧ (∀ (s : State) (id k : Nat) (f : Flight), s.flight id k = some f → f.phase = .closeWritten → s.sifSafe f.seq = true → exec (.stripeChunksConfirmed id k) s = .next (s.closeDone f))
  ∧ (∀ (s : State) (m : Nat), (∀ e ∈ s.hth.sheets, ∀ w ∈ e.2.members, w.1 ≠ m) → exec (.memberMissing m) s = .next s.ladderEval)
  ∧ (∀ (s : State) (m p id : Nat) (e : Sheet), s.hth.sheets = [(id, e)] → e.members = [(m, p)] → e.missing = [] → e.state = .closed →
    ∃ t, exec (.memberMissing m) s = .next t ∧ (t.sheet id).missing = [0])
  ∧ (∀ s : State, s.rebuildQueue = [] → exec .rebuildStripe s = .next s)
  ∧ (∀ (s : State) (first : Nat) (rest : List Nat), s.rebuildQueue = first :: rest → s.imp.rebuild = none → (s.takeSpares first).1 = true → 0 < ((s.takeSpares first).2.sheet first).next →
    exec .rebuildStripe s = .next (State.rebuildStripe { (s.takeSpares first).2 with imp := { (s.takeSpares first).2.imp with rebuild := some ⟨first, 0⟩ } } ⟨first, 0⟩))
  ∧ (∀ (s : State) (r : Rebuild), s.imp.rebuild = some r → (s.sheet r.sheet).missing ≠ [] → (s.sheet r.sheet).missing.length ≤ (s.sheet r.sheet).spares.length → (s.sheet r.sheet).next ≤ r.stripe →
    ∃ t, exec .rebuildSheetDone s = .next t ∧ t.imp.rebuild = none ∧ (t.sheet r.sheet).missing = [] ∧ (t.sheet r.sheet).spares = [] ∧
      BatchWaits t ((s.sheet r.sheet).spares.map fun x => .sheet r.sheet (s.sheet r.sheet).state (some x) (s.sheet r.sheet).head) [])
  ∧ (∀ (s : State) (id : Nat), id ∈ s.rebuildQueue → s.spareFor id = none → id ∉ s.imp.relocating →
    ∃ t, exec (.rebuildRelocate id) s = .next t ∧ t.imp.relocating = s.imp.relocating ++ [id] ∧ t.rd F.IMP_REBUILD_RELOCATE = 1)
  ∧ (∀ (s : State) (used : Nat), ∃ t, exec (.rebuildShareSample used) s = .next t ∧
      t.rd F.IMP_REBUILD_SHARE = (max ((s.fm.forme.map (·.rebuildFloor)).getD 10) (100 - used)) % F.IMP_REBUILD_SHARE.span ∧ OnlyFields s t [F.IMP_REBUILD_SHARE.key, F.IMP_REBUILD_FLOOR.key])
  ∧ (∀ (s : State) (n : Nat) (x : Task) (w : MendWait), s.imp.waits.find? (fun w => w.slot == n) = some w → w.since + 2000000000 ≤ s.now → s.task? n = some x → isInbound x.ctx = false →
    ∃ t, exec (.mendWaitTimeout n) s = .next t ∧ Ended t n (.internal 0x0403) ∧ (∀ v ∈ t.imp.waits, v.slot ≠ n))

/-- The map journal and its checkpoints (R125, R290 to R294), the audit (R296), and the rewrite of a repaired sort (R166). -/
def Obligations.JournalAndCheckpoints : Prop :=
  (∀ (s : State) (l : Bool) (b : Batch) (rest : List Batch), s.hth.journal.waiting = b :: rest → (b.inLog = true ∨ s.ackWhere ≠ .flash) → (s.hth.journal.ring.map Batch.units).sum + b.units ≤ journalLimit → s.batchSafe b l = true → b.after = [] →
    ∃ t, exec (.journalBatchDurable l) s = .next t ∧ t.hth.journal.waiting = rest ∧ t.hth.journal.ring = s.hth.journal.ring ++ [b] ∧ t.rd F.HTH_JOURNAL_SEQ = b.seq % F.HTH_JOURNAL_SEQ.span)
  ∧ (∀ (s : State) (l : Bool) (b : Batch) (rest : List Batch) (n : Nat) (x : Task), s.hth.journal.waiting = b :: rest → (b.inLog = true ∨ s.ackWhere ≠ .flash) → (s.hth.journal.ring.map Batch.units).sum + b.units ≤ journalLimit → s.batchSafe b l = true →
      b.after = [.finish n] → s.task? n = some x → isInbound x.ctx = false →
    ∃ t, exec (.journalBatchDurable l) s = .next t ∧ Ended t n .success ∧ t.hth.journal.ring = s.hth.journal.ring ++ [b])
  ∧ (∀ (s : State) (l : Bool) (b : Batch) (rest : List Batch), s.hth.journal.waiting = b :: rest → (b.inLog = true ∨ s.ackWhere ≠ .flash) → (s.hth.journal.ring.map Batch.units).sum + b.units ≤ journalLimit → s.batchSafe b l = false →
    exec (.journalBatchDurable l) s = .next s)
  ∧ (∀ (s : State) (l : Bool) (b : Batch) (rest : List Batch), s.hth.journal.waiting = b :: rest → (b.inLog = true ∨ s.ackWhere ≠ .flash) → journalLimit < (s.hth.journal.ring.map Batch.units).sum + b.units →
    exec (.journalBatchDurable l) s = .next (s.raise F.HTH_INT_STATUS_JOURNAL_FULL))
  ∧ (∀ s : State, (1048576 ≤ s.hth.journal.gathered ∨ s.hth.journal.lastFlush + ((s.fm.forme.map (·.flushMs)).getD 0) * 1000000 ≤ s.now) → exec .flushIntervalTimer s = exec .flushNow s)
  ∧ (∀ s : State, s.hth.journal.gathered < 1048576 → s.now < s.hth.journal.lastFlush + ((s.fm.forme.map (·.flushMs)).getD 0) * 1000000 → exec .flushIntervalTimer s = .next s)
  ∧ (∀ (s : State) (e : Nat), s.hth.journal.flush = some e → exec .flushNow s = .next { s with hth := { s.hth with journal := { s.hth.journal with due := true } } })
  ∧ (∀ (s : State) (i : Image), s.hth.journal.flush = none → s.imageUpTo s.foldLost.1 s.hth.journal.ring (s.rd F.HTH_JOURNAL_SEQ) = i →
    exec .flushNow s = .next (State.flushStep { s with hth := { s.hth with journal := { s.hth.journal with flush := some (s.rd F.HTH_JOURNAL_SEQ), due := false, gathered := 0, lastFlush := s.now, sent := none, acks := [], next := { i with vols := i.vols.map (fun v => (v.1, v.2.numbered)), slots := s.hth.pages } } } }))
  ∧ (∀ (s : State) (e : Nat) (c : Ckpt), s.hth.journal.flush = some e → s.hth.journal.sent = some c → (∀ w ∈ s.hth.anchors, w.1 ∈ s.hth.journal.acks) → s.hth.journal.due = false →
    ∃ t, exec .checkpointDurable s = .next t ∧ t.hth.journal.flush = none ∧ t.hth.journal.sent = none ∧ t.hth.journal.ckpt = c ∧ t.hth.journal.ckptAt = s.now ∧
      t.hth.journal.ring = s.hth.journal.ring.filter (fun x => decide (e < x.seq)) ∧ t.rd F.HTH_CKPT_SEQ_END = e % F.HTH_CKPT_SEQ_END.span ∧
      BatchWaits t [.ckpt c.seq e (memberWord (s.hth.anchors.headD (0, 0))) (s.hth.anchorPos - 16)] [])
  ∧ (∀ (s : State) (e : Nat) (c : Ckpt) (w : Nat × Nat), s.hth.journal.flush = some e → s.hth.journal.sent = some c → w ∈ s.hth.anchors → w.1 ∉ s.hth.journal.acks → (s.gmp.flying.any fun f => f.2.use == .anchor) = true →
    exec .checkpointDurable s = .next s)
  ∧ (∀ s : State, s.hth.journal.flush = none → exec .checkpointDurable s = .next s)
  ∧ (∀ s : State, s.hth.audit = none → exec .auditStart s = .next { s with hth := { s.hth with audit := some [] } })
  ∧ (∀ (s : State) (held : List Nat), s.hth.audit = some held → ∃ t, exec .auditEnd s = .next t ∧ t.hth.audit = none ∧ t.on F.HTH_INT_STATUS_AUDIT_DONE = true)
  ∧ (∀ (s : State) (gid : Nat) (r : Repair), Tab.find s.prf.repairs gid = some r → s.flight r.newSheet (r.newOffset / stripeUnits (s.sheet r.newSheet).width) = none → (s.sheet r.newSheet).cur = none → s.holdsHalf (gidHalf gid) = true →
    ∃ t, exec (.sortRepairDurable gid) s = .next t ∧ Tab.find t.prf.repairs gid = none ∧
      BatchWaits t [.move gid (mkAddr r.oldSheet r.oldOffset) (mkAddr r.newSheet r.newOffset) (s.grainAt gid).units] [])

/-- Sheets and capacity (R279 to R281, R297 to R304): opening, descaling, erasing, wear, the capacity figures and the health sample. -/
def Obligations.SheetsAndCapacity : Prop :=
  (∀ (s : State) (cls : Nat) (c : FormeClass) (ms : List Nat), s.on F.HTH_CTRL_ENABLE = true → s.openCount < 64 → s.classOf cls = some c → c.d ≠ 0 → s.openSheet .refine cls = none → s.chooseModules [] (c.d + 2) = some ms → s.hth.journal.flush = none →
      (s.pickPlates [] ms).length = c.d + 2 →
    ∃ t b, exec (.sheetOpen 0 cls []) s = .next t ∧ (t.sheet s.freeSheetId).state = .opened ∧ (t.sheet s.freeSheetId).members = s.pickPlates [] ms ∧ (t.sheet s.freeSheetId).width = c.d ∧ (t.sheet s.freeSheetId).cls = cls ∧
      b ∈ t.hth.journal.waiting ∧ b.recs = [.sheetOpen s.freeSheetId false cls c.d (s.module (ms.headD 0)).plateLog2 (s.pickPlates [] ms)])
  ∧ (∀ (s : State) (role cls : Nat), s.on F.HTH_CTRL_ENABLE = false → exec (.sheetOpen role cls []) s = .next s)
  ∧ (∀ (s : State) (role cls : Nat), 64 ≤ s.openCount → exec (.sheetOpen role cls []) s = .next s)
  ∧ (∀ s : State, s.hth.descale = none → s.descaleNext = none → exec .descaleCopyDone s = .next s)
  ∧ (∀ (s : State) (id rank : Nat), s.hth.descale = some ⟨id, rank, [], false⟩ → rank ≠ 1 → (s.sheet id).isMap = false → s.liveSorts id none = [] → s.mtx.outstanding = [] → s.hth.journal.waiting = [] →
    ∃ t, exec .descaleCopyDone s = .next t ∧ t.hth.descale = none ∧ (t.sheet id).state = .toErase ∧ (t.sheet id).descale = false ∧ BatchWaits t [.sheet id .toErase none (s.sheet id).head] [])
  ∧ (∀ (s : State) (id m p : Nat), id ≠ 0 → (s.sheet id).state = .toErase → (s.sheet id).eraseSeq ≤ s.hth.journal.ckpt.seqEnd → s.readsSheet id = false → s.paired = false → (s.sheet id).members = [(m, p)] →
      (s.plateRec m p).state = .member → (s.plateRec m p).erases < (s.module m).rated → ((s.dev m).plate p).owner = s.head →
    exec (.descaleErase id) s = .next (State.gmpSend { s with hth := { s.hth with clearances := s.hth.clearances.filter (· != id) } } m { op := Gmp.erase, plate := p } [] (.erase id 0)))
  ∧ (∀ (s : State) (id : Nat), id ≠ 0 → s.paired = true → id ∉ s.hth.clearances → exec (.descaleErase id) s = .next s)
  ∧ (∀ (s : State) (v : Bool), ∃ t, exec (.descalePauseWrite v) s = .next t ∧ t.rd F.HTH_CTRL_DESCALE_PAUSE = bit v ∧ OnlyFields s t [F.HTH_CTRL_DESCALE_PAUSE.key])
  ∧ (∀ s : State, s.now < s.hth.lastWear + 86400000000000 → exec .wearCheck s = .next s)
  ∧ (∀ (s : State) (m : Nat), s.hth.lastWear + 86400000000000 ≤ s.now → s.hth.wear = none → s.admitted = [m] → (s.module m).rated < 10 * ((s.eraseRange m).2 - (s.eraseRange m).1) → s.wearSheet m ≠ none →
    ∃ t, exec .wearCheck s = .next t ∧ t.hth.wear = s.wearSheet m ∧ t.hth.lastWear = s.now)
  ∧ (∀ s : State, ∃ t, exec .capSet s = .next t ∧ t.hth.userC = 93 * (s.rawBytes - s.metaBytes) ∧ t.hth.spareC = (98 * s.rawBytes : Int) - 100 * s.metaBytes - (93 * (s.rawBytes - s.metaBytes) : Nat))
  ∧ (∀ (s : State) (m : Nat), s.admitted = [m] →
    ∃ t, exec .healthSample s = .next t ∧ t.hth.array = s.hth.array.addMinute (s.now / 86400000000000) (s.module m).temp ∧
      Tab.get {} t.hth.health m = (Tab.get {} s.hth.health m).addMinute (s.now / 86400000000000) (s.module m).temp)

/-- Reshape (R274 to R276): its start by command, the sheets it passes, its boundary and its pause. -/
def Obligations.ReshapeSteps : Prop :=
  (∀ s : State, s.reshapeRuns = true → ∃ t, exec .reshapeMigrateCmd s = .next t ∧ t.rd F.IMP_RESHAPE_CMD_RESULT = 1 ∧ OnlyFields s t [F.IMP_RESHAPE_CMD_RESULT.key])
  ∧ (∀ s : State, s.reshapeRuns = false → (∀ m < 128, bitOf (s.rd (F.IMP_EVAC_MARK (m / 32))) (m % 32) = false) →
    ∃ t, exec .reshapeMigrateCmd s = .next t ∧ t.rd F.IMP_RESHAPE_CMD_RESULT = 2 ∧ OnlyFields s t [F.IMP_RESHAPE_CMD_RESULT.key])
  ∧ (∀ (s : State) (m : Nat), s.reshapeRuns = false → m < 128 → bitOf (s.rd (F.IMP_EVAC_MARK (m / 32))) (m % 32) = true →
    ∃ t r, exec .reshapeMigrateCmd s = .next t ∧ t.rd F.IMP_RESHAPE_CMD_RESULT = 0 ∧ t.imp.reshape = some r ∧ r.migration = true ∧ r.boundary = 0 ∧
      r.list = s.sheetsOn (fun m => bitOf (s.rd (F.IMP_EVAC_MARK (m / 32))) (m % 32)))
  ∧ (∀ (s : State) (r : Machine.Reshape) (id : Nat), s.imp.reshape = some r → s.imp.peerReshape = none → r.transit = some id → r.held = false → r.movesOut = false → r.copies = [] → s.liveSorts id none = [] → s.mtx.outstanding = [] → s.hth.journal.waiting = [] →
    ∃ t q, exec .reshapeSheetCheckpoint s = .next t ∧ t.imp.reshape = some q ∧ q.boundary = r.boundary + 1 ∧ q.movesOut = false ∧ q.written = r.written ∧ (t.sheet id).movedAt = s.now)
  ∧ (∀ (s : State) (r : Machine.Reshape), s.imp.reshape = some r → r.held = true → exec .reshapeSheetCheckpoint s = .next s)
  ∧ (∀ (s : State) (r : Machine.Reshape), s.imp.reshape = some r → r.written + 256 ≤ r.boundary → r.boundary ≠ r.list.length → r.moveSeq ≤ s.hth.journal.ckpt.seqEnd →
    ∃ t, exec .reshapeBoundaryWrite s = .next t ∧ t.imp.reshape = some { r with written := r.boundary })
  ∧ (∀ (s : State) (r : Machine.Reshape), s.imp.reshape = some r → r.boundary = r.list.length → r.written < r.boundary → r.moveSeq ≤ s.hth.journal.ckpt.seqEnd →
    ∃ t, exec .reshapeBoundaryWrite s = .next t ∧ t.on F.IMP_INT_STATUS_RESHAPE_DONE = true)
  ∧ (∀ (s : State) (r : Machine.Reshape), s.imp.reshape = some r → s.imp.peerReshape = none → s.hth.journal.ckpt.seqEnd < r.moveSeq → exec .reshapeBoundaryWrite s = .next s)
  ∧ (∀ (s : State) (v : Bool), ∃ t, exec (.reshapePauseWrite v) s = .next t ∧ t.rd F.IMP_CTRL_RESHAPE_PAUSE = bit v ∧ t.imp.reshape = s.imp.reshape.map fun r => { r with paused := v })

/-- The twelve GMP commands (R307 to R309, Table 14.4): from this head's port each takes a slot and a tag, goes out, is carried out by the module and leaves a completion. -/
def Obligations.GmpCommands : Prop :=
  (∀ (s : State) (m : Nat), GmpReady s m Gmp.identify → ∃ t, exec (.gmpIdentify m s.head {}) s = .next t ∧ GmpSent s t m { op := Gmp.identify, length := 4096 } [] .plain)
  ∧ (∀ (s : State) (m v : Nat), GmpReady s m Gmp.hello → ∃ t, exec (.gmpHello m s.head v {}) s = .next t ∧ GmpSent s t m { op := Gmp.hello } (helloBlock m s.head 0x0101) .plain)
  ∧ (∀ (s : State) (m : Nat), GmpReady s m Gmp.health → ∃ t, exec (.gmpHealth m s.head {}) s = .next t ∧ GmpSent s t m { op := Gmp.health } [] .plain)
  ∧ (∀ (s : State) (m p : Nat), GmpReady s m Gmp.ownerOp → ∃ t, exec (.gmpOwner m s.head p {}) s = .next t ∧ GmpSent s t m { op := Gmp.ownerOp, plate := p } [] .plain)
  ∧ (∀ (s : State) (m p o n : Nat) (what : ReadFor), GmpReady s m Gmp.read →
      ∃ t, exec (.gmpRead m s.head p o n what {}) s = .next t ∧ GmpSent s t m { op := Gmp.read, plate := p, offset := o, length := n } [] what.use)
  ∧ (∀ (s : State) (m p o : Nat) (b : Bytes), GmpReady s m Gmp.write → ∃ t, exec (.gmpWrite m s.head p o b {}) s = .next t ∧ GmpSent s t m { op := Gmp.write, plate := p, offset := o, length := b.length } b .plain)
  ∧ (∀ (s : State) (m p : Nat), GmpReady s m Gmp.erase → ∃ t, exec (.gmpErase m s.head p {}) s = .next t ∧ GmpSent s t m { op := Gmp.erase, plate := p } [] .plain)
  ∧ (∀ (s : State) (m p e : Nat) (seat : Bool), GmpReady s m Gmp.claim → ∃ t, exec (.gmpClaim m s.head p e seat {}) s = .next t ∧ GmpSent s t m { op := Gmp.claim, flags := bit seat, plate := p, expect := e } [] .plain)
  ∧ (∀ (s : State) (m : Nat) (on : Bool), GmpReady s m Gmp.fence → ∃ t, exec (.gmpFence m s.head on {}) s = .next t ∧ GmpSent s t m { op := Gmp.fence, flags := bit on } [] .plain)
  ∧ (∀ (s : State) (m g a b : Nat) (num : Option Nat), GmpReady s m Gmp.setAnchor →
      ∃ t d, exec (.gmpSetAnchor m s.head g a b num {}) s = .next t ∧ GmpSent s t m { op := Gmp.setAnchor, length := 64 } d .plain ∧ d = overlay (AnchorRec.bytes ⟨g, a, b⟩) 16 (leBytes ((num.map (· + 1)).getD 0) 1))
  ∧ (∀ (s : State) (m o : Nat) (b : Bytes), GmpReady s m Gmp.fwDownload → ∃ t, exec (.gmpFwDownload m s.head o b {}) s = .next t ∧ GmpSent s t m { op := Gmp.fwDownload, offset := o, length := b.length } b .plain)
  ∧ (∀ (s : State) (m : Nat), GmpReady s m Gmp.fwActivate → ∃ t, exec (.gmpFwActivate m s.head {}) s = .next t ∧ GmpSent s t m { op := Gmp.fwActivate } [] .plain)
  ∧ (∀ (s : State) (m p : Nat), p ≠ s.head → ∃ t, exec (.gmpErase m p 0 {}) s = .next t ∧ t.outbox = s.outbox ∧ t.gmp.ring = s.gmp.ring ∧ t.dev m = ((s.dev m).act p { op := Gmp.erase, plate := 0 } [] 0).dev)

/-- What a module answers (R311, R314, R316, Table 14.5): the fence, the seat and the plate claims, and writes to a position. -/
def Obligations.ModuleAnswers : Prop :=
  (∀ (d : Device) (port : Nat) (c : GmpCmd) (data : Bytes) (media : Status), port ∈ d.fenced → c.op ≠ Gmp.identify → (d.act port c data media).status = 0x0307 ∧ (d.act port c data media).dev = d)
  ∧ (∀ (d : Device) (port : Nat) (c : GmpCmd) (data : Bytes) (media : Status), port ∉ d.fenced → d.invalid c = true → (d.act port c data media).status = 0x030A ∧ (d.act port c data media).dev = d)
  ∧ (∀ (d : Device) (port e : Nat), port ∉ d.fenced → (d.bound.find? fun b => b.1 == port) = none →
      d.act port { op := Gmp.claim, flags := 1, expect := e } [] 0 =
        if e = d.seatEpoch then ⟨{ d with seatEpoch := (d.seatEpoch + 1) % 2 ^ 32, seatOwner := port }, 0, (d.seatEpoch + 1) % 2 ^ 32, port, 0, []⟩ else ⟨d, 0x0308, d.seatEpoch, d.seatOwner, 0, []⟩)
  ∧ (∀ (d : Device) (port p e : Nat), port ∉ d.fenced → p < d.plateCount → (d.plate p).failed = false → (d.bound.find? fun b => b.1 == port) = none →
      let a := d.act port { op := Gmp.claim, plate := p, expect := e } [] 0
      (e = (d.plate p).epoch → a.status = 0 ∧ (a.dev.plate p).owner = port ∧ (a.dev.plate p).epoch = ((d.plate p).epoch + 1) % 2 ^ 32 ∧ (a.dev.plate p).chunks = (d.plate p).chunks) ∧
      (e ≠ (d.plate p).epoch → a.status = 0x0308 ∧ a.dev = d ∧ a.owner = (d.plate p).owner))
  ∧ (∀ (d : Device) (port p : Nat) (b : Bytes), port ∉ d.fenced → p < d.plateCount → 16 ≤ d.plateLog2 → b.length = 65536 → (d.plate p).failed = false → (d.bound.find? fun x => x.1 == port) = none → (d.plate p).owner = port →
      let a := d.act port { op := Gmp.write, plate := p, length := 65536 } b 0
      (Tab.find (d.plate p).chunks 0 = none → a.status = 0 ∧ Tab.find (a.dev.plate p).chunks 0 = some (some b)) ∧
      (Tab.find (d.plate p).chunks 0 ≠ none → a.status = 0x0309 ∧ a.dev = d))
  ∧ (∀ (d : Device) (port p : Nat), port ∉ d.fenced → p < d.plateCount → (d.plate p).failed = false → (d.bound.find? fun b => b.1 == port) = none →
      let a := d.act port { op := Gmp.erase, plate := p } [] 0
      ((d.plate p).owner = port → a.status = 0 ∧ (a.dev.plate p).chunks = []) ∧ ((d.plate p).owner ≠ port → a.status = 0x0307 ∧ a.dev = d))
  ∧ (∀ (d : Device) (port p q n : Nat), port ∉ d.fenced → p < d.plateCount → (d.plate p).failed = false → n = 64 → q < 1024 → 16 ≤ d.plateLog2 →
      let a := d.act port { op := Gmp.read, plate := p, offset := q, length := n } [] 0
      (Tab.find (d.plate p).chunks 0 = none → a.status = 0x0303) ∧ (∀ b, Tab.find (d.plate p).chunks 0 = some (some b) → a.status = 0 ∧ a.data = slice b (q * 64) 64))
  ∧ (∀ (d : Device) (port : Nat), port ≤ 1 → port ∉ d.fenced → (1 - port) ∈ (d.act port { op := Gmp.fence, flags := 1 } [] 0).dev.fenced ∧ (1 - port) ∉ (d.act port { op := Gmp.fence } [] 0).dev.fenced)

/-- Completions, timeouts and the life of a module at this head (R308, R309, R312 to R322). -/
def Obligations.ModuleLife : Prop :=
  (∀ (s : State) (sh st mb : Nat) (e : RingEntry) (rest : List RingEntry) (f : GmpOut), s.gmp.ring = e :: rest → Tab.find s.gmp.flying e.done.tag = some f → f.gen = e.done.gen → f.module = e.module → e.done.rsv = 0 → e.done.status = 0 →
      f.cmd.op = Gmp.write → f.use = .chunk sh st mb → s.gmp.activating = none →
    ∃ t, exec .gmpCompletion s = .next t ∧ t.gmp.ring = rest ∧ Tab.find t.gmp.flying e.done.tag = none ∧ Tab.get 0 t.gmp.gens e.done.tag = (Tab.get 0 s.gmp.gens e.done.tag + 1) % 256 ∧
      t.hth.flights = s.hth.flights.map fun x => if x.sheet = sh ∧ x.stripe = st then { x with confirmed := x.confirmed ++ [mb] } else x)
  ∧ (∀ (s : State) (e : RingEntry) (rest : List RingEntry) (f : GmpOut), s.gmp.ring = e :: rest → Tab.find s.gmp.flying e.done.tag = some f → f.gen = e.done.gen → f.module = e.module → e.done.rsv = 0 → e.done.status = 0x0308 → f.use = .seat →
      f.cmd.op = Gmp.claim → s.gmp.activating = none →
    ∃ t, exec .gmpCompletion s = .next t ∧ t.fm.mode = .halted ∧ t.fm.safe = true ∧ t.on F.GMP_INT_STATUS_CLAIM_LOST = true)
  ∧ (∀ (s : State) (e : RingEntry) (rest : List RingEntry), s.gmp.ring = e :: rest → (∀ f, Tab.find s.gmp.flying e.done.tag = some f → f.gen ≠ e.done.gen ∨ f.module ≠ e.module ∨ e.done.rsv ≠ 0) →
    ∃ t, exec .gmpCompletion s = .next t ∧ t.gmp.ring = rest ∧ t.gmp.flying = s.gmp.flying ∧ t.rd F.GMP_STALE_CNT_COUNT = (s.rd F.GMP_STALE_CNT_COUNT + 1) % F.GMP_STALE_CNT_COUNT.span)
  ∧ (∀ (s : State) (m tag gen : Nat), Tab.get 0 s.gmp.gens tag ≠ gen →
    ∃ t, exec (.gmpStaleTransfer m tag gen) s = .next t ∧ t.gmp = s.gmp ∧ t.rd F.GMP_STALE_CNT_COUNT = (s.rd F.GMP_STALE_CNT_COUNT + 1) % F.GMP_STALE_CNT_COUNT.span)
  ∧ (∀ (s : State) (tag : Nat) (f : GmpOut), Tab.find s.gmp.flying tag = some f → f.sentAt + Gmp.limit f.cmd.op ≤ s.now → f.use = .plain →
    ∃ t, exec (.gmpTimeout tag) s = .next t ∧ Tab.find t.gmp.flying tag = none ∧ t.rd F.GMP_TIMEOUT_CNT_COUNT = (s.rd F.GMP_TIMEOUT_CNT_COUNT + 1) % F.GMP_TIMEOUT_CNT_COUNT.span ∧
      t.on F.GMP_INT_STATUS_TIMEOUT = true ∧ (f.module, f.slot) ∈ t.gmp.held ∧ ∃ r : FaultReport, t.flt.reported = s.flt.reported ++ [r] ∧ r.chan = ⟨Kind.moduleLink, f.module⟩ ∧ r.status = 0x030B)
  ∧ (∀ (s : State) (tag : Nat) (f : GmpOut), Tab.find s.gmp.flying tag = some f → s.now < f.sentAt + Gmp.limit f.cmd.op → exec (.gmpTimeout tag) s = .next s)
  ∧ (∀ (s : State) (i : ModuleInfo) (speed lanes n : Nat), s.moduleNumber i = some n → 4 ≤ speed → i.page = true → i.reserved = 0 → 24 ≤ i.plateLog2 → i.plateLog2 ≤ 30 → i.plateCount ≤ 2 ^ 25 → i.version = 0x0101 → (s.fm.forme.map (·.minGmp)).getD 0 ≤ 0x0101 →
    ∃ t, exec (.moduleLinkUp i speed lanes) s = .next t ∧ (t.module n).state = .admitting ∧ (t.module n).serial = i.serial ∧ (t.module n).steps = 1 ∧ (t.module n).since = s.now)
  ∧ (∀ (s : State) (i : ModuleInfo) (speed lanes n : Nat), s.moduleNumber i = some n → speed < 4 → exec (.moduleLinkUp i speed lanes) s = .next s)
  ∧ (∀ (s : State) (m : Nat), m < 128 → (s.module m).state = .admitting → 3 ≤ (s.module m).steps → s.gmp.seatAt = none →
    ∃ t, exec (.moduleAdmitConfirm m (s.module m).serial) s = .next t ∧ (t.module m).state = .admitted ∧ bitOf (t.rd (F.GMP_ADMIT_ADMITTED (m / 64))) (m % 64) = true ∧ t.on F.GMP_INT_STATUS_ADMITTED = true)
  ∧ (∀ (s : State) (m : Nat), (s.module m).state = .admitting → (s.module m).since + 10000000000 ≤ s.now →
    ∃ t, exec (.moduleAdmitTimeout m) s = .next t ∧ (t.module m).state = .absent ∧ t.on F.FOR_INT_STATUS_ALARM = true)
  ∧ (∀ (s : State) (m : Nat), (s.module m).state = .admitted → ∃ t, exec (.moduleRemoval m) s = .next t ∧ (t.module m).state = .missing ∧ t.on F.GMP_INT_STATUS_REMOVED = true)
  ∧ (∀ (s : State) (m : Nat), (s.module m).noCmd = true → (s.module m).fenceAt + 1000000000 ≤ s.now → GmpReady s m Gmp.fence →
    ∃ t, exec (.moduleFenceRetry m) s = .next t ∧ (t.module m).fenceAt = s.now ∧ GmpSent s t m { op := Gmp.fence, flags := 1 } [] .fence)
  ∧ (∀ s : State, s.holdsMembers (s.rd F.GMP_MOD_SEL_MODULE) = true → ∃ t, exec .gmpModRelease s = .next t ∧ t.rd F.GMP_MOD_CMD_RESULT = 1 ∧ OnlyFields s t [F.GMP_MOD_CMD_RESULT.key])
  ∧ (∀ s : State, s.holdsMembers (s.rd F.GMP_MOD_SEL_MODULE) = false → s.rd F.GMP_MOD_SEL_MODULE < 128 →
    ∃ t, exec .gmpModRelease s = .next t ∧ t.rd F.GMP_MOD_CMD_RESULT = 0 ∧ (t.module (s.rd F.GMP_MOD_SEL_MODULE)).state = .released ∧
      bitOf (t.rd (F.GMP_ADMIT_ADMITTED (s.rd F.GMP_MOD_SEL_MODULE / 64))) (s.rd F.GMP_MOD_SEL_MODULE % 64) = false)
  ∧ (∀ s : State, (s.hth.sheets.any fun p => !p.2.missing.isEmpty) = true → ∃ t, exec .gmpModActivate s = .next t ∧ t.rd F.GMP_MOD_CMD_RESULT = 2 ∧ OnlyFields s t [F.GMP_MOD_CMD_RESULT.key])
  ∧ (∀ (s : State) (m : Nat), s.rd F.GMP_MOD_SEL_MODULE = m → (s.hth.sheets.any fun p => !p.2.missing.isEmpty) = false → s.gmp.activating = none → (s.module m).state = .admitted → (∀ f ∈ s.gmp.flying, f.2.module ≠ m) →
    ∃ t, exec .gmpModActivate s = .next t ∧ (t.module m).state = .activating ∧ (t.module m).excluded = true ∧ t.gmp.activating = some m ∧ t.rd F.GMP_MOD_CMD_BUSY = 1)
  ∧ (∀ (s : State) (m : Nat), (s.module m).state = .activating → (s.module m).since + 30000000000 ≤ s.now →
    ∃ t, exec (.moduleFwTimeout m) s = .next t ∧ (t.module m).state = .missing ∧ t.gmp.activating = none ∧ t.rd F.GMP_MOD_CMD_BUSY = 0 ∧ t.on F.GMP_INT_STATUS_FW_DONE = true)

/-- Namespace Management and the log pages (R67, R68, R97, R305). -/
def Obligations.NamespaceCommands : Prop :=
  (∀ (s : State) (slot nsid num : Nat) (a : NsArgs) (x : Task), s.adminTask slot .nsCreate = some x → isInbound x.ctx = false → s.forwards = false → s.createOk a = true → s.freeNsid = some nsid → s.freeVolume = some num →
      s.hasKeys a.classRealm.2 = true → (s.gensOf a.classRealm.2 0).isEmpty = false → (s.gensOf a.classRealm.2 4).isEmpty = false →
    ∃ t v, exec (.nsCreate slot a) s = .next t ∧ BatchWaits t [.volume num v 0 0] [.finish slot] ∧ v.nsid = nsid ∧ v.holder = s.head ∧ v.state = .live ∧ (v.cls, v.realm) = a.classRealm ∧ some v.lbaf = lbafOf a.blockSize a.metaSize ∧
      v.piType = a.piType ∧ v.ext = a.extended ∧ v.piFirst = a.piFirst ∧ v.lbas = a.lbas ∧
      (t.ns nsid).state = .loc ∧ (t.ns nsid).owner = s.head ∧ (t.ns nsid).volume = num ∧ (t.task? slot).map (·.dword0) = some nsid)
  ∧ (∀ (s : State) (slot : Nat) (a : NsArgs) (x : Task), s.adminTask slot .nsCreate = some x → isInbound x.ctx = false → s.forwards = false → s.createOk a = false →
    ∃ t, exec (.nsCreate slot a) s = .next t ∧ Ended t slot .invalidField ∧ (∀ n, (t.ns n).state = (s.ns n).state) ∧ t.vols = s.vols)
  ∧ (∀ (s : State) (slot : Nat) (a : NsArgs) (x : Task), s.adminTask slot .nsCreate = some x → isInbound x.ctx = false → s.forwards = true → exec (.nsCreate slot a) s = .next (s.forward slot))
  ∧ (∀ (s : State) (slot : Nat) (x : Task), s.adminTask slot .nsDelete = some x → (s.ns x.cmd.nsid).state = .loc → s.nsBusy x.cmd.nsid = false →
    ∃ t v, exec (.nsDelete slot) s = .next t ∧ t.ns x.cmd.nsid = {} ∧ BatchWaits t [.volume (s.ns x.cmd.nsid).volume v 0 0] [.finish slot] ∧ v.nsid = 0 ∧
      (∀ c, x.cmd.nsid ∉ (t.ctrl c).attached))
  ∧ (∀ (s : State) (slot : Nat) (x : Task), s.adminTask slot .nsDelete = some x → (s.ns x.cmd.nsid).state = .loc → s.nsBusy x.cmd.nsid = true → exec (.nsDelete slot) s = .next (s.setTask slot { x with state := .held }))
  ∧ (∀ (s : State) (slot : Nat) (x : Task), s.adminTask slot .nsDelete = some x → (s.ns x.cmd.nsid).state = .remote → exec (.nsDelete slot) s = .next (s.forward slot))
  ∧ (∀ (s : State) (slot lid : Nat) (x : Task) (vals : List (List Nat)), s.adminTask slot .getLogPage = some x → isInbound x.ctx = false → s.logPage x.cmd.host lid = some vals →
    ∃ t, exec (.getLogPage slot lid) s = .next t ∧ .logPage x.ctx x.cmd.cid lid (if lid = 0xC0 then vals.map x.cmd.window else vals) ∈ t.outbox ∧ Ended t slot .success ∧ t.stk.changedNs = if lid = 4 then [] else s.stk.changedNs)
  ∧ (∀ (s : State) (slot : Nat) (x : Task), s.adminTask slot .identify = some x → isInbound x.ctx = false →
    ∃ t, exec (.getLogPage slot 1) s = .next t ∧ .identify x.ctx x.cmd.cid 1 Config.subsystemNqn [s.identifyCtrl (s.ctx x.ctx).cntlid] ∈ t.outbox ∧ Ended t slot .success)
  ∧ (∀ (s : State) (slot : Nat) (x : Task), s.adminTask slot .identify = some x → isInbound x.ctx = false →
    ∃ t, exec (.getLogPage slot 0) s = .next t ∧ if x.cmd.nsid ∈ (s.ctrl (s.ctx x.ctx).cntlid).attached then .identify x.ctx x.cmd.cid 0 Config.subsystemNqn [s.identifyNs x.cmd.nsid] ∈ t.outbox ∧ Ended t slot .success else Ended t slot .invalidNs)
  ∧ (∀ (s : State) (slot lid : Nat) (x : Task), s.adminTask slot .getLogPage = some x → isInbound x.ctx = false → lid ∉ [0x01, 0x02, 0x03, 0x04, 0x05, 0x09, 0x0C, 0x80, 0xC0] →
    ∃ t, exec (.getLogPage slot lid) s = .next t ∧ Ended t slot .invalidField)

/-- Channel errors, the scrap list and the watchdogs (R354, R376, R377, R382 to R384, R419). -/
def Obligations.ChannelFaults : Prop :=
  let seen (s : State) (kind index : Nat) : State := { s with flt := { s.flt with reported := s.flt.reported.filter fun r => r.chan != ⟨kind, index⟩ } }
  let counted (s : State) (kind index st : Nat) : State := ((seen s kind index).countChannel ⟨kind, index⟩).logRec (Kind.source kind) 1 .channelError st ⟨kind, index⟩
  (∀ (s : State) (kind index st gib : Nat) (kat : Bool) (tries : List Bool) (bad : List (Nat × Bytes)), index < Kind.count kind → s.isOut kind index = false → s.gly.dump = none → kind ≠ 5 →
      (kat = true ∨ s.perHour < (Tab.get ({} : Window) (counted s kind index st).flt.windows (Chan.key ⟨kind, index⟩)).count) →
    exec (.channelError kind index st kat tries gib bad) s = .next (((counted s kind index st).putOut ⟨kind, index⟩ (if kat then 2 else 0) (min (Tab.get ({} : Window) (counted s kind index st).flt.windows (Chan.key ⟨kind, index⟩)).count 255) st).retireEffect ⟨kind, index⟩ gib bad))
  ∧ (∀ (s : State) (kind index st gib k : Nat) (tries : List Bool) (bad : List (Nat × Bytes)), 7 ≤ kind → kind ≤ 11 → index < Kind.count kind → s.isOut kind index = false → s.gly.dump = none → Tab.freeKey s.flt.scrap 0 4096 = some k →
      (Tab.get ({} : Window) s.flt.windows (Chan.key ⟨kind, index⟩)).count + 1 ≤ s.perHour → 1 ≤ s.perHour → (tries.take s.retryLimit).contains true = false →
    ∃ t e, exec (.channelError kind index st false tries gib bad) s = .next t ∧ t.isOut kind index = true ∧ Tab.find t.flt.scrap k = some e ∧ e.kind = kind ∧ e.index = index ∧ e.cause = 1 ∧ e.status = st ∧ e.time = s.now ∧ e.seq = s.flt.scrapSeq + 1 ∧
      k ∈ t.flt.writing)
  ∧ (∀ (s : State) (kind index st gib : Nat) (tries : List Bool) (bad : List (Nat × Bytes)), index < Kind.count kind → s.isOut kind index = false → s.gly.dump = none →
      (Tab.get ({} : Window) s.flt.windows (Chan.key ⟨kind, index⟩)).count + 1 ≤ s.perHour → 1 ≤ s.perHour → (tries.take s.retryLimit).contains true = true →
    ∃ t, exec (.channelError kind index st false tries gib bad) s = .next t ∧ t.isOut kind index = false ∧ t.flt.scrap = s.flt.scrap ∧ (Tab.get ({} : Window) t.flt.windows (Chan.key ⟨kind, index⟩)).opened = true)
  ∧ (∀ (s : State) (kind index st gib : Nat) (kat : Bool) (tries : List Bool) (bad : List (Nat × Bytes)), index < Kind.count kind → s.isOut kind index = false → s.gly.dump ≠ none →
    exec (.channelError kind index st kat tries gib bad) s =
      .next (if kind = Kind.vault then State.vaultFigures { seen s kind index with flt := { (seen s kind index).flt with out := s.flt.out ++ [⟨kind, index⟩], atSeal := s.flt.atSeal ++ [(⟨kind, index⟩, st)] } } else seen s kind index))
  ∧ (∀ (s : State) (kind index st gib : Nat) (kat : Bool) (tries : List Bool) (bad : List (Nat × Bytes)), s.isOut kind index = true → exec (.channelError kind index st kat tries gib bad) s = .next (seen s kind index))
  ∧ (∀ (s : State) (slot : Nat) (e : ScrapEntry), Tab.find s.flt.scrap slot = some e → slot ∈ s.flt.writing →
    ∃ t a b, exec (.scrapEntryDurable slot) s = .next t ∧ t.flt.vaultA = some a ∧ t.flt.vaultB = some b ∧ Tab.find a slot = some e ∧ Tab.find b slot = some e ∧ slot ∉ t.flt.writing ∧ t.flt.scrap = s.flt.scrap ∧
      (e.kind = Kind.temper → e.index < 32 → bitOf (t.rd F.TMP_RETIRED_RETIRED) e.index = true))
  ∧ (∀ (s : State) (pkt : MgmtPkt) (b : Bytes), s.fm.mode = .recovery → s.mgmtTakes pkt = true → (leAt b 16 4 = 0 ∨ 16 < leAt b 16 4 ∨ b.length ≠ 20 + 4 * leAt b 16 4 + 104 ∨ leAt b 0 16 ≠ s.fm.hallmark.fuses.deviceId) →
    exec (.scrapClearFile pkt b) s = .next (s.send (.tftpReply false 0x0807)))
  ∧ (∀ (s : State) (pkt : MgmtPkt) (b : Bytes), s.fm.mode = .recovery → s.mgmtTakes pkt = true → 1 ≤ leAt b 16 4 → leAt b 16 4 ≤ 16 → b.length = 20 + 4 * leAt b 16 4 + 104 → leAt b 0 16 = s.fm.hallmark.fuses.deviceId →
      ((clearPairs b).all fun c => ([1, 2, 4, 6, 12] : List Nat).contains c.1) = true →
    ∃ t, exec (.scrapClearFile pkt b) s = .next t ∧ if s.signed (b.take (20 + 4 * leAt b 16 4)) (b.drop (20 + 4 * leAt b 16 4)) then
        t.outbox = s.outbox ++ [.tftpReply true 0] ∧ ∀ (tab : Tab ScrapEntry) (k : Nat) (e : ScrapEntry), s.flt.vaultA = some tab → Tab.find tab k = some e → (e.kind, e.index) ∈ clearPairs b →
          ((t.flt.vaultA.bind fun x => Tab.find x k).map (·.clear)) = some true
      else t = s.send (.tftpReply false 0x0807))
  ∧ (∀ (s : State) (pkt : MgmtPkt) (b : Bytes), (s.fm.mode ≠ .recovery ∨ s.mgmtTakes pkt = false) → exec (.scrapClearFile pkt b) s = .next s)
  ∧ (∀ (s : State) (pair : Nat), s.labMode = false → s.fm.mode ≠ .banked → (s.fm.smith.gated.contains (2 * pair) && s.fm.smith.gated.contains (2 * pair + 1)) = false →
    ∃ t, exec (.watchdogExpiry pair) s = .next t ∧ t.fm.pins.alive = false ∧ t.fm.pins.frontTx = false)
  ∧ (∀ (s : State) (pair : Nat), s.fm.mode = .banked → pair ≠ 5 → exec (.watchdogExpiry pair) s = .next s)
  ∧ (∀ (s : State) (pair : Nat), s.labMode = true → exec (.watchdogExpiry pair) s = .next s)

/-- Images: transfers, the staging lease, verification, confirmation and Recovery (R407, R409 to R412, R415, R416, R419). -/
def Obligations.ImagesAndRecovery : Prop :=
  (∀ (s : State) (source holder off : Nat) (data : Bytes) (lock : Bool), s.upd.lease = none → off ≠ 0 → s.takeTransfer source holder off data lock = (0x0809, s))
  ∧ (∀ (s : State) (source holder off : Nat) (data : Bytes) (lock : Bool) (l : Lease), s.upd.lease = some l → ¬ (l.source = source ∧ l.holder = holder) → s.takeTransfer source holder off data lock = (0x0804, s))
  ∧ (∀ (s : State) (source holder : Nat) (data : Bytes) (lock : Bool), s.upd.lease = none → (s.on F.UPD_CTRL_OWNER_LOCK || lock) = true → s.takeTransfer source holder 0 data lock = (0x0803, s))
  ∧ (∀ (s : State) (source holder : Nat) (data : Bytes), s.upd.lease = none → s.on F.UPD_CTRL_OWNER_LOCK = false → s.on F.UPD_CTRL_ENABLE = true →
      (s.takeTransfer source holder 0 data false).2.upd.lease = some ⟨source, holder, s.now⟩)
  ∧ (∀ (s : State) (source holder k n : Nat) (data : Bytes) (l : Lease), s.upd.lease = some l → l.source = source → l.holder = holder → 0 < k → k < 8191 → s.contentLen s.stagingSlot = some n → blockContent * (k + 1) ≤ n → Tab.find s.upd.parts k = none →
      data.length = 65536 → (s.slot s.stagingSlot).blocks ≠ [] →
      let r := s.takeTransfer source holder (65536 * k) data false
      (blockOk data = true → r.1 = 0 ∧ Tab.find (r.2.slot s.stagingSlot).blocks k = some data ∧ r.2.upd.lease = some ⟨source, holder, s.now⟩) ∧
      (blockOk data = false → r.1 = 0x0806 ∧ Tab.find (r.2.slot s.stagingSlot).blocks k = Tab.find (s.slot s.stagingSlot).blocks k))
  ∧ (∀ (s : State) (source holder off : Nat) (data : Bytes) (lock : Bool), s.stepWaits = false →
    exec (.imageBlockArrival source holder off data lock) s = .next ((s.takeTransfer source holder off data lock).2.updAnswer (s.takeTransfer source holder off data lock).1))
  ∧ (∀ (s : State) (pkt : MgmtPkt) (ip off : Nat) (data : Bytes) (lock : Bool), s.mgmtTakes pkt = true → s.stepWaits = false → ((s.mgmtTaken pkt).takeTransfer 1 ip off data lock).1 = 0 →
    exec (.tftpImageWrite pkt ip off data lock) s = .next ((((s.mgmtTaken pkt).takeTransfer 1 ip off data lock).2.updAnswer 0).send (.tftpReply true 0)))
  ∧ (∀ (s : State) (pkt : MgmtPkt) (ip off : Nat) (data : Bytes) (lock : Bool), s.mgmtTakes pkt = false → exec (.tftpImageWrite pkt ip off data lock) s = .next s)
  ∧ (∀ (s : State) (slot : Nat) (buf : Bytes) (lock : Bool) (x : Task), s.adminTask slot .fwDownload = some x → x.complete = true → s.stepWaits = false → isInbound x.ctx = false →
      let r := s.takeTransfer 0 (s.ctx x.ctx).cntlid ((x.cmd.ranges.headD (0, 0)).1) x.data lock
    exec (.fwImageDownload slot buf lock) s = .next ((r.2.updAnswer r.1).finish slot (if r.1 = 0 ∨ r.1 = 0x0806 then .success else .internal r.1)))
  ∧ (∀ (s : State) (m : Mctp) (eid : Nat), s.mctpTakes m 5 = true → s.upd.lease = none → s.on F.UPD_CTRL_OWNER_LOCK = false → s.on F.UPD_CTRL_ENABLE = true →
    ∃ t, exec (.pldmRequestUpdate m eid false) s = .next t ∧ t.upd.lease = some ⟨2, eid, s.now⟩ ∧ t.outbox = s.outbox ++ [.pldmReply 0 0])
  ∧ (∀ (s : State) (m : Mctp) (eid : Nat) (lock : Bool) (l : Lease), s.mctpTakes m 5 = true → s.upd.lease = some l → l.source ≠ 2 → ∃ t, exec (.pldmRequestUpdate m eid lock) s = .next t ∧ t.upd.lease = some l ∧ .pldmReply 0 0x81 ∈ t.outbox ∧ t.rd F.UPD_STATUS_STATUS = 0x0804)
  ∧ (∀ (s : State) (m : Mctp) (eid : Nat) (lock : Bool), s.mctpTakes m 5 = false → exec (.pldmRequestUpdate m eid lock) s = .next s)
  ∧ (∀ (s : State) (l : Lease), s.upd.lease = some l → l.since + 30 * 60000000000 ≤ s.now → s.upd.act = .none →
    ∃ t, exec .leaseExpiry s = .next t ∧ t.upd.lease = none ∧ t.on F.UPD_INT_STATUS_LEASE_END = true ∧ t.slot s.stagingSlot = (if (s.slot s.stagingSlot).verified then s.slot s.stagingSlot else {}))
  ∧ (∀ (s : State) (l : Lease), s.upd.lease = some l → s.now < l.since + 30 * 60000000000 → exec .leaseExpiry s = .next s)
  ∧ (∀ (s : State) (l : Lease), s.upd.lease = some l → ∃ t, exec .updReleaseCmd s = .next t ∧ t.upd.lease = none ∧ t.rd F.UPD_CMD_RESULT = 0 ∧ t.on F.UPD_INT_STATUS_LEASE_END = true)
  ∧ (∀ (s : State) (v : Bool), ∃ t, exec (.ownerLockWrite v) s = .next t ∧ t.on F.UPD_CTRL_OWNER_LOCK = v ∧ OnlyFields s t [F.UPD_CTRL_OWNER_LOCK.key])
  ∧ (∀ s : State, s.upd.stage = .verifying → s.stepWaits = false →
    ∃ t, exec .imageVerifyDone s = .next t ∧ if s.verifyImage (s.slot s.stagingSlot) (if s.paired then s.anv.join.peer.map fun h => h.version / 256 else none) = 0
      then t.upd.stage = .staged ∧ (t.slot s.stagingSlot).verified = true ∧ (t.slot s.stagingSlot).blocks = (s.slot s.stagingSlot).blocks
      else t.upd.stage = .downloading ∧ t.upd.verdict ≠ none ∧ t.slot s.stagingSlot = s.slot s.stagingSlot ∧ t.on F.UPD_INT_STATUS_REFUSED = true)
  ∧ (∀ s : State, s.onTrial = true → s.rd F.UPD_CONFIRM_MINUTES ≠ 0 → s.inMode [.paired, .solo] = true → s.upd.confirmFrom + s.rd F.UPD_CONFIRM_MINUTES * 60000000000 ≤ s.now →
    ∃ t, exec .confirmTimer s = .next t ∧ t.pointer.map (·.state) = some .confirmed ∧ t.activeSlot = s.activeSlot ∧ t.on F.UPD_INT_STATUS_CONFIRMED = true)
  ∧ (∀ s : State, s.now < s.upd.confirmFrom + s.rd F.UPD_CONFIRM_MINUTES * 60000000000 → exec .confirmTimer s = .next s)
  ∧ (∀ s : State, s.onTrial = true → ∃ t, exec .updConfirmCmd s = .next t ∧ t.rd F.UPD_CMD_RESULT = 0 ∧ t.pointer.map (·.state) = some .confirmed)
  ∧ (∀ s : State, s.onTrial = false → ∃ t, exec .updConfirmCmd s = .next t ∧ t.rd F.UPD_CMD_RESULT = 2 ∧ OnlyFields s t [F.UPD_CMD_RESULT.key])
  ∧ (∀ s : State, ∃ t, exec .updRecoveryCmd s = .next t ∧ t.upd.recoverNext = true ∧ t.rd F.UPD_CMD_RESULT = 0)
  ∧ (∀ (s : State) (pkt : MgmtPkt) (data : Bytes), s.fm.mode = .recovery → data ≠ [] → s.mgmtTakes pkt = true →
      let x : Slot := { blocks := framesOf 8192 0 data }
      let s' := (s.mgmtTaken pkt).setSlot s.stagingSlot x
      ∃ t, exec (.recoveryImage pkt data) s = .next t ∧ if s'.verifyImage x none = 0
        then ∃ p, t = (((s'.setSlot s.stagingSlot { x with verified := true }).writePointer p).reboot 4).send (.tftpReply true 0) ∧ p.active = s.stagingSlot ∧ p.state = .trial ∧ p.trials = 0 ∧ p.hashActive = manifestHash x.content
        else t.slot s.stagingSlot = {} ∧ t.rd F.UPD_STATUS_STATUS ≠ 0 ∧ t.fm.mode = .recovery)
  ∧ (∀ (s : State) (pkt : MgmtPkt), s.fm.mode = .recovery → exec (.recoveryImage pkt []) s = .next (s.recoverWith s.fm.ohm.box).2)
  ∧ (∀ (s : State) (pkt : MgmtPkt) (data : Bytes), (s.fm.mode ≠ .recovery ∨ data ≠ [] ∧ s.mgmtTakes pkt = false) → exec (.recoveryImage pkt data) s = .next s)

/-- Commits, the relay to the partner, and the head-by-head activation (R73, R413, R414, R416, R417, Table 19.4). -/
def Obligations.CommitsAndActivation : Prop :=
  let mine (s : State) (x : Task) (a n : Nat) : Prop := x.cmd.ranges = [(a, n)] ∧ isInbound x.ctx = false ∧ s.stepWaits = false ∧ s.upd.lease.map (fun l => (l.source, l.holder)) = some (0, (s.ctx x.ctx).cntlid)
  (∀ (s : State) (slot n : Nat) (x : Task) (pm lock : Bool), s.adminTask slot .fwCommit = some x → mine s x 0 n → s.upd.stage = .staged → s.upd.partnerStaged = true →
    ∃ t, exec (.fwCommitStage slot pm lock) s = .next t ∧ Ended t slot .success ∧ t.rd F.UPD_STATUS_STATUS = 0)
  ∧ (∀ (s : State) (slot n : Nat) (x : Task) (pm lock : Bool), s.adminTask slot .fwCommit = some x → mine s x 0 n → s.upd.stage = .staged → s.upd.partnerStaged = false → s.upd.fail = none → s.upd.relay = none → s.paired = true →
    ∃ t r, exec (.fwCommitStage slot pm lock) s = .next t ∧ (t.task? slot).map (·.state) = some .held ∧ t.upd.stage = .relaying ∧ t.upd.relay = some r ∧ r.cmds = (s.slot s.stagingSlot).relayCmds)
  ∧ (∀ (s : State) (slot n : Nat) (x : Task) (p : Pointer) (pm : Bool), s.adminTask slot .fwCommit = some x → mine s x 1 n → s.upd.stage = .staged → s.upd.partnerStaged = true → s.on F.UPD_CTRL_OWNER_LOCK = false → s.paired = true →
      s.upd.fail = none → s.upd.relayed = some 1 → s.pointer = some p →
    ∃ t q, exec (.fwCommitStageActivate slot pm false) s = .next t ∧ Ended t slot .success ∧ t.pointer = some q ∧ q.state = .pending ∧ q.pendingSlot = s.stagingSlot ∧ q.active = p.active ∧ q.seq = p.seq + 1)
  ∧ (∀ (s : State) (slot n : Nat) (x : Task) (p : Pointer) (pm : Bool), s.adminTask slot .fwCommit = some x → mine s x 2 n → s.on F.UPD_CTRL_OWNER_LOCK = false → s.paired = true → s.upd.fail = none → s.upd.relayed = some 2 →
      s.pointer = some p → (n == 2) ≠ p.active → (s.slot (n == 2)).verified = true →
    ∃ t q, exec (.fwCommitActivateSlot slot pm false) s = .next t ∧ Ended t slot .success ∧ t.pointer = some q ∧ q.state = .pending ∧ q.pendingSlot = (n == 2) ∧ q.active = p.active)
  ∧ (∀ (s : State) (slot n : Nat) (x : Task) (pm : Bool), s.adminTask slot .fwCommit = some x → mine s x 2 n → s.on F.UPD_CTRL_OWNER_LOCK = false → (n == 2) ≠ s.activeSlot → (s.slot (n == 2)).verified = false →
    ∃ t, exec (.fwCommitActivateSlot slot pm false) s = .next t ∧ Ended t slot (.internal 0x0807) ∧ t.rd F.UPD_STATUS_STATUS = 0x0807 ∧ t.on F.UPD_INT_STATUS_REFUSED = true)
  ∧ (∀ (s : State) (slot n : Nat) (x : Task) (pm lock : Bool), s.adminTask slot .fwCommit = some x → mine s x 3 n → s.upd.act ≠ .none →
    ∃ t, exec (.fwCommitActivateNow slot pm lock) s = .next t ∧ Ended t slot .success)
  ∧ (∀ (s : State) (slot n : Nat) (x : Task) (pm lock : Bool), s.adminTask slot .fwCommit = some x → mine s x 3 n → s.upd.act = .none → s.upd.want = false → s.upd.fail = none → s.hasStaged = true → s.actCheck pm lock = 0 →
    ∃ t r, exec (.fwCommitActivateNow slot pm lock) s = .next t ∧ (t.task? slot).map (·.state) = some .held ∧ t.upd.want = true ∧ t.upd.relay = some r ∧ r.cmds = [.compare])
  ∧ (∀ (s : State) (slot n : Nat) (x : Task) (pm lock : Bool), s.adminTask slot .fwCommit = some x → mine s x 3 n → s.upd.act = .none → s.upd.want = false → s.upd.fail = none → s.hasStaged = true → s.actCheck pm lock ≠ 0 →
    ∃ t, exec (.fwCommitActivateNow slot pm lock) s = .next t ∧ Ended t slot (.internal (s.actCheck pm lock)))
  ∧ (∀ (s : State) (pkt : MgmtPkt) (ip : Nat) (pm lock : Bool) (l : Lease), s.mgmtTakes pkt = true → s.stepWaits = false → s.upd.lease = some l → l.source = 1 → l.holder = ip → s.upd.stage = .staged → s.upd.partnerStaged = true →
    exec (.tftpCommitWrite pkt ip 0 pm lock) s = .next (((s.mgmtTaken pkt).wr F.UPD_STATUS_STATUS 0).send (.tftpReply true 0)))
  ∧ (∀ (s : State) (pkt : MgmtPkt) (ip a : Nat) (pm lock : Bool), s.mgmtTakes pkt = false → exec (.tftpCommitWrite pkt ip a pm lock) s = .next s)
  ∧ (∀ (s : State) (m : Mctp) (eid : Nat) (pm lock : Bool) (l : Lease), s.mctpTakes m 5 = true → s.stepWaits = false → s.upd.lease = some l → l.source = 2 → l.holder = eid → s.hasStaged = true → s.actCheck pm lock = 0 →
    ∃ t, exec (.pldmActivateFirmware m eid pm lock) s = .next t ∧ t.upd.want = true ∧ .pldmReply 2 0 ∈ t.outbox)
  ∧ (∀ (s : State) (m : Mctp) (eid : Nat) (pm lock : Bool) (l : Lease), s.mctpTakes m 5 = true → s.stepWaits = false → s.upd.lease = some l → l.source = 2 → l.holder = eid → s.hasStaged = true → s.actCheck pm lock ≠ 0 →
    ∃ t, exec (.pldmActivateFirmware m eid pm lock) s = .next t ∧ t.upd = s.upd ∧ .pldmReply 2 1 ∈ t.outbox ∧ t.on F.UPD_INT_STATUS_REFUSED = true)
  ∧ (∀ s : State, s.hasStaged = true → s.upd.relay = none → s.upd.lease ≠ none → s.paired = true → s.stepWaits = false →
    ∃ t r, exec .imageRelay s = .next t ∧ t.upd.stage = .relaying ∧ t.upd.relay = some r ∧ r.fromB = s.stagingSlot ∧ r.cmds = (s.slot s.stagingSlot).relayCmds)
  ∧ (∀ (s : State) (slot : Nat) (x : Task), s.adminTask slot .updateCompare = some x → isInbound x.ctx = false → ∃ t, exec (.updateCompare slot) s = .next t ∧ Ended t slot .invalidOpcode)
  ∧ (∀ (s : State) (slot : Nat) (x : Task), s.adminTask slot .updateCompare = some x → isInbound x.ctx = true → x.complete = true →
    exec (.updateCompare slot) s = .next ((s.modTask slot fun t => { t with dword0 := bit (s.hasStaged && x.data == manifestHash (s.slot s.stagingSlot).content) + 2 * bit (x.data == manifestHash (s.slot s.activeSlot).content) }).finish slot .success))
  ∧ (∀ s : State, s.stepWaits = false → s.paired = true → s.upd.relay = none →
    ∃ t r, exec .updRelayCmd s = .next t ∧ t.rd F.UPD_CMD_RESULT = 0 ∧ t.upd.relay = some r ∧ r.fromB = s.activeSlot ∧ r.cmds = (s.slot s.activeSlot).relayCmds)
  ∧ (∀ s : State, s.stepWaits = false → s.paired = false → ∃ t, exec .updRelayCmd s = .next t ∧ t.rd F.UPD_CMD_RESULT = 1 ∧ t.rd F.UPD_STATUS_STATUS = 0x0805 ∧ t.upd = s.upd)
  ∧ (∀ (s : State) (pm lock : Bool), s.stepWaits = false → s.hasStaged = true → s.actCheck pm lock = 0 → ∃ t, exec (.updActivateCmd pm lock) s = .next t ∧ t.rd F.UPD_CMD_RESULT = 0 ∧ t.upd.want = true)
  ∧ (∀ (s : State) (pm lock : Bool), s.stepWaits = false → s.hasStaged = true → s.actCheck pm lock ≠ 0 → ∃ t, exec (.updActivateCmd pm lock) s = .next t ∧ t.rd F.UPD_CMD_RESULT = 1 ∧ t.rd F.UPD_STATUS_STATUS = s.actCheck pm lock ∧ t.upd = s.upd)
  ∧ (∀ (s : State) (pm lock : Bool), s.stepWaits = false → s.hasStaged = false → ∃ t, exec (.updActivateCmd pm lock) s = .next t ∧ t.rd F.UPD_CMD_RESULT = 3 ∧ t.upd = s.upd)
  ∧ (∀ (s : State) (pm lock same : Bool), s.upd.want = true → s.upd.relay = none → s.stepWaits = false → s.upd.compared = some (true, same) → s.actCheck pm lock = 0 →
    ∃ t r, exec (.activationStart pm lock) s = .next t ∧ t.upd.want = false ∧ t.upd.act = .peerFirst ∧ t.upd.initiator = true ∧ t.upd.stage = .activating ∧ t.upd.relay = some r ∧ r.cmds = [.commit 3 0] ∧
      (∀ c ∈ s.hostCtrls, .asyncEvent c .fwActivation ∈ t.outbox))
  ∧ (∀ (s : State) (pm lock same : Bool), s.upd.want = true → s.upd.relay = none → s.stepWaits = false → s.upd.compared = some (false, same) → s.upd.fail = none →
    ∃ t, exec (.activationStart pm lock) s = .next t ∧ t.upd.want = false ∧ t.upd.act = s.upd.act ∧ t.rd F.UPD_STATUS_STATUS = 0x0804 ∧ t.on F.UPD_INT_STATUS_REFUSED = true)
  ∧ (∀ s : State, s.pwr.entry = some .activation → s.handedOver = true →
    ∃ t p, exec .activationHeadReset s = .next t ∧ p.active = s.stagingSlot ∧ p.state = .trial ∧ p.hashActive = manifestHash (s.slot s.stagingSlot).content ∧
      (let r := ((({ s.parkNow with upd := { s.parkNow.upd with stage := .idle } } : State).writePointer p).reboot 4); t = if r.fm.mode = .forming then
        { r with upd := { r.upd with lease := s.upd.lease, act := .returning, initiator := s.upd.initiator, moved := !s.pwr.bankList.isEmpty } } else r))
  ∧ (∀ s : State, s.handedOver = false → exec .activationHeadReset s = .next s)
  ∧ (∀ (s : State) (pm lock same : Bool), s.upd.initiator = true → s.upd.act = .peerFirst → s.upd.relay = none → s.fm.mode = .paired → s.anv.handback = none → s.anv.taken = [] → s.stepWaits = false → s.upd.formeOnly = false →
      s.upd.compared = some (same, true) → s.actCheck pm lock = 0 → s.onlyForme = false →
    ∃ t, exec (.activationNextHead pm lock) s = .next t ∧ t.upd.act = .mySteps ∧ t.fm.mode = .activation)
  ∧ (∀ (s : State) (pm lock same : Bool), s.upd.initiator = true → s.upd.act = .peerFirst → s.upd.relay = none → s.fm.mode = .paired → s.anv.handback = none → s.anv.taken = [] → s.stepWaits = false → s.upd.formeOnly = false →
      s.upd.compared = some (same, true) → s.actCheck pm lock ≠ 0 →
    ∃ t, exec (.activationNextHead pm lock) s = .next t ∧ t.upd.act = .waitingSecond ∧ t.upd.stage = .waiting ∧ t.upd.waitFrom = s.now ∧ t.fm = s.fm)
  ∧ (∀ (s : State) (pm lock same : Bool), s.upd.initiator = true → s.upd.act = .peerFirst → s.upd.relay = none → s.fm.mode = .paired → s.anv.handback = none → s.anv.taken = [] → s.stepWaits = false → s.upd.formeOnly = false →
      s.upd.compared = some (same, false) →
    ∃ t, exec (.activationNextHead pm lock) s = .next t ∧ t.upd.act = .none ∧ t.on F.UPD_INT_STATUS_MISMATCH = true ∧ t.upd.lease = none)
  ∧ (∀ s : State, s.upd.act = .waitingSecond → s.upd.waitFrom + 24 * 3600000000000 ≤ s.now → ∃ t, exec .activationWaitAlarm s = .next t ∧ t.on F.FOR_INT_STATUS_ALARM = true ∧ t.upd = s.upd)
  ∧ (∀ s : State, s.now < s.upd.waitFrom + 24 * 3600000000000 → exec .activationWaitAlarm s = .next s)

/-- Volume families (R323, R326 to R330, Tables 15.2 and 15.3): snapshots, clones and deletion walks. -/
def Obligations.FamilyCommands : Prop :=
  (∀ (s : State) (n num : Nat) (v : Volume), SteReady s → s.rd F.STE_ARG0_ARG % 2 ^ 24 = n → Tab.find s.vols n = some v → s.familyHome v = some true → v.state = .live → v.snapshot = false → v.nsid ≠ 0 → s.familyFull v.family = none →
      s.freeVolume = some num →
    ∃ t st, exec .steSnapshot s = .next t ∧ st = (s.rd F.CHS_LAST_STAMP_STAMP + 1) ∧ t.rd F.CHS_LAST_STAMP_STAMP = st % F.CHS_LAST_STAMP_STAMP.span ∧ t.on F.STE_CMD_BUSY = true ∧
      { volume := num, source := n, nsid := v.nsid, stamp := st, why := .cmd } ∈ t.ste.snaps)
  ∧ (∀ (s : State) (n : Nat), SteReady s → s.rd F.STE_ARG0_ARG % 2 ^ 24 = n → Tab.find s.vols n = none → (s.familyHome {}) = some true →
    (∃ t, exec .steSnapshot s = .next t ∧ SteEnds t 3 0 ∧ t.vols = s.vols) ∧ (∃ t, exec .steClone s = .next t ∧ SteEnds t 3 0 ∧ t.vols = s.vols) ∧ (∃ t, exec .steDelete s = .next t ∧ SteEnds t 3 0 ∧ t.vols = s.vols))
  ∧ (∀ (s : State) (v : Volume), SteReady s → Tab.find s.vols (s.rd F.STE_ARG0_ARG % 2 ^ 24) = some v → s.familyHome v = some true → v.state = .live → v.snapshot = false → v.nsid ≠ 0 → s.familyFull v.family = some 1 →
    ∃ t, exec .steSnapshot s = .next t ∧ SteEnds t 1 0 ∧ t.ste.snaps = s.ste.snaps)
  ∧ (∀ (s : State) (num nsid : Nat) (v : Volume), SteReady s → Tab.find s.vols (s.rd F.STE_ARG0_ARG % 2 ^ 24) = some v → s.familyHome v = some true → v.state = .live → v.snapshot = true → s.familyFull v.family = none → s.freeVolume = some num →
      bits (s.rd F.STE_ARG0_ARG) 39 24 = nsid → 0 < nsid → nsid ≤ 16384 → (s.ns nsid).state = .unused →
    ∃ t c, exec .steClone s = .next t ∧ BatchWaits t [.volume num c 0 0] [.family none num] ∧ c.nsid = nsid ∧ c.snapshot = false ∧ c.parent = s.rd F.STE_ARG0_ARG % 2 ^ 24 ∧ c.holder = s.head ∧ c.map = v.map ∧ c.pages = v.pages ∧ c.family = v.family ∧
      (t.ns nsid).state = .loc ∧ (t.ns nsid).volume = num ∧ t.on F.STE_CMD_BUSY = true)
  ∧ (∀ (s : State) (v : Volume), SteReady s → Tab.find s.vols (s.rd F.STE_ARG0_ARG % 2 ^ 24) = some v → s.familyHome v = some true → v.state = .live → v.nsid = 0 →
    ∃ t, exec .steDelete s = .next t ∧ BatchWaits t [.volume (s.rd F.STE_ARG0_ARG % 2 ^ 24) { v with state := .deleting } 0 0] [.family none 0] ∧ s.rd F.STE_ARG0_ARG % 2 ^ 24 ∈ t.ste.walks)
  ∧ (∀ (s : State) (v : Volume), SteReady s → Tab.find s.vols (s.rd F.STE_ARG0_ARG % 2 ^ 24) = some v → s.familyHome v = some true → v.nsid ≠ 0 → ∃ t, exec .steDelete s = .next t ∧ SteEnds t 3 0 ∧ t.vols = s.vols)
  ∧ (∀ s : State, s.on F.STE_CTRL_ENABLE = false → exec .steSnapshot s = .next s ∧ exec .steClone s = .next s ∧ exec .steDelete s = .next s)
  ∧ (∀ (s : State) (w : SnapWait) (e q : Nat), s.ste.snaps.find? (fun x => x.volume == w.volume) = some w → w.seqEnd = some e → w.record = some q → q ≤ s.rd F.HTH_JOURNAL_SEQ → w.why = .cmd →
    ∃ t, exec (.snapshotComplete w.volume) s = .next t ∧ SteEnds t 0 (w.volume % F.STE_ARG1_RESULT.span) ∧ ∀ x ∈ t.ste.snaps, x.volume ≠ w.volume)
  ∧ (∀ (s : State) (w : SnapWait), s.ste.snaps = [w] → w.seqEnd = none → w.record = none → s.snapQuiet w = true → s.hth.journal.flush = none → s.hth.journal.ckpt.seqEnd < s.rd F.HTH_JOURNAL_SEQ →
    ∃ t, exec (.snapshotComplete w.volume) s = .next t ∧ t.ste.snaps = [{ w with seqEnd := some (s.rd F.HTH_JOURNAL_SEQ) }])
  ∧ (∀ (s : State) (vol : Nat), s.ste.snaps.find? (fun x => x.volume == vol) = none → exec (.snapshotComplete vol) s = .next s)
  ∧ (∀ (s : State) (n lo id : Nat) (v : Volume) (rest : List (Nat × Nat)), Tab.find s.vols n = some v → v.state = .deleting → n ∈ s.ste.walks → s.on F.STE_CTRL_DELETE_PAUSE = false → v.pages = (lo, id) :: rest →
    ∃ t, exec (.deleteWalkBatch n) s = .next t ∧ (Tab.get {} t.vols n).pages = rest ∧ (Tab.get {} t.vols n).walk = v.walk + 1 ∧ t.ste.walks = s.ste.walks)
  ∧ (∀ (s : State) (n : Nat) (v : Volume), Tab.find s.vols n = some v → v.state = .deleting → n ∈ s.ste.walks → s.on F.STE_CTRL_DELETE_PAUSE = false → v.pages = [] →
    ∃ t, exec (.deleteWalkBatch n) s = .next t ∧ BatchWaits t [.volume n { v with state := .free } 0 0] [] ∧ n ∉ t.ste.walks ∧ t.on F.STE_INT_STATUS_DELETE_DONE = true ∧ t.hth.audit ≠ none)
  ∧ (∀ (s : State) (n : Nat), s.on F.STE_CTRL_DELETE_PAUSE = true → exec (.deleteWalkBatch n) s = .next s)
  ∧ (∀ (s : State) (v : Bool), ∃ t, exec (.deletePauseWrite v) s = .next t ∧ t.on F.STE_CTRL_DELETE_PAUSE = v ∧ OnlyFields s t [F.STE_CTRL_DELETE_PAUSE.key])

/-- Replication sessions (R331 to R335, R338 to R340): opening, keying, closing, loss and the timers of a synchronous session. -/
def Obligations.ReplicationSessions : Prop :=
  (∀ (s : State) (desc : Bytes), SteReady s → sessOf desc = none → ∃ t, exec (.steOpenSession desc) s = .next t ∧ SteEnds t 7 0 ∧ t.ste = s.ste)
  ∧ (∀ (s : State) (desc : Bytes) (e : Session) (k num : Nat), SteReady s → sessOf desc = some e → Tab.freeKey s.ste.sessions 0 16 = some k → s.sessRefusal e = none → s.freeVolume = some num → e.isTarget = true → e.volume ≠ 0 →
    ∃ t, exec (.steOpenSession desc) s = .next t ∧ SteEnds t 0 (k % F.STE_ARG1_RESULT.span) ∧ (t.sess k).isTarget = true ∧ (t.sess k).volume = e.volume ∧ (t.sess k).peerId = e.peerId ∧ (t.sess k).state = e.state)
  ∧ (∀ (s : State) (desc : Bytes) (e : Session) (k num : Nat), SteReady s → sessOf desc = some e → Tab.freeKey s.ste.sessions 0 16 = some k → s.sessRefusal e = none → s.freeVolume = some num → e.isTarget = false →
    ∃ t, exec (.steOpenSession desc) s = .next t ∧ t.ste.opening = some k ∧ t.on F.STE_CMD_BUSY = true ∧ (t.sess k).state = .connecting ∧ (t.sess k).link = true ∧ (t.sess k).keyed = false ∧ (t.sess k).version = 0x0100 ∧ (t.sess k).volume = e.volume)
  ∧ (∀ (s : State) (desc : Bytes) (e : Session), SteReady s → sessOf desc = some e → Tab.freeKey s.ste.sessions 0 16 = none → ∃ t, exec (.steOpenSession desc) s = .next t ∧ SteEnds t 5 0 ∧ t.ste = s.ste)
  ∧ (∀ (s : State) (n : Nat) (v : Volume), SteReady s → s.rd F.STE_ARG0_ARG % 2 ^ 24 = n → Tab.find s.vols n = some v → v.state = .live → v.snapshot = true → (s.sess s.selSess).state = .idle → (s.sess s.selSess).isTarget = false → (s.sess s.selSess).sync = false →
      (s.sess s.selSess).delta = none → v.family = (Tab.get {} s.vols (s.sess s.selSess).volume).family →
    ∃ t d, exec .steStartDelta s = .next t ∧ SteEnds t 0 0 ∧ (t.sess s.selSess).delta = some d ∧ d.new = n ∧ d.id = (s.sess s.selSess).nextDelta + 1 ∧ d.base = (s.sess s.selSess).base.1 ∧ d.peerBase = (s.sess s.selSess).base.2)
  ∧ (∀ s : State, SteReady s → (s.sess s.selSess).state ≠ .idle → ∃ t, exec .steStartDelta s = .next t ∧ SteEnds t 3 0 ∧ t.ste = s.ste)
  ∧ (∀ s : State, SteReady s → (s.sess s.selSess).state ≠ .free → ∃ t, exec .steCloseSession s = .next t ∧ SteEnds t 0 0 ∧ t.sess s.selSess = {})
  ∧ (∀ s : State, SteReady s → (s.sess s.selSess).state = .free → ∃ t, exec .steCloseSession s = .next t ∧ SteEnds t 3 0 ∧ t.ste = s.ste)
  ∧ (∀ s : State, SteReady s → (s.sess s.selSess).sync = true → (s.sess s.selSess).isTarget = false → (s.sess s.selSess).state ≠ .free →
    ∃ t, exec .steBreakSync s = .next t ∧ SteEnds t 0 0 ∧ (t.sess s.selSess).state = .broken ∧ (t.sess s.selSess).out = [] ∧ t.on F.STE_INT_STATUS_SYNC_BROKEN = true)
  ∧ (∀ s : State, SteReady s → (s.sess s.selSess).sync = false → ∃ t, exec .steBreakSync s = .next t ∧ SteEnds t 3 0 ∧ t.ste = s.ste)
  ∧ (∀ (s : State) (k : Nat) (rec key : Bytes) (h : Hello), helloOf .hello rec = some h → (s.sess k).state ≠ .free → (s.sess k).isTarget = true → (s.sess k).id ≠ 0 → h.realm = (s.sess k).realm → (replHead rec).session = (s.sess k).id →
      s.replVersion h.version = some 0x0100 →
    ∃ t, exec (.replHello k rec key) s = .next t ∧ (t.sess k).keyed = false ∧ if helloTrusted (s.sess k) h key
      then (t.sess k).state = .keying ∧ (t.sess k).link = true ∧ (t.sess k).peerNonce = h.nonce ∧ (t.sess k).version = 0x0100 ∧ (t.sess k).seqIn = 0 ∧ (t.sess k).seqOut = 0
      else t.on F.FOR_INT_STATUS_ALARM = true ∧ (s.ste.opening ≠ some k → (t.sess k).link = false))
  ∧ (∀ (s : State) (k : Nat) (rec key : Bytes) (h : Hello), helloOf .helloAck rec = some h → (s.sess k).state ≠ .free → (s.sess k).isTarget = false → (s.sess k).link = true → (s.sess k).keyed = false → (replHead rec).session ≠ 0 →
      ((s.sess k).id = 0 ∨ (s.sess k).id = (replHead rec).session) → s.replVersion h.version = some 0x0100 →
    ∃ t, exec (.replHelloAck k rec key) s = .next t ∧ if helloTrusted (s.sess k) h key
      then (t.sess k).id = (replHead rec).session ∧ (t.sess k).keyed = true ∧ (t.sess k).peerNonce = h.nonce ∧ t.on F.STE_INT_STATUS_SESSION_UP = true else t.on F.FOR_INT_STATUS_ALARM = true)
  ∧ (∀ (s : State) (k : Nat) (rec b : Bytes), clearBody .keys rec = some b → b.length = 123 → (s.sess k).state ≠ .free → (s.sess k).isTarget = true → (s.sess k).link = true → (s.sess k).keyed = false → (replHead rec).session = (s.sess k).id →
    ∃ t, exec (.replKeys k rec) s = .next t ∧ (t.sess k).keyed = true ∧ t.on F.STE_INT_STATUS_SESSION_UP = true)
  ∧ (∀ (s : State) (k : Nat) (rec : Bytes), ∃ t, exec (.replClose k rec) s = .next t ∧ SealedRow s k .close rec t fun _ _ => t.sess k = {} ∧ t.on F.STE_INT_STATUS_SESSION_DOWN = true)
  ∧ (∀ (s : State) (k : Nat) (rec : Bytes), (s.sess k).state ≠ .free → (s.sess k).keyed = true → ∃ t, exec (.replError k rec) s = .next t ∧ SealedRow s k .error rec t fun _ u => t = u.replDown k true)
  ∧ (∀ (s : State) (k : Nat) (rec b : Bytes), (s.sess k).state ≠ .free → (s.sess k).keyed = false → clearBody .error rec = some b → s.ste.opening = some k →
    ∃ t, exec (.replError k rec) s = .next t ∧ t.sess k = {} ∧ t.ste.opening = none ∧ t.rd F.STE_CMD_RESULT = 6)
  ∧ (∀ (s : State) (k : Nat), (s.sess k).state = .free → ∀ rec, exec (.replError k rec) s = .next s ∧ exec (.replConnectionLoss k) s = .next s)
  ∧ (∀ (s : State) (k : Nat), (s.sess k).state ≠ .free → (s.sess k).isTarget = true → ∃ t, exec (.replConnectionLoss k) s = .next t ∧ (t.sess k).link = false ∧ (t.sess k).keyed = false ∧ t.on F.STE_INT_STATUS_SESSION_DOWN = true)
  ∧ (∀ (s : State) (k : Nat), (s.sess k).state = .inSync → (s.sess k).isTarget = false → (s.sess k).sync = true → (s.sess k).strict = true →
    ∃ t, exec (.replConnectionLoss k) s = .next t ∧ (t.sess k).state = .held ∧ (t.sess k).keyed = false ∧ (t.sess k).out.map (·.stamp) = (s.sess k).out.map (·.stamp))
  ∧ (∀ (s : State) (k : Nat), (s.sess k).state = .inSync → (s.sess k).isTarget = false → (s.sess k).sync = true → (s.sess k).strict = false →
    ∃ t, exec (.replConnectionLoss k) s = .next t ∧ (t.sess k).state = .broken ∧ (t.sess k).out = [] ∧ t.on F.STE_INT_STATUS_SYNC_BROKEN = true)
  ∧ (∀ (s : State) (k num : Nat), (s.sess k).sync = true → (s.sess k).isTarget = false → (s.sess k).state = .inSync → (s.sess k).lastMark + 600000000000 ≤ s.now → s.familyFull (Tab.get {} s.vols (s.sess k).volume).family = none → s.freeVolume = some num →
    ∃ t w, exec (.syncMarkTimer k) s = .next t ∧ (t.sess k).lastMark = s.now ∧ (t.sess k).nextDelta = (s.sess k).nextDelta + 1 ∧ w ∈ t.ste.snaps ∧ w.volume = num ∧ w.source = (s.sess k).volume ∧ w.why = .mark k ((s.sess k).nextDelta + 1))
  ∧ (∀ (s : State) (k : Nat), s.now < (s.sess k).lastMark + 600000000000 → exec (.syncMarkTimer k) s = .next s)
  ∧ (∀ (s : State) (k : Nat) (o : SyncOut), (s.sess k).sync = true → (s.sess k).isTarget = false → (s.sess k).state = .inSync → o ∈ (s.sess k).out → o.mark = none → o.sentAt + (s.sess k).timeoutMs * 1000000 ≤ s.now → (s.sess k).strict = false →
    ∃ t, exec (.syncTimeout k) s = .next t ∧ (t.sess k).state = .broken ∧ t.on F.STE_INT_STATUS_SYNC_BROKEN = true)
  ∧ (∀ (s : State) (k : Nat) (o : SyncOut), (s.sess k).sync = true → (s.sess k).isTarget = false → (s.sess k).state = .inSync → o ∈ (s.sess k).out → o.mark = none → o.sentAt + (s.sess k).timeoutMs * 1000000 ≤ s.now → (s.sess k).strict = true →
      s.keyPending (s.sess k).realm = false → ∃ t, exec (.syncTimeout k) s = .next t ∧ (t.sess k).state = .held ∧ t.stk = s.stk)
  ∧ (∀ (s : State) (k : Nat), (s.sess k).out = [] → exec (.syncTimeout k) s = .next s)

/-- The sealed records of replication (R334 to R338, R341, Table 15.6). -/
def Obligations.ReplicationRecords : Prop :=
  (∀ (s : State) (k : Nat) (rec : Bytes), ∃ t, exec (.replDeltaBegin k rec) s = .next t ∧ SealedRow s k .deltaBegin rec t fun b u => (s.sess k).isTarget = true → b.length = 20 → (s.sess k).delta = none → leAt b 12 4 = 0 → Tab.find s.vols 0 = none →
      (t.sess k).state = .delta ∧ (t.sess k).delta = some { id := leAt b 0 8, base := 0, peerBase := leAt b 8 4, new := leAt b 16 4 } ∧ (Tab.get {} t.vols (u.sess k).volume).map = [])
  ∧ (∀ (s : State) (k : Nat) (rec : Bytes), ∃ t, exec (.replDeltaBegin k rec) s = .next t ∧ SealedRow s k .deltaBegin rec t fun b u => (s.sess k).isTarget = true → b.length = 20 → (s.sess k).delta = none → leAt b 12 4 ≠ 0 → Tab.find s.vols (leAt b 12 4) = none →
      t = u.replError k 5 true)
  ∧ (∀ (s : State) (k : Nat) (rec : Bytes), ∃ t, exec (.replExtents k rec) s = .next t ∧ SealedRow s k .extents rec t fun b _ => ∀ d, (s.sess k).isTarget = true → (s.sess k).delta = some d →
      (t.sess k).delta = some { d with exts := extsOf b, digests := [], have_ := [], grains := [], bodies := b, pieces := [], ready := none })
  ∧ (∀ (s : State) (k : Nat) (rec : Bytes), ∃ t, exec (.replFpList k rec) s = .next t ∧ SealedRow s k .fpList rec t fun b _ => ∀ d, (s.sess k).isTarget = true → (s.sess k).delta = some d →
      ∃ f, (t.sess k).delta = some f ∧ f.digests = chunksOf 32 b ∧ f.have_.length = (chunksOf 32 b).length ∧ f.bodies = d.bodies ++ b ∧ f.exts = d.exts)
  ∧ (∀ (s : State) (k : Nat) (rec : Bytes), ∃ t, exec (.replHave k rec) s = .next t ∧ SealedRow s k .have rec t fun _ _ => ∀ d, (s.sess k).isTarget = false → (s.sess k).delta = some d → d.exts ≠ [] → d.have_ = [] →
      ∃ f, (t.sess k).delta = some f ∧ f.have_ ≠ [] ∧ f.exts = d.exts ∧ f.segment = d.segment ∧ d.bodies.length ≤ f.bodies.length)
  ∧ (∀ (s : State) (k : Nat) (rec : Bytes), ∃ t, exec (.replGrains k rec) s = .next t ∧ SealedRow s k .grains rec t fun b _ => ∀ d, (s.sess k).isTarget = true → (s.sess k).delta = some d →
      (t.sess k).delta = some { d with grains := d.grains ++ grainEntries b.length b, bodies := d.bodies ++ b })
  ∧ (∀ (s : State) (k : Nat) (rec : Bytes), ∃ t, exec (.replSegmentEnd k rec) s = .next t ∧ SealedRow s k .segmentEnd rec t fun b u => (s.inGuard = true → t.ste.guarded = u.ste.guarded ++ [⟨.segmentEnd, k, (u.sess k).seqIn, b⟩]) ∧ ∀ d, GuardFree s k → (s.sess k).isTarget = true → (s.sess k).delta = some d →
      if slice b 12 48 = u.segmentDigest (s.sess k).realm d.bodies ∧ (u.segmentGrains (s.sess k).realm d).isSome then (t.sess k).segment = leAt b 0 4 ∨ (t.sess k).delta.bind (·.ready) = some (leAt b 0 4)
      else t.on F.STE_INT_STATUS_SEGMENT_RESEND = true ∧ (t.sess k).delta.map (·.exts) = some [])
  ∧ (∀ (s : State) (k : Nat) (rec : Bytes), ∃ t, exec (.replSegmentAck k rec) s = .next t ∧ SealedRow s k .segmentAck rec t fun b _ => ∀ d, (s.sess k).isTarget = false → (s.sess k).delta = some d → leAt b 0 4 = d.segment → d.exts ≠ [] →
      if byteAt b 4 = 0 then (t.sess k).segment = d.segment else t.on F.STE_INT_STATUS_SEGMENT_RESEND = true ∧ (t.sess k).segment = (s.sess k).segment)
  ∧ (∀ (s : State) (k num : Nat) (rec : Bytes), ∃ t, exec (.replDeltaEnd k rec) s = .next t ∧ SealedRow s k .deltaEnd rec t fun b u => (s.inGuard = true → t.ste.guarded = u.ste.guarded ++ [⟨.deltaEnd, k, (u.sess k).seqIn, b⟩]) ∧ ∀ d, GuardFree s k → (s.sess k).isTarget = true → (s.sess k).delta = some d → d.id = leAt b 0 8 → s.ste.snaps = [] →
      s.familyFull (Tab.get {} s.vols (s.sess k).volume).family = none → s.freeVolume = some num → ∃ w, t.ste.snaps = [w] ∧ w.volume = num ∧ w.source = (s.sess k).volume ∧ w.why = .ack k (leAt b 0 8))
  ∧ (∀ (s : State) (k : Nat) (rec : Bytes), ∃ t, exec (.replDeltaAck k rec) s = .next t ∧ SealedRow s k .deltaAck rec t fun b _ => ∀ d, (s.sess k).isTarget = false → (s.sess k).sync = false → (s.sess k).out = [] → (s.sess k).delta = some d → d.id = leAt b 0 8 →
      (t.sess k).base = (d.new, leAt b 8 4) ∧ (t.sess k).delta = none ∧ (t.sess k).state = .idle ∧ t.on F.STE_INT_STATUS_DELTA_DONE = true)
  ∧ (∀ (s : State) (k : Nat) (rec : Bytes), ∃ t, exec (.replWrite k rec) s = .next t ∧ SealedRow s k .write rec t fun b u => (s.inGuard = true → t.ste.guarded = u.ste.guarded ++ [⟨.write, k, (u.sess k).seqIn, b⟩] ∧ t.gly.own = u.gly.own) ∧ (GuardFree s k → (s.sess k).isTarget = true →
      (byteAt b 13 ≠ 1 → (t.sess k).parts = (s.sess k).parts ++ [b.drop 14] ∧ t.gly = s.gly) ∧
      (byteAt b 13 = 1 → (t.sess k).parts = [] ∧ ∀ d, u.freeDesc = some d → t.rd F.CHS_LAST_STAMP_STAMP = (s.rd F.CHS_LAST_STAMP_STAMP + 1) % F.CHS_LAST_STAMP_STAMP.span ∧
        ∃ p, Tab.find t.gly.own d = some p ∧ p.slba = leAt b 0 8 ∧ p.nlb = leAt b 8 4 ∧ p.volume = (s.sess k).volume ∧ p.stamp = s.rd F.CHS_LAST_STAMP_STAMP + 1)))
  ∧ (∀ (s : State) (k : Nat) (rec : Bytes), ∃ t, exec (.replWriteAck k rec) s = .next t ∧ SealedRow s k .writeAck rec t fun b _ => (s.sess k).isTarget = false →
      ∀ o ∈ (s.sess k).out, o.mark = none → o.seq ≠ 0 → o.seq ≤ leAt b 0 8 → ∀ x ∈ t.stk.slots, (k, o.stamp) ∉ x.2.acks)
  ∧ (∀ (s : State) (k num : Nat) (rec : Bytes), ∃ t, exec (.replSyncMark k rec) s = .next t ∧ SealedRow s k .syncMark rec t fun b u => (s.inGuard = true → t.ste.guarded = u.ste.guarded ++ [⟨.syncMark, k, (u.sess k).seqIn, b⟩]) ∧ (GuardFree s k → (s.sess k).isTarget = true → s.ste.snaps = [] → s.familyFull (Tab.get {} s.vols (s.sess k).volume).family = none → s.freeVolume = some num →
      (leAt b 0 8, leAt b 8 4) ∈ (t.sess k).marks ∧ ∃ w, t.ste.snaps = [w] ∧ w.volume = num ∧ w.why = .ack k (leAt b 0 8)))
  ∧ (∀ (s : State) (k : Nat), exec (.replMendReq k []) s = .next (s.askMend k))
  ∧ (∀ (s : State) (k : Nat) (rec : Bytes), rec ≠ [] → ∃ t, exec (.replMendReq k rec) s = .next t ∧ SealedRow s k .mendReq rec t fun b u => b.length = 16 →
      t = u.replPost k .mendData (b.take 4 ++ u.mendEntry (Tab.get {} u.vols (leAt b 4 4)) (leAt b 8 8)))
  ∧ (∀ (s : State) (k : Nat) (rec : Bytes), ∃ t, exec (.replMendData k rec) s = .next t ∧ match s.openRecord k .mendData rec with
    | .body b => ∀ (m : MendReq) (g gid : Nat), s.ste.mends = [m] → m.sess = k → m.id = leAt b 0 4 → m.grains = [(g, gid)] → mendEntries b.length (b.drop 4) = [(g, [])] → t.on F.STE_INT_STATUS_MEND_FAIL = true ∧ t.ste.mends = []
    | .tag => ((s.sess k).state ≠ .free → (t.sess k).keyed = false) ∧ (∀ m ∈ t.ste.mends, m.sess = k → m.again = true)
    | .sequence => t = s.replError k 3 true
    | .other => t = s)

/-- The two bundles (R83, R343 to R345, R359, R374): flits in and out of order, replays, loss and training. -/
def Obligations.BundleLinks : Prop :=
  let good (flit : Bytes) : Prop := flit.length = 256 ∧ leAt flit 0xF8 8 = crc64 (flit.take 0xF8) ∧ bits (leAt flit 0 8) 11 0 = 0
  (∀ (s : State) (b : Bool) (flit : Bytes), s.bundleState b = 2 → flit.length = 256 → (leAt flit 0xF8 8 ≠ crc64 (flit.take 0xF8) ∨ bits (leAt flit 0 8) 11 0 ≠ 0 ∨ (bits (leAt flit 0 8) 15 12 ≠ 0 ∧ bits (leAt flit 0 8) 63 40 ≠ (s.bundle b).nextIn)) →
    exec (.anvFlitReceive b flit) s = .next (s.send (.anv .nak pairChan [bit b, ((s.bundle b).nextIn + 2 ^ 24 - 1) % 2 ^ 24] [])))
  ∧ (∀ (s : State) (b : Bool) (flit : Bytes), s.bundleState b = 2 → good flit → bits (leAt flit 0 8) 15 12 = 1 → bits (leAt flit 0 8) 63 40 = (s.bundle b).nextIn →
    ∃ t, exec (.anvFlitReceive b flit) s = .next t ∧ (t.bundle b).nextIn = nextFlit (s.bundle b).nextIn ∧ t.anv.inbox = s.anv.inbox ++ (extractMsgs 4112 ((s.bundle b).rest ++ slice flit 8 240)).1 ∧
      (t.bundle b).rest = (extractMsgs 4112 ((s.bundle b).rest ++ slice flit 8 240)).2.2 ∧ t.outbox = s.outbox ∧
      t.rd F.ANV_RETRY_CNT_BAD_MSG = (s.rd F.ANV_RETRY_CNT_BAD_MSG + (extractMsgs 4112 ((s.bundle b).rest ++ slice flit 8 240)).2.1) % F.ANV_RETRY_CNT_BAD_MSG.span)
  ∧ (∀ (s : State) (b : Bool) (flit : Bytes), s.bundleState b = 2 → good flit → bits (leAt flit 0 8) 15 12 = 0 →
    ∃ t, exec (.anvFlitReceive b flit) s = .next t ∧ (t.bundle b).nextIn = (s.bundle b).nextIn ∧ (∀ r ∈ (t.bundle b).replays, 2 ^ 23 ≤ (bits (leAt flit 0 8) 39 16 + 2 ^ 24 - r.1) % 2 ^ 24) ∧ t.anv.inbox = s.anv.inbox)
  ∧ (∀ (s : State) (b : Bool) (flit : Bytes), s.bundleState b ≠ 2 ∨ flit.length ≠ 256 → exec (.anvFlitReceive b flit) s = .next s)
  ∧ (∀ (h : Bytes), h.length = 16 → headerOk h = true → knownTypes.contains (bits (leAt h 0 8) 63 56) = true ∧ bits (leAt h 0 8) 47 24 ≤ 65536 ∧ leAt h 8 4 = crc32c (h.take 8 ++ zeros 4) ∧ leAt h 12 4 = 0)
  ∧ (∀ h body : Bytes, msgOk h body = true → headerOk h = true ∧ ∀ r, bodyResv (bits (leAt h 0 8) 63 56) = r → allZero (slice body r.1 r.2) = true)
  ∧ (∀ (s : State) (b : Bool) (fack last : Nat), s.bundleState b = 2 →
    let n := min 4096 ((last + 2 ^ 24 - fack % 2 ^ 24) % 2 ^ 24)
    ∃ t, exec (.anvNak b fack last) s = .next t ∧ t.rd F.ANV_RETRY_CNT_REPLAY = (s.rd F.ANV_RETRY_CNT_REPLAY + n) % F.ANV_RETRY_CNT_REPLAY.span ∧
      (∀ i < n, Tab.get 0 (t.bundle b).replays ((fack + 1 + i) % 2 ^ 24) = Tab.get 0 (s.bundle b).replays ((fack + 1 + i) % 2 ^ 24) + 1) ∧
      (∀ i < n, Tab.get 0 (s.bundle b).replays ((fack + 1 + i) % 2 ^ 24) = 15 → ∃ r ∈ t.flt.reported, r.chan = ⟨Kind.bundle, bit b⟩ ∧ r.status = 0))
  ∧ (∀ (s : State) (b : Bool), s.bundleState b = 2 → ∃ t, exec (.anvLaneLockLoss b) s = .next t ∧ (t.bundle b).upAt = s.now ∧ ∃ r : FaultReport, t.flt.reported = s.flt.reported ++ [r] ∧ r.chan = ⟨Kind.bundle, bit b⟩ ∧ r.status = 0)
  ∧ (∀ (s : State) (b : Bool) (fack last : Nat), s.bundleState b ≠ 2 → exec (.anvLaneLockLoss b) s = .next s ∧ exec (.anvNak b fack last) s = .next s ∧ exec (.bundleDown b) s = .next s)
  ∧ (∀ (s : State) (b : Bool), s.bundleState b = 2 → s.bundleState (!b) = 2 → s.bundleRetired b = false →
    ∃ t, exec (.bundleDown b) s = .next t ∧ t.bundleState b = 0 ∧ t.on F.ANV_BUNDLE_THROTTLE = true ∧ t.on F.ANV_INT_STATUS_BUNDLE_DOWN = true ∧ (∀ c ∈ bundleChans b, (t.ctx c).movedTo = some (pairOf c)) ∧ t.anv.bothDown = s.anv.bothDown)
  ∧ (∀ (s : State) (b : Bool), s.bundleState b = 2 → s.bundleState (!b) ≠ 2 → s.on F.ANV_TONGS_ALIVE_OK = true → ∃ t, exec (.bundleDown b) s = .next t ∧ t.anv.bothDown = some s.now)
  ∧ (∀ (s : State) (b : Bool), s.bundleState b = 0 → s.bundleRetired b = false → bitOf s.bundleMask (bit b) = true → (s.bundle b).tryAt + 1000000000 ≤ s.now → ∃ t, exec (.bundleTrainRetry b) s = .next t ∧ t.bundleState b = 1 ∧ (t.bundle b).tryAt = s.now)
  ∧ (∀ (s : State) (b : Bool), s.bundleState b ≠ 0 ∨ s.bundleRetired b = true ∨ bitOf s.bundleMask (bit b) = false ∨ s.now < (s.bundle b).tryAt + 1000000000 → exec (.bundleTrainRetry b) s = .next s)
  ∧ (∀ (s : State) (b : Bool), s.bundleState b = 1 → ∃ t, exec (.bundleTrained b true) s = .next t ∧ t.bundleState b = 2 ∧ (t.bundle b).upAt = s.now ∧ (t.bundle b).nextIn = 0 ∧ t.on F.ANV_INT_STATUS_BUNDLE_UP = true ∧ t.anv.bothDown = none)
  ∧ (∀ (s : State) (b : Bool), s.bundleState b = 1 → s.fm.mode = .joining → s.anv.join.peer = none → Hears s → s.on F.ANV_TONGS_FENCE_IN = false →
    ∃ t args d, exec (.bundleTrained b true) s = .next t ∧ .anv .hello pairChan args d ∈ t.outbox ∧ args.head? = some anvilVersion)
  ∧ (∀ (s : State) (b : Bool), s.bundleState b = 1 → ∃ t, exec (.bundleTrained b false) s = .next t ∧ t.bundleState b = 0 ∧ OnlyFields s t [(bundleField b).key])
  ∧ (∀ (s : State) (b : Bool), s.bundleState b = 2 → s.bundleState (!b) = 2 → (s.bundle b).upAt + 10000000000 ≤ s.now → ∃ t, exec (.bundleStable b) s = .next t ∧ t.on F.ANV_BUNDLE_THROTTLE = false ∧ ∀ c ∈ bundleChans b, (t.ctx c).movedTo = none)
  ∧ (∀ (s : State) (b : Bool), s.now < (s.bundle b).upAt + 10000000000 → exec (.bundleStable b) s = .next s)
  ∧ (∀ (s : State) (t0 : Nat), s.anv.bothDown = some t0 → t0 + 50000000 ≤ s.now → s.bundleState false ≠ 2 → s.bundleState true ≠ 2 →
    ∃ t, exec .bundlesDownTimeout s = .next t ∧ t.anv.yielded = true ∧ (s.head = 1 → t.fm.pins.alive = false ∧ t.fm.pins.frontTx = false) ∧ (s.head ≠ 1 → t.fm = s.fm))
  ∧ (∀ (s : State) (t0 : Nat), s.anv.bothDown = some t0 → s.now < t0 + 50000000 → exec .bundlesDownTimeout s = .next s)

/-- HELLO, STATUS, PARK, binding and the ends of Joining (R142, R351, R352, R357, R358, R366, R367, R424, Table 16.5). -/
def Obligations.JoiningAndStatus : Prop :=
  (∀ (s : State) (h : HelloInfo) (a b c d e f g i : Nat) (x y : Bytes) (has : Bool), s.anv.lost = true →
    exec (.anvHelloAck h) s = .next (Unheard s 2) ∧ exec (.anvStatus a b c d e f g i) s = .next (Unheard s 3) ∧ exec .anvPark s = .next (Unheard s 4) ∧ exec .anvReleased s = .next (Unheard s 6) ∧
    exec (.anvBindOffer x has y) s = .next (Unheard s 7) ∧ exec (.anvBindXfer x) s = .next (Unheard s 8) ∧ exec (.anvBindProof x) s = .next (Unheard s 9))
  ∧ (∀ (s : State) (h : HelloInfo) (v : Nat), s.fm.mode = .joining ∨ s.fm.mode = .solo → s.pwr.state = .run → s.fm.pins.fenceOut = false → s.on F.ANV_CTRL_ENABLE = true → s.gly.dump = none → chooseVersion h.version = some v → s.joinFault h (some v) = none →
      (s.anv.join.checked = false ∨ s.fm.hallmark.prs ≠ none) →
    ∃ t args d, exec (.anvHello h) s = .next t ∧ .anv .helloAck pairChan args d ∈ t.outbox ∧ args.head? = some v ∧ t.anv.join.checked = true ∧ t.anv.join.peer = some h ∧ t.anv.join.version = some v ∧ t.anv.lost = false ∧
      t.rd F.ANV_PAIR_PARKED = 0 ∧ t.on F.ANV_TONGS_ALIVE_OK = true ∧ t.rd F.ANV_PAIR_VERSION = (v / 256 * 16 + v % 256) % F.ANV_PAIR_VERSION.span)
  ∧ (∀ (s : State) (h : HelloInfo), s.pwr.state = .sleep → s.gly.dump = none → exec (.anvHello h) s = .next (((Unheard s 1).partnerSeen.wr F.ANV_PAIR_PARKED 0).wakeSource 3 []))
  ∧ (∀ (s : State) (h : HelloInfo), s.pwr.state = .run → s.fm.pins.fenceOut = true → s.gly.dump = none → exec (.anvHello h) s = .next ((Unheard s 1).partnerSeen.wr F.ANV_PAIR_PARKED 0))
  ∧ (∀ (s : State) (h : HelloInfo) (e : EventName), s.fm.mode = .joining → Hears s → s.anv.join.stalled = none → s.joinFault h (if h.version / 256 = 1 ∧ h.version ≤ anvilVersion then some h.version else none) = some e →
    ∃ t, exec (.anvHelloAck h) s = .next t ∧ t.anv.join.stalled = some s.now ∧ t.on F.ANV_INT_STATUS_JOIN_STALL = true ∧ t.fm.mode = .joining ∧ t.anv.join.checked = s.anv.join.checked)
  ∧ (∀ (s : State) (h : HelloInfo), h.galleyGib ≠ s.galleyGib → s.fm.mode = .joining → s.anv.join.stalled = none → (Hears s →
      ∃ t, exec (.anvHelloAck h) s = .next t ∧ t.fm.mode = .joining ∧ t.on F.FOR_INT_STATUS_ALARM = true ∧ t.anv.join.checked = s.anv.join.checked) ∧
      (s.pwr.state = .run → s.gly.dump = none → s.fm.pins.fenceOut = false → (s.anv.join.checked = false ∨ s.fm.hallmark.prs ≠ none) →
        ∃ t, exec (.anvHello h) s = .next t ∧ t.fm.mode = .joining ∧ t.on F.FOR_INT_STATUS_ALARM = true ∧ t.anv.join.checked = s.anv.join.checked))
  ∧ (∀ (s : State) (h : HelloInfo), s.fm.mode = .joining → Hears s → s.anv.join.checked = false → h.version / 256 = 1 → h.version ≤ anvilVersion → s.joinFault h (some h.version) = none →
    ∃ t, exec (.anvHelloAck h) s = .next t ∧ t.anv.join.checked = true ∧ t.anv.join.version = some h.version ∧ t.anv.join.peer = some h)
  ∧ (∀ s : State, s.fm.mode = .joining → s.anv.join.stalled ≠ none → s.gly.dump = none → ∃ t args d, exec .helloRetryTimer s = .next t ∧ t.outbox = s.outbox ++ [.anv .hello pairChan args d] ∧ args.head? = some anvilVersion)
  ∧ (∀ s : State, s.anv.join.stalled = none → exec .helloRetryTimer s = .next s)
  ∧ (∀ (s : State) (mode flags e ereq ecov time q unc : Nat), Hears s →
    ∃ t, exec (.anvStatus mode flags e ereq ecov time q unc) s = .next t ∧ t.rd F.ANV_PAIR_PEER_MODE = mode % F.ANV_PAIR_PEER_MODE.span ∧ t.gly.peer = { e := if bitOf flags 1 then 0 else e, req := ereq, cov := ecov, seen := true } ∧
      t.gly.lastStatus = s.now ∧ t.on F.ANV_TONGS_ALIVE_OK = true)
  ∧ (∀ s : State, Hears s → ∃ t, exec .anvPark s = .next t ∧ t.on F.ANV_PAIR_PARKED = true)
  ∧ (∀ (s : State) (h : HelloInfo), s.fm.mode = .solo → s.gly.dump = none → s.joinFault { h with head := s.peer, galleyGib := s.galleyGib } (chooseVersion h.version) = none →
    ∃ t, exec (.anvRejoin h) s = .next t ∧ t.anv.lost = false ∧ t.fm.pins.fenceOut = false ∧ t.on F.ANV_TONGS_FENCE_OUT = false ∧ t.anv.takeover = none ∧ .anv .released pairChan [] [] ∈ t.outbox)
  ∧ (∀ (s : State) (h : HelloInfo), s.fm.mode ≠ .solo → s.gly.dump = none → exec (.anvRejoin h) s = .next (Unheard s 5).partnerSeen)
  ∧ (∀ s : State, Hears s → s.anv.rejoinWait = true → s.fm.mode = .joining → ∃ t args d, exec .anvReleased s = .next t ∧ t.anv.rejoinWait = false ∧ .anv .hello pairChan args d ∈ t.outbox)
  ∧ (∀ s : State, s.anv.rejoinWait = false → exec .anvReleased s = .next (Unheard s 6))
  ∧ (∀ (s : State) (nonce cert : Bytes) (has : Bool), Hears s → s.anv.join.checked = true → s.fm.mode = .joining → s.anv.join.stalled = none →
    ∃ t, exec (.anvBindOffer nonce has cert) s = .next t ∧ if Config.certValid cert then t.fm.hallmark.bind.peerNonce = nonce ∧ t.fm.hallmark.bind.peerHas = has ∧ t.fm.hallmark.bind.offered = true else t.on F.ANV_INT_STATUS_JOIN_STALL = true ∧ t.fm.hallmark = s.fm.hallmark)
  ∧ (∀ (s : State) (w : Bytes), Hears s → s.fm.hallmark.prs = none → s.fm.hallmark.bind.offered = true → s.fm.hallmark.bind.peerNonce ≠ [] → s.fm.mode = .joining → s.anv.join.stalled = none →
    ∃ t, exec (.anvBindXfer w) s = .next t ∧ match aesUnwrap (s.xferKey s.fm.hallmark.bind.peerNonce s.fm.hallmark.bind.myNonce) w with
      | some p => t.fm.hallmark.prs = some p
      | none => t.on F.ANV_INT_STATUS_JOIN_STALL = true ∧ t.fm.hallmark.prs = none)
  ∧ (∀ (s : State) (w : Bytes), s.fm.hallmark.prs ≠ none → exec (.anvBindXfer w) s = .next (Unheard s 8))
  ∧ (∀ (s : State) (mac p : Bytes), Hears s → s.fm.hallmark.prs = some p → s.fm.hallmark.bind.offered = true → s.fm.hallmark.bind.peerNonce ≠ [] → s.fm.mode = .joining → s.anv.join.stalled = none →
    ∃ t, exec (.anvBindProof mac) s = .next t ∧ if mac = hmac384 p (s.fm.hallmark.bind.peerNonce ++ s.fm.hallmark.bind.myNonce) then t.fm.hallmark.bind.proven = true else t.on F.ANV_INT_STATUS_JOIN_STALL = true ∧ t.fm.hallmark = s.fm.hallmark)
  ∧ (∀ s : State, s.fm.mode = .joining → s.anv.takeover = none → s.anv.rejoinWait = false → s.bundleState false ≠ 2 → s.bundleState true ≠ 2 → s.anv.edgeSeen = false → s.anv.joinedAt + 30000000000 ≤ s.now →
    ∃ t, exec .startAloneTimer s = .next t ∧ t.anv.takeover = some { t0 := s.now, cause := 0, short := false, alone := true } ∧ t.anv.lost = true ∧ t.fm.pins.fenceOut = true ∧ t.on F.ANV_TONGS_FENCE_OUT = true)
  ∧ (∀ s : State, s.fm.mode ≠ .joining → exec .startAloneTimer s = .next s ∧ (s.fm.mode ≠ .solo → exec .joinBacklogDone s = .next s))
  ∧ (∀ s : State, s.joined1 = true → s.bundleMask = 3 → s.fm.mode = .solo →
    ∃ t, exec .joinBacklogDone s = .next t ∧ t.fm.mode = .paired ∧ t.on F.ANV_TONGS_CLAIM_OUT = false ∧ t.fm.pins.claimAckOut = false ∧ (s.heldSlots = [] → (t.ctx 65472).credits = 4096) ∧ ((s.ctx 65488).state = .empty → (t.ctx 65488).state = .live))
  ∧ (∀ s : State, s.joined1 = true → s.bundleMask = 3 → s.fm.mode = .joining → s.bothForming = false →
    ∃ t, exec .joinBacklogDone s = .next t ∧ t.fm.mode = .paired ∧ t.on F.ANV_PAIR_STANDBY = true ∧ ∀ v ∈ t.vols, v.2.state = .live → v.2.nsid ≠ 0 → (t.ns v.2.nsid).state = .remote)
  ∧ (∀ s : State, s.joined1 = true → s.bundleMask = 3 → s.fm.mode = .joining → s.bothForming = true → ∃ t, exec .joinBacklogDone s = .next t ∧ t.fm.mode = .paired ∧ t.anv.join.copies = [])
  ∧ (∀ s : State, s.joined1 = false → exec .joinBacklogDone s = .next s)

/-- Mirroring between the heads (R123 to R125, R287, R349), erase clearance and the return of media (R299, R370). -/
def Obligations.Mirroring : Prop :=
  (∀ (s : State) (a b c : Nat) (x : Bytes) (rs : List CtlRec) (g : Bool), s.anv.lost = true →
    exec (.anvMirrorData a x) s = .next (Unheard s 0x10) ∧ exec (.anvMirrorDesc a x b) s = .next (Unheard s 0x11) ∧ exec (.anvMirrorAck a b c) s = .next (Unheard s 0x12) ∧ exec (.anvCommit a b) s = .next (Unheard s 0x13) ∧
    exec (.anvRelease a b) s = .next (Unheard s 0x14) ∧ exec (.anvRing a b rs) s = .next (Unheard s 0x15) ∧ exec (.anvRingAck a b) s = .next (Unheard s 0x16) ∧ exec (.anvClearance a g) s = .next (Unheard s 0x41) ∧
    exec (.anvMediaReturn x a [] none none) s = .next (Unheard s 0x42))
  ∧ (∀ (s : State) (slot n : Nat) (data : Bytes), Hears s → 1 ≤ n → n ≤ 15 → data.length = n * 4224 →
    ∃ t, exec (.anvMirrorData slot data) s = .next t ∧ ∀ i < n, Tab.find t.gly.mirrorData (slot + i) = some (slice data (i * 4224) 4224))
  ∧ (∀ (s : State) (slot : Nat) (data : Bytes), (data.length % 4224 ≠ 0 ∨ data.length = 0 ∨ 15 * 4224 < data.length) → exec (.anvMirrorData slot data) s = .next (Unheard s 0x10))
  ∧ (∀ (s : State) (idx fwd : Nat) (desc data : Bytes) (p : Piece), Talks s → Piece.ofDesc desc = some p → (if p.kind = .repeated then s.repeatedSlots p = some data else data = s.mirrorSlots p ∧ data.length = p.slotCnt * 4224) → crc64 data = p.digest →
    ∃ t, exec (.anvMirrorDesc idx desc fwd) s = .next t ∧ t.outbox = s.outbox ++ [.anv .mirrorAck pairChan [idx, p.gen, 0] []] ∧
      if p.owner = s.head ∧ s.fm.mode = .joining then Tab.find t.anv.join.copies idx = some { p with dataIn := true, data := data, fwd := fwd } ∧ t.gly.mirror = s.gly.mirror
      else Tab.find t.gly.mirror idx = some { p with dataIn := true, data := data, fwd := fwd })
  ∧ (∀ (s : State) (idx fwd : Nat) (desc : Bytes), Talks s → Piece.ofDesc desc = none →
    ∃ t, exec (.anvMirrorDesc idx desc fwd) s = .next t ∧ t.gly = s.gly ∧ t.outbox = s.outbox ++ [.anv .mirrorAck pairChan [idx, leAt desc 60 4, 1] []])
  ∧ (∀ (s : State) (idx fwd : Nat) (desc : Bytes) (p : Piece), Talks s → Piece.ofDesc desc = some p → (if p.kind = .repeated then s.repeatedSlots p = none else (s.mirrorSlots p).length ≠ p.slotCnt * 4224 ∨ crc64 (s.mirrorSlots p) ≠ p.digest) →
    ∃ t, exec (.anvMirrorDesc idx desc fwd) s = .next t ∧ t.gly = s.gly ∧ t.outbox = s.outbox ++ [.anv .mirrorAck pairChan [idx, leAt desc 60 4, 1] []])
  ∧ (∀ (s : State) (idx : Nat) (p : Piece), Hears s → Tab.find s.gly.own idx = some p → ∃ t, exec (.anvMirrorAck idx p.gen 0) s = .next t ∧ Tab.find t.gly.own idx = some { p with mirrorAck := true } ∧ t.outbox = s.outbox)
  ∧ (∀ (s : State) (idx result : Nat) (p : Piece), Hears s → Tab.find s.gly.own idx = some p → result ≠ 0 → exec (.anvMirrorAck idx p.gen result) s = .next ((Unheard s 0x12).mirrorPiece idx p))
  ∧ (∀ (s : State) (idx gen result : Nat) (p : Piece), Tab.find s.gly.own idx = some p → p.gen ≠ gen → exec (.anvMirrorAck idx gen result) s = .next (Unheard s 0x12))
  ∧ (∀ (s : State) (idx : Nat) (p : Piece), Hears s → Tab.find s.gly.mirror idx = some p → ∃ t, exec (.anvCommit idx p.gen) s = .next t ∧ Tab.find t.gly.mirror idx = some { p with commit := true })
  ∧ (∀ (s : State) (idx : Nat) (p : Piece), Hears s → Tab.find s.gly.mirror idx = some p → ∃ t, exec (.anvRelease idx p.gen) s = .next t ∧ Tab.find t.gly.mirror idx = none)
  ∧ (∀ (s : State) (idx gen : Nat) (p : Piece), Tab.find s.gly.mirror idx = some p → p.gen ≠ gen → exec (.anvCommit idx gen) s = .next (Unheard s 0x13) ∧ exec (.anvRelease idx gen) s = .next (Unheard s 0x14))
  ∧ (∀ (s : State) (area off n : Nat) (x : Reservation), Talks s →
    ∃ t, exec (.anvRing area off [.resv n x]) s = .next t ∧ Tab.get {} t.stk.resv n = x ∧ t.outbox = s.outbox ++ [.anv .ringAck pairChan [area, off] []])
  ∧ (∀ (s : State) (area off : Nat) (b : Batch), s.anv.ctl.ring = [] → Talks s → b.recs = [] → 0 < b.seq →
    ∃ t, exec (.anvRing area off [.batch b]) s = .next t ∧ t.anv.ctl.ring = [b] ∧ t.outbox = s.outbox ++ [.anv .ringAck pairChan [area, off] []])
  ∧ (∀ (s : State) (area off : Nat), Hears s → ∃ t, exec (.anvRingAck area off) s = .next t ∧ Tab.get 0 t.anv.ringAck area = off)
  ∧ (∀ (s : State) (off : Nat) (b : Batch), Hears s → s.hth.journal.waiting = [b] → b.sent = true → b.covers off = true → ∃ t, exec (.anvRingAck 0 off) s = .next t ∧ t.hth.journal.waiting = [{ b with held := true }])
  ∧ (∀ (s : State) (sheet : Nat), Hears s → ∃ t, exec (.anvClearance sheet true) s = .next t ∧ sheet ∈ t.hth.clearances)
  ∧ (∀ (s : State) (sheet : Nat), Talks s → s.stk.slots = [] → s.hth.owed = [] → ∃ t, exec (.anvClearance sheet false) s = .next t ∧ t.hth.owed = [] ∧ t.outbox = s.outbox ++ [.anv .clearance pairChan [sheet, 1] []])
  ∧ (∀ (s : State) (sheet g n : Nat) (x : Task) (r : SortRec), Talks s → (n, x) ∈ s.stk.slots → x.arrival ≤ s.now → (0, Source.grain g) ∈ x.sources → r ∈ (s.sheet sheet).sorts → r.gid = g →
    ∃ t, exec (.anvClearance sheet false) s = .next t ∧ sheet ∈ t.hth.owed)
  ∧ (∀ (s : State) (id : Nat) (lost : List (Nat × LostStripe)) (rebuild : Option Rebuild) (reshape : Option Machine.Reshape), Hears s → id < 2 ^ 64 →
    ∃ t, exec (.anvMediaReturn (leBytes id 8 ++ leBytes (crc64 (leBytes id 8)) 8) 1 lost rebuild reshape) s = .next t ∧ (t.sheet id).head = s.head ∧ (s.imp.rebuild = none → t.imp.rebuild = rebuild) ∧ (s.imp.reshape = none → t.imp.reshape = reshape))
  ∧ (∀ (s : State) (body : Bytes) (n : Nat) (lost : List (Nat × LostStripe)) (rebuild : Option Rebuild) (reshape : Option Machine.Reshape), (body.length < 8 ∨ leAt body (body.length - 8) 8 ≠ crc64 (body.take (body.length - 8))) →
    exec (.anvMediaReturn body n lost rebuild reshape) s = .next (Unheard s 0x42))

/-- Forwarded commands, their data, results, cancels and credits (R70, R95, R115, R158, R347, R348, Table 5.6). -/
def Obligations.Forwarding : Prop :=
  (∀ (s : State) (chan fwdId cntlid n : Nat) (c : HostCmd), Hears s → isOutbound chan = true → (s.ctx (chan + 16)).state = .live → c.op ≠ .fusedCompare → c.op ≠ .fusedWrite → s.freeSlot = some n →
    ∃ t x, exec (.anvFwdCmd chan fwdId cntlid [c] none) s = .next t ∧ t.task? n = some x ∧ x.ctx = chan + 16 ∧ x.cmd = c ∧ x.fwdId = fwdId ∧ x.cntlid = cntlid ∧ x.arrival = s.now ∧ x.state = .fetched)
  ∧ (∀ (s : State) (chan fwdId cntlid : Nat) (c : HostCmd), Talks s → isOutbound chan = true → (s.ctx (chan + 16)).state ≠ .live → c.op ≠ .fusedCompare → c.op ≠ .fusedWrite →
    ∃ t, exec (.anvFwdCmd chan fwdId cntlid [c] none) s = .next t ∧ t.stk = s.stk ∧ t.outbox = s.outbox ++ [.anv .result chan [fwdId, 0x0201, 0, 0] [], .anv .credit chan [1] []])
  ∧ (∀ (s : State) (fwdId off len tag gen n chan : Nat) (buf : Bytes) (x : Task), Talks s → s.fwdSlots fwdId = [n] → s.task? n = some x → x.state = .forwarded chan → x.complete = true → x.cmd.op.carriesData = true → s.fwdBase x ≤ off → off < s.fwdBase x + x.need → x.cmd.op ≠ .fusedWrite →
    ∃ t, exec (.anvDataReq fwdId off len tag gen buf) s = .next t ∧ .anv .data (s.chanNow chan) [x.fwdId, off, tag, gen] (slice x.data off len) ∈ t.outbox ∧ (t.task? n).map (·.asked) = some none)
  ∧ (∀ (s : State) (chan fwdId off tag gen : Nat) (data : Bytes), Hears s → s.portServes (chan + 16) true = true → (Tab.get {} s.stk.tokens tag).slot = none →
    ∃ t, exec (.anvData chan fwdId off tag gen data) s = .next t ∧ t.stk = s.stk ∧ t.on F.STK_INT_STATUS_STALE = true ∧ t.rd F.STK_STALE_CNT_COUNT = (s.rd F.STK_STALE_CNT_COUNT + 1) % F.STK_STALE_CNT_COUNT.span)
  ∧ (∀ (s : State) (chan fwdId off tag n : Nat) (data : Bytes) (k : Token) (x : Task), Hears s → Tab.get {} s.stk.tokens tag = k → k.slot = some n → s.task? n = some x → x.ctx = chan + 16 → x.fwdId = fwdId → x.cmd.op ≠ .fusedWrite → s.portServes (chan + 16) true = true → k.again = false →
      k.next = off → off + data.length < x.need → off + data.length ≤ k.stop → linkFail (s.volOf x.cmd.nsid) x (overlay x.data off data) off (min (off + data.length) x.need) = none →
    ∃ t, exec (.anvData chan fwdId off tag k.gen data) s = .next t ∧ (t.task? n).map (·.data) = some (overlay x.data off data) ∧ (Tab.get {} t.stk.tokens tag).next = off + data.length)
  ∧ (∀ (s : State) (chan fwdId off tag gen : Nat) (data : Bytes), s.portServes (chan + 16) true = false → exec (.anvData chan fwdId off tag gen data) s = .next s)
  ∧ (∀ (s : State) (fwdId off n : Nat) (rest : List Nat) (data : Bytes) (x : Task) (v : Volume), Hears s → s.fwdSlots fwdId = n :: rest → s.task? n = some x → v = s.volOf x.cmd.nsid →
    ∃ t, exec (.anvReadData fwdId off data) s = .next t ∧ (let first := off / (lbafData v.lbaf + lbafMeta v.lbaf); match egressFail v x.cmd.pi first (wireBlocks v data) with
      | some w => t.outbox = s.outbox ∧ (t.task? n).map (·.postAs) = some (some (.piFail 0x040B w))
      | none => t.outbox = s.outbox ++ [.readBlocks x.ctx x.cmd.cid first (hostBlocks v x.cmd.pi (wireBlocks v data))] ∧ t.stk = s.stk))
  ∧ (∀ (s : State) (chan fwdId st direct dword0 n c : Nat) (x : Task), Hears s → s.upd.relay = none → chan ≠ 65520 → s.fwdSlots fwdId = [n] → s.task? n = some x → x.state = .forwarded c → st ≠ 0x0201 → x.cmd.op ≠ .fusedCompare → x.postAs = none → isInbound x.ctx = false →
    ∃ t, exec (.anvResult chan fwdId st direct dword0) s = .next t ∧ Ended t n (Result.ofWire st direct) ∧ (t.task? n).map (·.dword0) = some dword0)
  ∧ (∀ (s : State) (chan fwdId direct dword0 n c : Nat) (x : Task), Hears s → s.upd.relay = none → chan ≠ 65520 → s.fwdSlots fwdId = [n] → s.task? n = some x → x.state = .forwarded c →
    exec (.anvResult chan fwdId 0x0201 direct dword0) s = .next (((Unheard s 0x24).modTask n fun u => { u with state := .fetched, fwdId := 0, asked := none }).handOver n))
  ∧ (∀ (s : State) (chan fwdId st direct dword0 n c : Nat) (x : Task), Hears s → s.upd.relay = none → chan ≠ 65520 → s.fwdSlots fwdId = [n] → s.task? n = some x → x.state = .cancelling c → x.discard = true → x.fusedWith = none → isInbound x.ctx = false →
    ∃ t, exec (.anvResult chan fwdId st direct dword0) s = .next t ∧ t.task? n = none ∧
      (if st = 0x0203 then t.rd F.CHS_RESET_CNT_TOOK_EFFECT = (s.rd F.CHS_RESET_CNT_TOOK_EFFECT + 1) % F.CHS_RESET_CNT_TOOK_EFFECT.span else t.rd F.CHS_RESET_CNT_DISCARDED = (s.rd F.CHS_RESET_CNT_DISCARDED + 1) % F.CHS_RESET_CNT_DISCARDED.span))
  ∧ (∀ (s : State) (chan fwdId n : Nat) (x : Task), Hears s → s.inSlots (chan + 16) fwdId = [n] → s.task? n = some x → x.cmd.op ≠ .fusedWrite → s.cancelTakes x = true →
    ∃ t, exec (.anvCancel chan fwdId) s = .next t ∧ (t.task? n).map (·.postAs) = some (some (.internal 0x0203)) ∧ t.outbox = s.outbox)
  ∧ (∀ (s : State) (chan fwdId n : Nat) (x : Task), Talks s → isOutbound chan = true → s.inSlots (chan + 16) fwdId = [n] → s.task? n = some x → x.ctx = chan + 16 → x.fwdId = fwdId → x.cmd.op ≠ .fusedWrite → x.fusedWith = none → x.postAs = none → (s.ctx (chan + 16)).movedTo = none → s.cancelTakes x = false →
    ∃ t, exec (.anvCancel chan fwdId) s = .next t ∧ t.task? n = none ∧ .anv .result chan [fwdId, 0x0202, 0, x.dword0] [] ∈ t.outbox)
  ∧ (∀ (s : State) (chan n : Nat), Hears s → s.stk.slots = [] → s.mtx.outstanding = [] → s.upd.relay = none → ∃ t, exec (.anvCredit chan n) s = .next t ∧ (t.ctx chan).credits = (s.ctx chan).credits + n)
  ∧ (∀ (s : State) (a b c d e : Nat) (x : Bytes), s.anv.lost = true → s.portServes (a + 16) true = true →
    exec (.anvFwdCmd a b c [] none) s = .next (Unheard s 0x20) ∧ exec (.anvDataReq a b c d e x) s = .next (Unheard s 0x21) ∧ exec (.anvData a b c d e x) s = .next (Unheard s 0x22) ∧ exec (.anvReadData a b x) s = .next (Unheard s 0x23) ∧
    exec (.anvResult a b c d e) s = .next (Unheard s 0x24) ∧ exec (.anvCancel a b) s = .next (Unheard s 0x25) ∧ exec (.anvCredit a b) s = .next (Unheard s 0x26))

/-- The stamp boundary protocol: a namespace moves between the heads (R116, R117, R350, Table 5.7). -/
def Obligations.MovesOfNamespaces : Prop :=
  (∀ (s : State) (nsid : Nat), Talks s → (s.ns nsid).state = .remote → s.inMode [.paired, .handback, .activation] = true → s.pwr.entry = none →
    ∃ t, exec (.nsMoveStart nsid false) s = .next t ∧ (t.ns nsid).state = .acquiring ∧ (t.ns nsid).moveAt = s.now ∧ t.fm.mode = s.fm.mode ∧ t.outbox = s.outbox ++ (List.range 16).map fun k => .anv .moveBegin (65472 + k) [nsid] [])
  ∧ (∀ (s : State) (nsid : Nat), Talks s → (s.ns nsid).state = .remote → s.inMode [.paired, .handback, .activation] = true → ∃ t, exec (.nsMoveStart nsid true) s = .next t ∧ (t.ns nsid).state = .acquiring ∧ t.fm.mode = .handback)
  ∧ (∀ (s : State) (nsid : Nat) (h : Bool), ((s.ns nsid).state ≠ .remote ∨ s.anv.lost = true ∨ s.inMode [.paired, .handback, .activation] = false) → exec (.nsMoveStart nsid h) s = .next s)
  ∧ (∀ (s : State) (chan nsid : Nat), Hears s → isOutbound chan = true → (s.ns nsid).state = .loc →
    ∃ t, exec (.anvMoveBegin chan nsid false) s = .next t ∧ t.ns nsid = { s.ns nsid with state := .releasing, moveAt := s.now, begins := [chan + 16], sent := false })
  ∧ (∀ (s : State) (chan nsid : Nat), Hears s → isOutbound chan = true → (s.ns nsid).state = .releasing → chan + 16 ∉ (s.ns nsid).begins →
    ∃ t, exec (.anvMoveBegin chan nsid false) s = .next t ∧ t.ns nsid = { s.ns nsid with begins := (s.ns nsid).begins ++ [chan + 16] })
  ∧ (∀ (s : State) (chan nsid : Nat) (asks : Bool), (s.anv.lost = true ∨ isOutbound chan = false ∨ ((s.ns nsid).state ≠ .loc ∧ (s.ns nsid).state ≠ .releasing)) → exec (.anvMoveBegin chan nsid asks) s = .next (Unheard s 0x30))
  ∧ (∀ (s : State) (nsid : Nat), Talks s → (s.ns nsid).state = .releasing → (s.ns nsid).begins.length = 16 → (s.ns nsid).pending = 0 → (s.ns nsid).sent = false → s.aheadWaits nsid = false →
      (∀ e ∈ s.gly.own, e.2.nsid = nsid → e.2.applying = false ∧ e.2.refs = 0 ∧ (e.2.commit = true → e.2.applied = false → ∀ b ∈ s.hth.journal.waiting, After.applied e.1 ∉ b.after)) →
    ∃ t, exec (.boundarySend nsid) s = .next t ∧ (t.ns nsid).boundary = (s.ns nsid).last ∧ (t.ns nsid).sent = true ∧ (t.ns nsid).state = .releasing ∧ t.outbox = s.outbox ++ [.anv .boundary pairChan [nsid] (s.boundaryBytes nsid)])
  ∧ (∀ (s : State) (nsid : Nat), ((s.ns nsid).state ≠ .releasing ∨ (s.ns nsid).begins.length ≠ 16 ∨ (s.ns nsid).pending ≠ 0 ∨ (s.ns nsid).sent = true ∨ s.aheadWaits nsid = true) → exec (.boundarySend nsid) s = .next s)
  ∧ (∀ (s : State) (body : Bytes), Talks s → (s.ns (leAt body 0 4)).state = .acquiring → body.length = 0x50 + 16 * leAt body 4 4 →
    ∃ t, exec (.anvBoundary body) s = .next t ∧ (t.ns (leAt body 0 4)).state = .loc ∧ (t.ns (leAt body 0 4)).owner = s.head ∧ (t.ns (leAt body 0 4)).boundary = 0 ∧ .anv .moveDone pairChan [leAt body 0 4] [] ∈ t.outbox)
  ∧ (∀ (s : State) (body : Bytes) (p : Piece), Talks s → (s.ns (leAt body 0 4)).state = .acquiring → body.length = 0x60 → leAt body 4 4 = 1 → Tab.find s.gly.mirror (leAt body 0x58 4) = some p → p.gen = leAt body 0x5C 4 →
    ∃ t q, exec (.anvBoundary body) s = .next t ∧ Tab.find t.gly.mirror (leAt body 0x58 4) = none ∧ Tab.find t.gly.own (flipDesc (leAt body 0x58 4)) = some q ∧
      q.isForeign = true ∧ q.commit = true ∧ q.applied = false ∧ q.owner = s.head ∧ q.nsid = p.nsid ∧ q.slba = p.slba ∧ q.nlb = p.nlb ∧ q.data = p.data ∧ q.stamp = max 1 (leAt body 0x50 8))
  ∧ (∀ (s : State) (body : Bytes), (s.anv.lost = true ∨ (s.ns (leAt body 0 4)).state ≠ .acquiring ∨ body.length ≠ 0x50 + 16 * leAt body 4 4) → exec (.anvBoundary body) s = .next (Unheard s 0x31))
  ∧ (∀ (s : State) (nsid : Nat), Hears s → (s.ns nsid).state = .releasing → (s.ns nsid).sent = true → s.anv.handback = none → s.pwr.entry = none →
    ∃ t, exec (.anvMoveDone nsid) s = .next t ∧ (t.ns nsid).state = .remote ∧ (t.ns nsid).owner = s.peer ∧ nsid ∉ t.anv.taken ∧ t.on F.CHS_INT_STATUS_BOUNDARY_DONE = true ∧ .anaChange nsid ∈ t.outbox)
  ∧ (∀ (s : State) (nsid : Nat), Hears s → (s.ns nsid).state = .releasing → (s.ns nsid).sent = true → s.anv.handback = some ⟨[nsid], false⟩ → (∃ n ∈ s.anv.taken, n ≠ nsid) → s.pwr.entry = none →
    ∃ t, exec (.anvMoveDone nsid) s = .next t ∧ (t.ns nsid).state = .remote ∧ nsid ∉ t.anv.taken ∧ t.anv.handback = none ∧ t.fm.mode = .paired ∧ t.on F.ANV_HANDBACK_BUSY = false ∧ t.rd F.ANV_HANDBACK_RESULT = 0)
  ∧ (∀ (s : State) (nsid : Nat), (s.anv.lost = true ∨ (s.ns nsid).state ≠ .releasing ∨ (s.ns nsid).sent = false) → exec (.anvMoveDone nsid) s = .next (Unheard s 0x32))
  ∧ (∀ (s : State) (nsid : Nat), ((s.ns nsid).state = .releasing ∨ (s.ns nsid).state = .acquiring) → (s.ns nsid).moveAt + 1000000000 < s.now → exec (.moveHoldLong nsid) s = .next (s.raise F.CHS_INT_STATUS_HOLD_LONG))
  ∧ (∀ (s : State) (nsid : Nat), (((s.ns nsid).state ≠ .releasing ∧ (s.ns nsid).state ≠ .acquiring) ∨ s.now ≤ (s.ns nsid).moveAt + 1000000000) → exec (.moveHoldLong nsid) s = .next s)

/-- Losing the partner, the end of a takeover, the tongs lines and Handback (R355 to R369, Tables 16.7, 16.8, 16.13). -/
def Obligations.TakeoverAndHandback : Prop :=
  (∀ (s : State) (t0 : Nat), (s.now < t0 + 2000 ∨ (s.now < t0 + 8000 ∧ (s.bundleState false = 2 ∨ s.bundleState true = 2)) ∨ s.anv.edgeSeen = false ∨ s.anv.lost = true) → exec (.aliveStale t0) s = .next s)
  ∧ (∀ (s : State) (t0 : Nat), (t0 + 8000 ≤ s.now ∨ (t0 + 2000 ≤ s.now ∧ s.bundleState false ≠ 2 ∧ s.bundleState true ≠ 2)) → s.anv.edgeSeen = true → s.anv.lost = false → s.fm.mode = .paired → s.on F.ANV_PAIR_PARKED = false →
      s.anv.yielded = false → s.pwr.state = .run → s.pwr.entry = none → s.stk.slots = [] → s.mtx.outstanding = [] → s.gly.own = [] →
    ∃ t, exec (.aliveStale t0) s = .next t ∧ t.fm.mode = .takeover ∧ t.anv.lost = true ∧ t.anv.takeover = some ⟨t0, if s.bundleState false ≠ 2 ∧ s.bundleState true ≠ 2 then 2 else 1, false, false, false⟩ ∧ t.on F.ANV_INT_STATUS_LOSS = true ∧ t.on F.ANV_TONGS_ALIVE_OK = false ∧
      t.fm.pins.fenceOut = true ∧ t.on F.ANV_TONGS_FENCE_OUT = true ∧ (∀ n, (s.ns n).state = .remote → (t.ns n).state = .heldNs) ∧ (∀ n, (∀ e ∈ s.chs.ns, e.1 = n → e.2 = s.ns n) → ((s.ns n).state = .loc ∨ ((s.ns n).state = .releasing ∧ (s.ns n).sent = false)) → (t.ns n).state = .loc))
  ∧ (∀ (s : State) (t0 : Nat), t0 + 8000 ≤ s.now → s.anv.edgeSeen = true → s.anv.lost = false → s.fm.mode = .joining → s.pwr.state = .run →
    ∃ t, exec (.aliveStale t0) s = .next t ∧ t.fm.mode = .joining ∧ t.anv.joinedAt = s.now ∧ t.anv.takeover = s.anv.takeover ∧ t.anv.edgeSeen = false ∧ t.on F.ANV_INT_STATUS_LOSS = true)
  ∧ (∀ (s : State) (flash : Option Image), s.anv.takeover = none → exec (.takeoverReplayDone flash) s = .next s)
  ∧ (∀ (s : State) (flash : Option Image), s.gmp.seatWon = false → exec (.takeoverReplayDone flash) s = .next s)
  ∧ (∀ (s : State) (k : Takeover) (flash : Option Image), s.anv.takeover = some k → s.gmp.seatWon = true → k.cause < F.ANV_TAKEOVER_LAST_CAUSE.span → s.stk.slots = [] → s.gly.own = [] → s.gly.mirror = [] → s.gly.missing = [] → s.gly.galleyLost = false →
    ∃ t, exec (.takeoverReplayDone flash) s = .next t ∧ t.fm.mode = .solo ∧ t.anv.takeover = none ∧ t.on F.ANV_INT_STATUS_TAKEOVER_DONE = true ∧ t.rd F.ANV_TAKEOVER_LAST_CAUSE = k.cause ∧
      (k.alone = false → ∀ n, (s.ns n).state = .heldNs → (t.ns n).state = .loc ∧ (t.ns n).owner = s.head ∧ n ∈ t.anv.taken) ∧
      (k.deep = false → k.alone = true → ∀ e ∈ s.vols, e.2.state = .live → e.2.nsid ≠ 0 → (t.ns e.2.nsid).state = .loc))
  ∧ (∀ (s : State), s.inMode [.paired, .solo, .takeover, .handback, .activation, .banked] = true →
    ∃ t, exec .fenceInAssert s = .next t ∧ t.fm.mode = .halted ∧ t.fm.safe = true ∧ t.fm.pins.backTxGated = true ∧ t.fm.pins.fenceIn = true ∧ t.on F.ANV_TONGS_FENCE_IN = true ∧ t.on F.ANV_TONGS_CAP_FENCE = true ∧ t.on F.ANV_INT_STATUS_FENCED = true)
  ∧ (∀ (s : State), s.fm.mode = .joining → s.gly.dump = none → ∃ t l b, exec .fenceInAssert s = .next t ∧ t.fm.mode = .joining ∧ t.fm.pins.backTxGated = true ∧ t.fm.pins.fenceIn = true ∧ t.anv.rejoinWait = true ∧ t.outbox = s.outbox ++ [.anv .rejoin pairChan l b])
  ∧ (∀ (s : State), s.fm.mode ≠ .joining → s.serving = false → ∃ t, exec .fenceInAssert s = .next t ∧ t.fm.mode = s.fm.mode ∧ t.fm.pins.backTxGated = true ∧ t.fm.pins.fenceIn = true ∧ t.outbox = s.outbox)
  ∧ (∀ (s : State), s.anv.takeover ≠ none → s.gmp.seatWon = false → ∃ t, exec .claimAckInAssert s = .next t ∧ t.fm.mode = .halted ∧ t.fm.safe = true ∧ t.anv.takeover = none ∧ t.fm.pins.claimAckIn = true ∧ t.on F.ANV_TONGS_CAP_CLAIM = true)
  ∧ (∀ (s : State), (s.anv.takeover = none ∨ s.gmp.seatWon = true) → ∃ t, exec .claimAckInAssert s = .next t ∧ t.fm.mode = s.fm.mode ∧ t.fm.pins.claimAckIn = true ∧ t.on F.ANV_TONGS_CLAIM_IN = true ∧ t.on F.ANV_TONGS_CAP_CLAIM = true)
  ∧ (∀ (s : State) (nsid : Nat), (s.fm.mode = .joining ∨ s.rd F.ANV_PAIR_PEER_MODE = 3) → exec (.handbackNs nsid) s = .next (s.wr F.ANV_HANDBACK_RESULT 1) ∧ exec .handbackList s = .next (s.wr F.ANV_HANDBACK_RESULT 1))
  ∧ (∀ (s : State) (nsid : Nat), s.fm.mode ≠ .joining → s.rd F.ANV_PAIR_PEER_MODE ≠ 3 → s.on F.ANV_HANDBACK_BUSY = true → exec (.handbackNs nsid) s = .next (s.wr F.ANV_HANDBACK_RESULT 2) ∧ exec .handbackList s = .next (s.wr F.ANV_HANDBACK_RESULT 2))
  ∧ (∀ (s : State) (nsid : Nat), s.fm.mode ≠ .joining → s.rd F.ANV_PAIR_PEER_MODE ≠ 3 → s.on F.ANV_HANDBACK_BUSY = false → (s.fm.mode ≠ .paired ∨ s.rd F.ANV_PAIR_PEER_MODE ≠ 4 ∨ s.anv.lost = true) →
    exec (.handbackNs nsid) s = .next (s.wr F.ANV_HANDBACK_RESULT 4) ∧ exec .handbackList s = .next (s.wr F.ANV_HANDBACK_RESULT 4))
  ∧ (∀ (s : State) (nsid : Nat), s.handbackRefusal = none → nsid ∉ s.anv.taken → exec (.handbackNs nsid) s = .next (s.wr F.ANV_HANDBACK_RESULT 3))
  ∧ (∀ (s : State) (nsid : Nat), s.handbackRefusal = none → nsid ∈ s.anv.taken → ∃ t, exec (.handbackNs nsid) s = .next t ∧ t.fm.mode = .handback ∧ t.on F.ANV_HANDBACK_BUSY = true ∧ t.anv.handback = some ⟨[nsid], false⟩ ∧ t.anv.taken = s.anv.taken)
  ∧ (∀ (s : State), s.handbackRefusal = none → s.anv.taken ≠ [] → ∃ t l, exec .handbackList s = .next t ∧ t.fm.mode = .handback ∧ t.on F.ANV_HANDBACK_BUSY = true ∧ t.anv.handback = some ⟨l, true⟩ ∧ l.Perm s.anv.taken ∧ l.Pairwise (· ≤ ·))

/-- Proof strikes at the striking head and at its partner (R131, R371 to R373, Tables 16.10 and 16.12). -/
def Obligations.ProofStrikes : Prop :=
  (∀ (s : State) (picks : List (Nat × Nat)) (kats : List Nat), s.anv.strike ≠ none → exec (.strikeNow picks kats) s = .next s)
  ∧ (∀ (s : State) (picks : List (Nat × Nat)) (kats : List Nat), Talks s → s.paired = true → s.anv.strike = none →
    ∃ t k, exec (.strikeNow picks kats) s = .next t ∧ t.anv.strike = some k ∧ k.id = s.now ∧ k.waits = [(1, s.now), (4, s.now)] ∧ k.failed = 0 ∧ k.picks = picks ∧ k.kats = kats ∧
      k.monthly = (decide (s.anv.lastLoad + 30 * 86400000000000 ≤ s.now) && (s.fm.forme.map (·.loadTest)).getD false) ∧ t.outbox = s.outbox ++ [.anv .strikeStart pairChan [s.now, if k.monthly = true then 0x3F else 0x1F] []])
  ∧ (∀ (s : State) (picks : List (Nat × Nat)), s.paired = false → s.anv.strike = none → (s.fm.forme.map (·.loadTest)).getD false = false →
    ∃ t, exec (.strikeNow picks []) s = .next t ∧ t.anv.strike = none ∧ t.rd F.ANV_STRIKE_SKIPPED = 0x0F ∧ t.rd F.ANV_STRIKE_FAILED = 0 ∧ t.rd F.ANV_STRIKE_TIME = s.now / 65536 % F.ANV_STRIKE_TIME.span)
  ∧ (∀ (s : State) (picks : List (Nat × Nat)) (kats : List Nat), s.anv.strikeAt = none → exec (.strikeIntervalTimer picks kats) s = .next s)
  ∧ (∀ (s : State) (picks : List (Nat × Nat)) (kats : List Nat) (a : Nat), s.anv.strikeAt = some a → s.now < a → exec (.strikeIntervalTimer picks kats) s = .next s)
  ∧ (∀ (s : State) (picks : List (Nat × Nat)) (kats : List Nat) (a : Nat), s.anv.strikeAt = some a → a ≤ s.now →
    exec (.strikeIntervalTimer picks kats) s = exec (.strikeNow picks kats) { s with anv := { s.anv with strikeAt := some (a + (s.fm.forme.map (·.strikeHours)).getD 24 * 3600000000000) } })
  ∧ (∀ (s : State) (id steps lines : Nat) (silent : List Nat), Talks s → bitOf steps 0 = true → bitOf steps 3 = true →
    ∃ t, exec (.strikeStart id steps lines silent) s = .next t ∧ t.anv.peerStrike = some id ∧ .anv .tongsSeen pairChan [id, lines % 8] [] ∈ t.outbox ∧ .anv .ownerResult pairChan [id, s.admitted.length, s.seatsOff silent] [] ∈ t.outbox ∧
      (bitOf lines 0 = true → t.on F.ANV_TONGS_CAP_ALIVE_GAP = true) ∧ (bitOf lines 1 = true → t.on F.ANV_TONGS_CAP_FENCE = true) ∧ (bitOf lines 2 = true → t.on F.ANV_TONGS_CAP_CLAIM = true))
  ∧ (∀ (s : State) (lines a b : Nat) (k : Strike), Hears s → s.anv.strike = some k → (1, a) ∈ k.waits → (4, b) ∈ k.waits →
    ∃ t q, exec (.strikeTongsSeen k.id lines) s = .next t ∧ t.anv.strike = some q ∧ q.failed = (if lines % 8 = 7 then k.failed else k.failed ||| 1) ∧ ∀ w ∈ q.waits, w.1 ≠ 1)
  ∧ (∀ (s : State) (a b d g : Nat) (k : Strike) (p : Piece), Talks s → s.anv.strike = some k → (1, a) ∈ k.waits → (4, b) ∈ k.waits → k.picks = [(d, g)] → Tab.find s.gly.own d = some p → p.gen = g → p.dataIn = true → p.mirrorAck = true →
    ∃ t, exec (.strikeTongsSeen k.id 7) s = .next t ∧ t.outbox = s.outbox ++ [.anv .digestReq pairChan [k.id, 1, d, g] []])
  ∧ (∀ (s : State) (id d g : Nat) (p : Piece), Talks s → s.anv.peerStrike = some id → Tab.find s.gly.mirror d = some p →
    ∃ t, exec (.strikeDigestReq id [(d, g)]) s = .next t ∧ t.outbox = s.outbox ++ [.anv .digestResp pairChan [id, 1, d, g, if p.gen = g then crc64 p.data else 0] []])
  ∧ (∀ (s : State) (id d g : Nat), Talks s → s.anv.peerStrike = some id → Tab.find s.gly.mirror d = none →
    ∃ t, exec (.strikeDigestReq id [(d, g)]) s = .next t ∧ t.outbox = s.outbox ++ [.anv .digestResp pairChan [id, 1, d, g, 0] []])
  ∧ (∀ (s : State) (a b d g x : Nat) (k : Strike) (p : Piece), Hears s → s.anv.strike = some k → (2, a) ∈ k.waits → (4, b) ∈ k.waits → k.picks = [(d, g)] → Tab.find s.gly.own d = some p → p.gen = g →
    ∃ t q, exec (.strikeDigestResp k.id [(d, g, x)]) s = .next t ∧ t.anv.strike = some q ∧ q.failed = (if x = 0 ∨ p.digest = x then k.failed else k.failed ||| 2))
  ∧ (∀ (s : State) (id us : Nat), Talks s → s.anv.peerStrike = some id → ∃ t, exec (.strikeDryBegin id [] us) s = .next t ∧ t.gly = s.gly ∧ t.outbox = s.outbox ++ [.anv .dryResult pairChan [id, if 1000 < us then 3 else 0, us] []])
  ∧ (∀ (s : State) (id d g us : Nat), Talks s → s.anv.peerStrike = some id → (∀ p, Tab.find s.gly.mirror d = some p → p.gen ≠ g ∨ crc64 p.data ≠ p.digest) →
    ∃ t, exec (.strikeDryBegin id [(d, g)] us) s = .next t ∧ t.gly = s.gly ∧ t.outbox = s.outbox ++ [.anv .dryResult pairChan [id, 1, us] []])
  ∧ (∀ (s : State) (result us a b : Nat) (k : Strike), Hears s → s.anv.strike = some k → (3, a) ∈ k.waits → (4, b) ∈ k.waits →
    ∃ t q, exec (.strikeDryResult k.id result us) s = .next t ∧ t.anv.strike = some q ∧ q.failed = (if result = 0 ∧ us ≤ 1000 then k.failed else k.failed ||| 4) ∧ ∀ p ∈ k.dry, Tab.find t.gly.own p.1 = none)
  ∧ (∀ (s : State) (asked bitmap a b : Nat) (k : Strike), Hears s → s.anv.strike = some k → (4, a) ∈ k.waits → (1, b) ∈ k.waits →
    ∃ t q, exec (.strikeOwnerResult k.id asked bitmap) s = .next t ∧ t.anv.strike = some q ∧ q.failed = (if bitmap = 0 ∧ asked = s.admitted.length then k.failed else k.failed ||| 8) ∧ ∀ w ∈ q.waits, w.1 ≠ 4)
  ∧ (∀ (s : State) (asked bitmap a : Nat) (k : Strike), Talks s → s.paired = true → s.anv.strike = some k → k.waits = [(4, a)] → k.kats = [] → k.monthly = false →
    ∃ t, exec (.strikeOwnerResult k.id asked bitmap) s = .next t ∧ t.anv.strike = none ∧
      .anv .strikeEnd pairChan [k.id, if bitmap = 0 ∧ asked = s.admitted.length then k.failed else k.failed ||| 8, k.skipped] [] ∈ t.outbox ∧ (bitmap ≠ 0 → t.on F.ANV_INT_STATUS_STRIKE_FAIL = true))
  ∧ (∀ (s : State) (id : Nat), Hears s → s.anv.peerStrike = some id → ∃ t, exec (.strikeEnd id) s = .next t ∧ t.anv.peerStrike = none)
  ∧ (∀ (s : State), s.anv.strike = none → exec .strikeResponseTimeout s = .next s)
  ∧ (∀ (s : State) (k : Strike), s.anv.strike = some k → (∀ w ∈ k.waits, w.1 = 6 ∨ s.now < w.2 + 100000000) → exec .strikeResponseTimeout s = .next s)
  ∧ (∀ (s : State) (k : Strike) (a b : Nat), s.anv.strike = some k → k.waits = [(1, a), (4, b)] → b + 100000000 ≤ s.now → s.now < a + 100000000 →
    ∃ t, exec .strikeResponseTimeout s = .next t ∧ t.anv.strike = some { k with waits := [(1, a)], failed := k.failed ||| 8 })
  ∧ (∀ (s : State) (result energy : Nat), s.on F.GLY_BELLOWS_STALE = true → (∀ k, s.anv.strike = some k → ∀ w ∈ k.waits, w.1 ≠ 6) →
    exec (.bellowsLoadResult result energy true) s = .next { (s.send (.bellows bellowsAddr 0x21 0)) with gly := { s.gly with loadCap := if result < energy then some result else none, pecFails := 0, lastAnswer := s.now } })
  ∧ (∀ (s : State) (result energy : Nat), exec (.bellowsLoadResult result energy false) s = .next (s.send (.bellows bellowsAddr 0x21 0)).pecFail)
  ∧ (∀ (s : State) (result energy a : Nat) (k : Strike), s.on F.GLY_BELLOWS_STALE = true → s.anv.strike = some k → k.waits = [(6, a)] →
    ∃ t, exec (.bellowsLoadResult result energy true) s = .next t ∧ t.gly.loadCap = (if result < energy then some result else none) ∧ t.anv.strike = none ∧
      t.rd F.ANV_STRIKE_FAILED = (if s.eReq ≤ 96 * result then k.failed else k.failed ||| 32) % F.ANV_STRIKE_FAILED.span)
  ∧ (∀ (s : State) (result energy : Nat), s.on F.GLY_BELLOWS_STALE = false → s.serving = false → s.anv.strike = none → ∃ t, exec (.bellowsLoadResult result energy true) s = .next t ∧ t.rd F.GLY_BELLOWS_ENERGY = min result energy % F.GLY_BELLOWS_ENERGY.span)
  ∧ (∀ (s : State) (id a b : Nat) (l : List (Nat × Nat)) (m : List (Nat × Nat × Nat)), Hears s → (∀ k, s.anv.strike = some k → k.id ≠ id) → s.anv.peerStrike ≠ some id →
    exec (.strikeTongsSeen id a) s = .next (Unheard s 0x50).badStrike ∧ exec (.strikeDigestReq id l) s = .next (Unheard s 0x50).badStrike ∧ exec (.strikeDigestResp id m) s = .next (Unheard s 0x50).badStrike ∧
    exec (.strikeDryBegin id l a) s = .next (Unheard s 0x50).badStrike ∧ exec (.strikeDryResult id a b) s = .next (Unheard s 0x50).badStrike ∧ exec (.strikeOwnerResult id a b) s = .next (Unheard s 0x50).badStrike ∧ exec (.strikeEnd id) s = .next (Unheard s 0x50).badStrike)
  ∧ (∀ (s : State) (id a b : Nat) (l : List (Nat × Nat)) (m : List (Nat × Nat × Nat)), s.anv.lost = true →
    exec (.strikeStart id a b []) s = .next (Unheard s 0x50) ∧ exec (.strikeTongsSeen id a) s = .next (Unheard s 0x50) ∧ exec (.strikeDigestReq id l) s = .next (Unheard s 0x50) ∧ exec (.strikeDigestResp id m) s = .next (Unheard s 0x50) ∧
    exec (.strikeDryBegin id l a) s = .next (Unheard s 0x50) ∧ exec (.strikeDryResult id a b) s = .next (Unheard s 0x50) ∧ exec (.strikeOwnerResult id a b) s = .next (Unheard s 0x50) ∧ exec (.strikeEnd id) s = .next (Unheard s 0x50))

/-- An Anvil ingest unit checks the guard of every block of forwarded data again; a block that fails is asked for again, counted, and does not fail the command, none of whose pieces is published until a copy passes (R158). -/
def Obligations.LinkGuardChecks : Prop :=
  (∀ (s : State) (chan fwdId off tag n i from_ : Nat) (data : Bytes) (k : Token) (x : Task) (v : Volume), Talks s → s.portServes (chan + 16) true = true → Tab.get {} s.stk.tokens tag = k → k.slot = some n → k.again = false → s.task? n = some x → x.ctx = chan + 16 → x.fwdId = fwdId → x.cmd.op ≠ .fusedWrite →
      k.next = off → off + data.length ≤ x.need → x.need ≤ k.stop → v = s.volOf x.cmd.nsid → linkFail v x (overlay x.data off data) off (min (off + data.length) x.need) = some i → from_ = i * (lbafData v.lbaf + if v.ext = true then lbafMeta v.lbaf else 0) → from_ < x.need →
    ∃ t, exec (.anvData chan fwdId off tag k.gen data) s = .next t ∧ (t.task? n).map (·.state) = some x.state ∧ (t.task? n).map (·.data) = some (if from_ ≤ off then x.data.take from_ else overlay x.data off (data.take (from_ - off))) ∧
      (Tab.get {} t.stk.tokens tag).next = from_ ∧ (Tab.get {} t.stk.tokens tag).again = true ∧
      t.rd F.PRF_INGEST_CNT_ANVIL = (s.rd F.PRF_INGEST_CNT_ANVIL + 1) % F.PRF_INGEST_CNT_ANVIL.span ∧ t.outbox = s.outbox ++ [.anv .dataReq chan [fwdId, from_, x.need - from_, tag, k.gen] []])
  ∧ (∀ (s : State) (chan fwdId off tag n : Nat) (data : Bytes) (k : Token) (x : Task), Hears s → s.portServes (chan + 16) true = true → Tab.get {} s.stk.tokens tag = k → k.slot = some n → k.again = true → s.task? n = some x → x.ctx = chan + 16 → x.fwdId = fwdId → x.cmd.op ≠ .fusedWrite → k.next < off →
    exec (.anvData chan fwdId off tag k.gen data) s = .next (Unheard s 0x22))
  ∧ (∀ (s : State) (d n : Nat) (p : Piece) (x : Task), Tab.find s.gly.own d = some p → p.repl = none → p.task = some n → s.task? n = some x → x.complete = false → exec (.piecePublish d) s = .next s)

/-- Ready-to-transfer tokens: what is recorded for a TTAG, and data with a stale one, which is dropped and counted with status 0x0103, while the command that holds the tag and its connection go on (R62, R89). -/
def Obligations.StaleTransferTags : Prop :=
  (∀ (s : State) (n : Nat) (x : Task), s.task? n = some x → x.state = .stamped → x.complete = false → x.token = none → x.cmd.inCapsule = false → (s.ctx x.ctx).transport = .tcp → isInbound x.ctx = false → s.stk.freshTag < 65536 →
    ∃ t, exec (.tokenIssue n) s = .next t ∧ t.outbox = s.outbox ++ [.r2t (s.ctx x.ctx).xportRef s.stk.freshTag x.cmd.cid x.data.length (x.need - x.data.length)] ∧ (t.task? n).map (·.token) = some (some s.stk.freshTag) ∧
      (let k := Tab.get {} t.stk.tokens s.stk.freshTag; k.slot = some n ∧ k.conn = (s.ctx x.ctx).xportRef ∧ k.cccid = x.cmd.cid ∧ k.gen = (Tab.get {} s.stk.tokens s.stk.freshTag).gen))
  ∧ (∀ (s : State) (conn ttag cid off : Nat) (data : Bytes) (last d : Bool), (s.conn conn).live = true → (s.conn conn).transport = .tcp → s.portServes (s.conn conn).ctx true = true → data.length ≤ maxH2cData → (let k := Tab.get {} s.stk.tokens ttag; k.slot = none ∨ k.conn ≠ conn ∨ k.cccid ≠ cid) →
    ∃ t, exec (.h2cData conn ttag cid off data last true d) s = .next t ∧ t.stk = s.stk ∧ t.chs = s.chs ∧ t.gly = s.gly ∧ t.on F.STK_INT_STATUS_STALE = true ∧
      t.rd F.STK_STALE_CNT_COUNT = (s.rd F.STK_STALE_CNT_COUNT + 1) % F.STK_STALE_CNT_COUNT.span ∧ (Tab.find t.flt.log (t.flt.eventSeq % 65536)).map (·.status) = some 0x0103)
  ∧ (∀ (s : State) (chan fwdId off tag gen : Nat) (data : Bytes), Hears s → s.portServes (chan + 16) true = true → (let k := Tab.get {} s.stk.tokens tag; k.slot = none ∨ k.gen ≠ gen) →
    ∃ t, exec (.anvData chan fwdId off tag gen data) s = .next t ∧ t.stk = s.stk ∧ t.chs = s.chs ∧ t.gly = s.gly ∧ t.on F.STK_INT_STATUS_STALE = true ∧
      t.rd F.STK_STALE_CNT_COUNT = (s.rd F.STK_STALE_CNT_COUNT + 1) % F.STK_STALE_CNT_COUNT.span ∧ (Tab.find t.flt.log (t.flt.eventSeq % 65536)).map (·.status) = some 0x0103)
end

