-- ==== Sys2Proof/Laws/Dispatch.lean ====
section
/-! SUPPORT. Each command of the table runs its own meaning. -/

namespace Sys2Proof.Machine

@[simp] theorem exec_standbySupplyUp addr (s : State) : exec (.standbySupplyUp addr) s = execStandbySupplyUp addr s := rfl
@[simp] theorem exec_mainPwrEnAssert (s : State) : exec (.mainPwrEnAssert) s = execMainPwrEnAssert s := rfl
@[simp] theorem exec_coreResetRelease warn (s : State) : exec (.coreResetRelease warn) s = execCoreResetRelease warn s := rfl
@[simp] theorem exec_pwrOkLow (s : State) : exec (.pwrOkLow) s = execPwrOkLow s := rfl
@[simp] theorem exec_resetNLow (s : State) : exec (.resetNLow) s = execResetNLow s := rfl
@[simp] theorem exec_pllLock (s : State) : exec (.pllLock) s = execPllLock s := rfl
@[simp] theorem exec_dramTrainingDone two bytes (s : State) : exec (.dramTrainingDone two bytes) s = execDramTrainingDone two bytes s := rfl
@[simp] theorem exec_laneSelfTestDone failing (s : State) : exec (.laneSelfTestDone failing) s = execLaneSelfTestDone failing s := rfl
@[simp] theorem exec_backendDiscoveryDone found (s : State) : exec (.backendDiscoveryDone found) s = execBackendDiscoveryDone found s := rfl
@[simp] theorem exec_galleyRestore formatOk badOwn badMirror bothLost flash (s : State) : exec (.galleyRestore formatOk badOwn badMirror bothLost flash) s = execGalleyRestore formatOk badOwn badMirror bothLost flash s := rfl
@[simp] theorem exec_journalReplay flash bad (s : State) : exec (.journalReplay flash bad) s = execJournalReplay flash bad s := rfl
@[simp] theorem exec_formingEnd (s : State) : exec (.formingEnd) s = execFormingEnd s := rfl
@[simp] theorem exec_reFormOffer raw (s : State) : exec (.reFormOffer raw) s = execReFormOffer raw s := rfl
@[simp] theorem exec_lineGroupDrained progress bad (s : State) : exec (.lineGroupDrained progress bad) s = execLineGroupDrained progress bad s := rfl
@[simp] theorem exec_supplyEventStart warn (s : State) : exec (.supplyEventStart warn) s = execSupplyEventStart warn s := rfl
@[simp] theorem exec_supplyDipEnd (s : State) : exec (.supplyDipEnd) s = execSupplyDipEnd s := rfl
@[simp] theorem exec_guardEnter (s : State) : exec (.guardEnter) s = execGuardEnter s := rfl
@[simp] theorem exec_guardWindowStart (s : State) : exec (.guardWindowStart) s = execGuardWindowStart s := rfl
@[simp] theorem exec_guardWindowBreak warn (s : State) : exec (.guardWindowBreak warn) s = execGuardWindowBreak warn s := rfl
@[simp] theorem exec_guardResume (s : State) : exec (.guardResume) s = execGuardResume s := rfl
@[simp] theorem exec_dumpCommit (s : State) : exec (.dumpCommit) s = execDumpCommit s := rfl
@[simp] theorem exec_dumpPhaseComplete spent (s : State) : exec (.dumpPhaseComplete spent) s = execDumpPhaseComplete spent s := rfl
@[simp] theorem exec_dumpSeal spent warn rstLow (s : State) : exec (.dumpSeal spent warn rstLow) s = execDumpSeal spent warn rstLow s := rfl
@[simp] theorem exec_coreRailReset (s : State) : exec (.coreRailReset) s = execCoreRailReset s := rfl
@[simp] theorem exec_thermalWarn io c0 c1 (s : State) : exec (.thermalWarn io c0 c1) s = execThermalWarn io c0 c1 s := rfl
@[simp] theorem exec_thermalThrottle io c0 c1 (s : State) : exec (.thermalThrottle io c0 c1) s = execThermalThrottle io c0 c1 s := rfl
@[simp] theorem exec_thermalPark io c0 c1 (s : State) : exec (.thermalPark io c0 c1) s = execThermalPark io c0 c1 s := rfl
@[simp] theorem exec_thermalDump io c0 c1 (s : State) : exec (.thermalDump io c0 c1) s = execThermalDump io c0 c1 s := rfl
@[simp] theorem exec_thermtrip io c0 c1 (s : State) : exec (.thermtrip io c0 c1) s = execThermtrip io c0 c1 s := rfl
@[simp] theorem exec_wakeNLow bad (s : State) : exec (.wakeNLow bad) s = execWakeNLow bad s := rfl
@[simp] theorem exec_wakeTimerExpiry bad (s : State) : exec (.wakeTimerExpiry bad) s = execWakeTimerExpiry bad s := rfl
@[simp] theorem exec_wakeDigestCheck mirror d copy (s : State) : exec (.wakeDigestCheck mirror d copy) s = execWakeDigestCheck mirror d copy s := rfl
@[simp] theorem exec_bankingTimerExpiry deep peerQuiet (s : State) : exec (.bankingTimerExpiry deep peerQuiet) s = execBankingTimerExpiry deep peerQuiet s := rfl
@[simp] theorem exec_bankReqBanked peerQuiet (s : State) : exec (.bankReqBanked peerQuiet) s = execBankReqBanked peerQuiet s := rfl
@[simp] theorem exec_bankReqDeep peerQuiet (s : State) : exec (.bankReqDeep peerQuiet) s = execBankReqDeep peerQuiet s := rfl
@[simp] theorem exec_bankEnterComplete (s : State) : exec (.bankEnterComplete) s = execBankEnterComplete s := rfl
@[simp] theorem exec_powerOffReq (s : State) : exec (.powerOffReq) s = execPowerOffReq s := rfl
@[simp] theorem exec_wakePartnerReq (s : State) : exec (.wakePartnerReq) s = execWakePartnerReq s := rfl
@[simp] theorem exec_hostLoadSample written read (s : State) : exec (.hostLoadSample written read) s = execHostLoadSample written read s := rfl
@[simp] theorem exec_laneClockGate kind lane (s : State) : exec (.laneClockGate kind lane) s = execLaneClockGate kind lane s := rfl
@[simp] theorem exec_smithClockGate core (s : State) : exec (.smithClockGate core) s = execSmithClockGate core s := rfl
@[simp] theorem exec_timeSnapshot (s : State) : exec (.timeSnapshot) s = execTimeSnapshot s := rfl
@[simp] theorem exec_emberCalibration ns (s : State) : exec (.emberCalibration ns) s = execEmberCalibration ns s := rfl
@[simp] theorem exec_timeQualityLapse (s : State) : exec (.timeQualityLapse) s = execTimeQualityLapse s := rfl
@[simp] theorem exec_timAdjWrite offset (s : State) : exec (.timAdjWrite offset) s = execTimAdjWrite offset s := rfl
@[simp] theorem exec_ptpSync offset locked bound port (s : State) : exec (.ptpSync offset locked bound port) s = execPtpSync offset locked bound port s := rfl
@[simp] theorem exec_pcieSqDoorbell ctx tail (s : State) : exec (.pcieSqDoorbell ctx tail) s = execPcieSqDoorbell ctx tail s := rfl
@[simp] theorem exec_cqHeadDoorbell ctx head (s : State) : exec (.cqHeadDoorbell ctx head) s = execCqHeadDoorbell ctx head s := rfl
@[simp] theorem exec_commandFetch ctx cmds (s : State) : exec (.commandFetch ctx cmds) s = execCommandFetch ctx cmds s := rfl
@[simp] theorem exec_contextFill ctx entry (s : State) : exec (.contextFill ctx entry) s = execContextFill ctx entry s := rfl
@[simp] theorem exec_capsuleArrival conn cmds headerOk dataOk (s : State) : exec (.capsuleArrival conn cmds headerOk dataOk) s = execCapsuleArrival conn cmds headerOk dataOk s := rfl
@[simp] theorem exec_spillRingFetch ctx (s : State) : exec (.spillRingFetch ctx) s = execSpillRingFetch ctx s := rfl
@[simp] theorem exec_nvmeofConnect conn cntlid hqid qsize admin keepAliveMs roce lport mtu (s : State) : exec (.nvmeofConnect conn cntlid hqid qsize admin keepAliveMs roce lport mtu) s = execNvmeofConnect conn cntlid hqid qsize admin keepAliveMs roce lport mtu s := rfl
@[simp] theorem exec_tcpIcreq conn lport hdrDigest dataDigest cpda (s : State) : exec (.tcpIcreq conn lport hdrDigest dataDigest cpda) s = execTcpIcreq conn lport hdrDigest dataDigest cpda s := rfl
@[simp] theorem exec_h2cData conn ttag cccid offset data last headerOk dataOk (s : State) : exec (.h2cData conn ttag cccid offset data last headerOk dataOk) s = execH2cData conn ttag cccid offset data last headerOk dataOk s := rfl
@[simp] theorem exec_h2cTermReq conn (s : State) : exec (.h2cTermReq conn) s = execH2cTermReq conn s := rfl
@[simp] theorem exec_rdmaReadComplete slot data (s : State) : exec (.rdmaReadComplete slot data) s = execRdmaReadComplete slot data s := rfl
@[simp] theorem exec_cnpReceived conn (s : State) : exec (.cnpReceived conn) s = execCnpReceived conn s := rfl
@[simp] theorem exec_linkStateChange front port idx speed width fec up (s : State) : exec (.linkStateChange front port idx speed width fec up) s = execLinkStateChange front port idx speed width fec up s := rfl
@[simp] theorem exec_functionLevelReset port fn (s : State) : exec (.functionLevelReset port fn) s = execFunctionLevelReset port fn s := rfl
@[simp] theorem exec_frontLinkLoss port (s : State) : exec (.frontLinkLoss port) s = execFrontLinkLoss port s := rfl
@[simp] theorem exec_controllerEnable cntlid port fn asq asqSize acq acqSize (s : State) : exec (.controllerEnable cntlid port fn asq asqSize acq acqSize) s = execControllerEnable cntlid port fn asq asqSize acq acqSize s := rfl
@[simp] theorem exec_controllerDisable cntlid (s : State) : exec (.controllerDisable cntlid) s = execControllerDisable cntlid s := rfl
@[simp] theorem exec_numvfsWrite port n (s : State) : exec (.numvfsWrite port n) s = execNumvfsWrite port n s := rfl
@[simp] theorem exec_vfDisable port (s : State) : exec (.vfDisable port) s = execVfDisable port s := rfl
@[simp] theorem exec_associationEnd cntlid (s : State) : exec (.associationEnd cntlid) s = execAssociationEnd cntlid s := rfl
@[simp] theorem exec_keepAliveExpiry cntlid (s : State) : exec (.keepAliveExpiry cntlid) s = execKeepAliveExpiry cntlid s := rfl
@[simp] theorem exec_nvmeRead slot copies (s : State) : exec (.nvmeRead slot copies) s = execNvmeRead slot copies s := rfl
@[simp] theorem exec_readDataSent slot (s : State) : exec (.readDataSent slot) s = execReadDataSent slot s := rfl
@[simp] theorem exec_nvmeWrite slot (s : State) : exec (.nvmeWrite slot) s = execNvmeWrite slot s := rfl
@[simp] theorem exec_writeZeroes slot (s : State) : exec (.writeZeroes slot) s = execWriteZeroes slot s := rfl
@[simp] theorem exec_deallocate slot (s : State) : exec (.deallocate slot) s = execDeallocate slot s := rfl
@[simp] theorem exec_nvmeFlush slot (s : State) : exec (.nvmeFlush slot) s = execNvmeFlush slot s := rfl
@[simp] theorem exec_flushComplete slot (s : State) : exec (.flushComplete slot) s = execFlushComplete slot s := rfl
@[simp] theorem exec_compare slot buf copies (s : State) : exec (.compare slot buf copies) s = execCompare slot buf copies s := rfl
@[simp] theorem exec_compareAndWrite slot bufC bufW copies (s : State) : exec (.compareAndWrite slot bufC bufW copies) s = execCompareAndWrite slot bufC bufW copies s := rfl
@[simp] theorem exec_verify slot copies (s : State) : exec (.verify slot copies) s = execVerify slot copies s := rfl
@[simp] theorem exec_createIoCq slot cqid base size vector ien pc aggrThr aggrTime (s : State) : exec (.createIoCq slot cqid base size vector ien pc aggrThr aggrTime) s = execCreateIoCq slot cqid base size vector ien pc aggrThr aggrTime s := rfl
@[simp] theorem exec_createIoSq slot qid cqid base size prio pc (s : State) : exec (.createIoSq slot qid cqid base size prio pc) s = execCreateIoSq slot qid cqid base size prio pc s := rfl
@[simp] theorem exec_deleteIoSq slot qid (s : State) : exec (.deleteIoSq slot qid) s = execDeleteIoSq slot qid s := rfl
@[simp] theorem exec_deleteIoCq slot cqid (s : State) : exec (.deleteIoCq slot cqid) s = execDeleteIoCq slot cqid s := rfl
@[simp] theorem exec_nsCreate slot a (s : State) : exec (.nsCreate slot a) s = execNsCreate slot a s := rfl
@[simp] theorem exec_nsDelete slot (s : State) : exec (.nsDelete slot) s = execNsDelete slot s := rfl
@[simp] theorem exec_nsAttach slot nsid cntlid (s : State) : exec (.nsAttach slot nsid cntlid) s = execNsAttach slot nsid cntlid s := rfl
@[simp] theorem exec_nsDetach slot nsid cntlid (s : State) : exec (.nsDetach slot nsid cntlid) s = execNsDetach slot nsid cntlid s := rfl
@[simp] theorem exec_getLogPage slot lid (s : State) : exec (.getLogPage slot lid) s = execGetLogPage slot lid s := rfl
@[simp] theorem exec_keepAlive slot (s : State) : exec (.keepAlive slot) s = execKeepAlive slot s := rfl
@[simp] theorem exec_setFeaturesArbitration slot burst hpw mpw lpw wrr (s : State) : exec (.setFeaturesArbitration slot burst hpw mpw lpw wrr) s = execSetFeaturesArbitration slot burst hpw mpw lpw wrr s := rfl
@[simp] theorem exec_reservationRegister slot action cur new cptpl ignoreKey (s : State) : exec (.reservationRegister slot action cur new cptpl ignoreKey) s = execReservationRegister slot action cur new cptpl ignoreKey s := rfl
@[simp] theorem exec_reservationAcquire slot action rtype cur pre (s : State) : exec (.reservationAcquire slot action rtype cur pre) s = execReservationAcquire slot action rtype cur pre s := rfl
@[simp] theorem exec_reservationRelease slot action rtype cur (s : State) : exec (.reservationRelease slot action rtype cur) s = execReservationRelease slot action rtype cur s := rfl
@[simp] theorem exec_reservationReport slot (s : State) : exec (.reservationReport slot) s = execReservationReport slot s := rfl
@[simp] theorem exec_unsupportedCommand slot (s : State) : exec (.unsupportedCommand slot) s = execUnsupportedCommand slot s := rfl
@[simp] theorem exec_fwImageDownload slot buf peerLock (s : State) : exec (.fwImageDownload slot buf peerLock) s = execFwImageDownload slot buf peerLock s := rfl
@[simp] theorem exec_fwCommitStage slot peerMoving peerLock (s : State) : exec (.fwCommitStage slot peerMoving peerLock) s = execFwCommitStage slot peerMoving peerLock s := rfl
@[simp] theorem exec_fwCommitStageActivate slot peerMoving peerLock (s : State) : exec (.fwCommitStageActivate slot peerMoving peerLock) s = execFwCommitStageActivate slot peerMoving peerLock s := rfl
@[simp] theorem exec_fwCommitActivateSlot slot peerMoving peerLock (s : State) : exec (.fwCommitActivateSlot slot peerMoving peerLock) s = execFwCommitActivateSlot slot peerMoving peerLock s := rfl
@[simp] theorem exec_fwCommitActivateNow slot peerMoving peerLock (s : State) : exec (.fwCommitActivateNow slot peerMoving peerLock) s = execFwCommitActivateNow slot peerMoving peerLock s := rfl
@[simp] theorem exec_updateCompare slot (s : State) : exec (.updateCompare slot) s = execUpdateCompare slot s := rfl
@[simp] theorem exec_tokenIssue slot (s : State) : exec (.tokenIssue slot) s = execTokenIssue slot s := rfl
@[simp] theorem exec_completionPost ctx (s : State) : exec (.completionPost ctx) s = execCompletionPost ctx s := rfl
@[simp] theorem exec_msixCoalesceTimer ctx (s : State) : exec (.msixCoalesceTimer ctx) s = execMsixCoalesceTimer ctx s := rfl
@[simp] theorem exec_drainComplete ctx (s : State) : exec (.drainComplete ctx) s = execDrainComplete ctx s := rfl
@[simp] theorem exec_fetchHoldWrite v (s : State) : exec (.fetchHoldWrite v) s = execFetchHoldWrite v s := rfl
@[simp] theorem exec_stkQcmdCloseChannel qid (s : State) : exec (.stkQcmdCloseChannel qid) s = execStkQcmdCloseChannel qid s := rfl
@[simp] theorem exec_stkQcmdRehome qid (s : State) : exec (.stkQcmdRehome qid) s = execStkQcmdRehome qid s := rfl
@[simp] theorem exec_hwmClear locks (s : State) : exec (.hwmClear locks) s = execHwmClear locks s := rfl
@[simp] theorem exec_chaseStamp slot (s : State) : exec (.chaseStamp slot) s = execChaseStamp slot s := rfl
@[simp] theorem exec_stampHoldWrite v (s : State) : exec (.stampHoldWrite v) s = execStampHoldWrite v s := rfl
@[simp] theorem exec_pieceDataLand d buf (s : State) : exec (.pieceDataLand d buf) s = execPieceDataLand d buf s := rfl
@[simp] theorem exec_galleyRunAvailable (s : State) : exec (.galleyRunAvailable) s = execGalleyRunAvailable s := rfl
@[simp] theorem exec_localDramWriteComplete d (s : State) : exec (.localDramWriteComplete d) s = execLocalDramWriteComplete d s := rfl
@[simp] theorem exec_piecePublish d (s : State) : exec (.piecePublish d) s = execPiecePublish d s := rfl
@[simp] theorem exec_pieceApply d (s : State) : exec (.pieceApply d) s = execPieceApply d s := rfl
@[simp] theorem exec_pieceRelease d (s : State) : exec (.pieceRelease d) s = execPieceRelease d s := rfl
@[simp] theorem exec_statusSendTimer (s : State) : exec (.statusSendTimer) s = execStatusSendTimer s := rfl
@[simp] theorem exec_partnerStatusTimeout (s : State) : exec (.partnerStatusTimeout) s = execPartnerStatusTimeout s := rfl
@[simp] theorem exec_unprotModeExit (s : State) : exec (.unprotModeExit) s = execUnprotModeExit s := rfl
@[simp] theorem exec_galleyLogConfirm d module2 (s : State) : exec (.galleyLogConfirm d module2) s = execGalleyLogConfirm d module2 s := rfl
@[simp] theorem exec_forceUnprotWrite v (s : State) : exec (.forceUnprotWrite v) s = execForceUnprotWrite v s := rfl
@[simp] theorem exec_bellowsPoll energy status pecOk (s : State) : exec (.bellowsPoll energy status pecOk) s = execBellowsPoll energy status pecOk s := rfl
@[simp] theorem exec_bellowsTimeout (s : State) : exec (.bellowsTimeout) s = execBellowsTimeout s := rfl
@[simp] theorem exec_vaultSetErase b (s : State) : exec (.vaultSetErase b) s = execVaultSetErase b s := rfl
@[simp] theorem exec_vaultRestripeDone (s : State) : exec (.vaultRestripeDone) s = execVaultRestripeDone s := rfl
@[simp] theorem exec_dumpSetRelease b (s : State) : exec (.dumpSetRelease b) s = execDumpSetRelease b s := rfl
@[simp] theorem exec_grainJobPlace job line mask d g (s : State) : exec (.grainJobPlace job line mask d g) s = execGrainJobPlace job line mask d g s := rfl
@[simp] theorem exec_refineDigestMismatch d read copy (s : State) : exec (.refineDigestMismatch d read copy) s = execRefineDigestMismatch d read copy s := rfl
@[simp] theorem exec_sortRepairDurable gid (s : State) : exec (.sortRepairDurable gid) s = execSortRepairDurable gid s := rfl
@[simp] theorem exec_prfOpen check (s : State) : exec (.prfOpen check) s = execPrfOpen check s := rfl
@[simp] theorem exec_prfClose (s : State) : exec (.prfClose) s = execPrfClose s := rfl
@[simp] theorem exec_prfCloseOpen check (s : State) : exec (.prfCloseOpen check) s = execPrfCloseOpen check s := rfl
@[simp] theorem exec_prfPendingOpen u (s : State) : exec (.prfPendingOpen u) s = execPrfPendingOpen u s := rfl
@[simp] theorem exec_prfRdataWrite width value (s : State) : exec (.prfRdataWrite width value) s = execPrfRdataWrite width value s := rfl
@[simp] theorem exec_prfKatStart pass (s : State) : exec (.prfKatStart pass) s = execPrfKatStart pass s := rfl
@[simp] theorem exec_punchJobSubmit cluster desc seg ref progress bad (s : State) : exec (.punchJobSubmit cluster desc seg ref progress bad) s = execPunchJobSubmit cluster desc seg ref progress bad s := rfl
@[simp] theorem exec_punchJobEnd core progress bad (s : State) : exec (.punchJobEnd core progress bad) s = execPunchJobEnd core progress bad s := rfl
@[simp] theorem exec_punchResume cluster line progress bad (s : State) : exec (.punchResume cluster line progress bad) s = execPunchResume cluster line progress bad s := rfl
@[simp] theorem exec_punchParityError core (s : State) : exec (.punchParityError core) s = execPunchParityError core s := rfl
@[simp] theorem exec_punchKatStart pass (s : State) : exec (.punchKatStart pass) s = execPunchKatStart pass s := rfl
@[simp] theorem exec_matrixLookup d g (s : State) : exec (.matrixLookup d g) s = execMatrixLookup d g s := rfl
@[simp] theorem exec_mtxLookup chan req (s : State) : exec (.mtxLookup chan req) s = execMtxLookup chan req s := rfl
@[simp] theorem exec_mtxPlace chan req (s : State) : exec (.mtxPlace chan req) s = execMtxPlace chan req s := rfl
@[simp] theorem exec_mtxRef chan req (s : State) : exec (.mtxRef chan req) s = execMtxRef chan req s := rfl
@[simp] theorem exec_mtxUnpin chan req (s : State) : exec (.mtxUnpin chan req) s = execMtxUnpin chan req s := rfl
@[simp] theorem exec_mtxMove chan req (s : State) : exec (.mtxMove chan req) s = execMtxMove chan req s := rfl
@[simp] theorem exec_mtxFetchFp chan req (s : State) : exec (.mtxFetchFp chan req) s = execMtxFetchFp chan req s := rfl
@[simp] theorem exec_mtxIndexDelta chan req (s : State) : exec (.mtxIndexDelta chan req) s = execMtxIndexDelta chan req s := rfl
@[simp] theorem exec_mtxHandoff chan req half hwm pins placers deferred (s : State) : exec (.mtxHandoff chan req half hwm pins placers deferred) s = execMtxHandoff chan req half hwm pins placers deferred s := rfl
@[simp] theorem exec_mtxResponse resp (s : State) : exec (.mtxResponse resp) s = execMtxResponse resp s := rfl
@[simp] theorem exec_freeChainAppend hb (s : State) : exec (.freeChainAppend hb) s = execFreeChainAppend hb s := rfl
@[simp] theorem exec_indexRemoval hb (s : State) : exec (.indexRemoval hb) s = execIndexRemoval hb s := rfl
@[simp] theorem exec_grainPlaced g (s : State) : exec (.grainPlaced g) s = execGrainPlaced g s := rfl
@[simp] theorem exec_strictVerify d g (s : State) : exec (.strictVerify d g) s = execStrictVerify d g s := rfl
@[simp] theorem exec_halfLoadStart hb (s : State) : exec (.halfLoadStart hb) s = execHalfLoadStart hb s := rfl
@[simp] theorem exec_halfLoadDone hb (s : State) : exec (.halfLoadDone hb) s = execHalfLoadDone hb s := rfl
@[simp] theorem exec_catchupGrain hb (s : State) : exec (.catchupGrain hb) s = execCatchupGrain hb s := rfl
@[simp] theorem exec_swageGrainCompress cluster desc src (s : State) : exec (.swageGrainCompress cluster desc src) s = execSwageGrainCompress cluster desc src s := rfl
@[simp] theorem exec_swageGrainExpand cluster desc src (s : State) : exec (.swageGrainExpand cluster desc src) s = execSwageGrainExpand cluster desc src s := rfl
@[simp] theorem exec_swageStreamCompress cluster desc src (s : State) : exec (.swageStreamCompress cluster desc src) s = execSwageStreamCompress cluster desc src s := rfl
@[simp] theorem exec_swageStreamExpand cluster desc src (s : State) : exec (.swageStreamExpand cluster desc src) s = execSwageStreamExpand cluster desc src s := rfl
@[simp] theorem exec_swageJobEnd lane checkOk sortOk (s : State) : exec (.swageJobEnd lane checkOk sortOk) s = execSwageJobEnd lane checkOk sortOk s := rfl
@[simp] theorem exec_swageKatStart pass (s : State) : exec (.swageKatStart pass) s = execSwageKatStart pass s := rfl
@[simp] theorem exec_temperJobSubmit cluster desc src aux (s : State) : exec (.temperJobSubmit cluster desc src aux) s = execTemperJobSubmit cluster desc src aux s := rfl
@[simp] theorem exec_temperJobEnd pair lanesAgree (s : State) : exec (.temperJobEnd pair lanesAgree) s = execTemperJobEnd pair lanesAgree s := rfl
@[simp] theorem exec_keyUnwrap cluster h (s : State) : exec (.keyUnwrap cluster h) s = execKeyUnwrap cluster h s := rfl
@[simp] theorem exec_nonceHwmDurable h (s : State) : exec (.nonceHwmDurable h) s = execNonceHwmDurable h s := rfl
@[simp] theorem exec_keyCreate (s : State) : exec (.keyCreate) s = execKeyCreate s := rfl
@[simp] theorem exec_keyInstallConfirm h (s : State) : exec (.keyInstallConfirm h) s = execKeyInstallConfirm h s := rfl
@[simp] theorem exec_keySweep (s : State) : exec (.keySweep) s = execKeySweep s := rfl
@[simp] theorem exec_keySweepEnd (s : State) : exec (.keySweepEnd) s = execKeySweepEnd s := rfl
@[simp] theorem exec_keyDestroy (s : State) : exec (.keyDestroy) s = execKeyDestroy s := rfl
@[simp] theorem exec_keyDestroyZero realm (s : State) : exec (.keyDestroyZero realm) s = execKeyDestroyZero realm s := rfl
@[simp] theorem exec_temperKatStart pass (s : State) : exec (.temperKatStart pass) s = execTemperKatStart pass s := rfl
@[simp] theorem exec_impositionJobSubmit desc src (s : State) : exec (.impositionJobSubmit desc src) s = execImpositionJobSubmit desc src s := rfl
@[simp] theorem exec_impositionJobEnd u treesAgree (s : State) : exec (.impositionJobEnd u treesAgree) s = execImpositionJobEnd u treesAgree s := rfl
@[simp] theorem exec_impKatStart pass (s : State) : exec (.impKatStart pass) s = execImpKatStart pass s := rfl
@[simp] theorem exec_stripeCloseTimer sheet (s : State) : exec (.stripeCloseTimer sheet) s = execStripeCloseTimer sheet s := rfl
@[simp] theorem exec_stripeOpenDurable sheet stripe (s : State) : exec (.stripeOpenDurable sheet stripe) s = execStripeOpenDurable sheet stripe s := rfl
@[simp] theorem exec_stripeChunksConfirmed sheet stripe (s : State) : exec (.stripeChunksConfirmed sheet stripe) s = execStripeChunksConfirmed sheet stripe s := rfl
@[simp] theorem exec_memberMissing m (s : State) : exec (.memberMissing m) s = execMemberMissing m s := rfl
@[simp] theorem exec_rebuildStripe (s : State) : exec (.rebuildStripe) s = execRebuildStripe s := rfl
@[simp] theorem exec_rebuildSheetDone (s : State) : exec (.rebuildSheetDone) s = execRebuildSheetDone s := rfl
@[simp] theorem exec_rebuildRelocate id (s : State) : exec (.rebuildRelocate id) s = execRebuildRelocate id s := rfl
@[simp] theorem exec_rebuildShareSample used (s : State) : exec (.rebuildShareSample used) s = execRebuildShareSample used s := rfl
@[simp] theorem exec_mendWaitTimeout slot (s : State) : exec (.mendWaitTimeout slot) s = execMendWaitTimeout slot s := rfl
@[simp] theorem exec_reshapeMigrateCmd (s : State) : exec (.reshapeMigrateCmd) s = execReshapeMigrateCmd s := rfl
@[simp] theorem exec_reshapeSheetCheckpoint (s : State) : exec (.reshapeSheetCheckpoint) s = execReshapeSheetCheckpoint s := rfl
@[simp] theorem exec_reshapeBoundaryWrite (s : State) : exec (.reshapeBoundaryWrite) s = execReshapeBoundaryWrite s := rfl
@[simp] theorem exec_reshapePauseWrite v (s : State) : exec (.reshapePauseWrite v) s = execReshapePauseWrite v s := rfl
@[simp] theorem exec_sheetOpen role cls lost (s : State) : exec (.sheetOpen role cls lost) s = execSheetOpen role cls lost s := rfl
@[simp] theorem exec_journalBatchDurable logged (s : State) : exec (.journalBatchDurable logged) s = execJournalBatchDurable logged s := rfl
@[simp] theorem exec_flushIntervalTimer (s : State) : exec (.flushIntervalTimer) s = execFlushIntervalTimer s := rfl
@[simp] theorem exec_flushNow (s : State) : exec (.flushNow) s = execFlushNow s := rfl
@[simp] theorem exec_checkpointDurable (s : State) : exec (.checkpointDurable) s = execCheckpointDurable s := rfl
@[simp] theorem exec_auditStart (s : State) : exec (.auditStart) s = execAuditStart s := rfl
@[simp] theorem exec_auditEnd (s : State) : exec (.auditEnd) s = execAuditEnd s := rfl
@[simp] theorem exec_descaleCopyDone (s : State) : exec (.descaleCopyDone) s = execDescaleCopyDone s := rfl
@[simp] theorem exec_descaleErase sheet (s : State) : exec (.descaleErase sheet) s = execDescaleErase sheet s := rfl
@[simp] theorem exec_descalePauseWrite v (s : State) : exec (.descalePauseWrite v) s = execDescalePauseWrite v s := rfl
@[simp] theorem exec_wearCheck (s : State) : exec (.wearCheck) s = execWearCheck s := rfl
@[simp] theorem exec_capSet (s : State) : exec (.capSet) s = execCapSet s := rfl
@[simp] theorem exec_healthSample (s : State) : exec (.healthSample) s = execHealthSample s := rfl
@[simp] theorem exec_gmpIdentify m port media (s : State) : exec (.gmpIdentify m port media) s = execGmpIdentify m port media s := rfl
@[simp] theorem exec_gmpHello m port version media (s : State) : exec (.gmpHello m port version media) s = execGmpHello m port version media s := rfl
@[simp] theorem exec_gmpHealth m port media (s : State) : exec (.gmpHealth m port media) s = execGmpHealth m port media s := rfl
@[simp] theorem exec_gmpOwner m port plate media (s : State) : exec (.gmpOwner m port plate media) s = execGmpOwner m port plate media s := rfl
@[simp] theorem exec_gmpRead m port plate offset length what media (s : State) : exec (.gmpRead m port plate offset length what media) s = execGmpRead m port plate offset length what media s := rfl
@[simp] theorem exec_gmpWrite m port plate offset data media (s : State) : exec (.gmpWrite m port plate offset data media) s = execGmpWrite m port plate offset data media s := rfl
@[simp] theorem exec_gmpErase m port plate media (s : State) : exec (.gmpErase m port plate media) s = execGmpErase m port plate media s := rfl
@[simp] theorem exec_gmpClaim m port plate expect seat media (s : State) : exec (.gmpClaim m port plate expect seat media) s = execGmpClaim m port plate expect seat media s := rfl
@[simp] theorem exec_gmpFence m port on media (s : State) : exec (.gmpFence m port on media) s = execGmpFence m port on media s := rfl
@[simp] theorem exec_gmpSetAnchor m port gen a b number media (s : State) : exec (.gmpSetAnchor m port gen a b number media) s = execGmpSetAnchor m port gen a b number media s := rfl
@[simp] theorem exec_gmpFwDownload m port offset data media (s : State) : exec (.gmpFwDownload m port offset data media) s = execGmpFwDownload m port offset data media s := rfl
@[simp] theorem exec_gmpFwActivate m port media (s : State) : exec (.gmpFwActivate m port media) s = execGmpFwActivate m port media s := rfl
@[simp] theorem exec_gmpCompletion (s : State) : exec (.gmpCompletion) s = execGmpCompletion s := rfl
@[simp] theorem exec_gmpStaleTransfer m tag gen (s : State) : exec (.gmpStaleTransfer m tag gen) s = execGmpStaleTransfer m tag gen s := rfl
@[simp] theorem exec_gmpTimeout tag (s : State) : exec (.gmpTimeout tag) s = execGmpTimeout tag s := rfl
@[simp] theorem exec_moduleLinkUp info speed lanes (s : State) : exec (.moduleLinkUp info speed lanes) s = execModuleLinkUp info speed lanes s := rfl
@[simp] theorem exec_moduleAdmitConfirm m serial (s : State) : exec (.moduleAdmitConfirm m serial) s = execModuleAdmitConfirm m serial s := rfl
@[simp] theorem exec_moduleAdmitTimeout m (s : State) : exec (.moduleAdmitTimeout m) s = execModuleAdmitTimeout m s := rfl
@[simp] theorem exec_moduleRemoval m (s : State) : exec (.moduleRemoval m) s = execModuleRemoval m s := rfl
@[simp] theorem exec_moduleFenceRetry m (s : State) : exec (.moduleFenceRetry m) s = execModuleFenceRetry m s := rfl
@[simp] theorem exec_gmpModRelease (s : State) : exec (.gmpModRelease) s = execGmpModRelease s := rfl
@[simp] theorem exec_gmpModActivate (s : State) : exec (.gmpModActivate) s = execGmpModActivate s := rfl
@[simp] theorem exec_moduleFwTimeout m (s : State) : exec (.moduleFwTimeout m) s = execModuleFwTimeout m s := rfl
@[simp] theorem exec_steSnapshot (s : State) : exec (.steSnapshot) s = execSteSnapshot s := rfl
@[simp] theorem exec_snapshotComplete volume (s : State) : exec (.snapshotComplete volume) s = execSnapshotComplete volume s := rfl
@[simp] theorem exec_steClone (s : State) : exec (.steClone) s = execSteClone s := rfl
@[simp] theorem exec_steDelete (s : State) : exec (.steDelete) s = execSteDelete s := rfl
@[simp] theorem exec_deleteWalkBatch n (s : State) : exec (.deleteWalkBatch n) s = execDeleteWalkBatch n s := rfl
@[simp] theorem exec_deletePauseWrite v (s : State) : exec (.deletePauseWrite v) s = execDeletePauseWrite v s := rfl
@[simp] theorem exec_steOpenSession desc (s : State) : exec (.steOpenSession desc) s = execSteOpenSession desc s := rfl
@[simp] theorem exec_steStartDelta (s : State) : exec (.steStartDelta) s = execSteStartDelta s := rfl
@[simp] theorem exec_steCloseSession (s : State) : exec (.steCloseSession) s = execSteCloseSession s := rfl
@[simp] theorem exec_steBreakSync (s : State) : exec (.steBreakSync) s = execSteBreakSync s := rfl
@[simp] theorem exec_replHello k rec key (s : State) : exec (.replHello k rec key) s = execReplHello k rec key s := rfl
@[simp] theorem exec_replHelloAck k rec key (s : State) : exec (.replHelloAck k rec key) s = execReplHelloAck k rec key s := rfl
@[simp] theorem exec_replKeys k rec (s : State) : exec (.replKeys k rec) s = execReplKeys k rec s := rfl
@[simp] theorem exec_replDeltaBegin k rec (s : State) : exec (.replDeltaBegin k rec) s = execReplDeltaBegin k rec s := rfl
@[simp] theorem exec_replExtents k rec (s : State) : exec (.replExtents k rec) s = execReplExtents k rec s := rfl
@[simp] theorem exec_replFpList k rec (s : State) : exec (.replFpList k rec) s = execReplFpList k rec s := rfl
@[simp] theorem exec_replHave k rec (s : State) : exec (.replHave k rec) s = execReplHave k rec s := rfl
@[simp] theorem exec_replGrains k rec (s : State) : exec (.replGrains k rec) s = execReplGrains k rec s := rfl
@[simp] theorem exec_replSegmentEnd k rec (s : State) : exec (.replSegmentEnd k rec) s = execReplSegmentEnd k rec s := rfl
@[simp] theorem exec_replSegmentAck k rec (s : State) : exec (.replSegmentAck k rec) s = execReplSegmentAck k rec s := rfl
@[simp] theorem exec_replDeltaEnd k rec (s : State) : exec (.replDeltaEnd k rec) s = execReplDeltaEnd k rec s := rfl
@[simp] theorem exec_replDeltaAck k rec (s : State) : exec (.replDeltaAck k rec) s = execReplDeltaAck k rec s := rfl
@[simp] theorem exec_replWrite k rec (s : State) : exec (.replWrite k rec) s = execReplWrite k rec s := rfl
@[simp] theorem exec_replWriteAck k rec (s : State) : exec (.replWriteAck k rec) s = execReplWriteAck k rec s := rfl
@[simp] theorem exec_replSyncMark k rec (s : State) : exec (.replSyncMark k rec) s = execReplSyncMark k rec s := rfl
@[simp] theorem exec_syncMarkTimer k (s : State) : exec (.syncMarkTimer k) s = execSyncMarkTimer k s := rfl
@[simp] theorem exec_replMendReq k rec (s : State) : exec (.replMendReq k rec) s = execReplMendReq k rec s := rfl
@[simp] theorem exec_replMendData k rec (s : State) : exec (.replMendData k rec) s = execReplMendData k rec s := rfl
@[simp] theorem exec_replClose k rec (s : State) : exec (.replClose k rec) s = execReplClose k rec s := rfl
@[simp] theorem exec_replError k rec (s : State) : exec (.replError k rec) s = execReplError k rec s := rfl
@[simp] theorem exec_syncTimeout k (s : State) : exec (.syncTimeout k) s = execSyncTimeout k s := rfl
@[simp] theorem exec_replConnectionLoss k (s : State) : exec (.replConnectionLoss k) s = execReplConnectionLoss k s := rfl
@[simp] theorem exec_anvFlitReceive b flit (s : State) : exec (.anvFlitReceive b flit) s = execAnvFlitReceive b flit s := rfl
@[simp] theorem exec_anvNak b fack last (s : State) : exec (.anvNak b fack last) s = execAnvNak b fack last s := rfl
@[simp] theorem exec_anvLaneLockLoss b (s : State) : exec (.anvLaneLockLoss b) s = execAnvLaneLockLoss b s := rfl
@[simp] theorem exec_anvHello h (s : State) : exec (.anvHello h) s = execAnvHello h s := rfl
@[simp] theorem exec_anvHelloAck h (s : State) : exec (.anvHelloAck h) s = execAnvHelloAck h s := rfl
@[simp] theorem exec_helloRetryTimer (s : State) : exec (.helloRetryTimer) s = execHelloRetryTimer s := rfl
@[simp] theorem exec_anvStatus mode flags e ereq ecov time quality unc (s : State) : exec (.anvStatus mode flags e ereq ecov time quality unc) s = execAnvStatus mode flags e ereq ecov time quality unc s := rfl
@[simp] theorem exec_anvPark (s : State) : exec (.anvPark) s = execAnvPark s := rfl
@[simp] theorem exec_anvRejoin h (s : State) : exec (.anvRejoin h) s = execAnvRejoin h s := rfl
@[simp] theorem exec_anvReleased (s : State) : exec (.anvReleased) s = execAnvReleased s := rfl
@[simp] theorem exec_anvBindOffer nonce has cert (s : State) : exec (.anvBindOffer nonce has cert) s = execAnvBindOffer nonce has cert s := rfl
@[simp] theorem exec_anvBindXfer wrapped (s : State) : exec (.anvBindXfer wrapped) s = execAnvBindXfer wrapped s := rfl
@[simp] theorem exec_anvBindProof mac (s : State) : exec (.anvBindProof mac) s = execAnvBindProof mac s := rfl
@[simp] theorem exec_anvMirrorData slot data (s : State) : exec (.anvMirrorData slot data) s = execAnvMirrorData slot data s := rfl
@[simp] theorem exec_anvMirrorDesc idx desc fwd (s : State) : exec (.anvMirrorDesc idx desc fwd) s = execAnvMirrorDesc idx desc fwd s := rfl
@[simp] theorem exec_anvMirrorAck idx gen result (s : State) : exec (.anvMirrorAck idx gen result) s = execAnvMirrorAck idx gen result s := rfl
@[simp] theorem exec_anvCommit idx gen (s : State) : exec (.anvCommit idx gen) s = execAnvCommit idx gen s := rfl
@[simp] theorem exec_anvRelease idx gen (s : State) : exec (.anvRelease idx gen) s = execAnvRelease idx gen s := rfl
@[simp] theorem exec_anvRing area off recs (s : State) : exec (.anvRing area off recs) s = execAnvRing area off recs s := rfl
@[simp] theorem exec_anvRingAck area off (s : State) : exec (.anvRingAck area off) s = execAnvRingAck area off s := rfl
@[simp] theorem exec_anvFwdCmd chan fwdId cntlid cmds family (s : State) : exec (.anvFwdCmd chan fwdId cntlid cmds family) s = execAnvFwdCmd chan fwdId cntlid cmds family s := rfl
@[simp] theorem exec_anvDataReq fwdId off len tag gen buf (s : State) : exec (.anvDataReq fwdId off len tag gen buf) s = execAnvDataReq fwdId off len tag gen buf s := rfl
@[simp] theorem exec_anvData chan fwdId off tag gen data (s : State) : exec (.anvData chan fwdId off tag gen data) s = execAnvData chan fwdId off tag gen data s := rfl
@[simp] theorem exec_anvReadData fwdId off data (s : State) : exec (.anvReadData fwdId off data) s = execAnvReadData fwdId off data s := rfl
@[simp] theorem exec_anvResult chan fwdId st direct dword0 (s : State) : exec (.anvResult chan fwdId st direct dword0) s = execAnvResult chan fwdId st direct dword0 s := rfl
@[simp] theorem exec_anvCancel chan fwdId (s : State) : exec (.anvCancel chan fwdId) s = execAnvCancel chan fwdId s := rfl
@[simp] theorem exec_anvCredit chan n (s : State) : exec (.anvCredit chan n) s = execAnvCredit chan n s := rfl
@[simp] theorem exec_nsMoveStart nsid handback (s : State) : exec (.nsMoveStart nsid handback) s = execNsMoveStart nsid handback s := rfl
@[simp] theorem exec_anvMoveBegin chan nsid asks (s : State) : exec (.anvMoveBegin chan nsid asks) s = execAnvMoveBegin chan nsid asks s := rfl
@[simp] theorem exec_boundarySend nsid (s : State) : exec (.boundarySend nsid) s = execBoundarySend nsid s := rfl
@[simp] theorem exec_anvBoundary body (s : State) : exec (.anvBoundary body) s = execAnvBoundary body s := rfl
@[simp] theorem exec_anvMoveDone nsid (s : State) : exec (.anvMoveDone nsid) s = execAnvMoveDone nsid s := rfl
@[simp] theorem exec_moveHoldLong nsid (s : State) : exec (.moveHoldLong nsid) s = execMoveHoldLong nsid s := rfl
@[simp] theorem exec_anvClearance sheet grant (s : State) : exec (.anvClearance sheet grant) s = execAnvClearance sheet grant s := rfl
@[simp] theorem exec_anvMediaReturn body n lost rebuild reshape (s : State) : exec (.anvMediaReturn body n lost rebuild reshape) s = execAnvMediaReturn body n lost rebuild reshape s := rfl
@[simp] theorem exec_strikeStart id steps lines silent (s : State) : exec (.strikeStart id steps lines silent) s = execStrikeStart id steps lines silent s := rfl
@[simp] theorem exec_strikeTongsSeen id lines (s : State) : exec (.strikeTongsSeen id lines) s = execStrikeTongsSeen id lines s := rfl
@[simp] theorem exec_strikeDigestReq id l (s : State) : exec (.strikeDigestReq id l) s = execStrikeDigestReq id l s := rfl
@[simp] theorem exec_strikeDigestResp id l (s : State) : exec (.strikeDigestResp id l) s = execStrikeDigestResp id l s := rfl
@[simp] theorem exec_strikeDryBegin id l us (s : State) : exec (.strikeDryBegin id l us) s = execStrikeDryBegin id l us s := rfl
@[simp] theorem exec_strikeDryResult id result us (s : State) : exec (.strikeDryResult id result us) s = execStrikeDryResult id result us s := rfl
@[simp] theorem exec_strikeOwnerResult id asked bitmap (s : State) : exec (.strikeOwnerResult id asked bitmap) s = execStrikeOwnerResult id asked bitmap s := rfl
@[simp] theorem exec_strikeEnd id (s : State) : exec (.strikeEnd id) s = execStrikeEnd id s := rfl
@[simp] theorem exec_strikeIntervalTimer picks kats (s : State) : exec (.strikeIntervalTimer picks kats) s = execStrikeIntervalTimer picks kats s := rfl
@[simp] theorem exec_strikeNow picks kats (s : State) : exec (.strikeNow picks kats) s = execStrikeNow picks kats s := rfl
@[simp] theorem exec_strikeResponseTimeout (s : State) : exec (.strikeResponseTimeout) s = execStrikeResponseTimeout s := rfl
@[simp] theorem exec_bellowsLoadResult result energy pecOk (s : State) : exec (.bellowsLoadResult result energy pecOk) s = execBellowsLoadResult result energy pecOk s := rfl
@[simp] theorem exec_aliveStale t0 (s : State) : exec (.aliveStale t0) s = execAliveStale t0 s := rfl
@[simp] theorem exec_takeoverReplayDone flash (s : State) : exec (.takeoverReplayDone flash) s = execTakeoverReplayDone flash s := rfl
@[simp] theorem exec_fenceInAssert (s : State) : exec (.fenceInAssert) s = execFenceInAssert s := rfl
@[simp] theorem exec_claimAckInAssert (s : State) : exec (.claimAckInAssert) s = execClaimAckInAssert s := rfl
@[simp] theorem exec_watchdogExpiry pair (s : State) : exec (.watchdogExpiry pair) s = execWatchdogExpiry pair s := rfl
@[simp] theorem exec_bundlesDownTimeout (s : State) : exec (.bundlesDownTimeout) s = execBundlesDownTimeout s := rfl
@[simp] theorem exec_bundleDown b (s : State) : exec (.bundleDown b) s = execBundleDown b s := rfl
@[simp] theorem exec_bundleTrainRetry b (s : State) : exec (.bundleTrainRetry b) s = execBundleTrainRetry b s := rfl
@[simp] theorem exec_bundleTrained b ok (s : State) : exec (.bundleTrained b ok) s = execBundleTrained b ok s := rfl
@[simp] theorem exec_bundleStable b (s : State) : exec (.bundleStable b) s = execBundleStable b s := rfl
@[simp] theorem exec_joinBacklogDone (s : State) : exec (.joinBacklogDone) s = execJoinBacklogDone s := rfl
@[simp] theorem exec_startAloneTimer (s : State) : exec (.startAloneTimer) s = execStartAloneTimer s := rfl
@[simp] theorem exec_handbackNs nsid (s : State) : exec (.handbackNs nsid) s = execHandbackNs nsid s := rfl
@[simp] theorem exec_handbackList (s : State) : exec (.handbackList) s = execHandbackList s := rfl
@[simp] theorem exec_linkDownDelay (s : State) : exec (.linkDownDelay) s = execLinkDownDelay s := rfl
@[simp] theorem exec_channelError kind index st kat tries gib bad (s : State) : exec (.channelError kind index st kat tries gib bad) s = execChannelError kind index st kat tries gib bad s := rfl
@[simp] theorem exec_scrapEntryDurable slot (s : State) : exec (.scrapEntryDurable slot) s = execScrapEntryDurable slot s := rfl
@[simp] theorem exec_alarmEventResend seq (s : State) : exec (.alarmEventResend seq) s = execAlarmEventResend seq s := rfl
@[simp] theorem exec_pldmEventAck mctp seq (s : State) : exec (.pldmEventAck mctp seq) s = execPldmEventAck mctp seq s := rfl
@[simp] theorem exec_pldmGetSensor mctp id measured (s : State) : exec (.pldmGetSensor mctp id measured) s = execPldmGetSensor mctp id measured s := rfl
@[simp] theorem exec_pldmGetStateSensor mctp id (s : State) : exec (.pldmGetStateSensor mctp id) s = execPldmGetStateSensor mctp id s := rfl
@[simp] theorem exec_imageBlockArrival source holder off data peerLock (s : State) : exec (.imageBlockArrival source holder off data peerLock) s = execImageBlockArrival source holder off data peerLock s := rfl
@[simp] theorem exec_leaseExpiry (s : State) : exec (.leaseExpiry) s = execLeaseExpiry s := rfl
@[simp] theorem exec_imageVerifyDone (s : State) : exec (.imageVerifyDone) s = execImageVerifyDone s := rfl
@[simp] theorem exec_imageRelay (s : State) : exec (.imageRelay) s = execImageRelay s := rfl
@[simp] theorem exec_activationStart peerMoving peerLock (s : State) : exec (.activationStart peerMoving peerLock) s = execActivationStart peerMoving peerLock s := rfl
@[simp] theorem exec_activationHeadReset (s : State) : exec (.activationHeadReset) s = execActivationHeadReset s := rfl
@[simp] theorem exec_activationNextHead peerMoving peerLock (s : State) : exec (.activationNextHead peerMoving peerLock) s = execActivationNextHead peerMoving peerLock s := rfl
@[simp] theorem exec_confirmTimer (s : State) : exec (.confirmTimer) s = execConfirmTimer s := rfl
@[simp] theorem exec_updConfirmCmd (s : State) : exec (.updConfirmCmd) s = execUpdConfirmCmd s := rfl
@[simp] theorem exec_updReleaseCmd (s : State) : exec (.updReleaseCmd) s = execUpdReleaseCmd s := rfl
@[simp] theorem exec_updRelayCmd (s : State) : exec (.updRelayCmd) s = execUpdRelayCmd s := rfl
@[simp] theorem exec_updActivateCmd peerMoving peerLock (s : State) : exec (.updActivateCmd peerMoving peerLock) s = execUpdActivateCmd peerMoving peerLock s := rfl
@[simp] theorem exec_updRecoveryCmd (s : State) : exec (.updRecoveryCmd) s = execUpdRecoveryCmd s := rfl
@[simp] theorem exec_ownerLockWrite v (s : State) : exec (.ownerLockWrite v) s = execOwnerLockWrite v s := rfl
@[simp] theorem exec_tftpImageWrite pkt ip off data peerLock (s : State) : exec (.tftpImageWrite pkt ip off data peerLock) s = execTftpImageWrite pkt ip off data peerLock s := rfl
@[simp] theorem exec_tftpCommitWrite pkt ip action peerMoving peerLock (s : State) : exec (.tftpCommitWrite pkt ip action peerMoving peerLock) s = execTftpCommitWrite pkt ip action peerMoving peerLock s := rfl
@[simp] theorem exec_pldmRequestUpdate mctp eid peerLock (s : State) : exec (.pldmRequestUpdate mctp eid peerLock) s = execPldmRequestUpdate mctp eid peerLock s := rfl
@[simp] theorem exec_pldmActivateFirmware mctp eid peerMoving peerLock (s : State) : exec (.pldmActivateFirmware mctp eid peerMoving peerLock) s = execPldmActivateFirmware mctp eid peerMoving peerLock s := rfl
@[simp] theorem exec_recoveryImage pkt data (s : State) : exec (.recoveryImage pkt data) s = execRecoveryImage pkt data s := rfl
@[simp] theorem exec_scrapClearFile pkt b (s : State) : exec (.scrapClearFile pkt b) s = execScrapClearFile pkt b s := rfl
@[simp] theorem exec_ohmustFrame clocks req (s : State) : exec (.ohmustFrame clocks req) s = execOhmustFrame clocks req s := rfl
@[simp] theorem exec_ohmNop seq (s : State) : exec (.ohmNop seq) s = execOhmNop seq s := rfl
@[simp] theorem exec_ohmHello seq version (s : State) : exec (.ohmHello seq version) s = execOhmHello seq version s := rfl
@[simp] theorem exec_ohmChallenge seq addr (s : State) : exec (.ohmChallenge seq addr) s = execOhmChallenge seq addr s := rfl
@[simp] theorem exec_ohmResponse seq level addr word (s : State) : exec (.ohmResponse seq level addr word) s = execOhmResponse seq level addr word s := rfl
@[simp] theorem exec_ohmLock seq (s : State) : exec (.ohmLock seq) s = execOhmLock seq s := rfl
@[simp] theorem exec_ohmHalt seq target (s : State) : exec (.ohmHalt seq target) s = execOhmHalt seq target s := rfl
@[simp] theorem exec_haltComplete (s : State) : exec (.haltComplete) s = execHaltComplete s := rfl
@[simp] theorem exec_ohmResume seq target (s : State) : exec (.ohmResume seq target) s = execOhmResume seq target s := rfl
@[simp] theorem exec_ohmStep seq target count (s : State) : exec (.ohmStep seq target count) s = execOhmStep seq target count s := rfl
@[simp] theorem exec_ohmBpSet seq target addr data (s : State) : exec (.ohmBpSet seq target addr data) s = execOhmBpSet seq target addr data s := rfl
@[simp] theorem exec_ohmBpClear seq target index (s : State) : exec (.ohmBpClear seq target index) s = execOhmBpClear seq target index s := rfl
@[simp] theorem exec_breakpointHit pair index (s : State) : exec (.breakpointHit pair index) s = execBreakpointHit pair index s := rfl
@[simp] theorem exec_ohmReadMem seq target addr (s : State) : exec (.ohmReadMem seq target addr) s = execOhmReadMem seq target addr s := rfl
@[simp] theorem exec_ohmWriteMem seq target addr data (s : State) : exec (.ohmWriteMem seq target addr data) s = execOhmWriteMem seq target addr data s := rfl
@[simp] theorem exec_ohmReadReg seq target addr (s : State) : exec (.ohmReadReg seq target addr) s = execOhmReadReg seq target addr s := rfl
@[simp] theorem exec_ohmWriteReg seq target addr data (s : State) : exec (.ohmWriteReg seq target addr data) s = execOhmWriteReg seq target addr data s := rfl
@[simp] theorem exec_ohmMailbox seq addr data (s : State) : exec (.ohmMailbox seq addr data) s = execOhmMailbox seq addr data s := rfl
@[simp] theorem exec_unlockIdleTimeout (s : State) : exec (.unlockIdleTimeout) s = execUnlockIdleTimeout s := rfl
@[simp] theorem exec_hlmAdmitOpen (s : State) : exec (.hlmAdmitOpen) s = execHlmAdmitOpen s := rfl
@[simp] theorem exec_admitWindowExpiry (s : State) : exec (.admitWindowExpiry) s = execAdmitWindowExpiry s := rfl
@[simp] theorem exec_hlmSvnRaise vdd (s : State) : exec (.hlmSvnRaise vdd) s = execHlmSvnRaise vdd s := rfl
@[simp] theorem exec_hlmErasePairRecord (s : State) : exec (.hlmErasePairRecord) s = execHlmErasePairRecord s := rfl
@[simp] theorem exec_hlmRevokeSlot slot vdd (s : State) : exec (.hlmRevokeSlot slot vdd) s = execHlmRevokeSlot slot vdd s := rfl
@[simp] theorem exec_dbgLockNow (s : State) : exec (.dbgLockNow) s = execDbgLockNow s := rfl
@[simp] theorem exec_dbgDisable (s : State) : exec (.dbgDisable) s = execDbgDisable s := rfl
@[simp] theorem exec_blockInterruptClaim block pair (s : State) : exec (.blockInterruptClaim block pair) s = execBlockInterruptClaim block pair s := rfl
@[simp] theorem exec_registerWrite addr bytes value (s : State) : exec (.registerWrite addr bytes value) s = execRegisterWrite addr bytes value s := rfl
@[simp] theorem exec_badAccess source addr bytes write (s : State) : exec (.badAccess source addr bytes write) s = execBadAccess source addr bytes write s := rfl
@[simp] theorem exec_bar2HostWrite off (s : State) : exec (.bar2HostWrite off) s = execBar2HostWrite off s := rfl
@[simp] theorem exec_thermalRecover io c0 c1 (s : State) : exec (.thermalRecover io c0 c1) s = execThermalRecover io c0 c1 s := rfl
@[simp] theorem exec_standbySupplyLoss (s : State) : exec (.standbySupplyLoss) s = execStandbySupplyLoss s := rfl
@[simp] theorem exec_fenceInDeassert (s : State) : exec (.fenceInDeassert) s = execFenceInDeassert s := rfl
@[simp] theorem exec_mgmtPortReset (s : State) : exec (.mgmtPortReset) s = execMgmtPortReset s := rfl
@[simp] theorem exec_powerWarnNDeassert (s : State) : exec (.powerWarnNDeassert) s = execPowerWarnNDeassert s := rfl
@[simp] theorem exec_activationWaitAlarm (s : State) : exec (.activationWaitAlarm) s = execActivationWaitAlarm s := rfl

end Sys2Proof.Machine
end

