-- ==== Sys2Proof/Laws/Tab.lean ====
section
/-! SUPPORT. What reads of a sparse table answer after a write, and that writes keep the canonical form. -/

namespace Sys2Proof.Tab

variable {α : Type}

/-! ### Entries of a table after a write -/

/-- Where the entries of a table come from once a key is listed. -/
theorem mem_put {t : Tab α} {k : Nat} {v : α} {e : Nat × α} : e ∈ put t k v → e = (k, v) ∨ e ∈ t := by
  fun_induction put t k v <;> grind

/-- Removing a key adds no entry. -/
theorem mem_erase {t : Tab α} {k : Nat} {e : Nat × α} : e ∈ erase t k → e ∈ t := by
  fun_induction erase t k <;> grind

/-! ### A read of one key -/

@[simp] theorem find_put (t : Tab α) (k : Nat) (v : α) : find (put t k v) k = some v := by
  fun_induction put t k v <;> grind [find]

theorem find_put_ne (t : Tab α) {k j : Nat} (v : α) (h : j ≠ k) : find (put t k v) j = find t j := by
  fun_induction put t k v <;> grind [find]

@[simp] theorem find_erase (t : Tab α) (k : Nat) : find (erase t k) k = none := by
  fun_induction erase t k <;> grind [find]

theorem find_erase_ne (t : Tab α) {k j : Nat} (h : j ≠ k) : find (erase t k) j = find t j := by
  fun_induction erase t k <;> grind [find]

/-- A read with a default is the entry, or the default. -/
theorem get_eq_find (d : α) (t : Tab α) (k : Nat) : get d t k = (find t k).getD d := by
  fun_induction get d t k <;> grind [find]

/-- A read of the written key answers what was written, whatever the default. -/
@[simp] theorem get_set [DecidableEq α] (d : α) (t : Tab α) (k : Nat) (v : α) : get d (set d t k v) k = v := by
  unfold set; split <;> simp_all [get_eq_find]

/-- The same where the read's default differs from the write's. -/
theorem get_set_reset_ne [DecidableEq α] (d d' : α) (t : Tab α) {k j : Nat} (v : α) (h : j ≠ k) : get d' (set d t k v) j = get d' t j := by
  unfold set; split <;> simp [get_eq_find, find_erase_ne t h, find_put_ne t v h]

/-- A read of another key answers what it did. -/
theorem get_set_ne [DecidableEq α] (d : α) (t : Tab α) {k j : Nat} (v : α) (h : j ≠ k) : get d (set d t k v) j = get d t j :=
  get_set_reset_ne d d t v h

theorem get_put (d : α) (t : Tab α) (k : Nat) (v : α) : get d (put t k v) k = v := by simp [get_eq_find]

theorem get_put_ne (d : α) (t : Tab α) {k j : Nat} (v : α) (h : j ≠ k) : get d (put t k v) j = get d t j := by
  simp [get_eq_find, find_put_ne t v h]

theorem get_erase (d : α) (t : Tab α) (k : Nat) : get d (erase t k) k = d := by simp [get_eq_find]

theorem get_erase_ne (d : α) (t : Tab α) {k j : Nat} (h : j ≠ k) : get d (erase t k) j = get d t j := by
  simp [get_eq_find, find_erase_ne t h]

/-! ### The canonical form -/

/-- Listing a key keeps the keys strictly rising. -/
theorem rising_put {t : Tab α} (k : Nat) (v : α) (h : t.Pairwise fun a b => a.1 < b.1) : (put t k v).Pairwise fun a b => a.1 < b.1 := by
  fun_induction put t k v <;> grind [List.pairwise_cons, → mem_put]

/-- Removing a key keeps the keys strictly rising. -/
theorem rising_erase {t : Tab α} (k : Nat) (h : t.Pairwise fun a b => a.1 < b.1) : (erase t k).Pairwise fun a b => a.1 < b.1 := by
  fun_induction erase t k <;> grind [List.pairwise_cons, → mem_erase]

/-- A write keeps the canonical form: rising keys, and no entry equal to the default. -/
theorem wf_set [DecidableEq α] {d : α} {t : Tab α} (k : Nat) (v : α) (h : wf d t = true) : wf d (set d t k v) = true := by
  unfold set; split <;> grind [wf, → mem_put, → mem_erase, rising_put, rising_erase]

end Sys2Proof.Tab
end

