-- ==== Sys2Proof/Laws/State.lean ====
section
/-! SUPPORT. What each shared update of the state leaves alone, and what a register field reads as after it. -/

namespace Sys2Proof.Machine

/-! ### Updates of one part -/

@[simp] theorem State.wr_dram (s : State) (f : Field) (v : Nat) : (s.wr f v).dram = s.dram := rfl
@[simp] theorem State.wr_fm (s : State) (f : Field) (v : Nat) : (s.wr f v).fm = s.fm := rfl
@[simp] theorem State.wr_flt (s : State) (f : Field) (v : Nat) : (s.wr f v).flt = s.flt := rfl
@[simp] theorem State.wr_upd (s : State) (f : Field) (v : Nat) : (s.wr f v).upd = s.upd := rfl
@[simp] theorem State.wr_pwr (s : State) (f : Field) (v : Nat) : (s.wr f v).pwr = s.pwr := rfl
@[simp] theorem State.wr_clk (s : State) (f : Field) (v : Nat) : (s.wr f v).clk = s.clk := rfl
@[simp] theorem State.wr_stk (s : State) (f : Field) (v : Nat) : (s.wr f v).stk = s.stk := rfl
@[simp] theorem State.wr_chs (s : State) (f : Field) (v : Nat) : (s.wr f v).chs = s.chs := rfl
@[simp] theorem State.wr_gly (s : State) (f : Field) (v : Nat) : (s.wr f v).gly = s.gly := rfl
@[simp] theorem State.wr_prf (s : State) (f : Field) (v : Nat) : (s.wr f v).prf = s.prf := rfl
@[simp] theorem State.wr_pun (s : State) (f : Field) (v : Nat) : (s.wr f v).pun = s.pun := rfl
@[simp] theorem State.wr_mtx (s : State) (f : Field) (v : Nat) : (s.wr f v).mtx = s.mtx := rfl
@[simp] theorem State.wr_swg (s : State) (f : Field) (v : Nat) : (s.wr f v).swg = s.swg := rfl
@[simp] theorem State.wr_tmp (s : State) (f : Field) (v : Nat) : (s.wr f v).tmp = s.tmp := rfl
@[simp] theorem State.wr_imp (s : State) (f : Field) (v : Nat) : (s.wr f v).imp = s.imp := rfl
@[simp] theorem State.wr_hth (s : State) (f : Field) (v : Nat) : (s.wr f v).hth = s.hth := rfl
@[simp] theorem State.wr_gmp (s : State) (f : Field) (v : Nat) : (s.wr f v).gmp = s.gmp := rfl
@[simp] theorem State.wr_ste (s : State) (f : Field) (v : Nat) : (s.wr f v).ste = s.ste := rfl
@[simp] theorem State.wr_anv (s : State) (f : Field) (v : Nat) : (s.wr f v).anv = s.anv := rfl
@[simp] theorem State.wr_vols (s : State) (f : Field) (v : Nat) : (s.wr f v).vols = s.vols := rfl
@[simp] theorem State.wr_lost (s : State) (f : Field) (v : Nat) : (s.wr f v).lost = s.lost := rfl
@[simp] theorem State.wr_outbox (s : State) (f : Field) (v : Nat) : (s.wr f v).outbox = s.outbox := rfl
@[simp] theorem State.wr_fresh (s : State) (f : Field) (v : Nat) : (s.wr f v).fresh = s.fresh := rfl
@[simp] theorem State.wr_pending (s : State) (f : Field) (v : Nat) : (s.wr f v).pending = s.pending := rfl

@[simp] theorem State.raise_dram (s : State) (f : Field) (m : Nat) : (s.raise f m).dram = s.dram := rfl
@[simp] theorem State.raise_fm (s : State) (f : Field) (m : Nat) : (s.raise f m).fm = s.fm := rfl
@[simp] theorem State.raise_flt (s : State) (f : Field) (m : Nat) : (s.raise f m).flt = s.flt := rfl
@[simp] theorem State.raise_upd (s : State) (f : Field) (m : Nat) : (s.raise f m).upd = s.upd := rfl
@[simp] theorem State.raise_pwr (s : State) (f : Field) (m : Nat) : (s.raise f m).pwr = s.pwr := rfl
@[simp] theorem State.raise_clk (s : State) (f : Field) (m : Nat) : (s.raise f m).clk = s.clk := rfl
@[simp] theorem State.raise_stk (s : State) (f : Field) (m : Nat) : (s.raise f m).stk = s.stk := rfl
@[simp] theorem State.raise_chs (s : State) (f : Field) (m : Nat) : (s.raise f m).chs = s.chs := rfl
@[simp] theorem State.raise_gly (s : State) (f : Field) (m : Nat) : (s.raise f m).gly = s.gly := rfl
@[simp] theorem State.raise_prf (s : State) (f : Field) (m : Nat) : (s.raise f m).prf = s.prf := rfl
@[simp] theorem State.raise_pun (s : State) (f : Field) (m : Nat) : (s.raise f m).pun = s.pun := rfl
@[simp] theorem State.raise_mtx (s : State) (f : Field) (m : Nat) : (s.raise f m).mtx = s.mtx := rfl
@[simp] theorem State.raise_swg (s : State) (f : Field) (m : Nat) : (s.raise f m).swg = s.swg := rfl
@[simp] theorem State.raise_tmp (s : State) (f : Field) (m : Nat) : (s.raise f m).tmp = s.tmp := rfl
@[simp] theorem State.raise_imp (s : State) (f : Field) (m : Nat) : (s.raise f m).imp = s.imp := rfl
@[simp] theorem State.raise_hth (s : State) (f : Field) (m : Nat) : (s.raise f m).hth = s.hth := rfl
@[simp] theorem State.raise_gmp (s : State) (f : Field) (m : Nat) : (s.raise f m).gmp = s.gmp := rfl
@[simp] theorem State.raise_ste (s : State) (f : Field) (m : Nat) : (s.raise f m).ste = s.ste := rfl
@[simp] theorem State.raise_anv (s : State) (f : Field) (m : Nat) : (s.raise f m).anv = s.anv := rfl
@[simp] theorem State.raise_vols (s : State) (f : Field) (m : Nat) : (s.raise f m).vols = s.vols := rfl
@[simp] theorem State.raise_lost (s : State) (f : Field) (m : Nat) : (s.raise f m).lost = s.lost := rfl
@[simp] theorem State.raise_outbox (s : State) (f : Field) (m : Nat) : (s.raise f m).outbox = s.outbox := rfl
@[simp] theorem State.raise_fresh (s : State) (f : Field) (m : Nat) : (s.raise f m).fresh = s.fresh := rfl
@[simp] theorem State.raise_pending (s : State) (f : Field) (m : Nat) : (s.raise f m).pending = s.pending := rfl

@[simp] theorem State.clear_dram (s : State) (f : Field) (m : Nat) : (s.clear f m).dram = s.dram := rfl
@[simp] theorem State.clear_fm (s : State) (f : Field) (m : Nat) : (s.clear f m).fm = s.fm := rfl
@[simp] theorem State.clear_flt (s : State) (f : Field) (m : Nat) : (s.clear f m).flt = s.flt := rfl
@[simp] theorem State.clear_upd (s : State) (f : Field) (m : Nat) : (s.clear f m).upd = s.upd := rfl
@[simp] theorem State.clear_pwr (s : State) (f : Field) (m : Nat) : (s.clear f m).pwr = s.pwr := rfl
@[simp] theorem State.clear_clk (s : State) (f : Field) (m : Nat) : (s.clear f m).clk = s.clk := rfl
@[simp] theorem State.clear_stk (s : State) (f : Field) (m : Nat) : (s.clear f m).stk = s.stk := rfl
@[simp] theorem State.clear_chs (s : State) (f : Field) (m : Nat) : (s.clear f m).chs = s.chs := rfl
@[simp] theorem State.clear_gly (s : State) (f : Field) (m : Nat) : (s.clear f m).gly = s.gly := rfl
@[simp] theorem State.clear_prf (s : State) (f : Field) (m : Nat) : (s.clear f m).prf = s.prf := rfl
@[simp] theorem State.clear_pun (s : State) (f : Field) (m : Nat) : (s.clear f m).pun = s.pun := rfl
@[simp] theorem State.clear_mtx (s : State) (f : Field) (m : Nat) : (s.clear f m).mtx = s.mtx := rfl
@[simp] theorem State.clear_swg (s : State) (f : Field) (m : Nat) : (s.clear f m).swg = s.swg := rfl
@[simp] theorem State.clear_tmp (s : State) (f : Field) (m : Nat) : (s.clear f m).tmp = s.tmp := rfl
@[simp] theorem State.clear_imp (s : State) (f : Field) (m : Nat) : (s.clear f m).imp = s.imp := rfl
@[simp] theorem State.clear_hth (s : State) (f : Field) (m : Nat) : (s.clear f m).hth = s.hth := rfl
@[simp] theorem State.clear_gmp (s : State) (f : Field) (m : Nat) : (s.clear f m).gmp = s.gmp := rfl
@[simp] theorem State.clear_ste (s : State) (f : Field) (m : Nat) : (s.clear f m).ste = s.ste := rfl
@[simp] theorem State.clear_anv (s : State) (f : Field) (m : Nat) : (s.clear f m).anv = s.anv := rfl
@[simp] theorem State.clear_vols (s : State) (f : Field) (m : Nat) : (s.clear f m).vols = s.vols := rfl
@[simp] theorem State.clear_lost (s : State) (f : Field) (m : Nat) : (s.clear f m).lost = s.lost := rfl
@[simp] theorem State.clear_outbox (s : State) (f : Field) (m : Nat) : (s.clear f m).outbox = s.outbox := rfl
@[simp] theorem State.clear_fresh (s : State) (f : Field) (m : Nat) : (s.clear f m).fresh = s.fresh := rfl
@[simp] theorem State.clear_pending (s : State) (f : Field) (m : Nat) : (s.clear f m).pending = s.pending := rfl

@[simp] theorem State.inc_dram (s : State) (f : Field) (n : Nat) : (s.inc f n).dram = s.dram := rfl
@[simp] theorem State.inc_fm (s : State) (f : Field) (n : Nat) : (s.inc f n).fm = s.fm := rfl
@[simp] theorem State.inc_flt (s : State) (f : Field) (n : Nat) : (s.inc f n).flt = s.flt := rfl
@[simp] theorem State.inc_upd (s : State) (f : Field) (n : Nat) : (s.inc f n).upd = s.upd := rfl
@[simp] theorem State.inc_pwr (s : State) (f : Field) (n : Nat) : (s.inc f n).pwr = s.pwr := rfl
@[simp] theorem State.inc_clk (s : State) (f : Field) (n : Nat) : (s.inc f n).clk = s.clk := rfl
@[simp] theorem State.inc_stk (s : State) (f : Field) (n : Nat) : (s.inc f n).stk = s.stk := rfl
@[simp] theorem State.inc_chs (s : State) (f : Field) (n : Nat) : (s.inc f n).chs = s.chs := rfl
@[simp] theorem State.inc_gly (s : State) (f : Field) (n : Nat) : (s.inc f n).gly = s.gly := rfl
@[simp] theorem State.inc_prf (s : State) (f : Field) (n : Nat) : (s.inc f n).prf = s.prf := rfl
@[simp] theorem State.inc_pun (s : State) (f : Field) (n : Nat) : (s.inc f n).pun = s.pun := rfl
@[simp] theorem State.inc_mtx (s : State) (f : Field) (n : Nat) : (s.inc f n).mtx = s.mtx := rfl
@[simp] theorem State.inc_swg (s : State) (f : Field) (n : Nat) : (s.inc f n).swg = s.swg := rfl
@[simp] theorem State.inc_tmp (s : State) (f : Field) (n : Nat) : (s.inc f n).tmp = s.tmp := rfl
@[simp] theorem State.inc_imp (s : State) (f : Field) (n : Nat) : (s.inc f n).imp = s.imp := rfl
@[simp] theorem State.inc_hth (s : State) (f : Field) (n : Nat) : (s.inc f n).hth = s.hth := rfl
@[simp] theorem State.inc_gmp (s : State) (f : Field) (n : Nat) : (s.inc f n).gmp = s.gmp := rfl
@[simp] theorem State.inc_ste (s : State) (f : Field) (n : Nat) : (s.inc f n).ste = s.ste := rfl
@[simp] theorem State.inc_anv (s : State) (f : Field) (n : Nat) : (s.inc f n).anv = s.anv := rfl
@[simp] theorem State.inc_vols (s : State) (f : Field) (n : Nat) : (s.inc f n).vols = s.vols := rfl
@[simp] theorem State.inc_lost (s : State) (f : Field) (n : Nat) : (s.inc f n).lost = s.lost := rfl
@[simp] theorem State.inc_outbox (s : State) (f : Field) (n : Nat) : (s.inc f n).outbox = s.outbox := rfl
@[simp] theorem State.inc_fresh (s : State) (f : Field) (n : Nat) : (s.inc f n).fresh = s.fresh := rfl
@[simp] theorem State.inc_pending (s : State) (f : Field) (n : Nat) : (s.inc f n).pending = s.pending := rfl

@[simp] theorem State.incHeld_dram (s : State) (f : Field) (n : Nat) : (s.incHeld f n).dram = s.dram := rfl
@[simp] theorem State.incHeld_fm (s : State) (f : Field) (n : Nat) : (s.incHeld f n).fm = s.fm := rfl
@[simp] theorem State.incHeld_flt (s : State) (f : Field) (n : Nat) : (s.incHeld f n).flt = s.flt := rfl
@[simp] theorem State.incHeld_upd (s : State) (f : Field) (n : Nat) : (s.incHeld f n).upd = s.upd := rfl
@[simp] theorem State.incHeld_pwr (s : State) (f : Field) (n : Nat) : (s.incHeld f n).pwr = s.pwr := rfl
@[simp] theorem State.incHeld_clk (s : State) (f : Field) (n : Nat) : (s.incHeld f n).clk = s.clk := rfl
@[simp] theorem State.incHeld_stk (s : State) (f : Field) (n : Nat) : (s.incHeld f n).stk = s.stk := rfl
@[simp] theorem State.incHeld_chs (s : State) (f : Field) (n : Nat) : (s.incHeld f n).chs = s.chs := rfl
@[simp] theorem State.incHeld_gly (s : State) (f : Field) (n : Nat) : (s.incHeld f n).gly = s.gly := rfl
@[simp] theorem State.incHeld_prf (s : State) (f : Field) (n : Nat) : (s.incHeld f n).prf = s.prf := rfl
@[simp] theorem State.incHeld_pun (s : State) (f : Field) (n : Nat) : (s.incHeld f n).pun = s.pun := rfl
@[simp] theorem State.incHeld_mtx (s : State) (f : Field) (n : Nat) : (s.incHeld f n).mtx = s.mtx := rfl
@[simp] theorem State.incHeld_swg (s : State) (f : Field) (n : Nat) : (s.incHeld f n).swg = s.swg := rfl
@[simp] theorem State.incHeld_tmp (s : State) (f : Field) (n : Nat) : (s.incHeld f n).tmp = s.tmp := rfl
@[simp] theorem State.incHeld_imp (s : State) (f : Field) (n : Nat) : (s.incHeld f n).imp = s.imp := rfl
@[simp] theorem State.incHeld_hth (s : State) (f : Field) (n : Nat) : (s.incHeld f n).hth = s.hth := rfl
@[simp] theorem State.incHeld_gmp (s : State) (f : Field) (n : Nat) : (s.incHeld f n).gmp = s.gmp := rfl
@[simp] theorem State.incHeld_ste (s : State) (f : Field) (n : Nat) : (s.incHeld f n).ste = s.ste := rfl
@[simp] theorem State.incHeld_anv (s : State) (f : Field) (n : Nat) : (s.incHeld f n).anv = s.anv := rfl
@[simp] theorem State.incHeld_vols (s : State) (f : Field) (n : Nat) : (s.incHeld f n).vols = s.vols := rfl
@[simp] theorem State.incHeld_lost (s : State) (f : Field) (n : Nat) : (s.incHeld f n).lost = s.lost := rfl
@[simp] theorem State.incHeld_outbox (s : State) (f : Field) (n : Nat) : (s.incHeld f n).outbox = s.outbox := rfl
@[simp] theorem State.incHeld_fresh (s : State) (f : Field) (n : Nat) : (s.incHeld f n).fresh = s.fresh := rfl
@[simp] theorem State.incHeld_pending (s : State) (f : Field) (n : Nat) : (s.incHeld f n).pending = s.pending := rfl

@[simp] theorem State.dec_dram (s : State) (f : Field) (n : Nat) : (s.dec f n).dram = s.dram := rfl
@[simp] theorem State.dec_fm (s : State) (f : Field) (n : Nat) : (s.dec f n).fm = s.fm := rfl
@[simp] theorem State.dec_flt (s : State) (f : Field) (n : Nat) : (s.dec f n).flt = s.flt := rfl
@[simp] theorem State.dec_upd (s : State) (f : Field) (n : Nat) : (s.dec f n).upd = s.upd := rfl
@[simp] theorem State.dec_pwr (s : State) (f : Field) (n : Nat) : (s.dec f n).pwr = s.pwr := rfl
@[simp] theorem State.dec_clk (s : State) (f : Field) (n : Nat) : (s.dec f n).clk = s.clk := rfl
@[simp] theorem State.dec_stk (s : State) (f : Field) (n : Nat) : (s.dec f n).stk = s.stk := rfl
@[simp] theorem State.dec_chs (s : State) (f : Field) (n : Nat) : (s.dec f n).chs = s.chs := rfl
@[simp] theorem State.dec_gly (s : State) (f : Field) (n : Nat) : (s.dec f n).gly = s.gly := rfl
@[simp] theorem State.dec_prf (s : State) (f : Field) (n : Nat) : (s.dec f n).prf = s.prf := rfl
@[simp] theorem State.dec_pun (s : State) (f : Field) (n : Nat) : (s.dec f n).pun = s.pun := rfl
@[simp] theorem State.dec_mtx (s : State) (f : Field) (n : Nat) : (s.dec f n).mtx = s.mtx := rfl
@[simp] theorem State.dec_swg (s : State) (f : Field) (n : Nat) : (s.dec f n).swg = s.swg := rfl
@[simp] theorem State.dec_tmp (s : State) (f : Field) (n : Nat) : (s.dec f n).tmp = s.tmp := rfl
@[simp] theorem State.dec_imp (s : State) (f : Field) (n : Nat) : (s.dec f n).imp = s.imp := rfl
@[simp] theorem State.dec_hth (s : State) (f : Field) (n : Nat) : (s.dec f n).hth = s.hth := rfl
@[simp] theorem State.dec_gmp (s : State) (f : Field) (n : Nat) : (s.dec f n).gmp = s.gmp := rfl
@[simp] theorem State.dec_ste (s : State) (f : Field) (n : Nat) : (s.dec f n).ste = s.ste := rfl
@[simp] theorem State.dec_anv (s : State) (f : Field) (n : Nat) : (s.dec f n).anv = s.anv := rfl
@[simp] theorem State.dec_vols (s : State) (f : Field) (n : Nat) : (s.dec f n).vols = s.vols := rfl
@[simp] theorem State.dec_lost (s : State) (f : Field) (n : Nat) : (s.dec f n).lost = s.lost := rfl
@[simp] theorem State.dec_outbox (s : State) (f : Field) (n : Nat) : (s.dec f n).outbox = s.outbox := rfl
@[simp] theorem State.dec_fresh (s : State) (f : Field) (n : Nat) : (s.dec f n).fresh = s.fresh := rfl
@[simp] theorem State.dec_pending (s : State) (f : Field) (n : Nat) : (s.dec f n).pending = s.pending := rfl

@[simp] theorem State.send_flds (s : State) (o : Out) : (s.send o).flds = s.flds := rfl
@[simp] theorem State.send_dram (s : State) (o : Out) : (s.send o).dram = s.dram := rfl
@[simp] theorem State.send_fm (s : State) (o : Out) : (s.send o).fm = s.fm := rfl
@[simp] theorem State.send_flt (s : State) (o : Out) : (s.send o).flt = s.flt := rfl
@[simp] theorem State.send_upd (s : State) (o : Out) : (s.send o).upd = s.upd := rfl
@[simp] theorem State.send_pwr (s : State) (o : Out) : (s.send o).pwr = s.pwr := rfl
@[simp] theorem State.send_clk (s : State) (o : Out) : (s.send o).clk = s.clk := rfl
@[simp] theorem State.send_stk (s : State) (o : Out) : (s.send o).stk = s.stk := rfl
@[simp] theorem State.send_chs (s : State) (o : Out) : (s.send o).chs = s.chs := rfl
@[simp] theorem State.send_gly (s : State) (o : Out) : (s.send o).gly = s.gly := rfl
@[simp] theorem State.send_prf (s : State) (o : Out) : (s.send o).prf = s.prf := rfl
@[simp] theorem State.send_pun (s : State) (o : Out) : (s.send o).pun = s.pun := rfl
@[simp] theorem State.send_mtx (s : State) (o : Out) : (s.send o).mtx = s.mtx := rfl
@[simp] theorem State.send_swg (s : State) (o : Out) : (s.send o).swg = s.swg := rfl
@[simp] theorem State.send_tmp (s : State) (o : Out) : (s.send o).tmp = s.tmp := rfl
@[simp] theorem State.send_imp (s : State) (o : Out) : (s.send o).imp = s.imp := rfl
@[simp] theorem State.send_hth (s : State) (o : Out) : (s.send o).hth = s.hth := rfl
@[simp] theorem State.send_gmp (s : State) (o : Out) : (s.send o).gmp = s.gmp := rfl
@[simp] theorem State.send_ste (s : State) (o : Out) : (s.send o).ste = s.ste := rfl
@[simp] theorem State.send_anv (s : State) (o : Out) : (s.send o).anv = s.anv := rfl
@[simp] theorem State.send_vols (s : State) (o : Out) : (s.send o).vols = s.vols := rfl
@[simp] theorem State.send_lost (s : State) (o : Out) : (s.send o).lost = s.lost := rfl
@[simp] theorem State.send_fresh (s : State) (o : Out) : (s.send o).fresh = s.fresh := rfl
@[simp] theorem State.send_pending (s : State) (o : Out) : (s.send o).pending = s.pending := rfl

@[simp] theorem State.sendAll_flds (s : State) (os : List Out) : (s.sendAll os).flds = s.flds := rfl
@[simp] theorem State.sendAll_dram (s : State) (os : List Out) : (s.sendAll os).dram = s.dram := rfl
@[simp] theorem State.sendAll_fm (s : State) (os : List Out) : (s.sendAll os).fm = s.fm := rfl
@[simp] theorem State.sendAll_flt (s : State) (os : List Out) : (s.sendAll os).flt = s.flt := rfl
@[simp] theorem State.sendAll_upd (s : State) (os : List Out) : (s.sendAll os).upd = s.upd := rfl
@[simp] theorem State.sendAll_pwr (s : State) (os : List Out) : (s.sendAll os).pwr = s.pwr := rfl
@[simp] theorem State.sendAll_clk (s : State) (os : List Out) : (s.sendAll os).clk = s.clk := rfl
@[simp] theorem State.sendAll_stk (s : State) (os : List Out) : (s.sendAll os).stk = s.stk := rfl
@[simp] theorem State.sendAll_chs (s : State) (os : List Out) : (s.sendAll os).chs = s.chs := rfl
@[simp] theorem State.sendAll_gly (s : State) (os : List Out) : (s.sendAll os).gly = s.gly := rfl
@[simp] theorem State.sendAll_prf (s : State) (os : List Out) : (s.sendAll os).prf = s.prf := rfl
@[simp] theorem State.sendAll_pun (s : State) (os : List Out) : (s.sendAll os).pun = s.pun := rfl
@[simp] theorem State.sendAll_mtx (s : State) (os : List Out) : (s.sendAll os).mtx = s.mtx := rfl
@[simp] theorem State.sendAll_swg (s : State) (os : List Out) : (s.sendAll os).swg = s.swg := rfl
@[simp] theorem State.sendAll_tmp (s : State) (os : List Out) : (s.sendAll os).tmp = s.tmp := rfl
@[simp] theorem State.sendAll_imp (s : State) (os : List Out) : (s.sendAll os).imp = s.imp := rfl
@[simp] theorem State.sendAll_hth (s : State) (os : List Out) : (s.sendAll os).hth = s.hth := rfl
@[simp] theorem State.sendAll_gmp (s : State) (os : List Out) : (s.sendAll os).gmp = s.gmp := rfl
@[simp] theorem State.sendAll_ste (s : State) (os : List Out) : (s.sendAll os).ste = s.ste := rfl
@[simp] theorem State.sendAll_anv (s : State) (os : List Out) : (s.sendAll os).anv = s.anv := rfl
@[simp] theorem State.sendAll_vols (s : State) (os : List Out) : (s.sendAll os).vols = s.vols := rfl
@[simp] theorem State.sendAll_lost (s : State) (os : List Out) : (s.sendAll os).lost = s.lost := rfl
@[simp] theorem State.sendAll_fresh (s : State) (os : List Out) : (s.sendAll os).fresh = s.fresh := rfl
@[simp] theorem State.sendAll_pending (s : State) (os : List Out) : (s.sendAll os).pending = s.pending := rfl

@[simp] theorem State.send_outbox (s : State) (o : Out) : (s.send o).outbox = s.outbox ++ [o] := rfl
@[simp] theorem State.sendAll_outbox (s : State) (os : List Out) : (s.sendAll os).outbox = s.outbox ++ os := rfl

/-! ### Register fields -/

/-- Reading a field looks it up in the field table alone. -/
@[simp] theorem State.rd_mk (flds : Tab Nat) (dram : Tab Byte) (fm : Foreman) (flt : Faults) (upd : Update) (pwr : Power)
    (clk : Clock) (stk : Stick) (chs : Chase) (gly : Galley) (prf : Proof) (pun : Punch) (mtx : Matrix) (swg : Swage)
    (tmp : Temper) (imp : Imposition) (hth : Hearth) (gmp : Gymo) (ste : Stereotype) (anv : Anvil) (vols : Tab Volume)
    (lost : List LostExtent) (outbox : List Out) (fresh : Nat) (pending : List Instr) (f : Field) :
    State.rd ⟨flds, dram, fm, flt, upd, pwr, clk, stk, chs, gly, prf, pun, mtx, swg, tmp, imp, hth, gmp, ste, anv, vols, lost, outbox, fresh, pending⟩ f
      = Tab.get f.reset flds f.key := rfl

/-- The other way round, so that reads keep their one spelling. -/
@[simp] theorem State.get_flds (s : State) (f : Field) : Tab.get f.reset s.flds f.key = s.rd f := rfl

/-- Two states with the same field table read alike. -/
theorem State.rd_congr {s t : State} (h : t.flds = s.flds) (f : Field) : t.rd f = s.rd f := by
  unfold State.rd; rw [h]

/-- A field reads back what was written, to its width (R435). -/
@[simp] theorem State.rd_wr (s : State) (f : Field) (v : Nat) : (s.wr f v).rd f = v % f.span :=
  Tab.get_set _ _ _ _

/-- A value that fits is read back as it is. -/
theorem State.rd_wr_lt (s : State) {f : Field} {v : Nat} (h : v < f.span) : (s.wr f v).rd f = v := by
  rw [State.rd_wr, Nat.mod_eq_of_lt h]

/-- Writing one field leaves every other field as it was. -/
theorem State.rd_wr_ne (s : State) {f g : Field} (v : Nat) (h : g.key ≠ f.key) : (s.wr f v).rd g = s.rd g :=
  Tab.get_set_reset_ne _ _ _ _ h

@[simp] theorem State.rd_send (s : State) (o : Out) (f : Field) : (s.send o).rd f = s.rd f := rfl
@[simp] theorem State.rd_sendAll (s : State) (os : List Out) (f : Field) : (s.sendAll os).rd f = s.rd f := rfl
@[simp] theorem State.rd_freeVal (s : State) (f : Field) : s.freeVal.2.rd f = s.rd f := rfl
@[simp] theorem State.rd_random (s : State) (n : Nat) (f : Field) : (s.random n).2.rd f = s.rd f := rfl

theorem State.rd_raise_ne (s : State) {f g : Field} (m : Nat) (h : g.key ≠ f.key) : (s.raise f m).rd g = s.rd g := s.rd_wr_ne _ h
theorem State.rd_clear_ne (s : State) {f g : Field} (m : Nat) (h : g.key ≠ f.key) : (s.clear f m).rd g = s.rd g := s.rd_wr_ne _ h
theorem State.rd_inc_ne (s : State) {f g : Field} (n : Nat) (h : g.key ≠ f.key) : (s.inc f n).rd g = s.rd g := s.rd_wr_ne _ h
theorem State.rd_incHeld_ne (s : State) {f g : Field} (n : Nat) (h : g.key ≠ f.key) : (s.incHeld f n).rd g = s.rd g := s.rd_wr_ne _ h
theorem State.rd_dec_ne (s : State) {f g : Field} (n : Nat) (h : g.key ≠ f.key) : (s.dec f n).rd g = s.rd g := s.rd_wr_ne _ h
@[simp] theorem State.rd_inc (s : State) (f : Field) (n : Nat) : (s.inc f n).rd f = (s.rd f + n) % f.span := s.rd_wr _ _
@[simp] theorem State.rd_raise (s : State) (f : Field) (m : Nat) : (s.raise f m).rd f = (s.rd f ||| m) % f.span := s.rd_wr _ _
@[simp] theorem State.rd_clear (s : State) (f : Field) (m : Nat) : (s.clear f m).rd f = (s.rd f &&& (f.span - 1 - m % f.span)) % f.span := s.rd_wr _ _
@[simp] theorem State.rd_dec (s : State) (f : Field) (n : Nat) : (s.dec f n).rd f = (s.rd f - n) % f.span := s.rd_wr _ _

/-- Setting a one-bit status field leaves it at 1 (R8). -/
theorem State.rd_raise_one (s : State) {f : Field} (h : f.span = 2) : (s.raise f 1).rd f = 1 := by
  rw [State.rd_raise, h]; simp

/-- Adding to a held counter takes it to its highest value at most (R435). -/
@[simp] theorem State.rd_incHeld (s : State) (f : Field) (n : Nat) : (s.incHeld f n).rd f = min (s.rd f + n) (f.span - 1) := by
  have h : 0 < f.span := Nat.two_pow_pos _
  rw [State.incHeld, State.rd_wr, Nat.mod_eq_of_lt]
  omega

/-! ### Event records and alarms (R385, R387) -/

@[simp] theorem State.logRec_dram (s : State) (src : Block) (sev : Nat) (e : EventName) (st : Status) (ch : Chan) (args : List Nat) : (s.logRec src sev e st ch args).dram = s.dram := by
  simp only [State.logRec]; repeat' split
  all_goals rfl
@[simp] theorem State.logRec_fm (s : State) (src : Block) (sev : Nat) (e : EventName) (st : Status) (ch : Chan) (args : List Nat) : (s.logRec src sev e st ch args).fm = s.fm := by
  simp only [State.logRec]; repeat' split
  all_goals rfl
@[simp] theorem State.logRec_pwr (s : State) (src : Block) (sev : Nat) (e : EventName) (st : Status) (ch : Chan) (args : List Nat) : (s.logRec src sev e st ch args).pwr = s.pwr := by
  simp only [State.logRec]; repeat' split
  all_goals rfl
@[simp] theorem State.logRec_clk (s : State) (src : Block) (sev : Nat) (e : EventName) (st : Status) (ch : Chan) (args : List Nat) : (s.logRec src sev e st ch args).clk = s.clk := by
  simp only [State.logRec]; repeat' split
  all_goals rfl
@[simp] theorem State.logRec_stk (s : State) (src : Block) (sev : Nat) (e : EventName) (st : Status) (ch : Chan) (args : List Nat) : (s.logRec src sev e st ch args).stk = s.stk := by
  simp only [State.logRec]; repeat' split
  all_goals rfl
@[simp] theorem State.logRec_chs (s : State) (src : Block) (sev : Nat) (e : EventName) (st : Status) (ch : Chan) (args : List Nat) : (s.logRec src sev e st ch args).chs = s.chs := by
  simp only [State.logRec]; repeat' split
  all_goals rfl
@[simp] theorem State.logRec_gly (s : State) (src : Block) (sev : Nat) (e : EventName) (st : Status) (ch : Chan) (args : List Nat) : (s.logRec src sev e st ch args).gly = s.gly := by
  simp only [State.logRec]; repeat' split
  all_goals rfl
@[simp] theorem State.logRec_prf (s : State) (src : Block) (sev : Nat) (e : EventName) (st : Status) (ch : Chan) (args : List Nat) : (s.logRec src sev e st ch args).prf = s.prf := by
  simp only [State.logRec]; repeat' split
  all_goals rfl
@[simp] theorem State.logRec_pun (s : State) (src : Block) (sev : Nat) (e : EventName) (st : Status) (ch : Chan) (args : List Nat) : (s.logRec src sev e st ch args).pun = s.pun := by
  simp only [State.logRec]; repeat' split
  all_goals rfl
@[simp] theorem State.logRec_mtx (s : State) (src : Block) (sev : Nat) (e : EventName) (st : Status) (ch : Chan) (args : List Nat) : (s.logRec src sev e st ch args).mtx = s.mtx := by
  simp only [State.logRec]; repeat' split
  all_goals rfl
@[simp] theorem State.logRec_swg (s : State) (src : Block) (sev : Nat) (e : EventName) (st : Status) (ch : Chan) (args : List Nat) : (s.logRec src sev e st ch args).swg = s.swg := by
  simp only [State.logRec]; repeat' split
  all_goals rfl
@[simp] theorem State.logRec_tmp (s : State) (src : Block) (sev : Nat) (e : EventName) (st : Status) (ch : Chan) (args : List Nat) : (s.logRec src sev e st ch args).tmp = s.tmp := by
  simp only [State.logRec]; repeat' split
  all_goals rfl
@[simp] theorem State.logRec_imp (s : State) (src : Block) (sev : Nat) (e : EventName) (st : Status) (ch : Chan) (args : List Nat) : (s.logRec src sev e st ch args).imp = s.imp := by
  simp only [State.logRec]; repeat' split
  all_goals rfl
@[simp] theorem State.logRec_hth (s : State) (src : Block) (sev : Nat) (e : EventName) (st : Status) (ch : Chan) (args : List Nat) : (s.logRec src sev e st ch args).hth = s.hth := by
  simp only [State.logRec]; repeat' split
  all_goals rfl
@[simp] theorem State.logRec_gmp (s : State) (src : Block) (sev : Nat) (e : EventName) (st : Status) (ch : Chan) (args : List Nat) : (s.logRec src sev e st ch args).gmp = s.gmp := by
  simp only [State.logRec]; repeat' split
  all_goals rfl
@[simp] theorem State.logRec_ste (s : State) (src : Block) (sev : Nat) (e : EventName) (st : Status) (ch : Chan) (args : List Nat) : (s.logRec src sev e st ch args).ste = s.ste := by
  simp only [State.logRec]; repeat' split
  all_goals rfl
@[simp] theorem State.logRec_anv (s : State) (src : Block) (sev : Nat) (e : EventName) (st : Status) (ch : Chan) (args : List Nat) : (s.logRec src sev e st ch args).anv = s.anv := by
  simp only [State.logRec]; repeat' split
  all_goals rfl
@[simp] theorem State.logRec_vols (s : State) (src : Block) (sev : Nat) (e : EventName) (st : Status) (ch : Chan) (args : List Nat) : (s.logRec src sev e st ch args).vols = s.vols := by
  simp only [State.logRec]; repeat' split
  all_goals rfl
@[simp] theorem State.logRec_lost (s : State) (src : Block) (sev : Nat) (e : EventName) (st : Status) (ch : Chan) (args : List Nat) : (s.logRec src sev e st ch args).lost = s.lost := by
  simp only [State.logRec]; repeat' split
  all_goals rfl
@[simp] theorem State.logRec_fresh (s : State) (src : Block) (sev : Nat) (e : EventName) (st : Status) (ch : Chan) (args : List Nat) : (s.logRec src sev e st ch args).fresh = s.fresh := by
  simp only [State.logRec]; repeat' split
  all_goals rfl
@[simp] theorem State.logRec_pending (s : State) (src : Block) (sev : Nat) (e : EventName) (st : Status) (ch : Chan) (args : List Nat) : (s.logRec src sev e st ch args).pending = s.pending := by
  simp only [State.logRec]; repeat' split
  all_goals rfl

@[simp] theorem State.alarm_dram (s : State) (src : Block) (e : EventName) (st : Status) (args : List Nat) : (s.alarm src e st args).dram = s.dram := s.logRec_dram ..
@[simp] theorem State.alarm_fm (s : State) (src : Block) (e : EventName) (st : Status) (args : List Nat) : (s.alarm src e st args).fm = s.fm := s.logRec_fm ..
@[simp] theorem State.alarm_pwr (s : State) (src : Block) (e : EventName) (st : Status) (args : List Nat) : (s.alarm src e st args).pwr = s.pwr := s.logRec_pwr ..
@[simp] theorem State.alarm_clk (s : State) (src : Block) (e : EventName) (st : Status) (args : List Nat) : (s.alarm src e st args).clk = s.clk := s.logRec_clk ..
@[simp] theorem State.alarm_stk (s : State) (src : Block) (e : EventName) (st : Status) (args : List Nat) : (s.alarm src e st args).stk = s.stk := s.logRec_stk ..
@[simp] theorem State.alarm_chs (s : State) (src : Block) (e : EventName) (st : Status) (args : List Nat) : (s.alarm src e st args).chs = s.chs := s.logRec_chs ..
@[simp] theorem State.alarm_gly (s : State) (src : Block) (e : EventName) (st : Status) (args : List Nat) : (s.alarm src e st args).gly = s.gly := s.logRec_gly ..
@[simp] theorem State.alarm_prf (s : State) (src : Block) (e : EventName) (st : Status) (args : List Nat) : (s.alarm src e st args).prf = s.prf := s.logRec_prf ..
@[simp] theorem State.alarm_pun (s : State) (src : Block) (e : EventName) (st : Status) (args : List Nat) : (s.alarm src e st args).pun = s.pun := s.logRec_pun ..
@[simp] theorem State.alarm_mtx (s : State) (src : Block) (e : EventName) (st : Status) (args : List Nat) : (s.alarm src e st args).mtx = s.mtx := s.logRec_mtx ..
@[simp] theorem State.alarm_swg (s : State) (src : Block) (e : EventName) (st : Status) (args : List Nat) : (s.alarm src e st args).swg = s.swg := s.logRec_swg ..
@[simp] theorem State.alarm_tmp (s : State) (src : Block) (e : EventName) (st : Status) (args : List Nat) : (s.alarm src e st args).tmp = s.tmp := s.logRec_tmp ..
@[simp] theorem State.alarm_imp (s : State) (src : Block) (e : EventName) (st : Status) (args : List Nat) : (s.alarm src e st args).imp = s.imp := s.logRec_imp ..
@[simp] theorem State.alarm_hth (s : State) (src : Block) (e : EventName) (st : Status) (args : List Nat) : (s.alarm src e st args).hth = s.hth := s.logRec_hth ..
@[simp] theorem State.alarm_gmp (s : State) (src : Block) (e : EventName) (st : Status) (args : List Nat) : (s.alarm src e st args).gmp = s.gmp := s.logRec_gmp ..
@[simp] theorem State.alarm_ste (s : State) (src : Block) (e : EventName) (st : Status) (args : List Nat) : (s.alarm src e st args).ste = s.ste := s.logRec_ste ..
@[simp] theorem State.alarm_anv (s : State) (src : Block) (e : EventName) (st : Status) (args : List Nat) : (s.alarm src e st args).anv = s.anv := s.logRec_anv ..
@[simp] theorem State.alarm_vols (s : State) (src : Block) (e : EventName) (st : Status) (args : List Nat) : (s.alarm src e st args).vols = s.vols := s.logRec_vols ..
@[simp] theorem State.alarm_lost (s : State) (src : Block) (e : EventName) (st : Status) (args : List Nat) : (s.alarm src e st args).lost = s.lost := s.logRec_lost ..
@[simp] theorem State.alarm_fresh (s : State) (src : Block) (e : EventName) (st : Status) (args : List Nat) : (s.alarm src e st args).fresh = s.fresh := s.logRec_fresh ..
@[simp] theorem State.alarm_pending (s : State) (src : Block) (e : EventName) (st : Status) (args : List Nat) : (s.alarm src e st args).pending = s.pending := s.logRec_pending ..

@[simp] theorem State.note_dram (s : State) (src : Block) (e : EventName) (st : Status) (args : List Nat) : (s.note src e st args).dram = s.dram := s.logRec_dram ..
@[simp] theorem State.note_fm (s : State) (src : Block) (e : EventName) (st : Status) (args : List Nat) : (s.note src e st args).fm = s.fm := s.logRec_fm ..
@[simp] theorem State.note_pwr (s : State) (src : Block) (e : EventName) (st : Status) (args : List Nat) : (s.note src e st args).pwr = s.pwr := s.logRec_pwr ..
@[simp] theorem State.note_clk (s : State) (src : Block) (e : EventName) (st : Status) (args : List Nat) : (s.note src e st args).clk = s.clk := s.logRec_clk ..
@[simp] theorem State.note_stk (s : State) (src : Block) (e : EventName) (st : Status) (args : List Nat) : (s.note src e st args).stk = s.stk := s.logRec_stk ..
@[simp] theorem State.note_chs (s : State) (src : Block) (e : EventName) (st : Status) (args : List Nat) : (s.note src e st args).chs = s.chs := s.logRec_chs ..
@[simp] theorem State.note_gly (s : State) (src : Block) (e : EventName) (st : Status) (args : List Nat) : (s.note src e st args).gly = s.gly := s.logRec_gly ..
@[simp] theorem State.note_prf (s : State) (src : Block) (e : EventName) (st : Status) (args : List Nat) : (s.note src e st args).prf = s.prf := s.logRec_prf ..
@[simp] theorem State.note_pun (s : State) (src : Block) (e : EventName) (st : Status) (args : List Nat) : (s.note src e st args).pun = s.pun := s.logRec_pun ..
@[simp] theorem State.note_mtx (s : State) (src : Block) (e : EventName) (st : Status) (args : List Nat) : (s.note src e st args).mtx = s.mtx := s.logRec_mtx ..
@[simp] theorem State.note_swg (s : State) (src : Block) (e : EventName) (st : Status) (args : List Nat) : (s.note src e st args).swg = s.swg := s.logRec_swg ..
@[simp] theorem State.note_tmp (s : State) (src : Block) (e : EventName) (st : Status) (args : List Nat) : (s.note src e st args).tmp = s.tmp := s.logRec_tmp ..
@[simp] theorem State.note_imp (s : State) (src : Block) (e : EventName) (st : Status) (args : List Nat) : (s.note src e st args).imp = s.imp := s.logRec_imp ..
@[simp] theorem State.note_hth (s : State) (src : Block) (e : EventName) (st : Status) (args : List Nat) : (s.note src e st args).hth = s.hth := s.logRec_hth ..
@[simp] theorem State.note_gmp (s : State) (src : Block) (e : EventName) (st : Status) (args : List Nat) : (s.note src e st args).gmp = s.gmp := s.logRec_gmp ..
@[simp] theorem State.note_ste (s : State) (src : Block) (e : EventName) (st : Status) (args : List Nat) : (s.note src e st args).ste = s.ste := s.logRec_ste ..
@[simp] theorem State.note_anv (s : State) (src : Block) (e : EventName) (st : Status) (args : List Nat) : (s.note src e st args).anv = s.anv := s.logRec_anv ..
@[simp] theorem State.note_vols (s : State) (src : Block) (e : EventName) (st : Status) (args : List Nat) : (s.note src e st args).vols = s.vols := s.logRec_vols ..
@[simp] theorem State.note_lost (s : State) (src : Block) (e : EventName) (st : Status) (args : List Nat) : (s.note src e st args).lost = s.lost := s.logRec_lost ..
@[simp] theorem State.note_fresh (s : State) (src : Block) (e : EventName) (st : Status) (args : List Nat) : (s.note src e st args).fresh = s.fresh := s.logRec_fresh ..
@[simp] theorem State.note_pending (s : State) (src : Block) (e : EventName) (st : Status) (args : List Nat) : (s.note src e st args).pending = s.pending := s.logRec_pending ..

/-- A record changes no field but the alarm counters and FOR_INT_STATUS.ALARM. -/
theorem State.rd_logRec (s : State) (src : Block) (sev : Nat) (e : EventName) (st : Status) (ch : Chan) (args : List Nat) (f : Field)
    (h1 : f.key ≠ F.FOR_ALARM_CNT_ALARM.key) (h2 : f.key ≠ F.FOR_ALARM_CNT_CRITICAL.key) (h3 : f.key ≠ F.FOR_INT_STATUS_ALARM.key) :
    (s.logRec src sev e st ch args).rd f = s.rd f := by
  simp only [State.logRec]
  repeat' split
  all_goals simp [State.rd_raise_ne, State.rd_inc_ne, h1, h2, h3]

theorem State.rd_alarm (s : State) (src : Block) (e : EventName) (st : Status) (args : List Nat) (f : Field)
    (h1 : f.key ≠ F.FOR_ALARM_CNT_ALARM.key) (h2 : f.key ≠ F.FOR_ALARM_CNT_CRITICAL.key) (h3 : f.key ≠ F.FOR_INT_STATUS_ALARM.key) :
    (s.alarm src e st args).rd f = s.rd f := s.rd_logRec _ _ _ _ _ _ f h1 h2 h3

/-- A record below severity 2 changes no field. -/
theorem State.rd_logRec_low (s : State) (src : Block) {sev : Nat} (e : EventName) (st : Status) (ch : Chan) (args : List Nat) (f : Field)
    (h : sev < 2) : (s.logRec src sev e st ch args).rd f = s.rd f := by
  simp only [State.logRec, h, if_true]
  split <;> simp

@[simp] theorem State.rd_note (s : State) (src : Block) (e : EventName) (st : Status) (args : List Nat) (f : Field) :
    (s.note src e st args).rd f = s.rd f := s.rd_logRec_low _ _ _ _ _ _ (by decide)

/-- An alarm sets FOR_INT_STATUS.ALARM (R387). -/
@[simp] theorem State.rd_alarm_int (s : State) (src : Block) (e : EventName) (st : Status) (args : List Nat) :
    (s.alarm src e st args).rd F.FOR_INT_STATUS_ALARM = 1 := by
  have h (x : Nat) : (x ||| 1) % 2 = 1 := by
    simp
  have hs : F.FOR_INT_STATUS_ALARM.span = 2 := rfl
  simp [State.alarm, State.logRec, hs, h]

/-! ### Mode changes (R439) -/

/-- A mode change leads to the mode, with the SAFE flag given. -/
@[simp] theorem State.toMode_mode (s : State) (m : Mode) (safe : Bool) : (s.toMode m safe).fm.mode = m := by
  simp only [State.toMode]; split
  · rename_i h; exact h.1
  · simp

@[simp] theorem State.toMode_safe (s : State) (m : Mode) (safe : Bool) : (s.toMode m safe).fm.safe = safe := by
  simp only [State.toMode]; split
  · rename_i h; exact h.2
  · simp

@[simp] theorem State.toMode_dram (s : State) (m : Mode) (safe : Bool) : (s.toMode m safe).dram = s.dram := by
  simp only [State.toMode]; repeat' split
  all_goals rfl
@[simp] theorem State.toMode_flt (s : State) (m : Mode) (safe : Bool) : (s.toMode m safe).flt = s.flt := by
  simp only [State.toMode]; repeat' split
  all_goals rfl
@[simp] theorem State.toMode_pwr (s : State) (m : Mode) (safe : Bool) : (s.toMode m safe).pwr = s.pwr := by
  simp only [State.toMode]; repeat' split
  all_goals rfl
@[simp] theorem State.toMode_clk (s : State) (m : Mode) (safe : Bool) : (s.toMode m safe).clk = s.clk := by
  simp only [State.toMode]; repeat' split
  all_goals rfl
@[simp] theorem State.toMode_stk (s : State) (m : Mode) (safe : Bool) : (s.toMode m safe).stk = s.stk := by
  simp only [State.toMode]; repeat' split
  all_goals rfl
@[simp] theorem State.toMode_chs (s : State) (m : Mode) (safe : Bool) : (s.toMode m safe).chs = s.chs := by
  simp only [State.toMode]; repeat' split
  all_goals rfl
@[simp] theorem State.toMode_gly (s : State) (m : Mode) (safe : Bool) : (s.toMode m safe).gly = s.gly := by
  simp only [State.toMode]; repeat' split
  all_goals rfl
@[simp] theorem State.toMode_prf (s : State) (m : Mode) (safe : Bool) : (s.toMode m safe).prf = s.prf := by
  simp only [State.toMode]; repeat' split
  all_goals rfl
@[simp] theorem State.toMode_pun (s : State) (m : Mode) (safe : Bool) : (s.toMode m safe).pun = s.pun := by
  simp only [State.toMode]; repeat' split
  all_goals rfl
@[simp] theorem State.toMode_mtx (s : State) (m : Mode) (safe : Bool) : (s.toMode m safe).mtx = s.mtx := by
  simp only [State.toMode]; repeat' split
  all_goals rfl
@[simp] theorem State.toMode_swg (s : State) (m : Mode) (safe : Bool) : (s.toMode m safe).swg = s.swg := by
  simp only [State.toMode]; repeat' split
  all_goals rfl
@[simp] theorem State.toMode_tmp (s : State) (m : Mode) (safe : Bool) : (s.toMode m safe).tmp = s.tmp := by
  simp only [State.toMode]; repeat' split
  all_goals rfl
@[simp] theorem State.toMode_imp (s : State) (m : Mode) (safe : Bool) : (s.toMode m safe).imp = s.imp := by
  simp only [State.toMode]; repeat' split
  all_goals rfl
@[simp] theorem State.toMode_hth (s : State) (m : Mode) (safe : Bool) : (s.toMode m safe).hth = s.hth := by
  simp only [State.toMode]; repeat' split
  all_goals rfl
@[simp] theorem State.toMode_gmp (s : State) (m : Mode) (safe : Bool) : (s.toMode m safe).gmp = s.gmp := by
  simp only [State.toMode]; repeat' split
  all_goals rfl
@[simp] theorem State.toMode_ste (s : State) (m : Mode) (safe : Bool) : (s.toMode m safe).ste = s.ste := by
  simp only [State.toMode]; repeat' split
  all_goals rfl
@[simp] theorem State.toMode_anv (s : State) (m : Mode) (safe : Bool) : (s.toMode m safe).anv = s.anv := by
  simp only [State.toMode]; repeat' split
  all_goals rfl
@[simp] theorem State.toMode_vols (s : State) (m : Mode) (safe : Bool) : (s.toMode m safe).vols = s.vols := by
  simp only [State.toMode]; repeat' split
  all_goals rfl
@[simp] theorem State.toMode_lost (s : State) (m : Mode) (safe : Bool) : (s.toMode m safe).lost = s.lost := by
  simp only [State.toMode]; repeat' split
  all_goals rfl
@[simp] theorem State.toMode_outbox (s : State) (m : Mode) (safe : Bool) : (s.toMode m safe).outbox = s.outbox := by
  simp only [State.toMode]; repeat' split
  all_goals rfl
@[simp] theorem State.toMode_fresh (s : State) (m : Mode) (safe : Bool) : (s.toMode m safe).fresh = s.fresh := by
  simp only [State.toMode]; repeat' split
  all_goals rfl
@[simp] theorem State.toMode_pending (s : State) (m : Mode) (safe : Bool) : (s.toMode m safe).pending = s.pending := by
  simp only [State.toMode]; repeat' split
  all_goals rfl

/-- PREV holds the mode that was left. -/
theorem State.toMode_prev (s : State) {m : Mode} (safe : Bool) (h : s.fm.mode ≠ m) : (s.toMode m safe).fm.prev = s.fm.mode := by
  simp [State.toMode, h]; split <;> rfl

/-- A mode change writes no field but FOR_MODE.CHANGES, FOR_MODE_TIME and FOR_INT_STATUS.MODE_CHG. -/
theorem State.rd_toMode (s : State) (m : Mode) (safe : Bool) (f : Field) (h1 : f.key ≠ F.FOR_MODE_CHANGES.key)
    (h2 : f.key ≠ F.FOR_MODE_TIME_NS.key) (h3 : f.key ≠ F.FOR_INT_STATUS_MODE_CHG.key) : (s.toMode m safe).rd f = s.rd f := by
  simp only [State.toMode]
  repeat' split
  all_goals simp [State.rd_raise_ne, State.rd_wr_ne, State.rd_inc_ne, h1, h2, h3]

/-- The SAFE flag stands only with Halted after a mode change, whatever stood before (R439). -/
theorem safeFlagLegal_toMode (s : State) (m : Mode) (safe : Bool) (h : safe = true → m = .halted) :
    (s.toMode m safe).fm.safe = true → (s.toMode m safe).fm.mode = .halted := by
  simpa using h

end Sys2Proof.Machine
end

