-- ==== Sys2Proof/Laws/Within.lean ====
section
/-! SUPPORT. Which parts of the state a change stays within: the words in which each shared operation says once everything it may change. -/

namespace Sys2Proof.Machine

/-- The place of a block in a set of parts. -/
def Block.place : Block → Nat
  | .for_ => 0
  | .stk => 1
  | .chs => 2
  | .gly => 3
  | .anv => 4
  | .pun => 5
  | .mtx => 6
  | .swg => 7
  | .tmp => 8
  | .prf => 9
  | .imp => 10
  | .hth => 11
  | .gmp => 12
  | .ste => 13
  | .hlm => 14
  | .pwr => 15
  | .tim => 16
  | .upd => 17
  | .dbg => 18
  | .prt => 19

/-- The place of a part in a set of parts. -/
def Part.place : Part → Nat
  | .regs b => b.place
  | .dram => 20
  | .fm => 21
  | .flt => 22
  | .upd => 23
  | .pwr => 24
  | .clk => 25
  | .stk => 26
  | .chs => 27
  | .gly => 28
  | .prf => 29
  | .pun => 30
  | .mtx => 31
  | .swg => 32
  | .tmp => 33
  | .imp => 34
  | .hth => 35
  | .gmp => 36
  | .ste => 37
  | .anv => 38
  | .vols => 39
  | .lost => 40
  | .outbox => 41
  | .fresh => 42

/-- A set of parts as one number, a bit for each part. -/
def parts : List Part → Nat
  | [] => 0
  | p :: rest => 2 ^ p.place ||| parts rest

/-- From `s` to `t` only the parts in `W` may have changed; the queue has not, and a legal state has stayed legal. -/
structure Within (W : Nat) (s t : State) : Prop where
  kept : ∀ p : Part, W.testBit p.place = false → p.kept s t
  queue : t.pending = s.pending
  legal : Legal s → Legal t

/-- The same of a command's outcome. -/
def Ends (W : Nat) (s : State) (o : Out1) : Prop := ∀ t, o = .next t → Within W s t

theorem Part.kept_refl (p : Part) (s : State) : p.kept s s := by cases p <;> simp [Part.kept]

theorem Part.kept_trans {p : Part} {s t u : State} (h : p.kept s t) (k : p.kept t u) : p.kept s u := by
  cases p <;> simp_all [Part.kept]

theorem Within.refl {W : Nat} {s : State} : Within W s s := ⟨fun p _ => p.kept_refl s, rfl, id⟩

theorem Within.trans {W : Nat} {s t u : State} (h : Within W s t) (k : Within W t u) : Within W s u :=
  ⟨fun p hp => Part.kept_trans (h.kept p hp) (k.kept p hp), k.queue.trans h.queue, fun l => k.legal (h.legal l)⟩

theorem Within.mono {V W : Nat} {s t : State} (h : Within V s t) (sub : V ||| W = W) : Within W s t := by
  refine ⟨fun p hp => h.kept p ?_, h.queue, h.legal⟩
  rw [← sub] at hp
  simpa using (by simpa using hp : V.testBit p.place = false ∧ _).1

/-- What was reached within `W`, followed by what stays within a part `V` of it. -/
theorem Within.step {V W : Nat} {s t u : State} (h : Within V t u) (sub : V ||| W = W) (k : Within W s t) : Within W s u :=
  k.trans (h.mono sub)

theorem Within.ite {W : Nat} {c : Prop} [Decidable c] {s t u : State} (h : Within W s t) (k : Within W s u) :
    Within W s (if c then t else u) := by split <;> assumption

theorem Within.foldl {W : Nat} {α : Type} {f : State → α → State} {l : List α} {s t : State}
    (h : ∀ u a, Within W s u → Within W s (f u a)) (k : Within W s t) : Within W s (l.foldl f t) :=
  List.foldlRecOn (motive := Within W s) l f k fun u hu a _ => h u a hu

theorem Within.foldl_fst {W : Nat} {α β : Type} {f : State × β → α → State × β} {l : List α} {s : State} {t : State × β}
    (h : ∀ u a, Within W s u.1 → Within W s (f u a).1) (k : Within W s t.1) : Within W s (l.foldl f t).1 :=
  List.foldlRecOn (motive := fun u => Within W s u.1) l f k fun u hu a _ => h u a hu

theorem Within.foldl_snd {W : Nat} {α β : Type} {f : β × State → α → β × State} {l : List α} {s : State} {t : β × State}
    (h : ∀ u a, Within W s u.2 → Within W s (f u a).2) (k : Within W s t.2) : Within W s (l.foldl f t).2 :=
  List.foldlRecOn (motive := fun u => Within W s u.2) l f k fun u hu a _ => h u a hu

/-- The state of a pair whose parts have been named. -/
theorem Within.snd {W : Nat} {α : Type} {s t : State} {a : α} {p : α × State} (k : Within W s p.2) (h : p = (a, t)) : Within W s t := by
  subst h; exact k

theorem Within.fst {W : Nat} {α : Type} {s t : State} {a : α} {p : State × α} (k : Within W s p.1) (h : p = (t, a)) : Within W s t := by
  subst h; exact k

theorem Ends.next {W : Nat} {s t : State} (h : Within W s t) : Ends W s (.next t) := by
  intro u hu; cases hu; exact h

theorem Ends.ite {W : Nat} {c : Prop} [Decidable c] {s : State} {a b : Out1} (h : Ends W s a) (k : Ends W s b) :
    Ends W s (if c then a else b) := by split <;> assumption

theorem Within.ite_fst {W : Nat} {α : Type} {c : Prop} [Decidable c] {s : State} {p q : State × α} (h : Within W s p.1) (k : Within W s q.1) :
    Within W s (if c then p else q).1 := by split <;> assumption

theorem Within.ite_snd {W : Nat} {α : Type} {c : Prop} [Decidable c] {s : State} {p q : α × State} (h : Within W s p.2) (k : Within W s q.2) :
    Within W s (if c then p else q).2 := by split <;> assumption

/-- A state that has a name, shown first. -/
theorem Within.named {W : Nat} {s t : State} (x : State) (h : Within W s x) (k : Within W s x → Within W s t) : Within W s t := k h

theorem Ends.named {W : Nat} {s : State} {o : Out1} (x : State) (h : Within W s x) (k : Within W s x → Ends W s o) : Ends W s o := k h

theorem Within.of_eq {W : Nat} {s t u : State} (e : u = t) (h : Within W s u) : Within W s t := e ▸ h

theorem Ends.of {W V : Nat} {s t : State} {o : Out1} (h : Ends V t o) (sub : V ||| W = W) (k : Within W s t) : Ends W s o :=
  fun u hu => (h u hu).step sub k

/-! ### One part written -/

theorem Within.set_flt {W : Nat} {s t : State} {v} (h : Within W s t) (b : W.testBit 22 = true) : Within W s { t with flt := v } :=
  h.trans ⟨fun p hp => by cases p <;> first | rfl | exact fun _ _ => rfl | simp_all [Part.place], rfl, id⟩

theorem Within.set_upd {W : Nat} {s t : State} {v} (h : Within W s t) (b : W.testBit 23 = true) : Within W s { t with upd := v } :=
  h.trans ⟨fun p hp => by cases p <;> first | rfl | exact fun _ _ => rfl | simp_all [Part.place], rfl, id⟩

theorem Within.set_pwr {W : Nat} {s t : State} {v} (h : Within W s t) (b : W.testBit 24 = true) : Within W s { t with pwr := v } :=
  h.trans ⟨fun p hp => by cases p <;> first | rfl | exact fun _ _ => rfl | simp_all [Part.place], rfl, id⟩

theorem Within.set_clk {W : Nat} {s t : State} {v} (h : Within W s t) (b : W.testBit 25 = true) : Within W s { t with clk := v } :=
  h.trans ⟨fun p hp => by cases p <;> first | rfl | exact fun _ _ => rfl | simp_all [Part.place], rfl, id⟩

theorem Within.set_stk {W : Nat} {s t : State} {v} (h : Within W s t) (b : W.testBit 26 = true) : Within W s { t with stk := v } :=
  h.trans ⟨fun p hp => by cases p <;> first | rfl | exact fun _ _ => rfl | simp_all [Part.place], rfl, id⟩

theorem Within.set_chs {W : Nat} {s t : State} {v} (h : Within W s t) (b : W.testBit 27 = true) : Within W s { t with chs := v } :=
  h.trans ⟨fun p hp => by cases p <;> first | rfl | exact fun _ _ => rfl | simp_all [Part.place], rfl, id⟩

theorem Within.set_gly {W : Nat} {s t : State} {v} (h : Within W s t) (b : W.testBit 28 = true) : Within W s { t with gly := v } :=
  h.trans ⟨fun p hp => by cases p <;> first | rfl | exact fun _ _ => rfl | simp_all [Part.place], rfl, id⟩

theorem Within.set_prf {W : Nat} {s t : State} {v} (h : Within W s t) (b : W.testBit 29 = true) : Within W s { t with prf := v } :=
  h.trans ⟨fun p hp => by cases p <;> first | rfl | exact fun _ _ => rfl | simp_all [Part.place], rfl, id⟩

theorem Within.set_pun {W : Nat} {s t : State} {v} (h : Within W s t) (b : W.testBit 30 = true) : Within W s { t with pun := v } :=
  h.trans ⟨fun p hp => by cases p <;> first | rfl | exact fun _ _ => rfl | simp_all [Part.place], rfl, id⟩

theorem Within.set_mtx {W : Nat} {s t : State} {v} (h : Within W s t) (b : W.testBit 31 = true) : Within W s { t with mtx := v } :=
  h.trans ⟨fun p hp => by cases p <;> first | rfl | exact fun _ _ => rfl | simp_all [Part.place], rfl, id⟩

theorem Within.set_swg {W : Nat} {s t : State} {v} (h : Within W s t) (b : W.testBit 32 = true) : Within W s { t with swg := v } :=
  h.trans ⟨fun p hp => by cases p <;> first | rfl | exact fun _ _ => rfl | simp_all [Part.place], rfl, id⟩

theorem Within.set_tmp {W : Nat} {s t : State} {v} (h : Within W s t) (b : W.testBit 33 = true) : Within W s { t with tmp := v } :=
  h.trans ⟨fun p hp => by cases p <;> first | rfl | exact fun _ _ => rfl | simp_all [Part.place], rfl, id⟩

theorem Within.set_imp {W : Nat} {s t : State} {v} (h : Within W s t) (b : W.testBit 34 = true) : Within W s { t with imp := v } :=
  h.trans ⟨fun p hp => by cases p <;> first | rfl | exact fun _ _ => rfl | simp_all [Part.place], rfl, id⟩

theorem Within.set_hth {W : Nat} {s t : State} {v} (h : Within W s t) (b : W.testBit 35 = true) : Within W s { t with hth := v } :=
  h.trans ⟨fun p hp => by cases p <;> first | rfl | exact fun _ _ => rfl | simp_all [Part.place], rfl, id⟩

theorem Within.set_gmp {W : Nat} {s t : State} {v} (h : Within W s t) (b : W.testBit 36 = true) : Within W s { t with gmp := v } :=
  h.trans ⟨fun p hp => by cases p <;> first | rfl | exact fun _ _ => rfl | simp_all [Part.place], rfl, id⟩

theorem Within.set_ste {W : Nat} {s t : State} {v} (h : Within W s t) (b : W.testBit 37 = true) : Within W s { t with ste := v } :=
  h.trans ⟨fun p hp => by cases p <;> first | rfl | exact fun _ _ => rfl | simp_all [Part.place], rfl, id⟩

theorem Within.set_anv {W : Nat} {s t : State} {v} (h : Within W s t) (b : W.testBit 38 = true) : Within W s { t with anv := v } :=
  h.trans ⟨fun p hp => by cases p <;> first | rfl | exact fun _ _ => rfl | simp_all [Part.place], rfl, id⟩

theorem Within.set_vols {W : Nat} {s t : State} {v} (h : Within W s t) (b : W.testBit 39 = true) : Within W s { t with vols := v } :=
  h.trans ⟨fun p hp => by cases p <;> first | rfl | exact fun _ _ => rfl | simp_all [Part.place], rfl, id⟩

theorem Within.set_lost {W : Nat} {s t : State} {v} (h : Within W s t) (b : W.testBit 40 = true) : Within W s { t with lost := v } :=
  h.trans ⟨fun p hp => by cases p <;> first | rfl | exact fun _ _ => rfl | simp_all [Part.place], rfl, id⟩

theorem Within.set_outbox {W : Nat} {s t : State} {v} (h : Within W s t) (b : W.testBit 41 = true) : Within W s { t with outbox := v } :=
  h.trans ⟨fun p hp => by cases p <;> first | rfl | exact fun _ _ => rfl | simp_all [Part.place], rfl, id⟩

theorem Within.set_fresh {W : Nat} {s t : State} {v} (h : Within W s t) (b : W.testBit 42 = true) : Within W s { t with fresh := v } :=
  h.trans ⟨fun p hp => by cases p <;> first | rfl | exact fun _ _ => rfl | simp_all [Part.place], rfl, id⟩

theorem Within.set_fm {W : Nat} {s t : State} {v} (h : Within W s t) (b : W.testBit 21 = true) (safe : v.safe = t.fm.safe) (mode : v.mode = t.fm.mode) :
    Within W s { t with fm := v } :=
  h.trans ⟨fun p hp => by cases p <;> first | rfl | exact fun _ _ => rfl | simp_all [Part.place], rfl, fun l => by
    simpa [Legal, SafeFlagLegal, safe, mode] using l⟩

theorem Within.set_dram {W : Nat} {s t : State} {v} (h : Within W s t) (b : W.testBit 20 = true) (r : Tab.rising t.dram → Tab.rising v) :
    Within W s { t with dram := v } :=
  h.trans ⟨fun p hp => by cases p <;> first | rfl | exact fun _ _ => rfl | simp_all [Part.place], rfl, fun l => ⟨l.1, l.2.1, r l.2.2⟩⟩

/-! ### One register field written -/

/-- The set that holds the block of a field. -/
def Field.parts (f : Field) : Nat :=
  match f.key / 2 ^ 25 with
  | 0x000 => 1
  | 0x020 => 2
  | 0x022 => 4
  | 0x024 => 8
  | 0x026 => 16
  | 0x028 => 32
  | 0x02A => 64
  | 0x02C => 128
  | 0x02E => 256
  | 0x030 => 512
  | 0x032 => 1024
  | 0x034 => 2048
  | 0x036 => 4096
  | 0x038 => 8192
  | 0x03A => 16384
  | 0x03C => 32768
  | 0x03D => 65536
  | 0x03E => 131072
  | 0x03F => 262144
  | 0x040 => 524288
  | _ => 0

theorem Tab.rising_set {α : Type} [DecidableEq α] {d : α} {t : Tab α} {k : Nat} {v : α} (h : Tab.rising t) : Tab.rising (Tab.set d t k v) := by
  unfold Tab.set
  split
  · exact Tab.rising_erase k h
  · exact Tab.rising_put k v h

theorem Within.set_flds {W : Nat} {s t : State} {v} (h : Within W s t)
    (r : ∀ f : Field, (∃ b : Block, f.inBlock b ∧ W.testBit b.place = false) → Tab.get f.reset v f.key = t.rd f)
    (l : Tab.rising t.flds → Tab.rising v) : Within W s { t with flds := v } := by
  refine h.trans ⟨fun p hp => ?_, rfl, fun k => ⟨k.1, l k.2.1, k.2.2⟩⟩
  cases p
  case regs b => exact fun f hf => r f ⟨b, hf, hp⟩
  all_goals rfl

theorem Field.parts_testBit {f : Field} {b : Block} (h : f.inBlock b) : f.parts.testBit b.place = true := by
  unfold Field.inBlock at h
  unfold Field.parts
  rw [h]
  cases b <;> rfl

theorem State.wr_within (s : State) (f : Field) (v : Nat) : Within f.parts s (s.wr f v) := by
  refine Within.set_flds .refl ?_ Tab.rising_set
  rintro g ⟨b, hb, hW⟩
  have hne : g.key ≠ f.key := by
    intro e
    have : f.inBlock b := by unfold Field.inBlock at *; rw [← e]; exact hb
    simp [Field.parts_testBit this] at hW
  exact Tab.get_set_reset_ne _ _ _ _ hne

theorem State.inc_within (s : State) (f : Field) (n : Nat) : Within f.parts s (s.inc f n) := s.wr_within f _
theorem State.incHeld_within (s : State) (f : Field) (n : Nat) : Within f.parts s (s.incHeld f n) := s.wr_within f _
theorem State.dec_within (s : State) (f : Field) (n : Nat) : Within f.parts s (s.dec f n) := s.wr_within f _
theorem State.raise_within (s : State) (f : Field) (n : Nat) : Within f.parts s (s.raise f n) := s.wr_within f _
theorem State.clear_within (s : State) (f : Field) (n : Nat) : Within f.parts s (s.clear f n) := s.wr_within f _

end Sys2Proof.Machine
end

