-- ==== Sys2Proof/WellFormed.lean ====
section
/-! DEFINITION. Which commands are well formed: every operand fits the field, or names a thing of the row, that the spec gives it. -/

namespace Sys2Proof

/-- Whether an operand lies below a bound. -/
def below (n v : Nat) : Bool := decide (v < n)

/-- Whether an operand fits a field of `k` bits. -/
def fits (k v : Nat) : Bool := decide (v < 2 ^ k)

/-- Whether a run of bytes has the length that its format gives. -/
def sized (n : Nat) (b : Bytes) : Bool := b.length == n

/-- Whether the grain ID or address that a READ is for fits its 64 bits. -/
def Machine.ReadFor.ok : Machine.ReadFor → Bool
  | .plain => true
  | .grain g => fits 64 g
  | .page a => fits 64 a

/-- Whether every operand of a command is within its bounds. -/
def Instr.wf : Instr → Bool
  | .standbySupplyUp addr => below 8 addr
  | .mainPwrEnAssert => true
  | .coreResetRelease _ => true
  | .pwrOkLow => true
  | .resetNLow => true
  | .pllLock => true
  | .dramTrainingDone _ bytes => fits 64 bytes
  | .laneSelfTestDone _ => true
  | .backendDiscoveryDone _ => true
  | .galleyRestore _ _ _ _ _ => true
  | .journalReplay _ _ => true
  | .formingEnd => true
  | .reFormOffer _ => true
  | .lineGroupDrained _ _ => true
  | .supplyEventStart _ => true
  | .supplyDipEnd => true
  | .guardEnter => true
  | .guardWindowStart => true
  | .guardWindowBreak _ => true
  | .guardResume => true
  | .dumpCommit => true
  | .dumpPhaseComplete _ => true
  | .dumpSeal _ _ _ => true
  | .coreRailReset => true
  | .thermalWarn _ _ _ => true
  | .thermalThrottle _ _ _ => true
  | .thermalPark _ _ _ => true
  | .thermalDump _ _ _ => true
  | .thermtrip _ _ _ => true
  | .wakeNLow _ => true
  | .wakeTimerExpiry _ => true
  | .wakeDigestCheck _ _ _ => true
  | .bankingTimerExpiry _ _ => true
  | .bankReqBanked _ => true
  | .bankReqDeep _ => true
  | .bankEnterComplete => true
  | .powerOffReq => true
  | .wakePartnerReq => true
  | .hostLoadSample _ _ => true
  | .laneClockGate kind lane => below 12 kind && fits 8 lane
  | .smithClockGate core => fits 5 core
  | .timeSnapshot => true
  | .emberCalibration _ => true
  | .timeQualityLapse => true
  | .timAdjWrite _ => true
  | .ptpSync _ _ _ port => below 34 port
  | .pcieSqDoorbell ctx _ => fits 16 ctx
  | .cqHeadDoorbell ctx _ => fits 16 ctx
  | .commandFetch ctx _ => fits 16 ctx
  | .contextFill ctx _ => fits 16 ctx
  | .capsuleArrival conn _ _ _ => fits 16 conn
  | .spillRingFetch ctx => fits 16 ctx
  | .nvmeofConnect conn cntlid hqid qsize _ keepAliveMs _ lport mtu => fits 16 conn && fits 16 cntlid && fits 16 hqid && fits 16 qsize && fits 32 keepAliveMs && fits 5 lport && fits 16 mtu
  | .tcpIcreq conn lport _ _ cpda => fits 16 conn && fits 5 lport && fits 5 cpda
  | .h2cData conn ttag cccid _ _ _ _ _ => fits 16 conn && fits 16 ttag && fits 16 cccid
  | .h2cTermReq conn => fits 16 conn
  | .rdmaReadComplete slot _ => fits 17 slot
  | .cnpReceived conn => fits 16 conn
  | .linkStateChange _ port idx speed width _ _ => below 4 port && below 8 idx && fits 10 speed && below 17 width
  | .functionLevelReset port fn => below 2 port && below 1025 fn
  | .frontLinkLoss port => below 2 port
  | .controllerEnable cntlid port fn asq asqSize acq acqSize => fits 16 cntlid && below 2 port && below 1025 fn && fits 64 asq && fits 12 asqSize && fits 64 acq && fits 12 acqSize
  | .controllerDisable cntlid => fits 16 cntlid
  | .numvfsWrite port n => below 2 port && fits 16 n
  | .vfDisable port => below 2 port
  | .associationEnd cntlid => fits 16 cntlid
  | .keepAliveExpiry cntlid => fits 16 cntlid
  | .nvmeRead slot _ => fits 17 slot
  | .readDataSent slot => fits 17 slot
  | .nvmeWrite slot => fits 17 slot
  | .writeZeroes slot => fits 17 slot
  | .deallocate slot => fits 17 slot
  | .nvmeFlush slot => fits 17 slot
  | .flushComplete slot => fits 17 slot
  | .compare slot _ _ => fits 17 slot
  | .compareAndWrite slot _ _ _ => fits 17 slot
  | .verify slot _ => fits 17 slot
  | .createIoCq slot cqid base size vector _ _ aggrThr aggrTime => fits 17 slot && fits 16 cqid && fits 64 base && fits 16 size && fits 16 vector && fits 8 aggrThr && fits 8 aggrTime
  | .createIoSq slot qid cqid base size prio _ => fits 17 slot && fits 16 qid && fits 16 cqid && fits 64 base && fits 16 size && below 4 prio
  | .deleteIoSq slot qid => fits 17 slot && fits 16 qid
  | .deleteIoCq slot cqid => fits 17 slot && fits 16 cqid
  | .nsCreate slot _ => fits 17 slot
  | .nsDelete slot => fits 17 slot
  | .nsAttach slot nsid cntlid => fits 17 slot && below 16385 nsid && fits 16 cntlid
  | .nsDetach slot nsid cntlid => fits 17 slot && below 16385 nsid && fits 16 cntlid
  | .getLogPage slot lid => fits 17 slot && fits 8 lid
  | .keepAlive slot => fits 17 slot
  | .setFeaturesArbitration slot burst hpw mpw lpw _ => fits 17 slot && below 8 burst && fits 8 hpw && fits 8 mpw && fits 8 lpw
  | .reservationRegister slot _ _ _ _ _ => fits 17 slot
  | .reservationAcquire slot _ rtype _ _ => fits 17 slot && fits 8 rtype
  | .reservationRelease slot _ rtype _ => fits 17 slot && fits 8 rtype
  | .reservationReport slot => fits 17 slot
  | .unsupportedCommand slot => fits 17 slot
  | .fwImageDownload slot _ _ => fits 17 slot
  | .fwCommitStage slot _ _ => fits 17 slot
  | .fwCommitStageActivate slot _ _ => fits 17 slot
  | .fwCommitActivateSlot slot _ _ => fits 17 slot
  | .fwCommitActivateNow slot _ _ => fits 17 slot
  | .updateCompare slot => fits 17 slot
  | .tokenIssue slot => fits 17 slot
  | .completionPost ctx => fits 16 ctx
  | .msixCoalesceTimer ctx => fits 16 ctx
  | .drainComplete ctx => fits 16 ctx
  | .fetchHoldWrite _ => true
  | .stkQcmdCloseChannel qid => fits 16 qid
  | .stkQcmdRehome qid => fits 16 qid
  | .hwmClear _ => true
  | .chaseStamp slot => fits 17 slot
  | .stampHoldWrite _ => true
  | .pieceDataLand _ _ => true
  | .galleyRunAvailable => true
  | .localDramWriteComplete _ => true
  | .piecePublish _ => true
  | .pieceApply _ => true
  | .pieceRelease _ => true
  | .statusSendTimer => true
  | .partnerStatusTimeout => true
  | .unprotModeExit => true
  | .galleyLogConfirm _ _ => true
  | .forceUnprotWrite _ => true
  | .bellowsPoll energy status _ => fits 16 energy && fits 8 status
  | .bellowsTimeout => true
  | .vaultSetErase _ => true
  | .vaultRestripeDone => true
  | .dumpSetRelease _ => true
  | .grainJobPlace _ line mask _ _ => fits 5 line && fits 64 mask
  | .refineDigestMismatch _ _ _ => true
  | .sortRepairDurable gid => fits 64 gid
  | .prfOpen check => below 4 check
  | .prfClose => true
  | .prfCloseOpen check => below 4 check
  | .prfPendingOpen u => fits 8 u
  | .prfRdataWrite width value => below 9 width && fits 32 value
  | .prfKatStart _ => true
  | .punchJobSubmit cluster desc _ _ _ _ => below 8 cluster && sized 64 desc
  | .punchJobEnd core _ _ => below 48 core
  | .punchResume cluster line _ _ => below 8 cluster && fits 5 line
  | .punchParityError core => below 48 core
  | .punchKatStart _ => true
  | .matrixLookup _ _ => true
  | .mtxLookup chan _ => fits 16 chan
  | .mtxPlace chan _ => fits 16 chan
  | .mtxRef chan _ => fits 16 chan
  | .mtxUnpin chan _ => fits 16 chan
  | .mtxMove chan _ => fits 16 chan
  | .mtxFetchFp chan _ => fits 16 chan
  | .mtxIndexDelta chan _ => fits 16 chan
  | .mtxHandoff chan _ _ _ _ _ _ => fits 16 chan
  | .mtxResponse _ => true
  | .freeChainAppend _ => true
  | .indexRemoval _ => true
  | .grainPlaced _ => true
  | .strictVerify _ _ => true
  | .halfLoadStart _ => true
  | .halfLoadDone _ => true
  | .catchupGrain _ => true
  | .swageGrainCompress cluster desc _ => below 8 cluster && sized 64 desc
  | .swageGrainExpand cluster desc _ => below 8 cluster && sized 64 desc
  | .swageStreamCompress cluster desc _ => below 8 cluster && sized 64 desc
  | .swageStreamExpand cluster desc _ => below 8 cluster && sized 64 desc
  | .swageJobEnd lane _ _ => below 120 lane
  | .swageKatStart _ => true
  | .temperJobSubmit cluster desc _ _ => below 8 cluster && sized 64 desc
  | .temperJobEnd pair _ => fits 5 pair
  | .keyUnwrap cluster h => below 8 cluster && fits 24 h
  | .nonceHwmDurable h => fits 24 h
  | .keyCreate => true
  | .keyInstallConfirm h => fits 24 h
  | .keySweep => true
  | .keySweepEnd => true
  | .keyDestroy => true
  | .keyDestroyZero realm => fits 12 realm
  | .temperKatStart _ => true
  | .impositionJobSubmit desc _ => sized 64 desc
  | .impositionJobEnd u _ => below 8 u
  | .impKatStart _ => true
  | .stripeCloseTimer sheet => fits 32 sheet
  | .stripeOpenDurable sheet stripe => fits 32 sheet && fits 32 stripe
  | .stripeChunksConfirmed sheet stripe => fits 32 sheet && fits 32 stripe
  | .memberMissing m => fits 7 m
  | .rebuildStripe => true
  | .rebuildSheetDone => true
  | .rebuildRelocate _ => true
  | .rebuildShareSample _ => true
  | .mendWaitTimeout slot => fits 17 slot
  | .reshapeMigrateCmd => true
  | .reshapeSheetCheckpoint => true
  | .reshapeBoundaryWrite => true
  | .reshapePauseWrite _ => true
  | .sheetOpen role cls _ => below 6 role && fits 4 cls
  | .journalBatchDurable _ => true
  | .flushIntervalTimer => true
  | .flushNow => true
  | .checkpointDurable => true
  | .auditStart => true
  | .auditEnd => true
  | .descaleCopyDone => true
  | .descaleErase sheet => fits 32 sheet
  | .descalePauseWrite _ => true
  | .wearCheck => true
  | .capSet => true
  | .healthSample => true
  | .gmpIdentify m port _ => fits 7 m && below 2 port
  | .gmpHello m port version _ => fits 7 m && below 2 port && fits 16 version
  | .gmpHealth m port _ => fits 7 m && below 2 port
  | .gmpOwner m port plate _ => fits 7 m && below 2 port && fits 25 plate
  | .gmpRead m port plate offset length what _ => fits 7 m && below 2 port && fits 25 plate && fits 32 offset && fits 32 length && what.ok
  | .gmpWrite m port plate offset _ _ => fits 7 m && below 2 port && fits 25 plate && fits 32 offset
  | .gmpErase m port plate _ => fits 7 m && below 2 port && fits 25 plate
  | .gmpClaim m port plate _ _ _ => fits 7 m && below 2 port && fits 25 plate
  | .gmpFence m port _ _ => fits 7 m && below 2 port
  | .gmpSetAnchor m port gen a _ _ _ => fits 7 m && below 2 port && fits 32 gen && fits 32 a
  | .gmpFwDownload m port offset _ _ => fits 7 m && below 2 port && fits 32 offset
  | .gmpFwActivate m port _ => fits 7 m && below 2 port
  | .gmpCompletion => true
  | .gmpStaleTransfer m _ gen => fits 7 m && fits 32 gen
  | .gmpTimeout _ => true
  | .moduleLinkUp _ speed lanes => below 8 speed && below 17 lanes
  | .moduleAdmitConfirm m serial => fits 7 m && fits 64 serial
  | .moduleAdmitTimeout m => fits 7 m
  | .moduleRemoval m => fits 7 m
  | .moduleFenceRetry m => fits 7 m
  | .gmpModRelease => true
  | .gmpModActivate => true
  | .moduleFwTimeout m => fits 7 m
  | .steSnapshot => true
  | .snapshotComplete volume => fits 24 volume
  | .steClone => true
  | .steDelete => true
  | .deleteWalkBatch _ => true
  | .deletePauseWrite _ => true
  | .steOpenSession desc => sized 128 desc
  | .steStartDelta => true
  | .steCloseSession => true
  | .steBreakSync => true
  | .replHello k _ _ => fits 4 k
  | .replHelloAck k _ _ => fits 4 k
  | .replKeys k _ => fits 4 k
  | .replDeltaBegin k _ => fits 4 k
  | .replExtents k _ => fits 4 k
  | .replFpList k _ => fits 4 k
  | .replHave k _ => fits 4 k
  | .replGrains k _ => fits 4 k
  | .replSegmentEnd k _ => fits 4 k
  | .replSegmentAck k _ => fits 4 k
  | .replDeltaEnd k _ => fits 4 k
  | .replDeltaAck k _ => fits 4 k
  | .replWrite k _ => fits 4 k
  | .replWriteAck k _ => fits 4 k
  | .replSyncMark k _ => fits 4 k
  | .syncMarkTimer k => fits 4 k
  | .replMendReq k _ => fits 4 k
  | .replMendData k _ => fits 4 k
  | .replClose k _ => fits 4 k
  | .replError k _ => fits 4 k
  | .syncTimeout k => fits 4 k
  | .replConnectionLoss k => fits 4 k
  | .anvFlitReceive _ flit => sized 256 flit
  | .anvNak _ _ _ => true
  | .anvLaneLockLoss _ => true
  | .anvHello _ => true
  | .anvHelloAck _ => true
  | .helloRetryTimer => true
  | .anvStatus mode flags e ereq ecov time quality unc => fits 4 mode && fits 8 flags && fits 16 e && fits 16 ereq && fits 16 ecov && fits 64 time && below 4 quality && fits 32 unc
  | .anvPark => true
  | .anvRejoin _ => true
  | .anvReleased => true
  | .anvBindOffer nonce _ _ => sized 32 nonce
  | .anvBindXfer wrapped => sized 40 wrapped
  | .anvBindProof mac => sized 48 mac
  | .anvMirrorData slot _ => fits 26 slot
  | .anvMirrorDesc idx desc fwd => fits 32 idx && sized 64 desc && fits 64 fwd
  | .anvMirrorAck idx gen result => fits 32 idx && fits 32 gen && below 2 result
  | .anvCommit idx gen => fits 32 idx && fits 32 gen
  | .anvRelease idx gen => fits 32 idx && fits 32 gen
  | .anvRing area off _ => below 3 area && fits 64 off
  | .anvRingAck area off => below 3 area && fits 64 off
  | .anvFwdCmd chan fwdId cntlid _ _ => fits 16 chan && fits 64 fwdId && fits 16 cntlid
  | .anvDataReq fwdId off _ _ gen _ => fits 64 fwdId && fits 64 off && fits 32 gen
  | .anvData chan fwdId off _ gen _ => fits 16 chan && fits 64 fwdId && fits 64 off && fits 32 gen
  | .anvReadData fwdId off _ => fits 64 fwdId && fits 64 off
  | .anvResult chan fwdId st _ dword0 => fits 16 chan && fits 64 fwdId && fits 16 st && fits 32 dword0
  | .anvCancel chan fwdId => fits 16 chan && fits 64 fwdId
  | .anvCredit chan _ => fits 16 chan
  | .nsMoveStart nsid _ => below 16385 nsid
  | .anvMoveBegin chan nsid _ => fits 16 chan && below 16385 nsid
  | .boundarySend nsid => below 16385 nsid
  | .anvBoundary _ => true
  | .anvMoveDone nsid => below 16385 nsid
  | .moveHoldLong nsid => below 16385 nsid
  | .anvClearance sheet _ => fits 32 sheet
  | .anvMediaReturn _ _ _ _ _ => true
  | .strikeStart _ steps lines _ => fits 6 steps && below 8 lines
  | .strikeTongsSeen _ lines => below 8 lines
  | .strikeDigestReq _ _ => true
  | .strikeDigestResp _ _ => true
  | .strikeDryBegin _ _ _ => true
  | .strikeDryResult _ _ _ => true
  | .strikeOwnerResult _ _ _ => true
  | .strikeEnd _ => true
  | .strikeIntervalTimer _ _ => true
  | .strikeNow _ _ => true
  | .strikeResponseTimeout => true
  | .bellowsLoadResult result energy _ => fits 16 result && fits 16 energy
  | .aliveStale _ => true
  | .takeoverReplayDone _ => true
  | .fenceInAssert => true
  | .claimAckInAssert => true
  | .watchdogExpiry pair => fits 4 pair
  | .bundlesDownTimeout => true
  | .bundleDown _ => true
  | .bundleTrainRetry _ => true
  | .bundleTrained _ _ => true
  | .bundleStable _ => true
  | .joinBacklogDone => true
  | .startAloneTimer => true
  | .handbackNs nsid => below 16385 nsid
  | .handbackList => true
  | .linkDownDelay => true
  | .channelError kind index st _ _ _ _ => below 15 kind && fits 24 index && fits 16 st
  | .scrapEntryDurable slot => fits 12 slot
  | .alarmEventResend _ => true
  | .pldmEventAck _ _ => true
  | .pldmGetSensor _ id _ => fits 16 id
  | .pldmGetStateSensor _ id => fits 16 id
  | .imageBlockArrival source holder off _ _ => fits 8 source && fits 128 holder && fits 64 off
  | .leaseExpiry => true
  | .imageVerifyDone => true
  | .imageRelay => true
  | .activationStart _ _ => true
  | .activationHeadReset => true
  | .activationNextHead _ _ => true
  | .confirmTimer => true
  | .updConfirmCmd => true
  | .updReleaseCmd => true
  | .updRelayCmd => true
  | .updActivateCmd _ _ => true
  | .updRecoveryCmd => true
  | .ownerLockWrite _ => true
  | .tftpImageWrite _ ip off _ _ => fits 128 ip && fits 64 off
  | .tftpCommitWrite _ ip _ _ _ => fits 128 ip
  | .pldmRequestUpdate _ eid _ => fits 8 eid
  | .pldmActivateFirmware _ eid _ _ => fits 8 eid
  | .recoveryImage _ _ => true
  | .scrapClearFile _ _ => true
  | .ohmustFrame clocks req => fits 16 clocks && sized 22 req
  | .ohmNop seq => fits 8 seq
  | .ohmHello seq version => fits 8 seq && fits 16 version
  | .ohmChallenge seq addr => fits 8 seq && fits 64 addr
  | .ohmResponse seq level addr word => fits 8 seq && below 4 level && fits 64 addr && fits 64 word
  | .ohmLock seq => fits 8 seq
  | .ohmHalt seq target => fits 8 seq && fits 8 target
  | .haltComplete => true
  | .ohmResume seq target => fits 8 seq && fits 8 target
  | .ohmStep seq target count => fits 8 seq && fits 8 target && fits 16 count
  | .ohmBpSet seq target addr data => fits 8 seq && fits 8 target && fits 64 addr && fits 64 data
  | .ohmBpClear seq target index => fits 8 seq && fits 8 target && fits 4 index
  | .breakpointHit pair index => fits 4 pair && fits 4 index
  | .ohmReadMem seq target addr => fits 8 seq && fits 8 target && fits 64 addr
  | .ohmWriteMem seq target addr data => fits 8 seq && fits 8 target && fits 64 addr && fits 64 data
  | .ohmReadReg seq target addr => fits 8 seq && fits 8 target && fits 64 addr
  | .ohmWriteReg seq target addr data => fits 8 seq && fits 8 target && fits 64 addr && fits 64 data
  | .ohmMailbox seq addr data => fits 8 seq && fits 64 addr && fits 64 data
  | .unlockIdleTimeout => true
  | .hlmAdmitOpen => true
  | .admitWindowExpiry => true
  | .hlmSvnRaise _ => true
  | .hlmErasePairRecord => true
  | .hlmRevokeSlot slot _ => below 4 slot
  | .dbgLockNow => true
  | .dbgDisable => true
  | .blockInterruptClaim block pair => below 20 block && fits 4 pair
  | .registerWrite addr bytes value => fits 28 addr && below 9 bytes && fits 64 value
  | .badAccess source addr bytes _ => below 3 source && fits 28 addr && below 9 bytes
  | .bar2HostWrite off => fits 12 off
  | .thermalRecover _ _ _ => true
  | .standbySupplyLoss => true
  | .fenceInDeassert => true
  | .mgmtPortReset => true
  | .powerWarnNDeassert => true
  | .activationWaitAlarm => true

end Sys2Proof
end

