-- ==== Sys2Proof/Tests/Slice0.lean ====
section
/-! SUPPORT. The model's own tests: ill-formed commands are refused, the manual's worked figures come out, and for every statement with hypotheses a state and operands that meet them. -/

namespace Sys2Proof.Tests
open Sys2Proof Sys2Proof.Machine

set_option maxRecDepth 4000
set_option Elab.async false

/-- The ASCII bytes that Table 7.8 gives check values for. -/
def nine : Bytes := [0x31#8, 0x32#8, 0x33#8, 0x34#8, 0x35#8, 0x36#8, 0x37#8, 0x38#8, 0x39#8]

/-- Table 7.8. -/
theorem test_check_values : crc16 nine = 0xD0DB ∧ crc32c nine = 0xE3069283 ∧ crc64 nine = 0xAE8B14860A799888 := by decide +kernel

/-- Table 12.3: P and Q of one byte position. -/
theorem test_parity_bytes : parityP 1 [[0x3A#8], [0x5C#8], [0x91#8], [0xE7#8]] = [0x10#8] ∧ parityQ 1 [[0x3A#8], [0x5C#8], [0x91#8], [0xE7#8]] = [0x97#8] := by decide +kernel

/-- The reconstruction below Table 12.3: D1 and D3 lost. -/
theorem test_reconstruct_two : reconstruct 1 4 1 3 [[0x3A#8], [], [0x91#8], [], [0x10#8], [0x97#8]] = [[0x3A#8], [0x5C#8], [0x91#8], [0xE7#8], [0x10#8], [0x97#8]] := by decide +kernel

/-- Table 7.5: three sort sizes. -/
theorem test_sort_sizes : sortSize (roundUp 3107 16) = 3200 ∧ sortSize 8192 = 8256 ∧ sortSize 8224 = 8320 := by decide

/-- One tick leaves the queue as it was. -/
theorem test_idle_keeps_queue : State.reset.idle.pending = [] := by decide +kernel

/-- A number beyond the bound of every operand. -/
def big : Nat := 2 ^ 200

/-- A run of zero bytes of a length. -/
def z (n : Nat) : Bytes := List.replicate n 0

/-- One ill-formed command for each operand check of WellFormed.lean, part 1. -/
theorem test_wf_refuses_1 : (([
   .standbySupplyUp big,
   .dramTrainingDone false big,
   .laneClockGate big 0,
   .laneClockGate 0 big,
   .smithClockGate big,
   .ptpSync 0 false 0 big,
   .pcieSqDoorbell big 0,
   .cqHeadDoorbell big 0,
   .commandFetch big [],
   .contextFill big [],
   .capsuleArrival big [] false false,
   .spillRingFetch big,
   .nvmeofConnect big 0 0 0 false 0 false 0 0,
   .nvmeofConnect 0 big 0 0 false 0 false 0 0,
   .nvmeofConnect 0 0 big 0 false 0 false 0 0,
   .nvmeofConnect 0 0 0 big false 0 false 0 0,
   .nvmeofConnect 0 0 0 0 false big false 0 0,
   .nvmeofConnect 0 0 0 0 false 0 false big 0,
   .nvmeofConnect 0 0 0 0 false 0 false 0 big,
   .tcpIcreq big 0 false false 0,
   .tcpIcreq 0 big false false 0,
   .tcpIcreq 0 0 false false big,
   .h2cData big 0 0 0 [] false false false,
   .h2cData 0 big 0 0 [] false false false,
   .h2cData 0 0 big 0 [] false false false,
   .h2cTermReq big,
   .rdmaReadComplete big [],
   .cnpReceived big,
   .linkStateChange false big 0 0 0 false false,
   .linkStateChange false 0 big 0 0 false false,
   .linkStateChange false 0 0 big 0 false false] : List Instr).all fun i => !i.wf) = true := by decide +kernel

/-- One ill-formed command for each operand check of WellFormed.lean, part 2. -/
theorem test_wf_refuses_2 : (([
   .linkStateChange false 0 0 0 big false false,
   .functionLevelReset big 0,
   .functionLevelReset 0 big,
   .frontLinkLoss big,
   .controllerEnable big 0 0 0 0 0 0,
   .controllerEnable 0 big 0 0 0 0 0,
   .controllerEnable 0 0 big 0 0 0 0,
   .controllerEnable 0 0 0 big 0 0 0,
   .controllerEnable 0 0 0 0 big 0 0,
   .controllerEnable 0 0 0 0 0 big 0,
   .controllerEnable 0 0 0 0 0 0 big,
   .controllerDisable big,
   .numvfsWrite big 0,
   .numvfsWrite 0 big,
   .vfDisable big,
   .associationEnd big,
   .keepAliveExpiry big,
   .nvmeRead big [],
   .readDataSent big,
   .nvmeWrite big,
   .writeZeroes big,
   .deallocate big,
   .nvmeFlush big,
   .flushComplete big,
   .compare big [] [],
   .compareAndWrite big [] [] [],
   .verify big [],
   .createIoCq big 0 0 0 0 false false 0 0,
   .createIoCq 0 big 0 0 0 false false 0 0,
   .createIoCq 0 0 big 0 0 false false 0 0,
   .createIoCq 0 0 0 big 0 false false 0 0] : List Instr).all fun i => !i.wf) = true := by decide +kernel

/-- One ill-formed command for each operand check of WellFormed.lean, part 3. -/
theorem test_wf_refuses_3 : (([
   .createIoCq 0 0 0 0 big false false 0 0,
   .createIoCq 0 0 0 0 0 false false big 0,
   .createIoCq 0 0 0 0 0 false false 0 big,
   .createIoSq big 0 0 0 0 0 false,
   .createIoSq 0 big 0 0 0 0 false,
   .createIoSq 0 0 big 0 0 0 false,
   .createIoSq 0 0 0 big 0 0 false,
   .createIoSq 0 0 0 0 big 0 false,
   .createIoSq 0 0 0 0 0 big false,
   .deleteIoSq big 0,
   .deleteIoSq 0 big,
   .deleteIoCq big 0,
   .deleteIoCq 0 big,
   .nsCreate big ⟨0, 0, 0, false, 0, false, false, false, 0, 0⟩,
   .nsDelete big,
   .nsAttach big 0 0,
   .nsAttach 0 big 0,
   .nsAttach 0 0 big,
   .nsDetach big 0 0,
   .nsDetach 0 big 0,
   .nsDetach 0 0 big,
   .getLogPage big 0,
   .getLogPage 0 big,
   .keepAlive big,
   .setFeaturesArbitration big 0 0 0 0 false,
   .setFeaturesArbitration 0 big 0 0 0 false,
   .setFeaturesArbitration 0 0 big 0 0 false,
   .setFeaturesArbitration 0 0 0 big 0 false,
   .setFeaturesArbitration 0 0 0 0 big false,
   .reservationRegister big 0 0 0 0 false,
   .reservationAcquire big 0 0 0 0] : List Instr).all fun i => !i.wf) = true := by decide +kernel

/-- One ill-formed command for each operand check of WellFormed.lean, part 4. -/
theorem test_wf_refuses_4 : (([
   .reservationAcquire 0 0 big 0 0,
   .reservationRelease big 0 0 0,
   .reservationRelease 0 0 big 0,
   .reservationReport big,
   .unsupportedCommand big,
   .fwImageDownload big [] false,
   .fwCommitStage big false false,
   .fwCommitStageActivate big false false,
   .fwCommitActivateSlot big false false,
   .fwCommitActivateNow big false false,
   .updateCompare big,
   .tokenIssue big,
   .completionPost big,
   .msixCoalesceTimer big,
   .drainComplete big,
   .stkQcmdCloseChannel big,
   .stkQcmdRehome big,
   .chaseStamp big,
   .bellowsPoll big 0 false,
   .bellowsPoll 0 big false,
   .grainJobPlace 0 big 0 0 0,
   .grainJobPlace 0 0 big 0 0,
   .sortRepairDurable big,
   .prfOpen big,
   .prfCloseOpen big,
   .prfPendingOpen big,
   .prfRdataWrite big 0,
   .prfRdataWrite 0 big,
   .punchJobSubmit big (z 64) [] [] [] [],
   .punchJobSubmit 0 [] [] [] [] [],
   .punchJobEnd big [] []] : List Instr).all fun i => !i.wf) = true := by decide +kernel

/-- One ill-formed command for each operand check of WellFormed.lean, part 5. -/
theorem test_wf_refuses_5 : (([
   .punchResume big 0 [] [],
   .punchResume 0 big [] [],
   .punchParityError big,
   .mtxLookup big [],
   .mtxPlace big [],
   .mtxRef big [],
   .mtxUnpin big [],
   .mtxMove big [],
   .mtxFetchFp big [],
   .mtxIndexDelta big [],
   .mtxHandoff big [] false 0 [] [] [],
   .swageGrainCompress big (z 64) [],
   .swageGrainCompress 0 [] [],
   .swageGrainExpand big (z 64) [],
   .swageGrainExpand 0 [] [],
   .swageStreamCompress big (z 64) [],
   .swageStreamCompress 0 [] [],
   .swageStreamExpand big (z 64) [],
   .swageStreamExpand 0 [] [],
   .swageJobEnd big false false,
   .temperJobSubmit big (z 64) [] [],
   .temperJobSubmit 0 [] [] [],
   .temperJobEnd big false,
   .keyUnwrap big 0,
   .keyUnwrap 0 big,
   .nonceHwmDurable big,
   .keyInstallConfirm big,
   .keyDestroyZero big,
   .impositionJobSubmit [] [],
   .impositionJobEnd big false,
   .stripeCloseTimer big] : List Instr).all fun i => !i.wf) = true := by decide +kernel

/-- One ill-formed command for each operand check of WellFormed.lean, part 6. -/
theorem test_wf_refuses_6 : (([
   .stripeOpenDurable big 0,
   .stripeOpenDurable 0 big,
   .stripeChunksConfirmed big 0,
   .stripeChunksConfirmed 0 big,
   .memberMissing big,
   .mendWaitTimeout big,
   .sheetOpen big 0 [],
   .sheetOpen 0 big [],
   .descaleErase big,
   .gmpIdentify big 0 {},
   .gmpIdentify 0 big {},
   .gmpHello big 0 0 {},
   .gmpHello 0 big 0 {},
   .gmpHello 0 0 big {},
   .gmpHealth big 0 {},
   .gmpHealth 0 big {},
   .gmpOwner big 0 0 {},
   .gmpOwner 0 big 0 {},
   .gmpOwner 0 0 big {},
   .gmpRead 0 0 0 0 0 (.grain big) {},
   .gmpRead 0 0 0 0 0 (.page big) {},
   .gmpRead big 0 0 0 0 .plain {},
   .gmpRead 0 big 0 0 0 .plain {},
   .gmpRead 0 0 big 0 0 .plain {},
   .gmpRead 0 0 0 big 0 .plain {},
   .gmpRead 0 0 0 0 big .plain {},
   .gmpWrite big 0 0 0 [] {},
   .gmpWrite 0 big 0 0 [] {},
   .gmpWrite 0 0 big 0 [] {},
   .gmpWrite 0 0 0 big [] {},
   .gmpErase big 0 0 {}] : List Instr).all fun i => !i.wf) = true := by decide +kernel

/-- One ill-formed command for each operand check of WellFormed.lean, part 7. -/
theorem test_wf_refuses_7 : (([
   .gmpErase 0 big 0 {},
   .gmpErase 0 0 big {},
   .gmpClaim big 0 0 0 false {},
   .gmpClaim 0 big 0 0 false {},
   .gmpClaim 0 0 big 0 false {},
   .gmpFence big 0 false {},
   .gmpFence 0 big false {},
   .gmpSetAnchor big 0 0 0 0 none {},
   .gmpSetAnchor 0 big 0 0 0 none {},
   .gmpSetAnchor 0 0 big 0 0 none {},
   .gmpSetAnchor 0 0 0 big 0 none {},
   .gmpFwDownload big 0 0 [] {},
   .gmpFwDownload 0 big 0 [] {},
   .gmpFwDownload 0 0 big [] {},
   .gmpFwActivate big 0 {},
   .gmpFwActivate 0 big {},
   .gmpStaleTransfer big 0 0,
   .gmpStaleTransfer 0 0 big,
   .moduleLinkUp ⟨0, 0, 0, 0, 0, 0, 0, 0, true, 0⟩ big 0,
   .moduleLinkUp ⟨0, 0, 0, 0, 0, 0, 0, 0, true, 0⟩ 0 big,
   .moduleAdmitConfirm big 0,
   .moduleAdmitConfirm 0 big,
   .moduleAdmitTimeout big,
   .moduleRemoval big,
   .moduleFenceRetry big,
   .moduleFwTimeout big,
   .snapshotComplete big,
   .steOpenSession [],
   .replHello big [] [],
   .replHelloAck big [] [],
   .replKeys big []] : List Instr).all fun i => !i.wf) = true := by decide +kernel

/-- One ill-formed command for each operand check of WellFormed.lean, part 8. -/
theorem test_wf_refuses_8 : (([
   .replDeltaBegin big [],
   .replExtents big [],
   .replFpList big [],
   .replHave big [],
   .replGrains big [],
   .replSegmentEnd big [],
   .replSegmentAck big [],
   .replDeltaEnd big [],
   .replDeltaAck big [],
   .replWrite big [],
   .replWriteAck big [],
   .replSyncMark big [],
   .syncMarkTimer big,
   .replMendReq big [],
   .replMendData big [],
   .replClose big [],
   .replError big [],
   .syncTimeout big,
   .replConnectionLoss big,
   .anvFlitReceive false [],
   .anvStatus big 0 0 0 0 0 0 0,
   .anvStatus 0 big 0 0 0 0 0 0,
   .anvStatus 0 0 big 0 0 0 0 0,
   .anvStatus 0 0 0 big 0 0 0 0,
   .anvStatus 0 0 0 0 big 0 0 0,
   .anvStatus 0 0 0 0 0 big 0 0,
   .anvStatus 0 0 0 0 0 0 big 0,
   .anvStatus 0 0 0 0 0 0 0 big,
   .anvBindOffer [] false [],
   .anvBindXfer [],
   .anvBindProof []] : List Instr).all fun i => !i.wf) = true := by decide +kernel

/-- One ill-formed command for each operand check of WellFormed.lean, part 9. -/
theorem test_wf_refuses_9 : (([
   .anvMirrorData big [],
   .anvMirrorDesc big (z 64) 0,
   .anvMirrorDesc 0 [] 0,
   .anvMirrorDesc 0 (z 64) big,
   .anvMirrorAck big 0 0,
   .anvMirrorAck 0 big 0,
   .anvMirrorAck 0 0 big,
   .anvCommit big 0,
   .anvCommit 0 big,
   .anvRelease big 0,
   .anvRelease 0 big,
   .anvRing big 0 [],
   .anvRing 0 big [],
   .anvRingAck big 0,
   .anvRingAck 0 big,
   .anvFwdCmd big 0 0 [] none,
   .anvFwdCmd 0 big 0 [] none,
   .anvFwdCmd 0 0 big [] none,
   .anvDataReq big 0 0 0 0 [],
   .anvDataReq 0 big 0 0 0 [],
   .anvDataReq 0 0 0 0 big [],
   .anvData big 0 0 0 0 [],
   .anvData 0 big 0 0 0 [],
   .anvData 0 0 big 0 0 [],
   .anvData 0 0 0 0 big [],
   .anvReadData big 0 [],
   .anvReadData 0 big [],
   .anvResult big 0 0 0 0,
   .anvResult 0 big 0 0 0,
   .anvResult 0 0 big 0 0,
   .anvResult 0 0 0 0 big] : List Instr).all fun i => !i.wf) = true := by decide +kernel

/-- One ill-formed command for each operand check of WellFormed.lean, part 10. -/
theorem test_wf_refuses_10 : (([
   .anvCancel big 0,
   .anvCancel 0 big,
   .anvCredit big 0,
   .nsMoveStart big false,
   .anvMoveBegin big 0 false,
   .anvMoveBegin 0 big false,
   .boundarySend big,
   .anvMoveDone big,
   .moveHoldLong big,
   .anvClearance big false,
   .strikeStart 0 big 0 [],
   .strikeStart 0 0 big [],
   .strikeTongsSeen 0 big,
   .bellowsLoadResult big 0 false,
   .bellowsLoadResult 0 big false,
   .watchdogExpiry big,
   .handbackNs big,
   .channelError big 0 0 false [] 0 [],
   .channelError 0 big 0 false [] 0 [],
   .channelError 0 0 big false [] 0 [],
   .scrapEntryDurable big,
   .pldmGetSensor ⟨false, 0, 0, 0⟩ big 0,
   .pldmGetStateSensor ⟨false, 0, 0, 0⟩ big,
   .imageBlockArrival big 0 0 [] false,
   .imageBlockArrival 0 big 0 [] false,
   .imageBlockArrival 0 0 big [] false,
   .tftpImageWrite ⟨0, false⟩ big 0 [] false,
   .tftpImageWrite ⟨0, false⟩ 0 big [] false,
   .tftpCommitWrite ⟨0, false⟩ big 0 false false,
   .pldmRequestUpdate ⟨false, 0, 0, 0⟩ big false,
   .pldmActivateFirmware ⟨false, 0, 0, 0⟩ big false false] : List Instr).all fun i => !i.wf) = true := by decide +kernel

/-- One ill-formed command for each operand check of WellFormed.lean, part 11. -/
theorem test_wf_refuses_11 : (([
   .ohmustFrame big (z 22),
   .ohmustFrame 0 [],
   .ohmNop big,
   .ohmHello big 0,
   .ohmHello 0 big,
   .ohmChallenge big 0,
   .ohmChallenge 0 big,
   .ohmResponse big 0 0 0,
   .ohmResponse 0 big 0 0,
   .ohmResponse 0 0 big 0,
   .ohmResponse 0 0 0 big,
   .ohmLock big,
   .ohmHalt big 0,
   .ohmHalt 0 big,
   .ohmResume big 0,
   .ohmResume 0 big,
   .ohmStep big 0 0,
   .ohmStep 0 big 0,
   .ohmStep 0 0 big,
   .ohmBpSet big 0 0 0,
   .ohmBpSet 0 big 0 0,
   .ohmBpSet 0 0 big 0,
   .ohmBpSet 0 0 0 big,
   .ohmBpClear big 0 0,
   .ohmBpClear 0 big 0,
   .ohmBpClear 0 0 big,
   .breakpointHit big 0,
   .breakpointHit 0 big,
   .ohmReadMem big 0 0,
   .ohmReadMem 0 big 0,
   .ohmReadMem 0 0 big] : List Instr).all fun i => !i.wf) = true := by decide +kernel

/-- One ill-formed command for each operand check of WellFormed.lean, part 12. -/
theorem test_wf_refuses_12 : (([
   .ohmWriteMem big 0 0 0,
   .ohmWriteMem 0 big 0 0,
   .ohmWriteMem 0 0 big 0,
   .ohmWriteMem 0 0 0 big,
   .ohmReadReg big 0 0,
   .ohmReadReg 0 big 0,
   .ohmReadReg 0 0 big,
   .ohmWriteReg big 0 0 0,
   .ohmWriteReg 0 big 0 0,
   .ohmWriteReg 0 0 big 0,
   .ohmWriteReg 0 0 0 big,
   .ohmMailbox big 0 0,
   .ohmMailbox 0 big 0,
   .ohmMailbox 0 0 big,
   .hlmRevokeSlot big false,
   .blockInterruptClaim big 0,
   .blockInterruptClaim 0 big,
   .registerWrite big 0 0,
   .registerWrite 0 big 0,
   .registerWrite 0 0 big,
   .badAccess big 0 0 false,
   .badAccess 0 big 0 false,
   .badAccess 0 0 big false,
   .bar2HostWrite big] : List Instr).all fun i => !i.wf) = true := by decide +kernel

/-- Commands with every operand within its bounds, part 1. -/
theorem test_wf_admits_1 : (([
   .standbySupplyUp 0,
   .dramTrainingDone false 0,
   .laneClockGate 0 0,
   .smithClockGate 0,
   .ptpSync 0 false 0 0,
   .pcieSqDoorbell 0 0,
   .cqHeadDoorbell 0 0,
   .commandFetch 0 [],
   .contextFill 0 [],
   .capsuleArrival 0 [] false false,
   .spillRingFetch 0,
   .nvmeofConnect 0 0 0 0 false 0 false 0 0,
   .tcpIcreq 0 0 false false 0,
   .h2cData 0 0 0 0 [] false false false,
   .h2cTermReq 0,
   .rdmaReadComplete 0 [],
   .cnpReceived 0,
   .linkStateChange false 0 0 0 0 false false,
   .functionLevelReset 0 0,
   .frontLinkLoss 0,
   .controllerEnable 0 0 0 0 0 0 0,
   .controllerDisable 0,
   .numvfsWrite 0 0,
   .vfDisable 0,
   .associationEnd 0,
   .keepAliveExpiry 0,
   .nvmeRead 0 [],
   .readDataSent 0,
   .nvmeWrite 0,
   .writeZeroes 0,
   .deallocate 0,
   .nvmeFlush 0,
   .flushComplete 0,
   .compare 0 [] [],
   .compareAndWrite 0 [] [] []] : List Instr).all Instr.wf) = true := by decide +kernel

/-- Commands with every operand within its bounds, part 2. -/
theorem test_wf_admits_2 : (([
   .verify 0 [],
   .createIoCq 0 0 0 0 0 false false 0 0,
   .createIoSq 0 0 0 0 0 0 false,
   .deleteIoSq 0 0,
   .deleteIoCq 0 0,
   .nsCreate 0 ⟨0, 0, 0, false, 0, false, false, false, 0, 0⟩,
   .nsDelete 0,
   .nsAttach 0 0 0,
   .nsDetach 0 0 0,
   .getLogPage 0 0,
   .keepAlive 0,
   .setFeaturesArbitration 0 0 0 0 0 false,
   .reservationRegister 0 0 0 0 0 false,
   .reservationAcquire 0 0 0 0 0,
   .reservationRelease 0 0 0 0,
   .reservationReport 0,
   .unsupportedCommand 0,
   .fwImageDownload 0 [] false,
   .fwCommitStage 0 false false,
   .fwCommitStageActivate 0 false false,
   .fwCommitActivateSlot 0 false false,
   .fwCommitActivateNow 0 false false,
   .updateCompare 0,
   .tokenIssue 0,
   .completionPost 0,
   .msixCoalesceTimer 0,
   .drainComplete 0,
   .stkQcmdCloseChannel 0,
   .stkQcmdRehome 0,
   .chaseStamp 0,
   .bellowsPoll 0 0 false,
   .grainJobPlace 0 0 0 0 0,
   .sortRepairDurable 0,
   .prfOpen 0,
   .prfCloseOpen 0] : List Instr).all Instr.wf) = true := by decide +kernel

/-- Commands with every operand within its bounds, part 3. -/
theorem test_wf_admits_3 : (([
   .prfPendingOpen 0,
   .prfRdataWrite 0 0,
   .punchJobSubmit 0 (z 64) [] [] [] [],
   .punchJobEnd 0 [] [],
   .punchResume 0 0 [] [],
   .punchParityError 0,
   .mtxLookup 0 [],
   .mtxPlace 0 [],
   .mtxRef 0 [],
   .mtxUnpin 0 [],
   .mtxMove 0 [],
   .mtxFetchFp 0 [],
   .mtxIndexDelta 0 [],
   .mtxHandoff 0 [] false 0 [] [] [],
   .swageGrainCompress 0 (z 64) [],
   .swageGrainExpand 0 (z 64) [],
   .swageStreamCompress 0 (z 64) [],
   .swageStreamExpand 0 (z 64) [],
   .swageJobEnd 0 false false,
   .temperJobSubmit 0 (z 64) [] [],
   .temperJobEnd 0 false,
   .keyUnwrap 0 0,
   .nonceHwmDurable 0,
   .keyInstallConfirm 0,
   .keyDestroyZero 0,
   .impositionJobSubmit (z 64) [],
   .impositionJobEnd 0 false,
   .stripeCloseTimer 0,
   .stripeOpenDurable 0 0,
   .stripeChunksConfirmed 0 0,
   .memberMissing 0,
   .mendWaitTimeout 0,
   .sheetOpen 0 0 [],
   .descaleErase 0,
   .gmpIdentify 0 0 {}] : List Instr).all Instr.wf) = true := by decide +kernel

/-- Commands with every operand within its bounds, part 4. -/
theorem test_wf_admits_4 : (([
   .gmpHello 0 0 0 {},
   .gmpHealth 0 0 {},
   .gmpOwner 0 0 0 {},
   .gmpRead 0 0 0 0 0 .plain {},
   .gmpWrite 0 0 0 0 [] {},
   .gmpErase 0 0 0 {},
   .gmpClaim 0 0 0 0 false {},
   .gmpFence 0 0 false {},
   .gmpSetAnchor 0 0 0 0 0 none {},
   .gmpFwDownload 0 0 0 [] {},
   .gmpFwActivate 0 0 {},
   .gmpStaleTransfer 0 0 0,
   .moduleLinkUp ⟨0, 0, 0, 0, 0, 0, 0, 0, true, 0⟩ 0 0,
   .moduleAdmitConfirm 0 0,
   .moduleAdmitTimeout 0,
   .moduleRemoval 0,
   .moduleFenceRetry 0,
   .moduleFwTimeout 0,
   .snapshotComplete 0,
   .steOpenSession (z 128),
   .replHello 0 [] [],
   .replHelloAck 0 [] [],
   .replKeys 0 [],
   .replDeltaBegin 0 [],
   .replExtents 0 [],
   .replFpList 0 [],
   .replHave 0 [],
   .replGrains 0 [],
   .replSegmentEnd 0 [],
   .replSegmentAck 0 [],
   .replDeltaEnd 0 [],
   .replDeltaAck 0 [],
   .replWrite 0 [],
   .replWriteAck 0 [],
   .replSyncMark 0 []] : List Instr).all Instr.wf) = true := by decide +kernel

/-- Commands with every operand within its bounds, part 5. -/
theorem test_wf_admits_5 : (([
   .syncMarkTimer 0,
   .replMendReq 0 [],
   .replMendData 0 [],
   .replClose 0 [],
   .replError 0 [],
   .syncTimeout 0,
   .replConnectionLoss 0,
   .anvFlitReceive false (z 256),
   .anvStatus 0 0 0 0 0 0 0 0,
   .anvBindOffer (z 32) false [],
   .anvBindXfer (z 40),
   .anvBindProof (z 48),
   .anvMirrorData 0 [],
   .anvMirrorDesc 0 (z 64) 0,
   .anvMirrorAck 0 0 0,
   .anvCommit 0 0,
   .anvRelease 0 0,
   .anvRing 0 0 [],
   .anvRingAck 0 0,
   .anvFwdCmd 0 0 0 [] none,
   .anvDataReq 0 0 0 0 0 [],
   .anvData 0 0 0 0 0 [],
   .anvReadData 0 0 [],
   .anvResult 0 0 0 0 0,
   .anvCancel 0 0,
   .anvCredit 0 0,
   .nsMoveStart 0 false,
   .anvMoveBegin 0 0 false,
   .boundarySend 0,
   .anvMoveDone 0,
   .moveHoldLong 0,
   .anvClearance 0 false,
   .strikeStart 0 0 0 [],
   .strikeTongsSeen 0 0,
   .bellowsLoadResult 0 0 false] : List Instr).all Instr.wf) = true := by decide +kernel

/-- Commands with every operand within its bounds, part 6. -/
theorem test_wf_admits_6 : (([
   .watchdogExpiry 0,
   .handbackNs 0,
   .channelError 0 0 0 false [] 0 [],
   .scrapEntryDurable 0,
   .pldmGetSensor ⟨false, 0, 0, 0⟩ 0 0,
   .pldmGetStateSensor ⟨false, 0, 0, 0⟩ 0,
   .imageBlockArrival 0 0 0 [] false,
   .tftpImageWrite ⟨0, false⟩ 0 0 [] false,
   .tftpCommitWrite ⟨0, false⟩ 0 0 false false,
   .pldmRequestUpdate ⟨false, 0, 0, 0⟩ 0 false,
   .pldmActivateFirmware ⟨false, 0, 0, 0⟩ 0 false false,
   .ohmustFrame 0 (z 22),
   .ohmNop 0,
   .ohmHello 0 0,
   .ohmChallenge 0 0,
   .ohmResponse 0 0 0 0,
   .ohmLock 0,
   .ohmHalt 0 0,
   .ohmResume 0 0,
   .ohmStep 0 0 0,
   .ohmBpSet 0 0 0 0,
   .ohmBpClear 0 0 0,
   .breakpointHit 0 0,
   .ohmReadMem 0 0 0,
   .ohmWriteMem 0 0 0 0,
   .ohmReadReg 0 0 0,
   .ohmWriteReg 0 0 0 0,
   .ohmMailbox 0 0 0,
   .hlmRevokeSlot 0 false,
   .blockInterruptClaim 0 0,
   .registerWrite 0 0 0,
   .badAccess 0 0 0 false,
   .bar2HostWrite 0] : List Instr).all Instr.wf) = true := by decide +kernel

/-- A small forme for tests: one line of each of the kinds 0 to 4 in cluster 0, no namespace class. -/
def forme1 : Forme :=
  { version := 0x0100, id := 7, minAnvil := 0x0100, minGmp := 0x0100, minRepl := 0x0100, minOhm := 0x0100, minFw := 0x0100
    eth := [0, 0, 0, 0], front := [0, 0], mgmt := true, i3c := true, roots := [], smithClk := 0, stationClk := 0, fabricClk := 0, rate := 0
    filterGib := 1, fwGib := 1, repeatMib := 0, cacheGib := 0, spillGib := 1, tasks := 64, vfs := [0, 0], galleyGib := 1, flushMs := 100
    lines := [⟨0, 0, 3, 0, [⟨0, .punch, 0, 1⟩]⟩, ⟨1, 1, 4, 0, [⟨0, .swageC, 0, 1⟩, ⟨1, .temper, 0, 1⟩, ⟨2, .proof, 0, 1⟩, ⟨3, .imposition, 0, 1⟩]⟩,
      ⟨2, 2, 4, 0, [⟨0, .proof, 0, 2⟩, ⟨1, .temper, 0, 2⟩, ⟨2, .swageE, 0, 1⟩]⟩, ⟨3, 3, 4, 0, [⟨0, .proof, 0, 4⟩]⟩, ⟨4, 4, 4, 0, [⟨0, .imposition, 1, 1⟩]⟩]
    classes := [], head := 0, gapHold := false, bundles := 3, realms := 1, bankOk := true, deepOk := true, loadPct := 5, bankMin := 10
    retries := 3, perHour := 8, rebuildFloor := 10, lab := false, loadTest := false, strikeHours := 24, statics := [], pairBodies := [], ignored := false }

/-- A head in a mode, with its supplies up and a forme. -/
def headIn (m : Mode) : State := { fm := { mode := m, powerUp := .released, forme := some forme1 } }

/-- A head that has done a step of Forming. -/
def formed (n : Nat) : State := { fm := { mode := .forming, powerUp := .released, forme := some forme1, formStep := n } }

/-- The head with an owned namespace 1. -/
def owning (s : State) : State := { s with chs := { s.chs with ns := [(1, { state := .loc, volume := 1 })] } }

/-- A head that is ready to sleep. -/
def quiet : State :=
  owning { ((((headIn .paired).wr F.ANV_PAIR_PEER_MODE 4).wr F.ANV_BUNDLE_STATE0 2).wr F.ANV_BUNDLE_STATE1 2) with
    mtx := { half0 := { state := .loaded }, half1 := { state := .partner } } }

/-- A piece of one block. -/
def piece1 : Piece := { stamp := 1, nsid := 1, cls := 0, owner := 0, kind := .write, nlb := 1, slba := 0 }

/-- A head with one Live PCIe queue in context 0 and one command waiting in it. -/
def queueHead : State :=
  { headIn .paired with stk := { ctxs := [(0, { state := .live, hasSq := true, hasCq := true, sqSize := 3, cqSize := 3, sqTail := 1, cqHome := 0 })] } }

/-- A command of one block. -/
def cmd1 : HostCmd := { cid := 1, op := .flush, nsid := 1 }

/-- The same head with an NVMe/TCP connection 5 on context 0. -/
def tcpHead : State :=
  { queueHead with stk := { queueHead.stk with
      ctxs := [(0, { state := .live, transport := .tcp, hasSq := true, hasCq := true, sqSize := 3, cqSize := 3, cqHome := 0, xportRef := 5 })]
      conns := [(5, { live := true, ctx := 0, hdrDigest := true })] } }

/-- A head with an admin command of an opcode in slot 0, on the admin queue in context 0 of controller 1. -/
def adminHead (op : Opcode) : State :=
  { headIn .paired with stk := { slots := [(0, { ctx := 0, seq := 0, cmd := { cmd1 with op := op }, arrival := 0 })], ctrls := [(1, { enabled := true, attached := [1] })], ctxs := [(0, { state := .live, kind := .admin, cntlid := 1, hasSq := true, hasCq := true }), (1, { state := .live, cntlid := 1, hasCq := true, cqid := 1, cqHome := 1 }),
        (2, { state := .live, cntlid := 1, hasSq := true, hqid := 7, cqHome := 2 })] }, chs := { ns := [(1, { state := .loc, volume := 1 })] } }

/-- A head in a mode with Chase on, the namespace 1 Local, and one command of an opcode in slot 0. -/
def ioHead (m : Mode) (op : Opcode) (f : Task → Task) : State :=
  owning (State.wr { headIn m with stk := { slots := [(0, f { ctx := 0, seq := 0, cmd := { cid := 1, op := op, nsid := 1, ranges := [(0, 1)] }, arrival := 0 })] } } F.CHS_CTRL_ENABLE 1)

/-- The same command dispatched. -/
abbrev runHead (op : Opcode) : State := ioHead .paired op fun x => { x with state := .dispatched }

/-- A head with one piece of command 0, in its own galley and done locally. -/
def pieceHead (f : Piece → Piece) : State :=
  let s := ioHead .solo .write fun x => { x with state := .dispatched, pieces := [3] }
  { s.wr F.GLY_CTRL_ENABLE 1 with gly := { own := [(3, f { piece1 with task := some 0, dataIn := true, localDone := true })] } }

/-- A line of a kind with the given lanes. -/
def lineHead (kind : Nat) (lanes : List BoundLane) : State := { headIn .paired with fm := { mode := .paired, lines := [(2, { kind := kind, domain := 3, priority := 0, lanes := lanes, formeId := 7, draining := false })] } }

/-- A head that holds half 0 with one entry at index 1, and one deferred piece of work in it. -/
def mtxHead (g : Grain) (f : Half → Half) : State :=
  State.wr { headIn .paired with mtx := { half0 := f { state := .loaded, grains := [(1, g)], slots := 1000 } } } F.MTX_CTRL_ENABLE 1

/-- A head of sheet 1 with two members on modules 0 and 1 of width 4. -/
def sheetHead (f : Sheet → Sheet) (fl : List Flight) : State :=
  { headIn .solo with hth := { sheets := [(1, f { state := .closed, width := 4, plateLog2 := 24, members := [(0, 0), (1, 0)] })], flights := fl } }

/-- A head in a mode with Anvil on and its two bundles in the given states. -/
def linkHead (m : Mode) (b0 b1 : Nat) : State := ((((headIn m).wr F.ANV_CTRL_ENABLE 1).wr F.ANV_BUNDLE_STATE0 b0).wr F.ANV_BUNDLE_STATE1 b1)

theorem witness_TimeBaseAndSensors :
    (∃ s : State, s.pwr.state = .run ∧ s.clk.running = true ∧ s.clk.windows.length < 16) ∧
    (∃ off : Int, 1000000 < off) ∧
    (∃ (s : State) (off : Int), off ≤ 1000000 ∧ s.rd F.TIM_STATUS_QUALITY ≠ 0) ∧
    (∃ s : State, 2 ≤ s.rd F.TIM_STATUS_QUALITY ∧ s.clk.lastSync + 2000000000 ≤ s.now) ∧
    (∃ (s : State) (port : Nat), s.ptpTakes port = true ∧ s.timeSource true = 2) ∧
    (∃ (s : State) (q at0 : Nat) (r : EventRec), Tab.find s.flt.unacked q = some at0 ∧ Tab.find s.flt.log (q % 65536) = some r ∧ at0 + 1000000000 ≤ s.now) :=
  ⟨⟨{}, by decide +kernel⟩, ⟨1000001, by decide +kernel⟩, ⟨State.wr {} F.TIM_STATUS_QUALITY 3, 1000000, by decide +kernel⟩,
   ⟨(State.wr {} F.TIM_STATUS_QUALITY 2).wr F.TIM_NOW_NS 2000000000, by decide +kernel⟩, ⟨State.wr (headIn .paired) F.TIM_CTRL_SOURCE 2, 32, by decide +kernel⟩,
   ⟨(State.alarm {} .upd .fellBack).wr F.TIM_NOW_NS 1000000000, 1, 0, ⟨0, 0, 2, 0x03E, .fellBack, 0, 1, 0, 0, []⟩, rfl, rfl, by decide +kernel⟩⟩

/-- A Recovery head whose active image has security version 5 and signing slot 1. -/
def imaged : State :=
  { headIn .recovery with upd := { ptr0 := some { seq := 1, active := false, state := .confirmed, trials := 0, pendingSlot := false, hashActive := [], hashOther := [] }, slotA := { blocks := [(0, zeros 12 ++ [5#8] ++ zeros 51 ++ [1#8] ++ zeros 100)] } } }

theorem witness_HallmarkCommands :
    ((State.wr ({} : State) F.HLM_STATUS_ADMIT 1).rd F.HLM_STATUS_ADMIT = 1 ∧ ((State.wr ({} : State) F.HLM_STATUS_ADMIT 1).wr F.TIM_NOW_NS 600000000000).fm.hallmark.admitAt + 600000000000 ≤ ((State.wr ({} : State) F.HLM_STATUS_ADMIT 1).wr F.TIM_NOW_NS 600000000000).now) ∧
    (imaged.confirmedSvn = some 5 ∧ imaged.fm.hallmark.fuses.svnMin < 5 ∧ imaged.fm.mode = .recovery) ∧ (({} : State).confirmedSvn = none) ∧ (({} : State).admitted = []) ∧
    (({ gmp := { mods := [(0, { state := .admitted })] } } : State).admitted ≠ []) ∧ (2 < 4 ∧ imaged.imageSigner ≠ some 2) ∧ (1 < 4 ∧ imaged.imageSigner = some 1) := by
  and_intros <;> decide +kernel

theorem witness_OhmustUnlock :
    (∃ s : State, OhmOpen s 0 ∧ s.pwr.entry ≠ some .halt ∧ s.fm.ohm.waitUntil ≤ s.now) ∧
    (∃ (s : State) (req : Bytes), s.fm.mode ≠ .dark ∧ req.length = 22 ∧ leAt req 20 2 ≠ crc16 (req.take 20)) ∧
    (∃ req : Bytes, req.length = 22 ∧ leAt req 20 2 = crc16 (req.take 20) ∧ byteAt req 0 = 4 ∧ byteAt req 3 = 0) ∧
    (∃ (s : State) (req : Bytes), OhmOpen s 0 ∧ req.length = 22 ∧ leAt req 20 2 = crc16 (req.take 20) ∧ byteAt req 3 ≠ 0) ∧
    (∃ (s : State) (addr : Nat), OhmOpen s 0 ∧ addr < 4 ∧ s.now < s.fm.ohm.waitUntil) ∧
    (∃ (s : State) (level addr word : Nat) (n : Bytes), OhmOpen s 0 ∧ s.fm.ohm.nonce = some n ∧ addr < 12 ∧ (level = 1 ∨ level = 2) ∧ s.fm.ohm.sigLevel = level ∧
      12 ≤ (Tab.put s.fm.ohm.sig addr word).length ∧ s.rd F.DBG_CTRL_DISABLE = 1) ∧
    (∃ s : State, s.fm.ohm.lastFrame + 1800000000000 ≤ s.now) := by
  refine ⟨⟨{}, by decide +kernel⟩, ⟨{}, 1 :: zeros 21, by decide +kernel⟩, ⟨4 :: zeros 19 ++ leBytes (crc16 (4 :: zeros 19)) 2, by decide +kernel⟩,
    ⟨{}, [4, 1, 0, 9] ++ zeros 16 ++ leBytes (crc16 ([4, 1, 0, 9] ++ zeros 16)) 2, by decide +kernel⟩,
    ⟨{ fm := { ohm := { waitUntil := 1 } } }, 3, by decide +kernel⟩,
    ⟨State.wr { fm := { ohm := { nonce := some [], sigLevel := 1, sig := (List.range 11).map fun i => (i, 0) } } } F.DBG_CTRL_DISABLE 1, 1, 11, 0, [], by decide +kernel⟩,
    ⟨State.wr {} F.TIM_NOW_NS 1800000000000, by decide +kernel⟩⟩

/-- A head with Ohmust at level 2, pair 3 halted, in lab mode or not. -/
def ohmHead (m : Mode) (lab : Bool) : State :=
  let s := (((headIn m).wr F.DBG_STATUS_LEVEL 2).wr F.FOR_SMITH_HALTED 8)
  { s with fm := { s.fm with lab := lab, dramBytes := 4096, smith := { regs := [(3 * 2 ^ 64 + 7, 9#64)], bps := [(4 * 16 + 2, ⟨0, 0⟩)] } } }

theorem witness_OhmustControl :
    (OhmOpen (ohmHead .solo true) 2 ∧ 3 < 16 ∧ (ohmHead .solo true).labMode = true ∧ (ohmHead .solo true).fm.mode = .solo) ∧
    (OhmOpen (ohmHead .solo false) 2 ∧ (ohmHead .solo false).labMode = false ∧ (ohmHead .solo false).fm.mode ≠ .paired) ∧
    (let s : State := { ohmHead .paired false with pwr := { entry := some .halt }, stk := { linksDown := true } }; s.pwr.entry = some .halt ∧ s.handedOver = true) ∧
    (let s := ohmHead .halted true; OhmOpen s 2 ∧ s.labMode = true ∧ s.fm.safe = false ∧ s.fm.mode = .halted ∧ s.pairHalted 3 = true ∧ s.pairStopped 3 = true ∧ s.stopped = true ∧ 40 < 64) ∧
    ((ohmHead .solo false).stopped = false) ∧
    (let s := ohmHead .solo true; s.pairHalted 4 = false ∧ Tab.find s.fm.smith.bps (4 * 16 + 2) = some ⟨0, 0⟩) := by
  and_intros <;> decide +kernel

theorem witness_OhmustMemory :
    (let s := ohmHead .solo false; OhmOpen s 1 ∧ s.pwr.state = .run ∧ 0x10000000 ≤ 0x20000000 ∧ s.inDram 0x20000000 = false ∧ s.stopped = false ∧ s.fm.mode ≠ .recovery) ∧
    (let s := ohmHead .halted false; OhmOpen s 2 ∧ s.fm.mode = .halted ∧ s.inDram (dramBase + 8) = true ∧ s.pairStopped 3 = true ∧ Tab.find s.fm.smith.regs (3 * 2 ^ 64 + 7) = some 9#64) ∧
    (let s := ohmHead .recovery false; OhmOpen s 1 ∧ s.fm.mode = .recovery ∧ s.fm.ohm.mailbox = []) := by
  and_intros <;> decide +kernel

theorem witness_RegisterAccess :
    ((headIn .solo).fm.mode ≠ .dark ∧ (headIn .solo).pwr.state = .run ∧ 1 % 2 = 1) ∧
    ((headIn .solo).badKind 1 4 true = some 2 ∧ (headIn .solo).badKind 1 4 false = some 2 ∧ (∀ r, regOver 1 ≠ some (r, R.PRF_RDATA))) ∧
    (let s := (((headIn .solo).wr F.FOR_INT_ENABLE_EN 1).wr F.FOR_INT_STATUS_MODE_CHG 1); s.fm.smith.claims = [] ∧ s.blockPending 0 = true ∧ 1 ∈ domainPairs.getD (blockDomain 0) [] ∧ s.isOut Kind.smith 1 = false ∧ s.pairHalted 1 = false) := by
  refine ⟨by decide +kernel, ⟨by decide +kernel, by decide +kernel, fun r h => ?_⟩, by decide +kernel⟩
  have e : (regOver 1).map Prod.snd = some 0 := by decide +kernel
  rw [h] at e
  exact absurd (show R.PRF_RDATA = 0 from Option.some.inj e) (by decide +kernel)

theorem witness_PowerUpSequence :
    (∃ s : State, s.fm.powerUp = .unpowered) ∧ (∃ s : State, s.fm.powerUp = .standby) ∧
    (∃ s : State, s.fm.powerUp = .mainOn ∧ s.fm.mode = .dark) ∧
    (∃ s : State, s.fm.powerUp = .mainOn ∧ s.fm.mode = .forming ∧ s.upd.recoverNext = false ∧ s.upd.ptr0 = none ∧ s.upd.ptr1 = none) ∧
    (∃ s : State, s.fm.powerUp = .heldByWarn ∧ s.fm.mode = .forming) ∧ (∃ s : State, s.fm.powerUp = .wakeOnly) ∧
    (∃ s : State, s.fm.powerUp = .released ∧ s.fm.mode = .banked ∧ s.pwr.state = .sleep) :=
  ⟨⟨{ fm := { powerUp := .unpowered } }, rfl⟩, ⟨{ fm := { powerUp := .standby } }, rfl⟩, ⟨{ fm := { powerUp := .mainOn, mode := .dark } }, rfl, rfl⟩,
   ⟨{ fm := { powerUp := .mainOn, mode := .forming } }, rfl, rfl, rfl, rfl, rfl⟩, ⟨{ fm := { powerUp := .heldByWarn, mode := .forming } }, rfl, rfl⟩,
   ⟨{ fm := { powerUp := .wakeOnly } }, rfl⟩, ⟨{ fm := { powerUp := .released, mode := .banked }, pwr := { state := .sleep } }, rfl, rfl, rfl⟩⟩

theorem witness_Resets :
    (∃ s : State, s.awake = true ∧ s.upd.recoverNext = false ∧ s.gly.dump = none ∧ s.upd.ptr0 = none ∧ s.upd.ptr1 = none) ∧
    (∃ (s : State) (d : Dump), s.gly.dump = some d) :=
  ⟨⟨{ fm := { powerUp := .released, mode := .paired } }, by decide +kernel⟩, ⟨{ gly := { dump := some ⟨false, false, 1, [], 0, 0, false⟩ } }, _, rfl⟩⟩

theorem witness_FormingAndReForming :
    ((∀ n, n ≤ 11 → (formed n).formingAt n = true) ∧
    (∀ n, (formed n).fm.forme = some forme1 ∧ (formed n).onTrial = false ∧ (formed n).fm.pins.fenceIn = false) ∧
    forme1.regionBytes + forme1.cacheGib * 2 ^ 30 ≤ 2 ^ 33 ∧ 0 < forme1.regionBytes + forme1.cacheGib * 2 ^ 30 ∧
    (∃ f : Forme, 3 ≤ f.rate ∧ f.linesOk = false) ∧
    forme1.linesOk = true ∧ (formed 6).flt.vaultA = some [] ∧ (formed 6).flt.vaultB = some [] ∧ (formed 6).flt.atSeal = [] ∧ (formed 6).flt.out = [] ∧
    (∃ ls, (formed 6).bindLines forme1 forme1.lines [] = some (ls, [])) ∧ forme1.bundles = 3 ∧ forme1.classes = []) ∧
    (∃ s : State, s.fm.forme = some forme1 ∧ s.fm.mode = .paired ∧ s.fm.reform = none ∧ s.stepWaits = false) ∧
    (∃ (s : State) (r : ReForm), s.fm.forme = some forme1 ∧ s.fm.mode = .paired ∧ s.fm.reform = some r ∧ r.groups = [[0]] ∧ r.suspended = false ∧
      s.inGuard = false ∧ s.upd.formeOnly = false ∧ ∀ id ∈ [0], s.lineBusy id = false) := by
  refine ⟨⟨by decide +kernel, fun n => ⟨rfl, rfl, rfl⟩, by decide +kernel, by decide +kernel, ⟨{ forme1 with rate := 3, lines := [] }, by decide +kernel⟩,
    by decide +kernel, rfl, rfl, rfl, rfl, ⟨_, rfl⟩, rfl, rfl⟩,
   ⟨⟨headIn .paired, rfl, rfl, rfl, by decide +kernel⟩,
   ⟨{ fm := { mode := .paired, forme := some forme1, reform := some ⟨forme1, [], [[0]], false⟩ } }, _, rfl, rfl, rfl, rfl, rfl, by decide +kernel⟩⟩⟩

theorem witness_SupplyAndGuard :
    (∃ s : State, s.awake = true ∧ s.pwr.state = .run ∧ s.fm.mode ≠ .deepBanked ∧ s.gly.dump = none ∧ s.gly.supply = none) ∧
    (∃ (s : State) (e : SupplyEvent), s.gly.supply = some e ∧ e.guard = false ∧ s.now = e.t0 + 200000) ∧
    (∃ (s : State) (e : SupplyEvent), s.gly.supply = some e ∧ e.guard = true ∧ e.window = none ∧ s.now < e.commitAt) ∧
    (∃ (s : State) (e : SupplyEvent), s.gly.supply = some e ∧ e.window = some 0 ∧ s.now < e.commitAt ∧ 0 + 10000000 ≤ s.now ∧ s.stk.held = [] ∧ s.ste.guarded = []) ∧
    (∃ (s : State) (e : SupplyEvent), s.gly.supply = some e ∧ e.window = some 0 ∧ e.commitAt ≤ s.now) ∧
    (∃ (s : State) (e : SupplyEvent), s.gly.supply = some e ∧ e.guard = true ∧ e.window = none ∧ e.commitAt = s.now) :=
  ⟨⟨headIn .paired, by decide +kernel⟩,
   ⟨State.wr { gly := { supply := some { t0 := 0 } } } F.TIM_NOW_NS 200000, _, rfl, by decide +kernel⟩,
   ⟨{ gly := { supply := some { t0 := 0, guard := true } } }, _, rfl, by decide +kernel⟩,
   ⟨State.wr { gly := { supply := some { t0 := 0, guard := true, window := some 0 } } } F.TIM_NOW_NS 10000000, _, rfl, by decide +kernel⟩,
   ⟨State.wr { gly := { supply := some { t0 := 0, guard := true, window := some 0 } } } F.TIM_NOW_NS 50200000, _, rfl, by decide +kernel⟩,
   ⟨State.wr { gly := { supply := some { t0 := 0, guard := true } } } F.TIM_NOW_NS 50200000, _, rfl, by decide +kernel⟩⟩

/-- A head in guard at the time of commitment, with two dump sets. -/
def atCommit (a b : DumpSet) : State :=
  { (headIn .paired).wr F.TIM_NOW_NS 60000000 with gly := { supply := some { t0 := 0, guard := true }, setA := a, setB := b } }

theorem witness_DumpPhases :
    (∀ x ∈ [(({} : DumpSet), ({} : DumpSet)), ({ released := false }, {}), ({ released := false }, { released := false }), ({ released := false, sealed := true, seq := 2 }, { released := false, sealed := true, seq := 1 })],
      let s := atCommit x.1 x.2; (∃ e, s.gly.supply = some e ∧ e.guard = true ∧ e.window = none ∧ e.commitAt ≤ s.now) ∧ s.dumpSkips = false) ∧
    (∃ (s : State) (d : Dump), s.gly.dump = some d ∧ d.skipped = false ∧ d.phase = 1) ∧
    (∃ (s : State) (d : Dump), s.gly.dump = some d ∧ d.skipped = false ∧ d.phase = 2 ∧ d.left = []) ∧
    (∃ (s : State) (d : Dump), s.gly.dump = some d ∧ d.skipped = false ∧ d.phase = 3 ∧ d.left = [1]) ∧
    (∃ (s : State) (d : Dump), s.gly.dump = some d ∧ d.phase = 4 ∧ d.skipped = false ∧ d.thermal = false) ∧
    (∃ (s : State) (d : Dump), s.gly.dump = some d ∧ d.phase = 4 ∧ d.skipped = true ∧ d.thermal = false ∧ s.upd.ptr0 = none ∧ s.upd.ptr1 = none ∧ s.upd.recoverNext = false) :=
  ⟨fun x h => by
     simp only [List.mem_cons, List.not_mem_nil, or_false] at h
     rcases h with rfl | rfl | rfl | rfl <;> exact ⟨⟨_, rfl, by decide +kernel⟩, by decide +kernel⟩,
   ⟨{ gly := { dump := some ⟨false, false, 1, [], 0, 0, false⟩ } }, _, rfl, rfl, rfl⟩,
   ⟨{ gly := { dump := some ⟨false, false, 2, [], 0, 0, false⟩ } }, _, rfl, rfl, rfl, rfl⟩,
   ⟨{ gly := { dump := some ⟨false, false, 3, [1], 0, 0, false⟩ } }, _, rfl, rfl, rfl, rfl⟩,
   ⟨{ gly := { dump := some ⟨false, false, 4, [], 0, 0, false⟩ } }, _, rfl, rfl, rfl, rfl⟩,
   ⟨{ gly := { dump := some ⟨false, true, 4, [], 0, 0, false⟩ } }, _, rfl, rfl, rfl, rfl, rfl, rfl, rfl⟩⟩

theorem witness_ThermalResponse :
    (∃ (s : State) (h : Int), s.awake = true ∧ s.tmax - 5 = hottest h 0 0) ∧ (∃ (s : State) (h : Int), s.awake = true ∧ s.tmax = hottest h 0 0) ∧
    (∃ (s : State) (h : Int), s.awake = true ∧ hottest h 0 0 = s.tmax - 2) ∧
    (∃ (s : State) (h : Int), s.awake = true ∧ s.tmax + 5 = hottest h 0 0 ∧ s.fm.mode = .paired ∧ s.pwr.entry = none ∧ s.owned ≠ []) ∧
    (∃ (s : State) (h : Int), s.awake = true ∧ s.tmax + 10 = hottest h 0 0 ∧ s.gly.dump = none) ∧
    (∃ (s : State) (h : Int) (d : Dump), s.awake = true ∧ s.tmax + 15 = hottest h 0 0 ∧ s.gly.dump = some d ∧ d.thermal = true) :=
  ⟨⟨quiet, 95, by decide +kernel⟩, ⟨quiet, 100, by decide +kernel⟩, ⟨quiet, 98, by decide +kernel⟩, ⟨quiet, 105, by decide +kernel⟩, ⟨quiet, 110, by decide +kernel⟩,
   ⟨{ quiet with gly := { dump := some ⟨false, false, 1, [], 0, 0, true⟩ } }, 115, ⟨false, false, 1, [], 0, 0, true⟩, by decide +kernel⟩⟩

theorem witness_BankingAndWaking :
    (∃ s : State, s.pwr.entry = none ∧ ({ s with pwr := { s.pwr with peerQuiet := true } } : State).bankable true = true ∧
      ({ s with pwr := { s.pwr with peerQuiet := true } } : State).bankable false = true ∧ s.owned ≠ [] ∧ s.serving = true) ∧
    (∃ s : State, s.fm.forme = some forme1 ∧ forme1.bankMin ≠ 0 ∧ s.pwr.timerFrom + forme1.bankMin * 60000000000 ≤ s.now ∧ s.pwr.lowLoad = true ∧ s.pwr.entry = none ∧
      ({ s with pwr := { s.pwr with timerFrom := s.now, lowLoad := true, peerQuiet := true } } : State).bankable true = true ∧ s.owned ≠ []) ∧
    (∃ s : State, s.pwr.entry = some .sleep ∧ s.handedOver = true ∧ s.bankBroken = false) ∧ (∃ s : State, s.pwr.entry = some .off ∧ s.handedOver = true) ∧
    (∃ s : State, s.pwr.anaAt = some 0 ∧ 0 + 100000000 ≤ s.now ∧ s.bankBroken = false ∧ s.stk.linksDown = false ∧ s.pwr.entry ≠ some .activation) ∧
    (∃ s : State, s.pwr.timerHit = true ∧ s.pwr.state = .sleep) ∧
    (∃ (s : State) (p : Piece), (true, 0) ∈ s.gly.wakeDue ∧ Tab.find s.gly.mirror 0 = some p ∧ p.dataIn = true ∧ crc64 p.data ≠ p.digest ∧ s.anv.lost = false ∧ crc64 [1] = p.digest) ∧
    (∃ (s : State) (p : Piece), (false, 0) ∈ s.gly.wakeDue ∧ Tab.find s.gly.own 0 = some p ∧ p.dataIn = true ∧ crc64 p.data ≠ p.digest ∧ s.anv.lost = true) ∧
    (∃ s : State, s.rd F.ANV_PAIR_PEER_MODE = 9) :=
  ⟨⟨quiet, by decide +kernel⟩, ⟨quiet.wr F.TIM_NOW_NS 600000000000, by decide +kernel⟩,
   ⟨{ quiet with chs := {}, pwr := { entry := some .sleep }, stk := { linksDown := true } }, by decide +kernel⟩,
   ⟨{ quiet with chs := {}, pwr := { entry := some .off }, stk := { linksDown := true } }, by decide +kernel⟩,
   ⟨State.wr { pwr := { anaAt := some 0 } } F.TIM_NOW_NS 100000000, by decide +kernel⟩, ⟨{ pwr := { timerHit := true, state := .sleep } }, rfl, rfl⟩,
   ⟨{ gly := { mirror := [(0, { piece1 with dataIn := true, digest := crc64 [1] })], wakeDue := [(true, 0)] } }, _, by decide +kernel, rfl, by decide +kernel⟩,
   ⟨{ gly := { own := [(0, { piece1 with dataIn := true, digest := crc64 [1] })], wakeDue := [(false, 0)] }, anv := { lost := true } }, _, by decide +kernel, rfl, by decide +kernel⟩,
   ⟨State.wr {} F.ANV_PAIR_PEER_MODE 9, by decide +kernel⟩⟩

theorem witness_DoorbellsAndFetch :
    ((queueHead.ctx 0).transport = .pcie ∧ (queueHead.ctx 0).hasSq = true ∧ (queueHead.ctx 0).state = .live ∧ 3 ≤ (queueHead.ctx 0).sqSize ∧ (queueHead.ctx 0).hasCq = true ∧
      (queueHead.ctx 0).cqHome = 0 ∧ 3 ≤ (queueHead.ctx 0).cqSize) ∧
    (fetchUnit [cmd1] = true ∧ 1 ≤ queueHead.queued 0 ∧ queueHead.mayFetch 0 1 = true ∧ queueHead.arbAllows 0 = true ∧ queueHead.freeSlot = some 0) ∧
    (∃ s1, queueHead.touch 0 = some s1) ∧ ctxCrcOk [] = false ∧ ctxCrcOk (({} : State).ctxEntry 0) = true ∧
    ({ stk := { cache := (List.range 16).map fun i => 512 * i + 513, slots := (List.range 16).map fun i => (i, { ctx := 512 * i + 513, seq := 0, cmd := { cmd1 with op := .write }, arrival := 0 }) } } : State).touch 1 = none :=
  ⟨by decide +kernel, by decide +kernel, ⟨_, rfl⟩, by decide +kernel⟩

theorem witness_Connections :
    (∃ s : State, (s.conn 5).live = true ∧ (s.conn 5).transport = .tcp ∧ s.on F.STK_CTRL_ENABLE = true ∧ cntlidOk s.head 1 = true ∧ keepAliveOk 1000 = true ∧ s.emptyCtx = some 0 ∧ s.spillUsed + (0 + 1) * 64 ≤ s.spillPool ∧
      (s.conn 6).live = false ∧ Tab.count s.stk.conns (fun _ c => c.live && c.transport == .roce) < 32768 ∧ s.lportUp 3 = true) ∧
    (∃ s : State, (s.conn 5).live = true ∧ (s.conn 5).transport = .tcp ∧ s.on F.STK_CTRL_ENABLE = true ∧ cntlidOk s.head 0x7FEF = true ∧ s.emptyCtx = some 0 ∧ s.spillPool < s.spillUsed + (0 + 1) * 64) ∧
    (∃ s : State, (s.conn 5).live = false ∧ s.lportUp 0 = true ∧ Tab.count s.stk.conns (fun _ c => c.live && c.transport == .tcp) < 32768) ∧
    ((tcpHead.conn 5).live = true ∧ (tcpHead.conn 5).hdrDigest = true ∧ fetchUnit [cmd1] = true ∧ cmd1.inCapsule = false ∧ Tab.get [] tcpHead.stk.spill (tcpHead.conn 5).ctx = [] ∧
      tcpHead.mayFetch 0 1 = true ∧ tcpHead.freeSlot = some 0 ∧ ∃ s1, tcpHead.touch 0 = some s1) ∧
    (∃ s : State, (s.conn 5).live = true ∧ (s.ctx (s.conn 5).ctx).state = .live ∧ s.mayFetch (s.conn 5).ctx 1 = false ∧ s.spillUsed + 4096 * spillPages cmd1.capData.length ≤ s.spillPool) ∧
    (∃ s : State, Tab.get [] s.stk.spill 0 = [⟨cmd1, true⟩] ∧ cmd1.capData = [] ∧ s.mayFetch 0 1 = true ∧ s.arbAllows 0 = true ∧ s.freeSlot = some 0 ∧ ∃ s1, s.touch 0 = some s1) ∧
    (∃ (s : State) (x : Task), (s.conn 5).live = true ∧ (s.conn 5).transport = .tcp ∧ s.portServes (s.conn 5).ctx true = true ∧ (s.ctx x.ctx).transport = .tcp ∧ (Tab.get {} s.stk.tokens 7).slot = some 0 ∧ (Tab.get {} s.stk.tokens 7).conn = 5 ∧ (Tab.get {} s.stk.tokens 7).cccid = 1 ∧
      (Tab.get {} s.stk.tokens 7).next = 0 ∧ s.task? 0 = some x ∧ 0 + [(1 : Byte)].length < x.need ∧ 0 + [(1 : Byte)].length ≤ (Tab.get {} s.stk.tokens 7).stop) ∧
    (∃ s : State, (s.conn 5).live = true ∧ (s.conn 5).transport = .tcp ∧ s.portServes (s.conn 5).ctx true = true ∧ (Tab.get {} s.stk.tokens 7).slot = none) ∧
    (∃ (s : State) (x : Task), s.task? 0 = some x ∧ x.state = .dispatched ∧ x.cmd.op = .write ∧ x.asked = none ∧ (s.ctx x.ctx).transport = .roce ∧ s.portServes x.ctx true = true ∧ [(1 : Byte)].length = x.need ∧
      piFail (s.volOf x.cmd.nsid) x.cmd.pi x.cmd.blocks [1] x.cmd.metaBuf = none) ∧
    (∃ s : State, (s.conn 5).live = true ∧ (s.conn 5).transport = .roce) :=
  ⟨⟨(State.wr { headIn .paired with stk := { conns := [(5, { live := true })] } } F.STK_CTRL_ENABLE 1 |>.wr F.STK_QCOUNT_SPARES 0).wr (F.PRT_ETH_LINK_UP 0) 8, by decide +kernel⟩,
   ⟨State.wr { fm := { forme := some { forme1 with spillGib := 0 } }, stk := { conns := [(5, { live := true })] } } F.STK_CTRL_ENABLE 1 |>.wr F.STK_QCOUNT_SPARES 0, by decide +kernel⟩,
   ⟨State.wr {} (F.PRT_ETH_LINK_UP 0) 1, by decide +kernel⟩, ⟨by decide +kernel, by decide +kernel, by decide +kernel, by decide +kernel, by decide +kernel, by decide +kernel, by decide +kernel, _, rfl⟩,
   ⟨{ tcpHead with fm := { forme := some { forme1 with spillGib := 1 } }, stk := { tcpHead.stk with ctxs := [(0, { state := .live })] } }, by decide +kernel⟩,
   ⟨{ tcpHead with stk := { tcpHead.stk with spill := [(0, [⟨cmd1, true⟩])] } }, by decide +kernel, by decide +kernel, by decide +kernel, by decide +kernel, by decide +kernel, _, rfl⟩,
   ⟨{ tcpHead with stk := { tcpHead.stk with tokens := [(7, { slot := some 0, conn := 5, cccid := 1, stop := 2 })], slots := [(0, { ctx := 0, seq := 0, cmd := cmd1, arrival := 0, need := 2 })] } }, { ctx := 0, seq := 0, cmd := cmd1, arrival := 0, need := 2 },
      by decide +kernel⟩,
   ⟨tcpHead, by decide +kernel⟩,
   ⟨{ stk := { ctxs := [(0, { transport := .roce })], slots := [(0, { ctx := 0, seq := 0, cmd := { cmd1 with op := .write }, arrival := 0, state := .dispatched, need := 1 })] } }, _, rfl, by decide +kernel⟩,
   ⟨{ stk := { conns := [(5, { live := true, transport := .roce })] } }, by decide +kernel⟩⟩

theorem witness_LinksAndResets :
    (frontLinkOk 6 16 = true ∧ ({} : State).stk.linksDown = false ∧ ({} : State).rd (F.PRT_FRONT_LINK_SPEED 1) ≠ 6) ∧
    (∃ s : State, splitLanes (s.rd (F.PRT_ETH_LINK_SPLIT 3)) = 1 ∧ 7 * 1 < 8 ∧ s.on (F.PRT_ETH_LINK_ENABLED 3) = true ∧ bitOf (s.rd (F.PRT_ETH_LINK_RETIRED 3)) 7 = false ∧ s.stk.linksDown = false ∧
      bitOf (s.rd (F.PRT_ETH_LINK_UP 3)) 7 = false) ∧
    (∃ s : State, bitOf (s.rd (F.PRT_ETH_LINK_UP 3)) 7 = true) ∧
    (∃ s : State, (s.ctrl 1).fabric = false ∧ (s.ctrl 1).port = 1 ∧ (s.ctrl 1).fn = 2 ∧ 0 < (s.ctrl 1).fn ∧ (s.ctrl 1).enabled = true ∧ ((s.fm.forme.map (·.vfs)).getD []).getD 1 0 < 1) ∧
    (∃ s : State, s.on F.STK_CTRL_ENABLE = true ∧ cntlidOk s.head 1 = true ∧ s.fnExists 0 0 = true ∧ (s.ctrl 1).enabled = false ∧ (s.ctrl 1).draining = false ∧ s.emptyCtx = some 0) ∧
    (∃ s : State, 5 ≤ ((s.fm.forme.map (·.vfs)).getD []).getD 1 0 ∧ 5 < (F.PRT_FRONT_LINK_NUMVF 1).span ∧ 1 ∉ s.stk.vfEnable ∧ s.rd (F.PRT_FRONT_LINK_NUMVF 1) = 0) ∧
    (∃ s : State, (s.ctrl 1).fabric = true ∧ (s.ctrl 1).enabled = true ∧ 0 < (s.ctrl 1).keepAliveMs ∧ (s.ctrl 1).keepAliveAt + (s.ctrl 1).keepAliveMs * 1000000 ≤ s.now) :=
  ⟨by decide +kernel, ⟨(State.wr {} (F.PRT_ETH_LINK_ENABLED 3) 1).wr (F.PRT_ETH_LINK_SPLIT 3) 3, by decide +kernel⟩, ⟨State.wr {} (F.PRT_ETH_LINK_UP 3) 128, by decide +kernel⟩,
   ⟨{ headIn .paired with stk := { ctrls := [(1, { enabled := true, port := 1, fn := 2 })] } }, by decide +kernel⟩,
   ⟨State.wr (headIn .paired) F.STK_CTRL_ENABLE 1 |>.wr F.STK_QCOUNT_SPARES 0, by decide +kernel⟩,
   ⟨{ fm := { forme := some { forme1 with vfs := [0, 5] } } }, by decide +kernel⟩,
   ⟨State.wr { stk := { ctrls := [(1, { enabled := true, fabric := true, keepAliveMs := 1 })] } } F.TIM_NOW_NS 1000000, by decide +kernel⟩⟩

theorem witness_QueueAdmin :
    (∀ op, op ≠ .other → (adminHead op).adminTask 0 op = some { ctx := 0, seq := 0, cmd := { cmd1 with op := op }, arrival := 0 }) ∧ isInbound 0 = false ∧
    ((adminHead .createCq).queueOf 1 2 true = none ∧ 2 ≤ queueLimit 0 ∧ 0 < vectorLimit 0 ∧ ((adminHead .createCq).wr F.STK_QCOUNT_SPARES 0).emptyCtx = some 3) ∧
    ((adminHead .createSq).queueOf 1 1 false = none ∧ (adminHead .createSq).queueOf 1 1 true = some 1 ∧ ((adminHead .createSq).ctx 1).state = .live ∧ ((adminHead .createSq).ctx 1).hasSq = false) ∧
    ((adminHead .createSq).queueOf 1 9 true = none) ∧
    ((adminHead .deleteSq).queueOf 1 7 false = some 2 ∧ ((adminHead .deleteSq).ctx 2).state = .live) ∧
    ((adminHead .deleteCq).queueOf 1 1 true = some 1 ∧ ∀ e ∈ (adminHead .deleteCq).stk.ctxs, e.2.hasSq = true → e.2.cqHome ≠ 1) ∧
    (∃ s : State, s.queueOf 1 1 true = some 1 ∧ ∃ e ∈ s.stk.ctxs, e.2.hasSq = true ∧ e.2.cqHome = 1) ∧
    (((adminHead .nsAttach).ns 1).state ≠ .unused ∧ (adminHead .nsDetach).nsHeldAt 1 1 = [] ∧ ({ adminHead .nsDetach with stk := { (adminHead .nsDetach).stk with slots := (adminHead .nsDetach).stk.slots ++ [(1, { ctx := 1, seq := 0, cmd := cmd1, arrival := 0 })] } } : State).nsHeldAt 1 1 ≠ []) ∧
    (∃ x, (adminHead .other).task? 0 = some x ∧ x.state = .fetched ∧ x.cmd.op ≠ .fusedCompare ∧ x.cmd.op ≠ .fusedWrite ∧ x.cmd.unsupported = some .invalidOpcode) :=
  ⟨fun op h => by cases op <;> first | rfl | exact absurd rfl h, rfl, by decide +kernel, by decide +kernel, by decide +kernel, by decide +kernel, by decide +kernel,
   ⟨{ stk := { ctxs := [(1, { state := .live, cntlid := 1, hasCq := true, cqid := 1, cqHome := 1, hasSq := true })] } }, by decide +kernel⟩, by decide +kernel, ⟨_, rfl, by decide +kernel⟩⟩

theorem witness_Reservations :
    (∀ op, ((adminHead op).ctrl ((adminHead op).ctx 0).cntlid).attached.contains 1 = true ∧ ((adminHead op).ns 1).state = .loc) ∧
    (∀ op, op ≠ .other → (adminHead op).adminTask 0 op = some { ctx := 0, seq := 0, cmd := { cmd1 with op := op }, arrival := 0 }) ∧
    (∃ r : Reservation, r.keyOf 1 = none) ∧ (∃ r : Reservation, r.keyOf 1 = some 5 ∧ r.holder = none) :=
  ⟨fun _ => ⟨rfl, rfl⟩, fun op h => by cases op <;> first | rfl | exact absurd rfl h, ⟨{}, rfl⟩, ⟨{ regs := [(1, 5)] }, rfl, rfl⟩⟩

theorem witness_PostingAndDrains :
    (∃ (s : State) (x : Task), s.task? 0 = some x ∧ x.state = .stamped ∧ x.complete = false ∧ x.token = none ∧ x.cmd.inCapsule = false ∧ (s.ctx x.ctx).transport = .tcp ∧ isInbound x.ctx = false ∧
      s.stk.freshTag < 65536) ∧
    (∃ (s : State) (x : Task), s.postable 0 = some (0, x) ∧ x.state = .done .success ∧ s.holdsPosts = false ∧ s.postsFirst 0 x = true ∧ x.discard = false ∧ completesHost Result.success.internalStatus = true) ∧
    (∃ s : State, (s.ctx 0).transport = .pcie ∧ (s.ctx 0).ien = true ∧ 0 < (s.ctx 0).unsignalled) ∧ (∃ s : State, (s.ctx 0).state = .draining ∧ s.slotsOf 0 = []) ∧
    (∃ s : State, isChannel 65472 = true ∧ (s.ctx 65472).state = .live) ∧ (∃ s : State, (s.ctx 1).state = .faulted ∧ s.spareCtx = some 0) :=
  ⟨⟨{ tcpHead with stk := { tcpHead.stk with slots := [(0, { ctx := 0, seq := 0, cmd := { cmd1 with op := .write }, arrival := 0, need := 1, state := .stamped })] } }, _, rfl, by decide +kernel⟩,
   ⟨{ tcpHead with stk := { tcpHead.stk with slots := [(0, { ctx := 0, seq := 0, cmd := cmd1, arrival := 0, state := .done .success })] } }, _, rfl, by decide +kernel⟩,
   ⟨{ stk := { ctxs := [(0, { ien := true, unsignalled := 1 })] } }, by decide +kernel⟩, ⟨{ stk := { ctxs := [(0, { state := .draining })] } }, by decide +kernel⟩,
   ⟨{ stk := { ctxs := [(65472, { state := .live })] } }, by decide +kernel⟩, ⟨State.wr { headIn .paired with stk := { ctxs := [(1, { state := .faulted })] } } F.STK_QCOUNT_SPARES 1, by decide +kernel⟩⟩

theorem witness_ChaseHandover :
    (let s := ioHead .paired .read id
      ∃ x, s.task? 0 = some x ∧ x.state = .fetched ∧ x.cmd.op.isStamped = true ∧ s.on F.CHS_CTRL_ENABLE = true ∧ s.on F.CHS_CTRL_STAMP_HOLD = false ∧ (s.ns x.cmd.nsid).state = .loc ∧
      x.cmd.unsupported = none ∧ s.earlierWaits 0 x = false ∧ x.cmd.nsid ≠ 0xFFFFFFFF ∧ s.resvExcludes x.cmd = false ∧ s.pastEnd x = false ∧ s.gly.supply = none ∧ s.sourceWaits 0 x = false ∧ s.locksFree (isInbound x.ctx) x.cmd.lockCount = true) ∧
    (let s : State := (State.modNs (ioHead .paired .read id) 1 fun e => { e with state := .remote }).modCtx 65472 fun c => { c with credits := 1 }
      ∃ x, s.task? 0 = some x ∧ x.state = .fetched ∧ x.fusedWith = none ∧ x.cmd.unsupported = none ∧ isInbound x.ctx = false ∧ s.earlierWaits 0 x = false ∧ x.cmd.nsid ≠ 0xFFFFFFFF ∧ (s.ns x.cmd.nsid).state = .remote ∧ (s.ctx (s.chanNow (fwdChannel x.ctx))).credits ≠ 0) ∧
    (let s := ioHead .solo .flush fun x => { x with cmd := { x.cmd with nsid := 0xFFFFFFFF } }
      ∃ x, s.task? 0 = some x ∧ x.cmd.nsid = 0xFFFFFFFF ∧ x.state = .fetched ∧ isInbound x.ctx = false ∧ x.cmd.unsupported = none ∧ s.on F.CHS_CTRL_ENABLE = true ∧ s.on F.CHS_CTRL_STAMP_HOLD = false ∧ s.earlierWaits 0 x = false ∧ s.sourceWaits 0 x = false ∧ s.fm.mode = .solo) ∧
    (∃ x, RunsHere (runHead .flush) 0 .flush x ∧ x.waitParts = 0 ∧ (runHead .flush).flushReady x.cmd.nsid x.stamp = true) ∧
    (let s : State := { (runHead .flush) with stk := { slots := [(0, { ctx := 0, seq := 0, cmd := { cmd1 with op := .flush }, arrival := 0, state := .dispatched, stamp := 5 }), (1, { ctx := 0, seq := 0, cmd := { cmd1 with op := .write }, arrival := 0, state := .dispatched, stamp := 4, counted := true })] } }
      ∃ x, s.running 0 .flush = some x ∧ s.flushReady x.cmd.nsid x.stamp = false) :=
  ⟨⟨_, rfl, by decide +kernel⟩, ⟨_, rfl, by decide +kernel⟩, ⟨_, rfl, by decide +kernel⟩, ⟨_, ⟨rfl, rfl⟩, by decide +kernel⟩, ⟨_, rfl, by decide +kernel⟩⟩

/-- A head that runs one command of an opcode on a block of namespace 1, its LBA listed as lost when `gone`, with the command's data. -/
def readHead (op : Opcode) (gone : Bool) (data : Bytes) : State :=
  { (ioHead .paired op fun x => { x with state := .dispatched, data := data }) with lost := if gone then [{ nsid := 1, slba := 0, nlb := 1, cause := 1, time := 0, stamp := 1, listed := true }] else [] }

/-- Its fused partner, in slot 1. -/
def half2 : Task := { ctx := 0, seq := 0, cmd := { cid := 1, op := .fusedWrite, nsid := 1, ranges := [(0, 1)] }, arrival := 0, state := .dispatched }

theorem witness_ReadsAndCompares :
    (∀ op ∈ [Opcode.read, .verify], ∃ x, RunsHere (readHead op true []) 0 op x ∧ x.sources = [] ∧
      firstFailure ((readHead op true []).readBlocks [] x.cmd.nsid x.stamp x.cmd.lbaList).1 = some 0x0403) ∧
    (∀ op ∈ [Opcode.read, .verify], ∃ x, RunsHere (readHead op false []) 0 op x ∧ x.sources = [] ∧
      let p := (readHead op false []).readBlocks [] x.cmd.nsid x.stamp x.cmd.lbaList
      firstFailure p.1 = none ∧ p.2.mending p.1 = [] ∧ p.2.portServes x.ctx false = true ∧ p.2.imp.waits = [] ∧ (p.2.blocksBytes x.cmd.nsid x.stamp p.1).1 = some [(zeros 512, [])]) ∧
    (let s := ioHead .paired .read fun x => { x with state := .dispatched, sources := [(0, .zero)] }
      ∃ x, RunsHere s 0 .read x ∧ x.sources ≠ []) ∧
    (∃ x, RunsHere (readHead .compare false [1#8]) 0 .compare x ∧ x.complete = true ∧
      (((readHead .compare false [1#8]).judge [] x (compareBlocks ((readHead .compare false [1#8]).volOf x.cmd.nsid) x)).1.map (·.2)) = some .compareFailure) ∧
    (∀ b : Bool, let s := (((readHead .fusedCompare false (if b then zeros 512 else [1#8])).modTask 0 fun x => { x with fusedWith := some 1 }).setTask 1 half2)
      ∃ x, RunsHere s 0 .fusedCompare x ∧ x.complete = true ∧ x.fusedWith = some 1 ∧ s.task? 1 = some half2 ∧ half2.complete = true ∧ half2.pieces = [] ∧ isInbound half2.ctx = false ∧
        half2.cmd.ranges = [(0, 1)] ∧
        let p := s.judge [] x (compareBlocks (s.volOf x.cmd.nsid) x)
        p.1.map (·.2) = some (if b then .success else .compareFailure) ∧ p.2.usedDescs.length < movedDesc ∧ p.2.freeDesc = some 0) :=
  ⟨fun op h => by
      simp only [List.mem_cons, List.not_mem_nil, or_false] at h
      rcases h with rfl | rfl <;> exact ⟨_, ⟨rfl, rfl⟩, by decide +kernel⟩,
   fun op h => by
      simp only [List.mem_cons, List.not_mem_nil, or_false] at h
      rcases h with rfl | rfl <;> exact ⟨_, ⟨rfl, rfl⟩, by decide +kernel⟩,
   ⟨_, ⟨rfl, rfl⟩, by decide +kernel⟩, ⟨_, ⟨rfl, rfl⟩, by decide +kernel⟩,
   fun b => by cases b <;> exact ⟨_, ⟨rfl, rfl⟩, by decide +kernel⟩⟩

theorem witness_WritesBecomePieces :
    (∀ op ∈ [Opcode.write, .writeZeroes, .deallocate], ∃ x, RunsHere (runHead op) 0 op x ∧ x.pieces = [] ∧ x.cmd.ranges = [(0, 1)] ∧
      0 % (runHead op).unitBlocks x.cmd.nsid + 1 ≤ (runHead op).unitBlocks x.cmd.nsid ∧ (runHead op).usedDescs.length < movedDesc ∧ (runHead op).freeDesc = some 0) ∧
    (let s := ioHead .paired .deallocate fun x => { x with cmd := { x.cmd with ranges := List.replicate 257 (0, 1) } }
      ∃ x, s.task? 0 = some x ∧ x.state = .fetched ∧ isInbound x.ctx = false ∧ 256 < x.cmd.ranges.length) ∧
    (let s := pieceHead id
      ∃ p x, s.pubHeld = false ∧ Tab.find s.gly.own 3 = some p ∧ p.repl = none ∧ p.task = some 0 ∧ s.task? 0 = some x ∧ x.state = .dispatched ∧ x.complete = true ∧ x.pieces = [3] ∧
        s.mayPublish [3] = true ∧ isInbound x.ctx = false ∧ x.fusedWith = none ∧ x.token = none ∧ s.ste.sessions = []) ∧
    (let s := pieceHead fun p => { p with applied := true, journalled := true }
      ∃ p, Tab.find s.gly.own 3 = some p ∧ p.applied = true ∧ p.journalled = true ∧ s.pieceOwed 3 = false ∧ s.isRepeated p = false ∧ s.mirrors = false) ∧
    (let s := (pieceHead id).wr F.GLY_CTRL_FORCE_UNPROT 1
      ∃ p, Tab.find s.gly.own 3 = some p ∧ p.dataIn = true ∧ s.ackWhere = .flash ∧ p.inLog = false ∧ p.commit = false) ∧
    (let s := (pieceHead fun p => { p with inLog := true }).wr F.GLY_CTRL_FORCE_UNPROT 1
      ∃ p, Tab.find s.gly.own 3 = some p ∧ p.dataIn = true ∧ s.ackWhere = .flash ∧ p.inLog = true) ∧
    (∃ s : State, s.gly.logPlates = [(0, 0), (1, 0)] ∧ (s.logWrite [1]).isSome = true) :=
  ⟨fun op h => by
      simp only [List.mem_cons, List.not_mem_nil, or_false] at h
      rcases h with rfl | rfl | rfl <;> exact ⟨_, ⟨rfl, rfl⟩, by decide +kernel⟩,
   ⟨_, rfl, by decide +kernel⟩, ⟨_, _, by decide +kernel, rfl, by decide +kernel, by decide +kernel, rfl, by decide +kernel⟩, ⟨_, rfl, by decide +kernel⟩, ⟨_, rfl, by decide +kernel⟩, ⟨_, rfl, by decide +kernel⟩, ⟨{ gly := { logPlates := [(0, 0), (1, 0)] }, gmp := { mods := [(0, { plateLog2 := 24 })] } }, rfl, by decide +kernel⟩⟩

/-- A head of a galley with one dispatched command that has all its data. -/
def galleyHead (op : Opcode) (f : Piece → Piece) : State :=
  let s := ioHead .solo op fun x => { x with state := .dispatched, data := zeros 512, need := 512, pieces := [3] }
  { s.wr F.GLY_CTRL_ENABLE 1 with gly := { own := [(3, f { piece1 with task := some 0 })] } }

theorem witness_PiecesLandAndApply :
    (let s := galleyHead .writeZeroes fun p => { p with kind := .zeroes }
      ∃ p x, Tab.find s.gly.own 3 = some p ∧ p.dataIn = false ∧ p.repl = none ∧ p.task = some 0 ∧ s.task? 0 = some x ∧ p.kind = .zeroes ∧ s.mirrors = false ∧ s.gly.repeats = []) ∧
    (let s := galleyHead .write fun p => { p with slotCnt := 1 }
      ∃ p x, Tab.find s.gly.own 3 = some p ∧ p.dataIn = false ∧ p.repl = none ∧ p.task = some 0 ∧ s.task? 0 = some x ∧ p.kind = .write ∧ p.slotCnt ≠ 0 ∧ x.complete = true ∧ x.cmd.ranges = [(0, 1)] ∧
        s.gly.waiting = [] ∧ firstFit s.slotCap p.slotCnt 0 s.runs = some 0 ∧ s.mirrors = false ∧
        (let r : State := { s with fm := { s.fm with forme := none } }; firstFit r.slotCap p.slotCnt 0 r.runs = none) ∧
        (let r : State := { s with gly := { s.gly with waiting := [3] } }; r.gly.waiting = 3 :: [] ∧ Tab.find r.gly.own 3 = some p ∧ firstFit r.slotCap p.slotCnt 0 r.runs = some 0)) ∧
    (let s := galleyHead .write fun p => { p with kind := .deallocate, commit := true, dataIn := true, isForeign := true, zeroGrains := [0], digest := crc64 [] }
      ∃ p, Tab.find s.gly.own 3 = some p ∧ p.commit = true ∧ p.dataIn = true ∧ p.applied = false ∧ p.applying = false ∧ p.isForeign = true ∧ p.kind = .deallocate ∧ p.zeroGrains = p.allGrains ∧ p.allGrains ≠ [] ∧
        p.verify = [] ∧ p.listFp = [] ∧ p.digestOk = true ∧ s.hth.journal.waiting = [] ∧ s.journalFull = false ∧ s.mayApply 3 p = true ∧ s.copiedPages p = []) ∧
    (let s := galleyHead .write fun p => { p with commit := true, dataIn := true }
      let r : State := { s with gly := { s.gly with own := s.gly.own ++ [(4, { piece1 with stamp := 2 })] } }
      r.mayApply 4 { piece1 with stamp := 2 } = false) ∧
    (∀ m ∈ [Mode.paired, .solo], let s := { (galleyHead .write fun p => { p with dataIn := true, data := [1#8], digest := crc64 [2#8] }) with fm := { mode := m } }
      ∃ p, Tab.find s.gly.own 3 = some p ∧ p.dataIn = true ∧ s.changesMap 3 p = false ∧ crc64 p.data ≠ p.digest ∧ p.grains = [] ∧ p.kind = .write ∧ s.fm.mode = m ∧ crc64 [2#8] = p.digest) :=
  ⟨⟨_, _, rfl, by decide +kernel, by decide +kernel, rfl, rfl, by decide +kernel⟩, ⟨_, _, rfl, by decide +kernel, by decide +kernel, rfl, rfl, by decide +kernel⟩, ⟨_, rfl, by decide +kernel⟩, by decide +kernel,
   fun m h => by
      simp only [List.mem_cons, List.not_mem_nil, or_false] at h
      rcases h with rfl | rfl <;> exact ⟨_, rfl, by decide +kernel⟩⟩

/-- A Solo head in unprotected mode, with energy enough since time 0. -/
def calmHead : State :=
  { (((headIn .solo).wr F.TIM_NOW_NS 70000000000).wr F.GLY_BELLOWS_ENERGY 4000).wr F.GLY_BELLOWS_STALE 0 with gly := { unprot := some { own := true }, calmSince := some 0 } }

theorem witness_GalleyUpkeep :
    (let s := (headIn .paired).wr F.ANV_CTRL_ENABLE 1; s.on F.ANV_CTRL_ENABLE = true ∧ s.anv.lost = false) ∧
    (let s : State := { (headIn .paired).wr F.TIM_NOW_NS 4000000000 with gly := { peer := { seen := true } } }; s.gly.peer.seen = true ∧ s.gly.lastStatus + 3000000000 ≤ s.now) ∧
    (calmHead.galleyEval.gly.unprot = some { own := true } ∧ calmHead.galleyEval.gly.calmSince = some 0 ∧ 0 + 60000000000 ≤ calmHead.now ∧ calmHead.serving = true ∧ calmHead.on F.GLY_CTRL_FORCE_UNPROT = false) ∧
    (∀ n ∈ [0, 2], ∃ s : State, s.bellowsOn = true ∧ s.now < s.gly.lastAnswer + 3000000000 ∧ s.gly.pecFails = n ∧ s.on F.GLY_BELLOWS_STALE = false ∧ s.gly.loadCap = none) ∧
    (∃ s : State, s.bellowsOn = true ∧ s.gly.lastAnswer + 3000000000 ≤ s.now ∧ s.on F.GLY_BELLOWS_STALE = false) ∧
    (∀ b, ((headIn .solo).dumpSet b).released = true) ∧
    (let s : State := { headIn .solo with gly := { setA := { released := false, written := true }, restored := some false, ckptSince := true } };
      (s.dumpSet false).released = false ∧ (s.dumpSet false).written = true ∧ s.gly.restored = some false ∧ s.gly.unneeded = false ∧ s.restoredSafe false = true ∧ s.gly.ckptSince = true) ∧
    (let s : State := { headIn .solo with gly := { setA := { own := [(3, piece1)] }, own := [(3, piece1)], restored := some false } }; s.gly.restored = some false ∧ s.restoredSafe false = false) :=
  ⟨by decide +kernel, by decide +kernel, by decide +kernel, fun n h => by
      simp only [List.mem_cons, List.not_mem_nil, or_false] at h
      rcases h with rfl | rfl <;> exact ⟨State.wr { headIn .solo with gly := { pecFails := _ } } F.GLY_BELLOWS_STALE 0, by decide +kernel, by decide +kernel, rfl, by decide +kernel, rfl⟩,
   ⟨((headIn .solo).wr F.GLY_BELLOWS_STALE 0).wr F.TIM_NOW_NS 3000000000, by decide +kernel⟩, fun b => by cases b <;> rfl, by decide +kernel⟩

theorem witness_JobsAndProofUnits :
    (let s := lineHead 0 [{ stage := 0, typ := .punch, lane := 0 }]
      ∃ l, Tab.find s.prf.jobs 1 = none ∧ s.line 2 = some l ∧ l.kind ≠ 4 ∧ l.kind ≠ 6 ∧ l.draining = false ∧ s.leastLoaded (l.clusters (l.jobStages 0)) = some 0) ∧
    (let s := lineHead 0 []; ∃ l, s.line 2 = some l ∧ l.clusters (l.jobStages 0) = []) ∧
    (∀ r ∈ [[Station.temper], []], let s : State := { lineHead 2 [] with prf := { jobs := [(1, { line := 2, cluster := 0, left := Station.proof :: r, lane := some ⟨Kind.proof, 0⟩ })] } }
      ∃ j l, Tab.find s.prf.jobs 1 = some j ∧ s.line j.line = some l ∧ 2 ≤ l.kind ∧ j.lane = some ⟨Kind.proof, 0⟩ ∧ j.left = Station.proof :: r) ∧
    (let s : State := { headIn .paired with fm := { lines := [(2, { kind := 1, domain := 3, priority := 0, lanes := [], formeId := 7, draining := true })] } }; ∃ l, s.line 2 = some l ∧ l.draining = true ∧ l.kind ≠ 4 ∧ l.kind ≠ 6) ∧
    ((∃ c, checkOf (2 % 4) = some c) ∧ (headIn .paired).prf.regOpen = none ∧ (headIn .paired).prf.regPending = none ∧ (headIn .paired).isOut Kind.proof ((headIn .paired).rd F.PRF_UNIT_SEL_UNIT) = false ∧
      ((headIn .paired).proofUnit ((headIn .paired).rd F.PRF_UNIT_SEL_UNIT)).station = none) ∧
    (∃ (s : State) (x : Stream), (s.proofUnit (s.rd F.PRF_UNIT_SEL_UNIT)).station = some x ∧ s.prf.regOpen = none ∧ s.prf.regPending = none ∧ s.isOut Kind.proof (s.rd F.PRF_UNIT_SEL_UNIT) = false) ∧
    ((∃ (s : State) (r : RegStream), s.prf.regOpen = some r ∧ s.prf.regPending = none) ∧ (∃ (s : State) (r : RegStream), s.prf.regOpen = none ∧ s.prf.regPending = some r)) :=
  ⟨⟨_, by decide +kernel, rfl, by decide +kernel⟩, ⟨_, rfl, by decide +kernel⟩, fun r _ => ⟨_, _, rfl, rfl, by decide, rfl, rfl⟩, ⟨_, rfl, rfl, by decide⟩, ⟨⟨_, rfl⟩, by decide +kernel⟩,
   ⟨{ prf := { units := [(0, { station := some ⟨.crc64, .append⟩ })] } }, _, rfl, by decide +kernel⟩,
   ⟨⟨{ prf := { regOpen := some ⟨0, .crc64, []⟩ } }, _, rfl, rfl⟩, ⟨{ prf := { regPending := some ⟨0, .crc64, []⟩ } }, _, rfl, rfl⟩⟩⟩

/-- A Punch descriptor for line 2 with a class and no key: one whole message of 4 bytes. -/
def punchDesc (cls : Nat) : Bytes := leBytes (2 * 2 ^ 27 + cls * 2 ^ 20 + 2 ^ 19 + 2 ^ 18) 8 ++ zeros 8 ++ leBytes (4 * 2 ^ 32) 8 ++ zeros 40

/-- A head with one Punch core on line 2 that runs the given jobs. -/
def punchHead (running : Tab PunchJob) : State :=
  State.wr { lineHead 0 [{ stage := 0, typ := .punch, lane := 0 }] with pun := { running := running } } F.PUN_CTRL_ENABLE 1

/-- A job of that line with 32 KiB in its segment. -/
def punchLong : PunchJob := { punchJob (punchDesc 0) [] [] with segLen := 32768 }

theorem witness_PunchJobs :
    (State.punchInvalid {} 0 (zeros 64) (punchJob (zeros 64) [] []) = true) ∧
    (let j := punchJob (punchDesc 0) (zeros 4) []; let s := punchHead []
      s.punchInvalid 0 (punchDesc 0) j = false ∧ s.on F.PUN_CTRL_ENABLE = true ∧ s.pun.queued = [] ∧ s.pun.aside = [] ∧ s.punchReady 0 j = true ∧
        (s.freeCores 0 j.line).head? = some 0 ∧ (match s.punchBegin 0 0 j [] with | .ok h => h == hashStart 0 0 [] | .error _ => false) = true) ∧
    (let j := punchJob (punchDesc 2) (zeros 4) []; let s := punchHead [(0, punchLong)]
      s.punchInvalid 0 (punchDesc 2) j = false ∧ s.on F.PUN_CTRL_ENABLE = true ∧ s.pun.queued = [] ∧ s.pun.aside = [] ∧ j.isFirst = true ∧ j.keyed = 0 ∧ s.punchReady 0 j = true ∧ s.freeCores 0 j.line = [] ∧
        s.victim 0 j.line j.cls [] = some 0 ∧ Tab.find s.pun.running 0 = some punchLong ∧ punchLong.second = none ∧ s.laneOff Kind.punch 0 = false ∧ s.rsvHeld (0 / 6) < 32 ∧ s.slotFree (0 / 6) = some 0) ∧
    (∀ l : Bool, let s := punchHead [(0, { punchLong with isLast := l, st := some (hashStart 0 0 []) })]
      ∃ j, Tab.find s.pun.running 0 = some j ∧ j.st = some (hashStart j.alg j.keyed []) ∧ j.taken = 0 ∧ j.cmpOnly = false ∧ j.isLast = l ∧ j.isFirst = true ∧ j.second = none ∧ s.pun.queued = [] ∧
        s.slotFree (0 / 6) = some 0) ∧
    (let j : PunchJob := { punchLong with second := some 3 }; let v := saveSlot j 0 true (hashStart 0 0 [])
      let s : State := { punchHead [] with pun := { aside := [(0, j)], slots := [(3, v)] } }
      s.on F.PUN_CTRL_ENABLE = true ∧ s.asideNext 0 2 = some j ∧ (s.freeCores 0 2).head? = some 0 ∧ s.pun.queued = [] ∧ Tab.find s.pun.slots 3 = some v ∧ v.crc = v.crcOver) ∧
    (∃ j, Tab.find (punchHead [(0, { punchLong with second := some 3 })]).pun.running 0 = some j ∧ j.second ≠ none ∧ (punchHead []).isOut Kind.punch 0 = false) ∧
    (State.rd {} F.PUN_CORE_SEL_CORE < 48 ∧ State.isOut {} Kind.punch (State.rd {} F.PUN_CORE_SEL_CORE) = false) :=
  ⟨by decide +kernel, by decide +kernel, by decide +kernel, fun l => by cases l <;> exact ⟨_, rfl, rfl, by decide +kernel⟩, by decide +kernel, ⟨_, rfl, by decide⟩, by decide +kernel⟩

/-- A Swage descriptor for an operation on line 2: 4 bytes of input, much space. -/
def swageDesc (op : Nat) : Bytes := leBytes (2 * 2 ^ 27 + op * 2 ^ 24) 8 ++ zeros 8 ++ leBytes (4 * 2 ^ 32) 8 ++ zeros 8 ++ leBytes (2 ^ 48) 8 ++ zeros 24

/-- A head with one compress and one expand lane on line 2, in guard, with jobs that run. -/
def swageHead (running : Tab SwageJob) (dump : Option Dump) : State :=
  State.wr { lineHead 1 [{ stage := 0, typ := .swageC, lane := 0 }, { stage := 1, typ := .swageE, lane := 40 }] with
    swg := { running := running }, gly := { supply := some { t0 := 0, guard := true }, dump := dump } } F.SWG_CTRL_ENABLE 1

theorem witness_SwageJobs :
    ((swageJob (zeros 64) []).op = 0 ∧ State.swageInvalid {} 0 (zeros 64) (swageJob (zeros 64) []) = true) ∧
    (∀ op ∈ [0, 1, 2, 3], let j := swageJob (swageDesc op) (zeros 4); let s := swageHead [] none
      j.op = op ∧ s.swageInvalid 0 (swageDesc op) j = false ∧ s.swg.queued = [] ∧ s.ctxBusy (0, j) = false ∧ s.swageLane 0 j = some (if op % 2 = 0 then 0 else 40)) ∧
    (∀ op ∈ [0, 1], let s := swageHead [(0, swageJob (swageDesc op) (zeros 4))] none
      ∃ j, Tab.find s.swg.running 0 = some j ∧ j.op = op ∧ j.former = none ∧ s.dumping = false ∧ s.swg.queued = []) ∧
    (let j : SwageJob := { swageJob (swageDesc 1) (zeros 4) with expect := 7 }; let s : State := { swageHead [(40, j)] none with fm := (lineHead 2 []).fm }
      s.lineKind j.line = some 2 ∧ (swExpand j).1 = 0x0B03 ∧ j.op = 1 ∧ j.former = none ∧ s.dumping = false) ∧
    (let s := swageHead [(0, swageJob (swageDesc 0) (zeros 4))] (some { setB := false, skipped := false, phase := 1, left := [], atCommit := 0, committedAt := 0, thermal := false })
      ∃ j, Tab.find s.swg.running 0 = some j ∧ s.dumping = true) ∧
    (State.rd {} F.SWG_LANE_SEL_LANE < 120 ∧ State.isOut {} Kind.swage (State.rd {} F.SWG_LANE_SEL_LANE) = false) :=
  ⟨by decide +kernel, by decide +kernel, fun op h => by
      simp only [List.mem_cons, List.not_mem_nil, or_false] at h
      rcases h with rfl | rfl <;> exact ⟨_, rfl, by decide +kernel⟩, by decide +kernel, ⟨_, rfl, by decide +kernel⟩, by decide +kernel⟩

/-- A request of Table 9.6 about grain ID 1. -/
def askFor (op units addr w3 : Nat) (fp : Bytes) : Bytes := mtxBytes op 0 0 units 9 (if op = 1 ∨ op = 8 then 0 else 1) addr w3 fp

theorem witness_MatrixQueries :
    Asks (mtxHead {} id) (askFor 1 0 0 0 []) 1 (fpHalf (mtxReq (askFor 1 0 0 0 [])).fp) ∧
    (let r := askFor 2 4 7 0 []; let s := mtxHead { state := .inFlight, placer := some 1 } id
      Asks s r 2 (gidHalf (mtxReq r).gid) ∧ s.awaits (mtxReq r).gid s.peer = true ∧ (mtxHead {} id).awaits (mtxReq r).gid (mtxHead {} id).peer = false) ∧
    (let r := askFor 3 0 0 2 []; let s := mtxHead { state := .live } id
      Asks s r 3 (gidHalf (mtxReq r).gid) ∧ (s.grain? (mtxReq r).gid).isSome = true ∧ (mtxReq r).w3 < 2 ^ 31 ∧ 0 < (mtxReq r).w3 ∧ (mtxHead {} id).grain? (mtxReq r).gid = none) ∧
    (let r := askFor 4 0 0 0 []; let s := mtxHead { state := .live, refcnt := 1, pins := [(1, 5)] } id
      Asks s r 4 (gidHalf (mtxReq r).gid) ∧ ∃ e, s.grain? (mtxReq r).gid = some e ∧ e.count ≠ 0 ∧ e.pins.find? (fun x => x.1 == s.peer) = some (1, 5)) ∧
    (let r := askFor 5 4 7 0 []; let s := mtxHead { state := .live } id
      Asks s r 5 (gidHalf (mtxReq r).gid) ∧ s.holdsAddr (mtxReq r).gid (mtxReq r).w3 = true ∧ (mtxReq r).units ≠ 0 ∧ (mtxHead {} id).holdsAddr (mtxReq r).gid (mtxReq r).w3 = false) ∧
    (let r := askFor 6 0 0 0 []; let s := mtxHead { state := .live, fp := some (zeros 32) } id
      Asks s r 6 (gidHalf (mtxReq r).gid) ∧ (s.grain? (mtxReq r).gid).bind (·.fp) = some (zeros 32) ∧ ((mtxHead {} id).grain? (mtxReq r).gid).bind (·.fp) = none) ∧
    (let r := askFor 7 0 0 3 []; let s := mtxHead {} fun h => { h with state := .loading };
      r.length = 64 ∧ (mtxReq r).op = 7 ∧ (mtxReq r).ok = true ∧ (mtxReq r).gid ≠ 0 ∧ gidHalf (mtxReq r).gid = fpHalf (mtxReq r).fp ∧ (s.half (fpHalf (mtxReq r).fp)).state = .loading ∧
        (Tab.get {} (s.half (fpHalf (mtxReq r).fp)).buckets ((filterPlace (s.halfSlots (fpHalf (mtxReq r).fp)) (mtxReq r).fp).1 / 64)).seq < (mtxReq r).w3) ∧
    (let r := askFor 8 0 0 0 []; r.length = 64 ∧ (mtxReq r).op = 8 ∧ (mtxReq r).ok = true ∧ ((headIn .paired).half false).state = .partner) ∧
    (let r := askFor 2 0 0 1 []; r.length = 64 ∧ (mtxReq r).op = 2 ∧ (mtxReq r).ok = false) ∧
    (let s : State := { pieceHead id with mtx := { outstanding := [{ op := 1, tag := 9, piece := some (3, 0), index := 0 }] } }; let r := mtxBytes 0 0 0 0 9 5 0 0 []
      Hears s ∧ ∃ q p, s.mtx.outstanding.find? (fun x => x.tag == (mtxReq r).tag) = some q ∧ q.op = 1 ∧ (mtxReq r).op = 0 ∧ s.queryPiece q = some 3 ∧ Tab.find s.gly.own 3 = some p ∧ (s.pieceClass p).map (·.strict) ≠ some true) ∧
    (let s : State := { headIn .paired with mtx := { outstanding := [{ op := 6, tag := 9, gid := 1 }] } }; let r := mtxBytes 7 0 0 0 9 1 0 0 []
      Hears s ∧ (s.mtx.outstanding.find? (fun x => x.tag == (mtxReq r).tag)).map (·.op) = some 6 ∧ (mtxReq r).op ≠ 5) :=
  ⟨by decide +kernel, by decide +kernel, by decide +kernel, ⟨by decide +kernel, _, by rfl, by decide +kernel⟩, by decide +kernel, by decide +kernel, by decide +kernel, by decide +kernel, by decide +kernel,
   ⟨by decide +kernel, _, _, by rfl, by decide +kernel, by decide +kernel, by decide +kernel, by rfl, by decide +kernel⟩,
   by decide +kernel⟩

theorem witness_MatrixLookups :
    (let s := mtxHead { state := .live } fun h => { h with filter := [(0, 0)], buckets := [(0, { entries := [⟨zeros 32, 1, 0, 0⟩] })] };
      s.defers (fpHalf (zeros 32)) = false ∧ filterMaybe (s.halfSlots (fpHalf (zeros 32))) (s.half (fpHalf (zeros 32))).filter (zeros 32) = true ∧ s.matching (zeros 32) 0 0 = [⟨zeros 32, 1, 0, 0⟩] ∧
        ∃ g, s.grain? 1 = some g ∧ g.state = .live) ∧
    (let s := mtxHead {} id; s.defers (fpHalf (zeros 32)) = false ∧ filterMaybe (s.halfSlots (fpHalf (zeros 32))) (s.half (fpHalf (zeros 32))).filter (zeros 32) = false ∧
      100 * (s.half (fpHalf (zeros 32))).filter.length < 90 * (s.half (fpHalf (zeros 32))).slots) ∧
    ((mtxHead {} fun h => { h with state := .loading }).defers (fpHalf (zeros 32)) = true) :=
  ⟨⟨by decide +kernel, by decide +kernel, by decide +kernel, _, by rfl, by decide +kernel⟩, by decide +kernel⟩

/-- A head that holds half 0, with one class whose Read line has a Proof unit, a piece of block 0 in descriptor 3 and a grain at index 1. -/
def readingHead (g : Grain) (p : Piece) : State :=
  let s := mtxHead g id
  State.wr { s with fm := { s.fm with forme := some { forme1 with classes := [⟨0, 4, 13, 0, 0, 1, 2, true⟩] }, lines := [(2, { kind := 2, domain := 3, priority := 0, lanes := [⟨0, .proof, 0⟩], formeId := 7, draining := false })] }, gly := { own := [(3, p)] } } F.PRF_CTRL_ENABLE 1

theorem witness_MatrixUpkeep :
    (let s := pieceHead fun p => { p with commit := true, digest := crc64 [] }
      ∃ p, Tab.find s.gly.own 3 = some p ∧ p.dataIn = true ∧ p.commit = true ∧ 0 ∈ p.needs ∧ (∀ x ∈ p.grains, x.1 ≠ 0) ∧ p.digestOk = true ∧ s.inherited p 0 = none) ∧
    (∃ p, Tab.find (pieceHead fun p => { p with digest := 1 }).gly.own 3 = some p ∧ p.digestOk = false) ∧
    (∀ b : Bool, let s := mtxHead { gen := if b then 0xFFFF else 0 } fun h => { h with freed := [1] };
      (s.half false).freed = [1] ∧ ((Tab.get {} (s.half false).grains 1).gen = 0xFFFF ↔ b = true) ∧ (s.half false).freeHead = 0) ∧
    (∃ e, ((mtxHead {} fun h => { h with removal := [⟨zeros 32, 1, 0, 0⟩] }).half false).removal = e :: []) ∧ ((1, true) ∈ ({ placing := [(1, true)] } : Matrix).placing) ∧
    (let s := readingHead { state := .live } { piece1 with grains := [(0, 1)], verify := [1] }
      ∃ p, Tab.find s.gly.own 3 = some p ∧ p.grains.find? (fun x => x.1 == 0) = some (0, 1) ∧ 1 ∈ p.verify ∧ s.grainPlaced 1 = true ∧ s.readUnitNow 1 = some 0) ∧
    (((headIn .paired).half false).state = .partner ∧ bit false = (headIn .paired).head) ∧
    (∀ st ∈ [HalfState.loading, .returning], (mtxHead {} id).anv.takeover = none ∧ ((mtxHead {} fun h => { h with state := st }).half false).state = st) ∧
    (let s := readingHead { state := .deferred } piece1; (s.half false).state = .loaded ∧ ∃ e, s.nextDeferred false = some (1, e) ∧ s.readUnitNow (mkGid false e.gen 1) = some 0) ∧
    (let s := mtxHead {} id; s.matching (zeros 32) 0 0 = [] ∧ (s.half false).closed = false) ∧
    (let s := mtxHead { state := .live } fun h => { h with filter := [(0, 0)], buckets := [(0, { entries := [⟨zeros 32, 1, 0, 0⟩] })] };
      s.matching (zeros 32) 0 0 = [⟨zeros 32, 1, 0, 0⟩] ∧ s.entryLive ⟨zeros 32, 1, 0, 0⟩ = true ∧ (s.grainAt 1).ovf = false ∧ (s.grainAt 1).refcnt + (({} : Grain).count) < 0xFFFFFFFF) :=
  ⟨⟨_, by rfl, by decide +kernel⟩, ⟨_, by rfl, by decide +kernel⟩, fun b => by cases b <;> decide +kernel, ⟨_, by rfl⟩, by decide, ⟨_, by rfl, by decide +kernel⟩, by decide +kernel,
   fun st h => by
      simp only [List.mem_cons, List.not_mem_nil, or_false] at h
      rcases h with rfl | rfl <;> decide +kernel, ⟨by rfl, _, by rfl, by decide +kernel⟩, by decide +kernel⟩

/-- A write of one whole grain whose grain is placed, and a repeat of its first block. -/
def sourcePiece : Piece := { piece1 with stamp := 5, nlb := 16, grains := [(0, 1)] }
def repeatPiece : Piece := { piece1 with kind := .repeated, repeatStamp := 5, data := sourcePiece.runSlots 0 1, digest := crc64 (sourcePiece.runSlots 0 1), dataIn := true, commit := true }
def repeatHead : State := { mtxHead { state := .live } id with gly := { own := [(3, sourcePiece), (4, repeatPiece)] } }

theorem repeatHead_source : repeatHead.inherited repeatPiece 0 = some (some 1) := by
  have h : sourcePiece.runOf repeatPiece = some 0 := by
    have hw : sourcePiece.wholeGrains = [0] := by decide +kernel
    have hr : sourcePiece.holdsRun 0 1 = true := by decide +kernel
    simp [Piece.runOf, hw, show sourcePiece.lbaf = 0 from rfl, show repeatPiece.lbaf = 0 from rfl, show sourcePiece.kind = .write from rfl,
      show repeatPiece.nlb = 1 from rfl, hr, show repeatPiece.data = sourcePiece.runSlots 0 1 from rfl]
  simp [State.inherited, State.repeatSource, repeatHead, h, show repeatPiece.kind = .repeated from rfl, show repeatPiece.repeatStamp = 5 from rfl, show sourcePiece.stamp = 5 from rfl,
    show repeatPiece.lbaf = 0 from rfl, show repeatPiece.slba = 0 from rfl, show sourcePiece.grains = [(0, 1)] from rfl]

theorem witness_MatrixInherit :
    Tab.find repeatHead.gly.own 4 = some repeatPiece ∧ repeatPiece.dataIn = true ∧ repeatPiece.commit = true ∧ 0 ∈ repeatPiece.needs ∧ (∀ x ∈ repeatPiece.grains, x.1 ≠ 0) ∧ repeatPiece.digestOk = true ∧
      repeatHead.inherited repeatPiece 0 = some (some 1) ∧ repeatHead.holdsHalf (gidHalf 1) = true ∧ (repeatHead.grain? 1).any (fun e => e.state != .lost) = true :=
  ⟨by rfl, by decide +kernel, by decide +kernel, by decide +kernel, by decide +kernel, by simp [Piece.digestOk, repeatPiece], repeatHead_source, by decide +kernel⟩

/-- A head in a mode with TMP_KEY_SEL naming purpose 4 of realm 0, and some keys. -/
def keyHead (m : Mode) (keys : Tab KeyRec) (sweep : Option Nat) : State := State.wr { headIn m with tmp := { keys := keys, sweep := sweep } } F.TMP_KEY_SEL_PURPOSE 4

theorem witness_KeyCommands :
    (let s := (headIn .paired).wr F.TMP_KEY_SEL_PURPOSE 3; s.rd F.TMP_KEY_SEL_PURPOSE ≤ 8 ∧ s.on F.TMP_KEY_CMD_BUSY = false ∧ s.createRefusal (s.rd F.TMP_KEY_SEL_REALM) (s.rd F.TMP_KEY_SEL_PURPOSE) = some 1) ∧
    (∀ m ∈ [Mode.paired, .solo], let s := keyHead m [] none; s.rd F.TMP_KEY_SEL_PURPOSE = 4 ∧ s.on F.TMP_KEY_CMD_BUSY = false ∧ s.createRefusal (s.rd F.TMP_KEY_SEL_REALM) 4 = none ∧ s.currentGen (s.rd F.TMP_KEY_SEL_REALM) 4 = none ∧ s.fm.mode = m) ∧
    (let s := keyHead .paired [(1024, { state := .installing })] none
      ∃ k, s.keyRec 1024 = some k ∧ k.state = .installing ∧ s.currentGen (handleRealm 1024) (handlePurpose 1024) = none ∧ handlePurpose 1024 ≠ 5 ∧ s.tmp.held = []) ∧
    (let s := keyHead .paired [(1024, { state := .live }), (1025, { state := .current })] none;
      (∀ h, s.tmp.sweep = some h → handleRealm h ≠ s.rd F.TMP_KEY_SEL_REALM) ∧ s.oldestGen (s.rd F.TMP_KEY_SEL_REALM) 4 = some 0 ∧ s.keyRec (handle (s.rd F.TMP_KEY_SEL_REALM) 4 0) = some { state := .live }) ∧
    (let s := keyHead .paired [] (some 1024); s.tmp.sweep = some 1024 ∧ handleRealm 1024 = s.rd F.TMP_KEY_SEL_REALM ∧ s.sweepLeft 1024 = [] ∧ (s.packing.any fun p => p.under 1024) = false) ∧
    (∀ b : Bool, let s : State := { (headIn .paired) with vols := if b then [(1, { nsid := 1, state := .live })] else [] }; s.realmUsed (s.rd F.TMP_KEY_SEL_REALM) = b ∧ ∀ e ∈ s.tmp.keys, handleRealm e.1 ≠ s.rd F.TMP_KEY_SEL_REALM) ∧
    (let s := keyHead .paired [(1024, { state := .live })] none; s.realmUsed (s.rd F.TMP_KEY_SEL_REALM) = false ∧ (1024, { state := .live }) ∈ s.tmp.keys ∧ handleRealm 1024 = s.rd F.TMP_KEY_SEL_REALM) ∧
    (let s := keyHead .paired [(1024, { state := .destroying })] none; ∃ k, s.tmp.keys = [(1024, k)] ∧ handleRealm 1024 = 0 ∧ k.state = .destroying ∧ s.tmp.running = [] ∧ s.pun.running = []) ∧
    (let s : State := { tmp := { running := [(0, cipherJob (zeros 64) [] [])] } }; ∃ e, e ∈ s.tmp.running ∧ handleRealm e.2.key = 0) ∧
    (let s : State := { tmp := { counters := [(1024, { journalling := some 9 })] } }; (s.ctr 1024).epochWait = none ∧ (s.ctr 1024).journalling = some 9 ∧ s.tmp.running = [] ∧ s.ste.sessions = []) ∧
    (let s : State := { sheetHead id [⟨1, 0, 1, 4, 0, .waitOpen, [⟨1, 0, 1, .place, .sort ⟨0, 0, 0, 0, 0, 0, 0, false, false, false, 0, []⟩⟩], [], 0, []⟩] with tmp := { sweep := some 1024 } }
      ∃ p, s.tmp.sweep = some 1024 ∧ s.sweepLeft 1024 = [] ∧ p ∈ s.packing ∧ p.under 1024 = true) ∧
    (let s : State := { pun := { running := [(0, { tag := 0, line := 0, alg := 0, keyed := 1, cls := 0, isFirst := true, isLast := true, cmp := false, cmpOnly := false, slot := 0, segLen := 0, key := 1024, seg := [], reference := [] })] } }
      ∃ e, e ∈ s.pun.running ∧ e.2.keyed ≠ 0 ∧ handleRealm e.2.key = 0) ∧
    (State.isOut {} Kind.keyUnit 0 = false) :=
  ⟨by decide +kernel, by decide +kernel, ⟨_, by rfl, by decide +kernel⟩, ⟨fun h e => (nomatch e), by decide +kernel⟩, by decide +kernel, fun b => by cases b <;> decide +kernel,
   by decide +kernel, ⟨_, by rfl, by decide +kernel⟩, ⟨_, .head _, by decide +kernel⟩, by decide +kernel,
   ⟨_, by rfl, by decide +kernel, .head _, by decide +kernel⟩, ⟨_, .head _, by decide +kernel⟩, by decide +kernel⟩

/-- A Temper descriptor for line 2: an XTS encryption of 16 bytes under purpose 4, generation 0. -/
def xtsDesc : Bytes := leBytes (2 * 2 ^ 27) 8 ++ zeros 8 ++ leBytes (16 * 2 ^ 32 + 4 * 2 ^ 16) 8 ++ zeros 40

/-- A head with one cipher pair on line 2, whose cluster store holds that key. -/
def cipherHead (running : Tab CipherJob) : State :=
  State.wr { lineHead 1 [{ stage := 0, typ := .temper, lane := 0 }] with tmp := { keys := [(1024, { state := .current })], stores := [(0, [1024])], running := running } } F.TMP_CTRL_ENABLE 1

/-- An Imposition descriptor for line 2: parity of a stripe of width 4 over 64 bytes. -/
def impDesc : Bytes := leBytes (2 * 2 ^ 27 + 4 * 2 ^ 17) 8 ++ zeros 8 ++ leBytes 64 8 ++ zeros 40

/-- A head with one Imposition unit on line 2. -/
def impHead (running : Tab ImpJob) : State := State.wr { lineHead 4 [{ stage := 0, typ := .imposition, lane := 0 }] with imp := { running := running } } F.IMP_CTRL_ENABLE 1

theorem witness_CipherAndParityJobs :
    (State.cipherRefusal {} (zeros 64) (cipherJob (zeros 64) [] []) = some 0x0604) ∧
    (let s := cipherHead []; let j := cipherJob xtsDesc (zeros 16) []
      s.cipherRefusal xtsDesc j = none ∧ (∃ l, s.fm.lines = [(2, l)] ∧ s.freePairs l 0 = [0]) ∧ j.line = 2 ∧ s.on F.TMP_CTRL_ENABLE = true ∧ s.tmp.queued = [] ∧ 0 / 4 = 0 ∧ j.mode = 0 ∧ j.key ∈ s.store 0 ∧ (s.keyRec j.key).isSome = true) ∧
    (let s := cipherHead [(0, { cipherJob xtsDesc (zeros 16) [] with started := true })]; ∃ j, Tab.find s.tmp.running 0 = some j ∧ j.started = true ∧ (s.keyRec j.key).isSome = true ∧ s.tmp.queued = []) ∧
    (State.isOut {} Kind.temper (State.rd {} F.TMP_PAIR_SEL_PAIR) = false ∧ State.isOut {} Kind.imposition (State.rd {} F.IMP_UNIT_SEL_UNIT) = false) ∧
    (impInvalid (zeros 64) (impJob (zeros 64) []) = true) ∧
    (let s := impHead []; impInvalid impDesc (impJob impDesc []) = false ∧ s.on F.IMP_CTRL_ENABLE = true ∧ s.imp.queued = [] ∧ s.freeUnits (impJob impDesc []).line = 0 :: []) ∧
    (let s := impHead [(0, impJob impDesc [])]; ∃ j, Tab.find s.imp.running 0 = some j ∧ j.use = .submitted ∧ j.op = 0 ∧ s.imp.queued = []) ∧
    (let s := impHead [(0, { impJob impDesc [] with use := .stripe 1 0 })]; ∃ j, Tab.find s.imp.running 0 = some j ∧ j.use = .stripe 1 0) :=
  ⟨by decide +kernel, ⟨by decide +kernel, ⟨_, by rfl, by decide +kernel⟩, by decide +kernel⟩, ⟨_, by rfl, by decide +kernel⟩, by decide +kernel, by decide +kernel, by decide +kernel, ⟨_, by rfl, by decide +kernel⟩, ⟨_, by rfl, by rfl⟩⟩

theorem witness_StripesAndRebuild :
    (let s := (sheetHead (fun e => { e with state := .opened, cur := some ⟨0, 1, 8, 0, []⟩ }) []).wr F.TIM_NOW_NS 600000
      ∃ c, (s.sheet 1).cur = some c ∧ c.firstAt + 500000 ≤ s.now ∧ (s.sheet 1).head = s.head ∧ s.hth.flights = []) ∧
    (let s := sheetHead (fun e => { e with cur := some ⟨0, 1, 8, 0, []⟩ }) []; ∃ c, (s.sheet 1).cur = some c ∧ s.now < c.firstAt + 500000) ∧
    (∀ b : Bool, let s := State.wr (sheetHead id [⟨1, 0, 1, 4, 0, .waitOpen, [], [], 0, []⟩]) F.GLY_BELLOWS_STALE (bit b); ∃ f, s.flight 1 0 = some f ∧ f.phase = .waitOpen ∧ s.sifSafe f.seq = !b) ∧
    (∀ b : Bool, let s := State.wr (sheetHead id [⟨1, 0, 1, 4, 0, .sent, [], [0, 1, 2, 3, 4], 0, [5]⟩]) F.GLY_BELLOWS_STALE (bit b)
      ∃ f, s.hth.flights = [f] ∧ f.sheet = 1 ∧ f.stripe = 0 ∧ f.phase = .sent ∧ (∀ m < f.width + 2, m ∈ f.confirmed ∨ m ∈ (s.sheet 1).missing ∨ m ∈ f.spoiled) ∧ s.sifSafe ((s.hth.inflightSeq + 1) % 2 ^ 32) = !b ∧ f.sorts = [] ∧ (s.sheet 1).isMap = false) ∧
    (let s := State.wr (sheetHead id [⟨1, 0, 1, 4, 0, .closeWritten, [], [0, 1, 2, 3, 4, 5], 0, []⟩]) F.GLY_BELLOWS_STALE 0; ∃ f, s.flight 1 0 = some f ∧ f.phase = .closeWritten ∧ s.sifSafe f.seq = true) ∧
    (∀ e ∈ (sheetHead id []).hth.sheets, ∀ w ∈ e.2.members, w.1 ≠ 7) ∧
    (let s := sheetHead (fun e => { e with members := [(7, 0)] }) []; ∃ e, s.hth.sheets = [(1, e)] ∧ e.members = [(7, 0)] ∧ e.missing = [] ∧ e.state = .closed) ∧
    ((sheetHead id []).rebuildQueue = []) ∧
    (let s := sheetHead (fun e => { e with missing := [0], spares := [(0, (3, 0))], next := 2 }) [];
      s.rebuildQueue = 1 :: [] ∧ s.imp.rebuild = none ∧ (s.takeSpares 1).1 = true ∧ 0 < ((s.takeSpares 1).2.sheet 1).next) ∧
    (let s : State := { (sheetHead (fun e => { e with missing := [0], spares := [(0, (3, 0))], next := 2 }) []) with imp := { rebuild := some ⟨1, 2⟩ } }
      ∃ r, s.imp.rebuild = some r ∧ (s.sheet r.sheet).missing ≠ [] ∧ (s.sheet r.sheet).missing.length ≤ (s.sheet r.sheet).spares.length ∧ (s.sheet r.sheet).next ≤ r.stripe) ∧
    (let s := sheetHead (fun e => { e with missing := [0] }) []; 1 ∈ s.rebuildQueue ∧ s.spareFor 1 = none ∧ 1 ∉ s.imp.relocating) ∧
    (let s : State := { (runHead .read).wr F.TIM_NOW_NS 3000000000 with imp := { waits := [⟨0, 5, 0⟩] } }
      ∃ x w, s.imp.waits.find? (fun w => w.slot == 0) = some w ∧ w.since + 2000000000 ≤ s.now ∧ s.task? 0 = some x ∧ isInbound x.ctx = false) :=
  ⟨⟨_, by rfl, by decide +kernel⟩, ⟨_, by rfl, by decide +kernel⟩, fun b => by cases b <;> exact ⟨_, by rfl, by decide +kernel⟩, fun b => by cases b <;> exact ⟨_, by rfl, by decide +kernel⟩, ⟨_, by rfl, by decide +kernel⟩, by decide +kernel, ⟨_, by rfl, by decide +kernel⟩, by decide +kernel, by decide +kernel,
   ⟨_, by rfl, by decide +kernel⟩, by decide +kernel, ⟨_, _, by rfl, by decide +kernel, by rfl, by decide +kernel⟩⟩

/-- A head whose journal is as given. -/
def journalHead (j : Journal) : State := { (runHead .flush) with hth := { journal := j } }

theorem witness_JournalAndCheckpoints :
    (∀ h : Bool, let s := journalHead { waiting := [⟨1, [.free 1], [], 0, false, h, false⟩] }
      ∃ b, s.hth.journal.waiting = b :: [] ∧ (b.inLog = true ∨ s.ackWhere ≠ .flash) ∧ (s.hth.journal.ring.map Batch.units).sum + b.units ≤ journalLimit ∧ s.batchSafe b false = h ∧ b.after = []) ∧
    (let s := journalHead { waiting := [⟨1, [.free 1], [.finish 0], 0, false, true, false⟩] }
      ∃ b x, s.hth.journal.waiting = b :: [] ∧ (b.inLog = true ∨ s.ackWhere ≠ .flash) ∧ (s.hth.journal.ring.map Batch.units).sum + b.units ≤ journalLimit ∧ s.batchSafe b false = true ∧ b.after = [.finish 0] ∧ s.task? 0 = some x ∧ isInbound x.ctx = false) ∧
    (∃ b : Batch, b.inLog = true ∧ ∀ ring : List Batch, (ring.map Batch.units).sum = journalLimit → journalLimit < ((journalHead { waiting := [b], ring := ring }).hth.journal.ring.map Batch.units).sum + b.units) ∧
    (let s := (journalHead {}).wr F.TIM_NOW_NS 900000000; s.hth.journal.lastFlush + ((s.fm.forme.map (·.flushMs)).getD 0) * 1000000 ≤ s.now ∧ s.hth.journal.flush = none) ∧
    (1048576 ≤ (journalHead { gathered := 1048576, flush := some 3 }).hth.journal.gathered) ∧
    (let s := journalHead {}; s.hth.journal.gathered < 1048576 ∧ s.now < s.hth.journal.lastFlush + ((s.fm.forme.map (·.flushMs)).getD 0) * 1000000) ∧
    (let s : State := { (headIn .paired) with hth := { journal := { flush := some 3, sent := some { seq := 1, seqEnd := 3 }, acks := [0, 1] }, anchors := [(0, 0), (1, 0)] } }
      ∃ c, s.hth.journal.flush = some 3 ∧ s.hth.journal.sent = some c ∧ (∀ w ∈ s.hth.anchors, w.1 ∈ s.hth.journal.acks) ∧ s.hth.journal.due = false) ∧
    (let s : State := { (headIn .paired) with hth := { journal := { flush := some 3, sent := some { seq := 1, seqEnd := 3 }, acks := [0] }, anchors := [(0, 0), (1, 0)] }, gmp := { flying := [(0, { module := 1, slot := 0, gen := 0, cmd := { op := 0 }, sentAt := 0, use := .anchor })] } }
      ∃ c, s.hth.journal.flush = some 3 ∧ s.hth.journal.sent = some c ∧ (1, 0) ∈ s.hth.anchors ∧ 1 ∉ s.hth.journal.acks ∧ (s.gmp.flying.any fun f => f.2.use == .anchor) = true) ∧
    ((headIn .paired).hth.audit = none) ∧ (∃ s : State, s.hth.audit = some []) ∧
    (let s : State := { mtxHead { state := .live } id with prf := { repairs := [(1, ⟨1, 0, 2, 0, 0⟩)] } }
      ∃ r, Tab.find s.prf.repairs 1 = some r ∧ s.flight r.newSheet (r.newOffset / stripeUnits (s.sheet r.newSheet).width) = none ∧ (s.sheet r.newSheet).cur = none ∧ s.holdsHalf (gidHalf 1) = true) :=
  ⟨fun h => by cases h <;> exact ⟨_, by rfl, by decide +kernel⟩, ⟨_, _, by rfl, by decide +kernel, by decide +kernel, by decide +kernel, by decide +kernel, by rfl, by decide +kernel⟩,
   ⟨⟨1, [.free 1], [], 0, false, false, true⟩, by rfl, fun ring h => by simp [journalHead, h, Batch.units, JRec.units]⟩, by decide +kernel, by decide +kernel, by decide +kernel,
   ⟨_, by rfl, by rfl, by decide +kernel⟩, ⟨_, by rfl, by rfl, by decide +kernel⟩, by rfl, ⟨{ hth := { audit := some [] } }, rfl⟩, ⟨_, by rfl, by decide +kernel⟩⟩

/-- A head with six admitted modules of four plates and a class of width 4. -/
def arrayHead : State :=
  State.wr { headIn .paired with fm := { (headIn .paired).fm with forme := some { forme1 with classes := [⟨2, 4, 13, 0, 0, 1, 2, false⟩] } }, gmp := { mods := (List.range 6).map fun i => (i, ({ state := .admitted, plates := 4, rated := 100 } : Mod)) } } F.HTH_CTRL_ENABLE 1

theorem witness_SheetsAndCapacity :
    (let s := arrayHead; ∃ c ms, s.on F.HTH_CTRL_ENABLE = true ∧ s.openCount < 64 ∧ s.classOf 2 = some c ∧ c.d ≠ 0 ∧ s.openSheet .refine 2 = none ∧ s.chooseModules [] (c.d + 2) = some ms ∧ s.hth.journal.flush = none ∧ (s.pickPlates [] ms).length = c.d + 2) ∧
    ((headIn .paired).on F.HTH_CTRL_ENABLE = false) ∧
    (let s : State := { headIn .paired with hth := { sheets := (List.range 64).map fun i => (i + 1, ({ state := .opened } : Sheet)) } }; 64 ≤ s.openCount) ∧
    ((headIn .paired).hth.descale = none ∧ (headIn .paired).descaleNext = none) ∧
    (let s : State := { (sheetHead id []) with hth := { (sheetHead id []).hth with descale := some ⟨1, 2, [], false⟩ } }; s.hth.descale = some ⟨1, 2, [], false⟩ ∧ (s.sheet 1).isMap = false ∧ s.liveSorts 1 none = [] ∧ s.mtx.outstanding = [] ∧ s.hth.journal.waiting = []) ∧
    (let s : State := { (sheetHead id []) with hth := { sheets := [(1, { state := .toErase, members := [(0, 0)] })], plates := [(0, { state := .member, sheet := 1 })] }, gmp := { mods := [(0, { state := .admitted, plates := 4, rated := 100 })] } };
      (s.sheet 1).state = .toErase ∧ (s.sheet 1).eraseSeq ≤ s.hth.journal.ckpt.seqEnd ∧ s.readsSheet 1 = false ∧ s.paired = false ∧ (s.sheet 1).members = [(0, 0)] ∧ (s.plateRec 0 0).state = .member ∧ (s.plateRec 0 0).erases < (s.module 0).rated ∧ ((s.dev 0).plate 0).owner = s.head) ∧
    ((headIn .paired).paired = true ∧ 1 ∉ (headIn .paired).hth.clearances) ∧ ((headIn .paired).now < (headIn .paired).hth.lastWear + 86400000000000) ∧
    (let s : State := { ((headIn .solo).wr F.TIM_NOW_NS 86400000000000) with hth := { sheets := [(1, { state := .closed, members := [(0, 0)] })], plates := [(0, { state := .member, sheet := 1 }), (1, { state := .member, sheet := 1, erases := 50 })] }, gmp := { mods := [(0, { state := .admitted, plates := 2, rated := 100 })] } };
      s.hth.lastWear + 86400000000000 ≤ s.now ∧ s.hth.wear = none ∧ s.admitted = [0] ∧ (s.module 0).rated < 10 * ((s.eraseRange 0).2 - (s.eraseRange 0).1) ∧ s.wearSheet 0 ≠ none) :=
  ⟨⟨⟨2, 4, 13, 0, 0, 1, 2, false⟩, [0, 1, 2, 3, 4, 5], by decide +kernel⟩, by decide +kernel⟩

/-- A head with a reshape of one sheet. -/
def reshapeHead (f : Machine.Reshape → Machine.Reshape) : State := { (sheetHead id []) with imp := { reshape := some (f { list := [1], migration := true }) } }

theorem witness_ReshapeSteps :
    ((reshapeHead id).reshapeRuns = true) ∧ (let s := headIn .paired; s.reshapeRuns = false ∧ ∀ m < 128, bitOf (s.rd (F.IMP_EVAC_MARK (m / 32))) (m % 32) = false) ∧
    (let s := (headIn .paired).wr (F.IMP_EVAC_MARK 0) 1; s.reshapeRuns = false ∧ bitOf (s.rd (F.IMP_EVAC_MARK (0 / 32))) (0 % 32) = true) ∧
    (let s := reshapeHead id; ∃ r, s.imp.reshape = some r ∧ s.imp.peerReshape = none ∧ r.transit = some 1 ∧ r.held = false ∧ r.movesOut = false ∧ r.copies = [] ∧ s.liveSorts 1 none = [] ∧ s.mtx.outstanding = [] ∧ s.hth.journal.waiting = []) ∧
    (∃ r, (reshapeHead fun r => { r with held := true }).imp.reshape = some r ∧ r.held = true) ∧
    (let s := reshapeHead fun r => { r with list := List.range 300, boundary := 256 }; ∃ r, s.imp.reshape = some r ∧ r.written + 256 ≤ r.boundary ∧ r.boundary ≠ r.list.length ∧ r.moveSeq ≤ s.hth.journal.ckpt.seqEnd) ∧
    (let s := reshapeHead fun r => { r with boundary := 1 }; ∃ r, s.imp.reshape = some r ∧ r.boundary = r.list.length ∧ r.written < r.boundary ∧ r.moveSeq ≤ s.hth.journal.ckpt.seqEnd) ∧
    (let s := reshapeHead fun r => { r with moveSeq := 5 }; ∃ r, s.imp.reshape = some r ∧ s.imp.peerReshape = none ∧ s.hth.journal.ckpt.seqEnd < r.moveSeq) :=
  ⟨by decide +kernel, by decide +kernel, by decide +kernel, ⟨_, by rfl, by decide +kernel⟩, ⟨_, by rfl, by decide⟩, ⟨_, by rfl, by decide +kernel⟩, ⟨_, by rfl, by decide +kernel⟩, ⟨_, by rfl, by decide +kernel⟩⟩

/-- A head with GMP enabled and module 3 in a state. -/
def gmpHead (f : Mod → Mod) : State :=
  State.wr { (headIn .paired) with gmp := { mods := [(3, f { state := .admitted, serial := 77, version := 0x0101, steps := 4, plates := 4, rated := 100 })], devs := [(3, { serial := 77, version := 0x0101, plateCount := 4 })] } } F.GMP_CTRL_ENABLE 1

/-- The same head with one command in flight and its completion in the ring. -/
def flyHead (c : GmpCmd) (u : GmpUse) (st : Status) : State :=
  let s := gmpHead id
  { s with gmp := { s.gmp with flying := [(5, ⟨3, 0, 0, c, u, 0, false⟩)], ring := [⟨3, (⟨{}, st, 0, 0, 0, []⟩ : DevAnswer).words 5 0 0 0 false, []⟩] } }

theorem witness_GmpCommands :
    (GmpReady (gmpHead id) 3 Gmp.identify ∧ GmpReady (gmpHead id) 3 Gmp.hello ∧ GmpReady (gmpHead id) 3 Gmp.health ∧ GmpReady (gmpHead id) 3 Gmp.ownerOp) ∧
    (GmpReady (gmpHead id) 3 Gmp.read ∧ GmpReady (gmpHead id) 3 Gmp.write ∧ GmpReady (gmpHead id) 3 Gmp.erase ∧ GmpReady (gmpHead id) 3 Gmp.claim) ∧
    (GmpReady (gmpHead id) 3 Gmp.fence ∧ GmpReady (gmpHead id) 3 Gmp.setAnchor ∧ GmpReady (gmpHead id) 3 Gmp.fwDownload ∧ GmpReady (gmpHead id) 3 Gmp.fwActivate) ∧
    (1 ≠ (gmpHead id).head) := by decide +kernel

/-- A module of four plates, one plate as given. -/
def dev4 (p : DevPlate) (fenced : List Nat) : Device := { plateCount := 4, plates := [(0, p)], fenced := fenced, bound := [] }

theorem witness_ModuleAnswers :
    (0 ∈ (dev4 {} [0]).fenced ∧ Gmp.health ≠ Gmp.identify) ∧ (0 ∉ (dev4 {} []).fenced ∧ (dev4 {} []).invalid { op := 0x13 } = true) ∧
    (0 ∉ (dev4 {} []).fenced ∧ ((dev4 {} []).bound.find? fun b => b.1 == 0) = none) ∧ (0 < (dev4 {} []).plateCount ∧ ((dev4 {} []).plate 0).failed = false ∧ ((dev4 {} []).plate 0).owner = 0) ∧
    (16 ≤ (dev4 {} []).plateLog2 ∧ (zeros 65536).length = 65536) ∧ (Tab.find ((dev4 { chunks := [(0, some [])] } []).plate 0).chunks 0 ≠ none) ∧ (((dev4 { owner := 1 } []).plate 0).owner ≠ 0) ∧
    ((64 : Nat) = 64 ∧ 1023 < 1024 ∧ (1 : Nat) ≤ 1) :=
  ⟨by decide +kernel, by decide +kernel, by decide +kernel, by decide +kernel, ⟨by decide +kernel, List.length_replicate ..⟩, by decide +kernel, by decide +kernel, by decide⟩

theorem witness_ModuleLife :
    (∃ d rest f, (flyHead { op := Gmp.write } (.chunk 1 2 3) 0).gmp.ring = d :: rest ∧ Tab.find (flyHead { op := Gmp.write } (.chunk 1 2 3) 0).gmp.flying d.done.tag = some f ∧ f.gen = d.done.gen ∧ f.module = d.module ∧ d.done.rsv = 0 ∧ d.done.status = 0 ∧ f.cmd.op = Gmp.write ∧ f.use = .chunk 1 2 3) ∧
    (∃ d rest f, (flyHead { op := Gmp.claim, flags := 1 } .seat 0x0308).gmp.ring = d :: rest ∧ Tab.find (flyHead { op := Gmp.claim, flags := 1 } .seat 0x0308).gmp.flying d.done.tag = some f ∧ f.gen = d.done.gen ∧ f.module = d.module ∧ d.done.rsv = 0 ∧ d.done.status = 0x0308 ∧ f.use = .seat ∧ f.cmd.op = Gmp.claim ∧ (gmpHead id).gmp.activating = none) ∧
    (let s := flyHead { op := Gmp.write } .plain 0; let t : State := { s with gmp := { s.gmp with flying := [] } }; ∃ d rest, t.gmp.ring = d :: rest ∧ Tab.find t.gmp.flying d.done.tag = none) ∧
    (Tab.get 0 (gmpHead id).gmp.gens 5 ≠ 1) ∧
    (let s := (flyHead { op := Gmp.write } .plain 0).wr F.TIM_NOW_NS 50000000; ∃ f, Tab.find s.gmp.flying 5 = some f ∧ f.sentAt + Gmp.limit f.cmd.op ≤ s.now ∧ f.use = .plain) ∧
    (let s := (flyHead { op := Gmp.write } .plain 0).wr F.TIM_NOW_NS 49999999; ∃ f, Tab.find s.gmp.flying 5 = some f ∧ s.now < f.sentAt + Gmp.limit f.cmd.op) ∧
    (let i : ModuleInfo := { serial := 9, version := 0x0101, prevVersion := 0, firmware := 0, plateLog2 := 24, plateCount := 8, rated := 100, number := 0xFF, page := true };
      (gmpHead id).moduleNumber i = some 0 ∧ i.reserved = 0 ∧ i.version = 0x0101 ∧ i.plateLog2 = 24 ∧ ((gmpHead id).fm.forme.map (·.minGmp)).getD 0 ≤ 0x0101) ∧
    (let s := gmpHead fun e => { e with state := .admitting }; (s.module 3).state = .admitting ∧ 3 ≤ (s.module 3).steps ∧ s.gmp.seatAt = none) ∧
    (let s := (gmpHead fun e => { e with state := .admitting }).wr F.TIM_NOW_NS 10000000000; (s.module 3).state = .admitting ∧ (s.module 3).since + 10000000000 ≤ s.now) ∧
    (((gmpHead id).module 3).state = .admitted) ∧
    (let s := (gmpHead fun e => { e with noCmd := true }).wr F.TIM_NOW_NS 1000000000; (s.module 3).noCmd = true ∧ (s.module 3).fenceAt + 1000000000 ≤ s.now ∧ GmpReady s 3 Gmp.fence) ∧
    (let s := (sheetHead id []).wr F.GMP_MOD_SEL_MODULE 1; s.holdsMembers (s.rd F.GMP_MOD_SEL_MODULE) = true) ∧
    (let s := (sheetHead id []).wr F.GMP_MOD_SEL_MODULE 127; s.holdsMembers (s.rd F.GMP_MOD_SEL_MODULE) = false ∧ s.rd F.GMP_MOD_SEL_MODULE < 128) ∧
    (((sheetHead (fun e => { e with missing := [0] }) []).hth.sheets.any fun p => !p.2.missing.isEmpty) = true) ∧
    (let s := (gmpHead id).wr F.GMP_MOD_SEL_MODULE 3; s.rd F.GMP_MOD_SEL_MODULE = 3 ∧ (s.hth.sheets.any fun p => !p.2.missing.isEmpty) = false ∧ s.gmp.activating = none ∧ (s.module 3).state = .admitted ∧ ∀ f ∈ s.gmp.flying, f.2.module ≠ 3) ∧
    (let s := (gmpHead fun e => { e with state := .activating }).wr F.TIM_NOW_NS 30000000000; (s.module 3).state = .activating ∧ (s.module 3).since + 30000000000 ≤ s.now) :=
  ⟨⟨_, _, _, by rfl, by rfl, by decide +kernel⟩, ⟨_, _, _, by rfl, by rfl, by decide +kernel⟩, ⟨_, _, by rfl, by decide +kernel⟩, by decide +kernel, ⟨_, by rfl, by decide +kernel⟩, ⟨_, by rfl, by decide +kernel⟩, by decide +kernel⟩

/-- A create of a namespace of 512-byte blocks. -/
def nsArgs1 : NsArgs := { lbas := 100, blockSize := 512, metaSize := 0, extended := false, piType := 0, piFirst := false, guard64 := false, valid := false, classId := 0, realm := 0 }

/-- A head with an admin command in slot 0, one namespace class and the keys of realm 0. -/
def nsHead (op : Opcode) : State :=
  let s := adminHead op
  { s with fm := { s.fm with forme := some { forme1 with realms := 4, classes := [⟨0, 4, 13, 0, 0, 1, 2, false⟩] } }, tmp := { s.tmp with keys := [(handle 0 0 0, { state := .current, len := 32 }), (handle 0 4 0, { state := .current, len := 32 })] } }

theorem witness_NamespaceCommands :
    (∃ x, (nsHead .nsCreate).adminTask 0 .nsCreate = some x ∧ isInbound x.ctx = false ∧ (nsHead .nsCreate).forwards = false ∧ (nsHead .nsCreate).createOk nsArgs1 = true ∧ (nsHead .nsCreate).freeNsid = some 2 ∧ (nsHead .nsCreate).freeVolume = some 1 ∧
      (nsHead .nsCreate).hasKeys 0 = true ∧ ((nsHead .nsCreate).gensOf 0 0).isEmpty = false ∧ ((nsHead .nsCreate).gensOf 0 4).isEmpty = false) ∧
    ((nsHead .nsCreate).createOk { nsArgs1 with blockSize := 520 } = false) ∧ (((nsHead .nsCreate).wr F.ANV_PAIR_STANDBY 1).forwards = true) ∧
    (∃ x, (nsHead .nsDelete).adminTask 0 .nsDelete = some x ∧ ((nsHead .nsDelete).ns x.cmd.nsid).state = .loc ∧ (nsHead .nsDelete).nsBusy x.cmd.nsid = false) ∧
    (let s := nsHead .nsDelete; let t : State := { s with stk := { s.stk with slots := s.stk.slots ++ [(1, { ctx := 2, seq := 1, cmd := { cmd1 with op := .write }, arrival := 0 })] } }; t.nsBusy 1 = true) ∧
    (let s := nsHead .nsDelete; let t : State := { s with chs := { ns := [(1, { state := .remote, owner := 1 })] } }; (t.ns 1).state = .remote) ∧
    (∃ x vals, (nsHead .getLogPage).adminTask 0 .getLogPage = some x ∧ isInbound x.ctx = false ∧ (nsHead .getLogPage).logPage x.cmd.host 0x0C = some vals) ∧
    (∃ x, (nsHead .identify).adminTask 0 .identify = some x ∧ isInbound x.ctx = false) ∧
    ((0x06 : Nat) ∉ [0x01, 0x02, 0x03, 0x04, 0x05, 0x09, 0x0C, 0x80, 0xC0]) :=
  ⟨⟨_, by rfl, by decide +kernel⟩, by decide +kernel, by decide +kernel, ⟨_, by rfl, by decide +kernel⟩, by decide +kernel, by decide +kernel, ⟨_, _, by rfl, by decide +kernel, by rfl⟩, ⟨_, by rfl, by decide +kernel⟩, by decide +kernel⟩

/-- A head whose channel 7 of the Temper pairs is being written to the scrap list. -/
def scrapHead : State := (headIn .solo).scrapEntry ⟨9, 7⟩ 1 9 0x0601

/-- A head in Recovery with a device ID. -/
def recHead : State := { (headIn .recovery) with fm := { (headIn .recovery).fm with hallmark := { fuses := { deviceId := 0x11 } } } }

/-- A scrap-clear file of one pair, of kind 1 and index 2, with a signature block of zeros. -/
def clearFile : Bytes := leBytes 0x11 16 ++ leBytes 1 4 ++ leBytes 0x01000002 4 ++ zeros 104

theorem witness_ChannelFaults :
    (3 < Kind.count 9 ∧ (headIn .solo).isOut 9 3 = false ∧ (headIn .solo).gly.dump = none ∧ (9 : Nat) ≠ 5) ∧
    (Tab.freeKey (headIn .solo).flt.scrap 0 4096 = some 0 ∧ (Tab.get ({} : Window) (headIn .solo).flt.windows (Chan.key ⟨9, 3⟩)).count + 1 ≤ (headIn .solo).perHour ∧ 1 ≤ (headIn .solo).perHour ∧ (([] : List Bool).take (headIn .solo).retryLimit).contains true = false) ∧
    (([false, true].take (headIn .solo).retryLimit).contains true = true) ∧
    (let s : State := { (headIn .solo) with flt := { windows := [(Chan.key ⟨9, 3⟩, ⟨true, 0, 8⟩)] } }; s.perHour < (Tab.get ({} : Window) (s.countChannel ⟨9, 3⟩).flt.windows (Chan.key ⟨9, 3⟩)).count) ∧
    (let s : State := { (headIn .solo) with gly := { dump := some ⟨false, false, 1, [], 0, 0, false⟩ } }; s.gly.dump ≠ none ∧ s.isOut 12 3 = false ∧ 3 < Kind.count 12) ∧
    (let s : State := { (headIn .solo) with flt := { out := [⟨9, 3⟩] } }; s.isOut 9 3 = true) ∧
    (∃ e, Tab.find scrapHead.flt.scrap 0 = some e ∧ 0 ∈ scrapHead.flt.writing ∧ e.kind = Kind.temper ∧ e.index < 32) ∧
    (recHead.fm.mode = .recovery ∧ recHead.mgmtTakes ⟨1500, false⟩ = true ∧ leAt clearFile 16 4 = 1 ∧ clearFile.length = 20 + 4 * leAt clearFile 16 4 + 104 ∧ leAt clearFile 0 16 = recHead.fm.hallmark.fuses.deviceId ∧ ((clearPairs clearFile).all fun c => ([1, 2, 4, 6, 12] : List Nat).contains c.1) = true) ∧
    (leAt ([] : Bytes) 16 4 = 0) ∧ ((headIn .paired).fm.mode ≠ .recovery) ∧
    ((headIn .solo).labMode = false ∧ (headIn .solo).fm.mode ≠ .banked ∧ ((headIn .solo).fm.smith.gated.contains (2 * 3) && (headIn .solo).fm.smith.gated.contains (2 * 3 + 1)) = false) ∧
    ((headIn .banked).fm.mode = .banked ∧ (4 : Nat) ≠ 5) ∧ (let s : State := { (headIn .solo) with fm := { (headIn .solo).fm with lab := true } }; s.labMode = true) :=
  ⟨by decide +kernel, by decide +kernel, by decide +kernel, by decide +kernel, by decide +kernel, by decide +kernel, ⟨_, by rfl, by decide +kernel⟩, by decide +kernel⟩

/-- A pointer that names slot A. -/
def ptrA (st : PtrState) : Pointer := ⟨1, false, st, 0, false, [], []⟩

/-- A Paired head with a pointer, a lease and a stage, and an update state as given; its partner and its pack meet Table 19.4. -/
def updHead (l : Option Lease) (f : Machine.Update → Machine.Update) : State :=
  let s : State := ((((((headIn .paired).wr F.GLY_BELLOWS_STALE 0).wr F.ANV_PAIR_PEER_MODE 4).wr F.ANV_BUNDLE_STATE0 2).wr F.ANV_BUNDLE_STATE1 2).wr F.GLY_BELLOWS_ENERGY 3000).wr F.UPD_CTRL_ENABLE 1
  { s with upd := f { ptr0 := some (ptrA .confirmed), lease := l }, gly := { s.gly with peer := { s.gly.peer with seen := true, e := 100, req := 100 } } }

/-- The same with a Firmware Commit in slot 0. -/
def commitHead (a n : Nat) (f : Machine.Update → Machine.Update) : State :=
  let s := updHead (some ⟨0, 1, 0⟩) f
  { s with stk := { slots := [(0, { ctx := 0, seq := 0, cmd := { cid := 1, op := .fwCommit, nsid := 0, ranges := [(a, n)] }, arrival := 0 })], ctxs := [(0, { state := .live, kind := .admin, cntlid := 1, hasSq := true, hasCq := true })] } }

/-- An update that has staged a verified image in slot B. -/
def stagedB (u : Machine.Update) : Machine.Update := { u with stage := .staged, slotB := { blocks := [(0, [])], verified := true } }

theorem witness_ImagesAndRecovery :
    ((updHead none id).upd.lease = none ∧ (updHead none id).on F.UPD_CTRL_OWNER_LOCK = false ∧ (updHead none id).on F.UPD_CTRL_ENABLE = true ∧ (updHead none id).stepWaits = false ∧ (((updHead none id).mgmtTaken ⟨1500, false⟩).takeTransfer 1 9 0 [] false).1 = 0 ∧ (updHead none id).mgmtTakes ⟨1500, false⟩ = true ∧ (updHead none id).mgmtTakes ⟨10000, false⟩ = false ∧
      (updHead none id).mctpTakes ⟨true, (updHead none id).sidebandAddr, 1, 5⟩ 5 = true ∧ (updHead none id).mctpTakes ⟨false, 0, 1, 5⟩ 5 = false) ∧
    (∃ l, (updHead (some ⟨0, 1, 0⟩) id).upd.lease = some l ∧ ¬ (l.source = 1 ∧ l.holder = 9) ∧ l.source ≠ 2) ∧
    (((updHead none id).wr F.UPD_CTRL_OWNER_LOCK 1).on F.UPD_CTRL_OWNER_LOCK = true) ∧
    (let s := updHead (some ⟨0, 1, 0⟩) fun u => { u with slotB := { blocks := [(0, zeros 16 ++ leBytes 200000 4)] } }; s.stagingSlot = true ∧ s.contentLen s.stagingSlot = some 200000 ∧ blockContent * (1 + 1) ≤ 200000 ∧ Tab.find s.upd.parts 1 = none ∧ (s.slot s.stagingSlot).blocks ≠ []) ∧
    ((zeros 65536).length = 65536) ∧
    (let s := commitHead 0 0 id; let t : State := { s with stk := { s.stk with slots := [(0, { ctx := 0, seq := 0, cmd := { cid := 1, op := .fwDownload, nsid := 0, ranges := [(0, 4)] }, need := 4, data := zeros 4, arrival := 0 })] } };
      ∃ x, t.adminTask 0 .fwDownload = some x ∧ x.complete = true ∧ t.stepWaits = false ∧ isInbound x.ctx = false) ∧
    (let s := (updHead (some ⟨0, 1, 0⟩) id).wr F.TIM_NOW_NS 1800000000000; ∃ l, s.upd.lease = some l ∧ l.since + 30 * 60000000000 ≤ s.now ∧ s.upd.act = .none) ∧
    (let s := (updHead (some ⟨0, 1, 0⟩) id).wr F.TIM_NOW_NS 1799999999999; ∃ l, s.upd.lease = some l ∧ s.now < l.since + 30 * 60000000000) ∧
    (let s := updHead none fun u => { u with stage := .verifying }; s.upd.stage = .verifying ∧ s.stepWaits = false) ∧
    (let s := ((updHead none fun u => { u with ptr0 := some (ptrA .trial) }).wr F.UPD_CONFIRM_MINUTES 1).wr F.TIM_NOW_NS 60000000000;
      s.onTrial = true ∧ s.rd F.UPD_CONFIRM_MINUTES ≠ 0 ∧ s.inMode [.paired, .solo] = true ∧ s.upd.confirmFrom + s.rd F.UPD_CONFIRM_MINUTES * 60000000000 ≤ s.now) ∧
    (let s := (updHead none id).wr F.UPD_CONFIRM_MINUTES 1; s.now < s.upd.confirmFrom + s.rd F.UPD_CONFIRM_MINUTES * 60000000000 ∧ s.onTrial = false) ∧
    ((headIn .recovery).fm.mode = .recovery ∧ (zeros 4) ≠ [] ∧ (headIn .recovery).mgmtTakes ⟨1500, false⟩ = true) ∧ ((headIn .solo).fm.mode ≠ .recovery) :=
  ⟨by decide +kernel, ⟨_, by rfl, by decide +kernel⟩, by decide +kernel, by decide +kernel, List.length_replicate .., ⟨_, by rfl, by decide +kernel⟩, ⟨_, by rfl, by decide +kernel⟩, ⟨_, by rfl, by decide +kernel⟩,
   by decide +kernel⟩

theorem witness_CommitsAndActivation :
    (let s := commitHead 0 0 fun u => { stagedB u with partnerStaged := true };
      ∃ x, s.adminTask 0 .fwCommit = some x ∧ x.cmd.ranges = [(0, 0)] ∧ isInbound x.ctx = false ∧ s.stepWaits = false ∧ s.upd.lease.map (fun l => (l.source, l.holder)) = some (0, (s.ctx x.ctx).cntlid) ∧ s.upd.stage = .staged ∧ s.upd.partnerStaged = true) ∧
    (let s := commitHead 0 0 stagedB; ∃ x, s.adminTask 0 .fwCommit = some x ∧ s.upd.partnerStaged = false ∧ s.upd.fail = none ∧ s.upd.relay = none ∧ s.paired = true) ∧
    (let s := commitHead 1 0 fun u => { stagedB u with partnerStaged := true, relayed := some 1 }; ∃ x p, s.adminTask 0 .fwCommit = some x ∧ x.cmd.ranges = [(1, 0)] ∧ s.upd.relayed = some 1 ∧ s.pointer = some p ∧ s.on F.UPD_CTRL_OWNER_LOCK = false) ∧
    (let s := commitHead 2 2 fun u => { stagedB u with relayed := some 2 }; ∃ x p, s.adminTask 0 .fwCommit = some x ∧ x.cmd.ranges = [(2, 2)] ∧ s.upd.relayed = some 2 ∧ s.pointer = some p ∧ (2 == 2) ≠ p.active ∧ (s.slot (2 == 2)).verified = true) ∧
    (let s := commitHead 2 2 id; ∃ x, s.adminTask 0 .fwCommit = some x ∧ (2 == 2) ≠ s.activeSlot ∧ (s.slot (2 == 2)).verified = false) ∧
    (let s := commitHead 3 0 fun u => { stagedB u with act := .peerFirst }; ∃ x, s.adminTask 0 .fwCommit = some x ∧ x.cmd.ranges = [(3, 0)] ∧ s.upd.act ≠ .none) ∧
    (let s := commitHead 3 0 stagedB; ∃ x, s.adminTask 0 .fwCommit = some x ∧ s.upd.act = .none ∧ s.upd.want = false ∧ s.upd.fail = none ∧ s.hasStaged = true ∧ s.actCheck false false = 0 ∧ s.actCheck true false ≠ 0) ∧
    (let s := updHead (some ⟨1, 9, 0⟩) fun u => { stagedB u with partnerStaged := true }; ∃ l, s.stepWaits = false ∧ s.upd.lease = some l ∧ l.source = 1 ∧ l.holder = 9 ∧ s.upd.stage = .staged ∧ s.upd.partnerStaged = true) ∧
    (let s := updHead (some ⟨2, 9, 0⟩) stagedB; ∃ l, s.stepWaits = false ∧ s.upd.lease = some l ∧ l.source = 2 ∧ l.holder = 9 ∧ s.hasStaged = true ∧ s.actCheck false false = 0 ∧ s.actCheck false true ≠ 0 ∧ s.upd.relay = none ∧ s.paired = true) ∧
    ((updHead none id).hasStaged = false ∧ (headIn .solo).paired = false ∧ (headIn .solo).stepWaits = false) ∧
    (let s := adminHead .updateCompare; ∃ x, s.adminTask 0 .updateCompare = some x ∧ isInbound x.ctx = false) ∧
    (let s := adminHead .updateCompare; let t : State := { s with stk := { s.stk with slots := [(0, { ctx := 65488, seq := 0, cmd := { cid := 0, op := .updateCompare, nsid := 0 }, need := 0, arrival := 0 })] } };
      ∃ x, t.adminTask 0 .updateCompare = some x ∧ isInbound x.ctx = true ∧ x.complete = true) ∧
    (let s := updHead (some ⟨0, 1, 0⟩) fun u => { stagedB u with want := true, compared := some (true, true) }; s.upd.want = true ∧ s.upd.relay = none ∧ s.stepWaits = false ∧ s.upd.compared = some (true, true) ∧ s.actCheck false false = 0) ∧
    (let s := updHead (some ⟨0, 1, 0⟩) fun u => { stagedB u with want := true, compared := some (false, true) }; s.upd.compared = some (false, true) ∧ s.upd.fail = none) ∧
    (let s : State := { (headIn .activation) with pwr := { entry := some .activation }, stk := { linksDown := true } }; s.pwr.entry = some .activation ∧ s.handedOver = true) ∧ ((owning (headIn .activation)).handedOver = false) ∧
    (let s := updHead (some ⟨0, 1, 0⟩) fun u => { u with stage := .activating, act := .peerFirst, initiator := true, compared := some (true, true) };
      s.upd.initiator = true ∧ s.upd.act = .peerFirst ∧ s.upd.relay = none ∧ s.fm.mode = .paired ∧ s.anv.handback = none ∧ s.anv.taken = [] ∧ s.stepWaits = false ∧ s.upd.formeOnly = false ∧ s.upd.compared = some (true, true) ∧ s.actCheck false false = 0 ∧ s.actCheck true false ≠ 0 ∧ s.onlyForme = false) ∧
    (let s := updHead (some ⟨0, 1, 0⟩) fun u => { u with stage := .activating, act := .peerFirst, initiator := true, compared := some (true, false) }; s.upd.compared = some (true, false)) ∧
    (let s := (updHead (some ⟨0, 1, 0⟩) fun u => { u with act := .waitingSecond }).wr F.TIM_NOW_NS 86400000000000; s.upd.act = .waitingSecond ∧ s.upd.waitFrom + 24 * 3600000000000 ≤ s.now) ∧
    (let s := (updHead (some ⟨0, 1, 0⟩) fun u => { u with act := .waitingSecond }).wr F.TIM_NOW_NS 86399999999999; s.now < s.upd.waitFrom + 24 * 3600000000000) :=
  ⟨⟨_, by rfl, by decide +kernel⟩, ⟨_, by rfl, by decide +kernel⟩, ⟨_, _, by rfl, by decide +kernel, by decide +kernel, by rfl, by decide +kernel⟩, ⟨_, _, by rfl, by decide +kernel, by decide +kernel, by rfl, by decide +kernel⟩,
   ⟨_, by rfl, by decide +kernel⟩, ⟨_, by rfl, by decide +kernel⟩, ⟨_, by rfl, by decide +kernel⟩, ⟨_, by decide +kernel, by rfl, by decide +kernel⟩, ⟨_, by decide +kernel, by rfl, by decide +kernel⟩, by decide +kernel,
   ⟨_, by rfl, by decide +kernel⟩, ⟨_, by rfl, by decide +kernel⟩, by decide +kernel⟩

/-- A head with Stereotype on, a volume 5 as given, and STE_ARG0. -/
def steHead (v : Volume) (arg : Nat) : State :=
  let s : State := ((headIn .paired).wr F.STE_CTRL_ENABLE 1).wr F.STE_ARG0_ARG arg
  { s with vols := [(5, v)], chs := { ns := [(1, { state := .loc, volume := 5 })] } }

/-- A live volume of namespace 1. -/
def vol1 : Volume := { nsid := 1, state := .live, family := 5 }

/-- A session as given, in number 0, of volume 5. -/
def sessHead (f : Session → Session) : State :=
  let s := steHead { vol1 with nsid := 0, snapshot := true } 5
  { s with ste := { s.ste with sessions := [(0, f { state := .idle, volume := 5, realm := 0, id := 3, link := true, keyed := true })] } }

/-- A session descriptor of a target for volume 5. -/
def descOf (target : Bool) : Bytes :=
  let w0 := (if target then 2 ^ 62 + 1 else 0) + 5 * 2 ^ 32
  let b := leBytes w0 8 ++ leBytes 0 8 ++ zeros 16 ++ zeros 48 ++ zeros 44
  b ++ leBytes (crc32c b) 4

/-- A HELLO or HELLO_ACK record of version 1.0, for realm 0 and session 3, with nothing in its keys. -/
def helloRec (t : ReplType) : Bytes := replHeader 0x0100 t.code 0 3 233 0 ++ helloBody 0x0100 0 0 (zeros 32) (zeros 97) ++ zeros 96

theorem witness_FamilyCommands :
    (let s := steHead vol1 5; SteReady s ∧ s.rd F.STE_ARG0_ARG % 2 ^ 24 = 5 ∧ Tab.find s.vols 5 = some vol1 ∧ s.familyHome vol1 = some true ∧ s.familyFull vol1.family = none ∧ s.freeVolume = some 1) ∧
    (let s := steHead vol1 6; SteReady s ∧ Tab.find s.vols (s.rd F.STE_ARG0_ARG % 2 ^ 24) = none ∧ s.familyHome {} = some true) ∧
    (let s : State := { (steHead vol1 5) with vols := (List.range 256).map fun i => (i + 5, vol1) }; SteReady s ∧ Tab.find s.vols (s.rd F.STE_ARG0_ARG % 2 ^ 24) = some vol1 ∧ s.familyFull vol1.family = some 1) ∧
    (let v : Volume := { vol1 with nsid := 0, snapshot := true }; let s := steHead v (5 + 2 * 2 ^ 24); SteReady s ∧ Tab.find s.vols (s.rd F.STE_ARG0_ARG % 2 ^ 24) = some v ∧ s.familyHome v = some true ∧ v.state = .live ∧ v.snapshot = true ∧ s.freeVolume = some 1 ∧
      bits (s.rd F.STE_ARG0_ARG) 39 24 = 2 ∧ (s.ns 2).state = .unused) ∧
    (let v : Volume := { vol1 with nsid := 0 }; let s := steHead v 5; Tab.find s.vols (s.rd F.STE_ARG0_ARG % 2 ^ 24) = some v ∧ s.familyHome v = some true ∧ v.state = .live ∧ v.nsid = 0) ∧
    ((headIn .paired).on F.STE_CTRL_ENABLE = false) ∧
    (let w : SnapWait := { volume := 7, source := 5, nsid := 1, stamp := 3, seqEnd := some 2, record := some 3, why := .cmd }; let s : State := { ((steHead vol1 5).wr F.HTH_JOURNAL_SEQ 3) with ste := { snaps := [w] } };
      s.ste.snaps.find? (fun x => x.volume == w.volume) = some w ∧ w.seqEnd = some 2 ∧ w.record = some 3 ∧ 3 ≤ s.rd F.HTH_JOURNAL_SEQ ∧ w.why = .cmd) ∧
    (let w : SnapWait := { volume := 7, source := 5, nsid := 1, stamp := 3, why := .cmd }; let s : State := { ((steHead vol1 5).wr F.HTH_JOURNAL_SEQ 3) with ste := { snaps := [w] } };
      s.ste.snaps = [w] ∧ s.snapQuiet w = true ∧ s.hth.journal.flush = none ∧ s.hth.journal.ckpt.seqEnd < s.rd F.HTH_JOURNAL_SEQ) ∧
    ((steHead vol1 5).ste.snaps.find? (fun x => x.volume == 9) = none) ∧
    (let v : Volume := { vol1 with nsid := 0, state := .deleting, pages := [(0, 11), (64, 12)] }; let s : State := { (steHead v 5) with ste := { walks := [5] } }; Tab.find s.vols 5 = some v ∧ v.state = .deleting ∧ 5 ∈ s.ste.walks ∧ s.on F.STE_CTRL_DELETE_PAUSE = false ∧ v.pages = (0, 11) :: [(64, 12)]) ∧
    (let v : Volume := { vol1 with nsid := 0, state := .deleting, pages := [] }; let s : State := { (steHead v 5) with ste := { walks := [5] } }; Tab.find s.vols 5 = some v ∧ v.pages = []) ∧
    (((steHead vol1 5).wr F.STE_CTRL_DELETE_PAUSE 1).on F.STE_CTRL_DELETE_PAUSE = true) := by
  and_intros <;> decide +kernel

theorem witness_ReplicationSessions :
    (SteReady (steHead vol1 5) ∧ sessOf [] = none) ∧
    (∃ e, sessOf (descOf true) = some e ∧ Tab.freeKey (steHead { vol1 with nsid := 0 } 5).ste.sessions 0 16 = some 0 ∧ (steHead { vol1 with nsid := 0 } 5).sessRefusal e = none ∧ (steHead { vol1 with nsid := 0 } 5).freeVolume = some 1 ∧ e.isTarget = true ∧ e.volume ≠ 0) ∧
    (∃ e, sessOf (descOf false) = some e ∧ Tab.freeKey (steHead vol1 5).ste.sessions 0 16 = some 0 ∧ (steHead vol1 5).sessRefusal e = none ∧ (steHead vol1 5).freeVolume = some 1 ∧ e.isTarget = false) ∧
    (Tab.freeKey ((List.range 16).map fun i => (i, ({ state := .idle } : Session))) 0 16 = none) ∧
    (let s := sessHead id; SteReady s ∧ s.rd F.STE_ARG0_ARG % 2 ^ 24 = 5 ∧ Tab.find s.vols 5 = some { vol1 with nsid := 0, snapshot := true } ∧ s.selSess = 0 ∧ (s.sess 0).state = .idle ∧ (s.sess 0).isTarget = false ∧ (s.sess 0).sync = false ∧ (s.sess 0).delta = none) ∧
    (SteReady (steHead vol1 5) ∧ ((steHead vol1 5).sess (steHead vol1 5).selSess).state = .free) ∧
    (let s := sessHead fun e => { e with sync := true }; SteReady s ∧ (s.sess s.selSess).sync = true ∧ (s.sess s.selSess).isTarget = false ∧ (s.sess s.selSess).state ≠ .free) ∧
    (∃ h, helloOf .hello (helloRec .hello) = some h ∧ h.realm = ((sessHead fun e => { e with isTarget := true }).sess 0).realm ∧ (replHead (helloRec .hello)).session = ((sessHead id).sess 0).id ∧ (sessHead id).replVersion h.version = some 0x0100) ∧
    (∃ h, helloOf .helloAck (helloRec .helloAck) = some h ∧ (replHead (helloRec .helloAck)).session ≠ 0 ∧ ((sessHead fun e => { e with keyed := false }).sess 0).keyed = false ∧ (sessHead id).replVersion h.version = some 0x0100) ∧
    (∃ b, clearBody .keys (replHeader 0x0100 3 0 3 123 0 ++ zeros 123) = some b ∧ b.length = 123 ∧ (replHead (replHeader 0x0100 3 0 3 123 0 ++ zeros 123)).session = ((sessHead fun e => { e with isTarget := true, keyed := false }).sess 0).id) ∧
    (((sessHead id).sess 0).state ≠ .free ∧ ((sessHead id).sess 0).keyed = true) ∧
    (∃ b, clearBody .error (replHeader 0x0100 19 0 0 2 0 ++ [1#8, 0#8]) = some b ∧ ({ (sessHead id) with ste := { (sessHead id).ste with opening := some 0 } } : State).ste.opening = some 0) ∧
    (((sessHead fun e => { e with isTarget := true }).sess 0).isTarget = true) ∧
    (let s := sessHead fun e => { e with state := .inSync, sync := true, strict := true }; (s.sess 0).state = .inSync ∧ (s.sess 0).sync = true ∧ (s.sess 0).strict = true ∧ (s.sess 0).isTarget = false) ∧
    (let s := (sessHead fun e => { e with state := .inSync, sync := true }).wr F.TIM_NOW_NS 600000000000; (s.sess 0).strict = false ∧ (s.sess 0).lastMark + 600000000000 ≤ s.now ∧ s.familyFull (Tab.get {} s.vols (s.sess 0).volume).family = none ∧ s.freeVolume = some 1) ∧
    ((sessHead id).now < ((sessHead id).sess 0).lastMark + 600000000000 ∧ ((sessHead id).sess 0).out = []) ∧
    (let o : SyncOut := { stamp := 4 }; let s := (sessHead fun e => { e with state := .inSync, sync := true, timeoutMs := 100, out := [o] }).wr F.TIM_NOW_NS 100000000; o ∈ (s.sess 0).out ∧ o.mark = none ∧ o.sentAt + (s.sess 0).timeoutMs * 1000000 ≤ s.now ∧ (s.sess 0).strict = false) ∧
    (let o : SyncOut := { stamp := 4 }; let s := (sessHead fun e => { e with state := .inSync, sync := true, strict := true, timeoutMs := 100, out := [o] }).wr F.TIM_NOW_NS 100000000; o ∈ (s.sess 0).out ∧ (s.sess 0).strict = true ∧ s.keyPending (s.sess 0).realm = false) :=
  ⟨by decide +kernel, ⟨(sessOf (descOf true)).getD {}, by decide +kernel⟩, ⟨(sessOf (descOf false)).getD {}, by decide +kernel⟩, by decide +kernel, by decide +kernel, by decide +kernel, by decide +kernel, ⟨_, by rfl, by decide +kernel⟩, ⟨_, by rfl, by decide +kernel⟩,
   ⟨_, by rfl, by decide +kernel⟩, by decide +kernel, ⟨_, by rfl, by decide +kernel⟩, by decide +kernel⟩

/-- The statements about sealed records assume nothing; their clauses apply to sessions such as these. What a record opens to is what the open function gcmOpen gives. -/
theorem witness_ReplicationRecords :
    (let s := sessHead fun e => { e with isTarget := true }; (s.sess 0).isTarget = true ∧ (s.sess 0).delta = none ∧ Tab.find s.vols 0 = none ∧ Tab.find s.vols 9 = none ∧ s.ste.snaps = [] ∧ s.familyFull (Tab.get {} s.vols (s.sess 0).volume).family = none ∧ s.freeVolume = some 1 ∧ GuardFree s 0) ∧
    (let s := sessHead fun e => { e with isTarget := true, delta := some { id := 1, base := 0, peerBase := 0, new := 5 } }; ∃ d, (s.sess 0).delta = some d ∧ d.id = 1) ∧
    (let s := sessHead fun e => { e with delta := some { id := 1, base := 0, peerBase := 0, new := 5, segment := 1, exts := [⟨0, 1, 0, true, false, false⟩] } }; ∃ d, (s.sess 0).isTarget = false ∧ (s.sess 0).sync = false ∧ (s.sess 0).out = [] ∧ (s.sess 0).delta = some d ∧ d.exts ≠ [] ∧ d.have_ = [] ∧ d.segment = 1) ∧
    (∃ o : SyncOut, o.mark = none ∧ o.seq ≠ 0) ∧ ((zeros 1) ≠ []) ∧ (mendEntries 16 (leBytes 3 8 ++ zeros 8) = [(3, [])]) ∧
    (let s : State := { (sessHead id) with ste := { (sessHead id).ste with mends := [⟨0, 0, 5, [(3, 9)], false⟩] } }; ∃ m, s.ste.mends = [m] ∧ m.sess = 0 ∧ m.grains = [(3, 9)]) :=
  ⟨by decide +kernel, ⟨_, by rfl, by decide +kernel⟩, ⟨_, by decide +kernel, by decide +kernel, by decide +kernel, by rfl, by decide +kernel⟩, ⟨{ stamp := 1, seq := 1 }, by decide⟩, by decide, by decide +kernel, ⟨_, by rfl, by decide +kernel⟩⟩

/-- A flit of a first word with a payload of zeros and a good FCRC. -/
def flitOf (w : Nat) : Bytes := leBytes w 8 ++ zeros 240 ++ leBytes (crc64 (leBytes w 8 ++ zeros 240)) 8

/-- What the partner of a Joining head says of itself. -/
def helloTo (s : State) : HelloInfo := { version := 0x0101, head := 1, mode := 3, formeId := 7, digest := s.pairDigest, galleyGib := 1, filterGib := 1, epoch := 0, dumpEpoch := 0, format := 0x0100 }

theorem joinFault_helloTo (m : Mode) : (linkHead m 2 2).joinFault (helloTo (linkHead m 2 2)) (some 0x0101) = none := by
  have a : ¬ (0x0101 < ((linkHead m 2 2).fm.forme.map (·.minAnvil)).getD 0) := by cases m <;> decide +kernel
  have b : (1 : Nat) ≠ (linkHead m 2 2).head := by cases m <;> decide +kernel
  have c : (1 : Nat) = (linkHead m 2 2).galleyGib := by cases m <;> decide +kernel
  have d : ((linkHead m 2 2).fm.forme.map (·.version)).getD 0x0100 = 0x0100 := by cases m <;> decide +kernel
  have e : (linkHead m 2 2).bundleMask = 3 := by cases m <;> decide +kernel
  simp [State.joinFault, helloTo, a, b, ← c, d, e]

theorem witness_BundleLinks :
    (let s := linkHead .paired 2 2; s.bundleState false = 2 ∧ s.bundleState true = 2 ∧ s.bundleRetired false = false) ∧
    (let f := flitOf (2 ^ 12); f.length = 256 ∧ leAt f 0xF8 8 = crc64 (f.take 0xF8) ∧ bits (leAt f 0 8) 11 0 = 0 ∧ bits (leAt f 0 8) 15 12 = 1 ∧ bits (leAt f 0 8) 63 40 = ((linkHead .paired 2 2).bundle false).nextIn) ∧
    (let f := flitOf (2 ^ 40 + 2 ^ 12); f.length = 256 ∧ bits (leAt f 0 8) 15 12 ≠ 0 ∧ bits (leAt f 0 8) 63 40 ≠ ((linkHead .paired 2 2).bundle false).nextIn) ∧
    (let f := flitOf 0; f.length = 256 ∧ leAt f 0xF8 8 = crc64 (f.take 0xF8) ∧ bits (leAt f 0 8) 15 12 = 0) ∧
    (let h := leBytes (0x04 * 2 ^ 56) 8; let k := h ++ leBytes (crc32c (h ++ zeros 4)) 4 ++ zeros 4; k.length = 16 ∧ headerOk k = true) ∧
    ((linkHead .paired 0 2).bundleState false ≠ 2 ∧ (linkHead .paired 0 2).bundleState false = 0) ∧
    (let s := (linkHead .paired 2 0).wr F.ANV_TONGS_ALIVE_OK 1; s.bundleState false = 2 ∧ s.bundleState (!false) ≠ 2 ∧ s.on F.ANV_TONGS_ALIVE_OK = true) ∧
    (let s := (linkHead .paired 0 2).wr F.TIM_NOW_NS 1000000000; s.bundleState false = 0 ∧ s.bundleRetired false = false ∧ bitOf s.bundleMask (bit false) = true ∧ (s.bundle false).tryAt + 1000000000 ≤ s.now) ∧
    (let s := linkHead .joining 1 0; s.bundleState false = 1 ∧ s.fm.mode = .joining ∧ s.anv.join.peer = none ∧ Hears s ∧ s.on F.ANV_TONGS_FENCE_IN = false) ∧
    (let s := (linkHead .paired 2 2).wr F.TIM_NOW_NS 10000000000; (s.bundle false).upAt + 10000000000 ≤ s.now) ∧ ((linkHead .paired 2 2).now < ((linkHead .paired 2 2).bundle false).upAt + 10000000000) ∧
    (let s : State := { ((linkHead .paired 0 0).wr F.TIM_NOW_NS 50000000) with anv := { bothDown := some 0 } }; s.anv.bothDown = some 0 ∧ 0 + 50000000 ≤ s.now ∧ s.bundleState false ≠ 2 ∧ s.bundleState true ≠ 2) ∧
    (let s : State := { (linkHead .paired 0 0) with anv := { bothDown := some 0 } }; s.anv.bothDown = some 0 ∧ s.now < 0 + 50000000) := by
  and_intros <;> decide +kernel

/-- A head bound and checked in Joining or Solo. -/
def boundHead (m : Mode) (peerMode : Nat) : State :=
  let s := linkHead m 2 2
  { s with anv := { s.anv with join := { peer := some { version := 0x0101, head := 1, mode := peerMode, formeId := 7, digest := [], galleyGib := 1, filterGib := 1, epoch := 0, dumpEpoch := 0 }, version := some 0x0101, checked := true } }, fm := { s.fm with hallmark := { s.fm.hallmark with prs := some [], bind := { offered := true, proven := true, peerNonce := [1#8] } } } }

theorem witness_JoiningAndStatus :
    (({ (linkHead .paired 2 2) with anv := { lost := true } } : State).anv.lost = true) ∧
    (let s := linkHead .joining 2 2; s.fm.mode = .joining ∧ s.pwr.state = .run ∧ s.fm.pins.fenceOut = false ∧ s.on F.ANV_CTRL_ENABLE = true ∧ chooseVersion (helloTo s).version = some 0x0101 ∧ s.anv.join.checked = false ∧ Hears s ∧ s.anv.join.stalled = none) ∧
    ((linkHead .joining 2 2).joinFault (helloTo (linkHead .joining 2 2)) (some 0x0101) = none ∧ (helloTo (linkHead .joining 2 2)).version / 256 = 1 ∧ (helloTo (linkHead .joining 2 2)).version ≤ anvilVersion) ∧
    (let s : State := { (linkHead .banked 2 2) with pwr := { state := .sleep } }; s.pwr.state = .sleep ∧ s.gly.dump = none) ∧
    (let s : State := { (linkHead .solo 2 2) with fm := { (linkHead .solo 2 2).fm with pins := { fenceOut := true } } }; s.pwr.state = .run ∧ s.fm.pins.fenceOut = true ∧ s.gly.dump = none) ∧
    (let s := linkHead .joining 2 2; let h : HelloInfo := { helloTo s with version := 0x0301 }; s.joinFault h (if h.version / 256 = 1 ∧ h.version ≤ anvilVersion then some h.version else none) = some .versionFail) ∧
    (let s : State := { (linkHead .joining 2 2) with anv := { join := { stalled := some 0 } } }; s.fm.mode = .joining ∧ s.anv.join.stalled ≠ none) ∧
    (let s := linkHead .solo 2 2; s.joinFault { helloTo s with head := s.peer, galleyGib := s.galleyGib } (chooseVersion (helloTo s).version) = none) ∧ ((linkHead .paired 2 2).fm.mode ≠ .solo ∧ (linkHead .paired 2 2).anv.rejoinWait = false) ∧
    (let s : State := { (linkHead .joining 2 2) with anv := { rejoinWait := true } }; Hears s ∧ s.anv.rejoinWait = true ∧ s.fm.mode = .joining) ∧
    (let s := boundHead .joining 3; Hears s ∧ s.anv.join.checked = true ∧ s.fm.mode = .joining ∧ s.anv.join.stalled = none ∧ s.fm.hallmark.prs = some [] ∧ s.fm.hallmark.bind.offered = true ∧ s.fm.hallmark.bind.peerNonce ≠ []) ∧
    (let s : State := { (boundHead .joining 3) with fm := { (boundHead .joining 3).fm with hallmark := { bind := { offered := true, peerNonce := [1#8] } } } }; s.fm.hallmark.prs = none ∧ s.fm.hallmark.bind.offered = true ∧ s.fm.hallmark.bind.peerNonce ≠ []) ∧
    (let s := (linkHead .joining 0 0).wr F.TIM_NOW_NS 30000000000; s.fm.mode = .joining ∧ s.anv.takeover = none ∧ s.anv.rejoinWait = false ∧ s.bundleState false ≠ 2 ∧ s.bundleState true ≠ 2 ∧ s.anv.edgeSeen = false ∧ s.anv.joinedAt + 30000000000 ≤ s.now) ∧
    ((boundHead .solo 3).joined1 = true ∧ (boundHead .solo 3).bundleMask = 3 ∧ (boundHead .solo 3).fm.mode = .solo ∧ (boundHead .solo 3).heldSlots = []) ∧ ((boundHead .joining 5).joined1 = true ∧ (boundHead .joining 5).bothForming = false) ∧ ((boundHead .joining 3).joined1 = true ∧ (boundHead .joining 3).bothForming = true) ∧
    ((linkHead .joining 2 2).joined1 = false) :=
  ⟨by decide +kernel, by decide +kernel, ⟨joinFault_helloTo _, by decide +kernel⟩, by decide +kernel, by decide +kernel, by decide +kernel, by decide +kernel, joinFault_helloTo _, by decide +kernel⟩

/-- The descriptor bytes of a Write Zeroes piece of the partner with `n` slots, with a good DESC_CRC. -/
def descBytes (n : Nat) : Bytes :=
  let b := leBytes 5 8 ++ leBytes (2 ^ 48 + 2 ^ 43 + 2 ^ 40 + 1) 8 ++ leBytes 0 8 ++ leBytes (n * 2 ^ 22) 8 ++ leBytes (crc64 []) 8 ++ leBytes 0 8 ++ leBytes 0 8
  b ++ leBytes (crc32c b) 4 ++ leBytes 3 4

/-- A Paired head that talks to its partner, with own and mirrored pieces at 3. -/
def mirrorHead : State :=
  { linkHead .paired 2 2 with gly := { own := [(3, { piece1 with gen := 4 })], mirror := [(3, { piece1 with owner := 1, gen := 4 })] } }

theorem witness_Mirroring :
    (({ (linkHead .paired 2 2) with anv := { lost := true } } : State).anv.lost = true) ∧
    (Hears mirrorHead ∧ (zeros 8448).length = 2 * 4224) ∧ ((zeros 5).length % 4224 ≠ 0) ∧
    (∃ p, Talks mirrorHead ∧ Piece.ofDesc (descBytes 0) = some p ∧ (if p.kind = .repeated then mirrorHead.repeatedSlots p = some [] else [] = mirrorHead.mirrorSlots p ∧ ([] : Bytes).length = p.slotCnt * 4224) ∧ crc64 [] = p.digest ∧ ¬ (p.owner = mirrorHead.head ∧ mirrorHead.fm.mode = .joining)) ∧
    (Talks mirrorHead ∧ Piece.ofDesc (zeros 64) = none) ∧
    (∃ p, Talks mirrorHead ∧ Piece.ofDesc (descBytes 1) = some p ∧ p.kind ≠ .repeated ∧ ((mirrorHead.mirrorSlots p).length ≠ p.slotCnt * 4224 ∨ crc64 (mirrorHead.mirrorSlots p) ≠ p.digest)) ∧
    (Hears mirrorHead ∧ Tab.find mirrorHead.gly.own 3 = some { piece1 with gen := 4 }) ∧
    (Tab.find mirrorHead.gly.mirror 3 = some { piece1 with owner := 1, gen := 4 } ∧ ({ piece1 with owner := 1, gen := 4 } : Piece).gen ≠ 5) ∧
    (Talks mirrorHead ∧ mirrorHead.anv.ctl.ring = [] ∧ ({ seq := 1, recs := [] } : Batch).recs = [] ∧ 0 < ({ seq := 1, recs := [] } : Batch).seq) ∧
    (Talks mirrorHead ∧ mirrorHead.stk.slots = [] ∧ mirrorHead.hth.owed = []) ∧
    (let s : State := { ioHead .paired .read fun x => { x with sources := [(0, .grain 9)] } with hth := { sheets := [(1, { sorts := [⟨9, 0, 1⟩] })] } }; let t := State.wr s F.ANV_CTRL_ENABLE 1
      Talks t ∧ (∃ x, (0, x) ∈ t.stk.slots ∧ x.arrival ≤ t.now ∧ (0, Source.grain 9) ∈ x.sources) ∧ (⟨9, 0, 1⟩ : SortRec) ∈ (t.sheet 1).sorts) ∧
    (Hears mirrorHead ∧ 5 < 2 ^ 64 ∧ mirrorHead.imp.rebuild = none ∧ mirrorHead.imp.reshape = none) ∧
    (let b := zeros 7; b.length < 8) :=
  ⟨by decide +kernel, by decide +kernel, by decide +kernel, ⟨(Piece.ofDesc (descBytes 0)).getD piece1, by decide +kernel⟩, by decide +kernel, ⟨(Piece.ofDesc (descBytes 1)).getD piece1, by decide +kernel⟩, by decide +kernel, by decide +kernel, by decide +kernel,
   by decide +kernel, ⟨by decide +kernel, ⟨_, List.mem_singleton.mpr rfl, by decide +kernel⟩, by decide +kernel⟩, by decide +kernel⟩

/-- A Paired head that talks, with one command in slot 0 as `f` makes it, on context `c`. -/
def fwdHead (c : Nat) (op : Opcode) (f : Task → Task) : State :=
  State.wr { headIn .paired with stk := { ctxs := [(65488, { state := .live })], slots := [(0, f { ctx := c, seq := 0, cmd := { cid := 1, op := op, nsid := 1, ranges := [(0, 1)] }, arrival := 0, fwdId := 7 })] } } F.ANV_CTRL_ENABLE 1

/-- The same head with a token 5 for slot 0. -/
def tokenHead : State :=
  let s := fwdHead 65488 .write fun x => { x with need := 512, token := some 5 }
  { s with stk := { s.stk with tokens := [(5, { slot := some 0, stop := 512, gen := 2 })] } }

theorem witness_Forwarding :
    (let s := fwdHead 3 .write id; Hears s ∧ isOutbound 65472 = true ∧ (s.ctx (65472 + 16)).state = .live ∧ cmd1.op ≠ .fusedCompare ∧ cmd1.op ≠ .fusedWrite ∧ s.freeSlot = some 1) ∧
    (let s := fwdHead 3 .write id; Talks s ∧ isOutbound 65473 = true ∧ (s.ctx (65473 + 16)).state ≠ .live) ∧
    (let s := fwdHead 3 .write fun x => { x with state := .forwarded 65472, need := 4, data := zeros 4 }; ∃ x, Talks s ∧ s.fwdSlots 7 = [0] ∧ s.task? 0 = some x ∧ x.state = .forwarded 65472 ∧ x.complete = true ∧ x.cmd.op.carriesData = true ∧ s.fwdBase x ≤ 1 ∧ 1 < s.fwdBase x + x.need ∧ x.cmd.op ≠ .fusedWrite) ∧
    (let s := fwdHead 3 .write id; Hears s ∧ (Tab.get {} s.stk.tokens 5).slot = none ∧ s.portServes (65472 + 16) true = true) ∧
    (∃ k x, Hears tokenHead ∧ tokenHead.portServes (65472 + 16) true = true ∧ Tab.get {} tokenHead.stk.tokens 5 = k ∧ k.slot = some 0 ∧ tokenHead.task? 0 = some x ∧ x.ctx = 65472 + 16 ∧ x.fwdId = 7 ∧ x.cmd.op ≠ .fusedWrite ∧ k.again = false ∧ k.next = 0 ∧ 0 + (zeros 4).length < x.need ∧ 0 + (zeros 4).length ≤ k.stop ∧
      linkFail (tokenHead.volOf x.cmd.nsid) x (overlay x.data 0 (zeros 4)) 0 (min (0 + (zeros 4).length) x.need) = none) ∧
    (let s := fwdHead 3 .read fun x => { x with state := .forwarded 65472 }; ∃ x, Hears s ∧ s.fwdSlots 7 = 0 :: [] ∧ s.task? 0 = some x ∧ s.upd.relay = none ∧ x.state = .forwarded 65472 ∧ x.cmd.op ≠ .fusedCompare ∧ x.postAs = none ∧ isInbound x.ctx = false) ∧
    (let s := fwdHead 3 .read fun x => { x with state := .cancelling 65472, discard := true }; ∃ x, Hears s ∧ s.upd.relay = none ∧ s.fwdSlots 7 = [0] ∧ s.task? 0 = some x ∧ x.state = .cancelling 65472 ∧ x.discard = true ∧ x.fusedWith = none ∧ isInbound x.ctx = false) ∧
    (let s := fwdHead 65488 .flush fun x => { x with state := .dispatched }; ∃ x, Hears s ∧ s.inSlots (65472 + 16) 7 = [0] ∧ s.task? 0 = some x ∧ x.cmd.op ≠ .fusedWrite ∧ s.cancelTakes x = true) ∧
    (let s := fwdHead 65488 .read fun x => { x with state := .dispatched }; ∃ x, Talks s ∧ isOutbound 65472 = true ∧ s.inSlots (65472 + 16) 7 = [0] ∧ s.task? 0 = some x ∧ x.ctx = 65472 + 16 ∧ x.fwdId = 7 ∧ x.cmd.op ≠ .fusedWrite ∧ x.fusedWith = none ∧ x.postAs = none ∧ (s.ctx (65472 + 16)).movedTo = none ∧ s.cancelTakes x = false) ∧
    (let s := linkHead .paired 2 2; Hears s ∧ s.stk.slots = [] ∧ s.mtx.outstanding = [] ∧ s.upd.relay = none) :=
  ⟨by decide +kernel, by decide +kernel, ⟨_, by decide +kernel, by decide +kernel, by rfl, by decide +kernel⟩, by decide +kernel, ⟨_, _, by decide +kernel, by decide +kernel, by rfl, by decide +kernel, by rfl, by decide +kernel⟩,
   ⟨_, by decide +kernel, by decide +kernel, by rfl, by decide +kernel⟩, ⟨_, by decide +kernel, by decide +kernel, by decide +kernel, by rfl, by decide +kernel⟩, ⟨_, by decide +kernel, by decide +kernel, by rfl, by decide +kernel⟩,
   ⟨_, by decide +kernel, by decide +kernel, by decide +kernel, by rfl, by decide +kernel⟩, by decide +kernel⟩

/-- A Paired head that talks, with namespace 1 in a state. -/
def moving (st : NsState) (f : NsEntry → NsEntry) : State :=
  let s := linkHead .paired 2 2
  { s with chs := { s.chs with ns := [(1, f { state := st, volume := 1 })] } }

/-- A boundary record of namespace 1 that names one piece. -/
def boundary1 : Bytes := leBytes 1 4 ++ leBytes 1 4 ++ leBytes 7 8 ++ zeros 64 ++ leBytes 6 8 ++ leBytes 3 4 ++ leBytes 4 4

theorem witness_MovesOfNamespaces :
    (let s := moving .remote id; Talks s ∧ (s.ns 1).state = .remote ∧ s.inMode [.paired, .handback, .activation] = true ∧ s.pwr.entry = none) ∧
    ((moving .loc id).ns 1).state ≠ .remote ∧ (Hears (moving .loc id) ∧ isOutbound 65472 = true ∧ ((moving .loc id).ns 1).state = .loc) ∧
    (let s := moving .releasing id; Hears s ∧ (s.ns 1).state = .releasing ∧ 65472 + 16 ∉ (s.ns 1).begins) ∧
    (isOutbound 65488 = false) ∧
    (let s := moving .releasing fun e => { e with begins := (List.range 16).map (65488 + ·) };
      Talks s ∧ (s.ns 1).state = .releasing ∧ (s.ns 1).begins.length = 16 ∧ (s.ns 1).pending = 0 ∧ (s.ns 1).sent = false ∧ s.aheadWaits 1 = false ∧ (∀ e ∈ s.gly.own, e.2.nsid = 1 → e.2.applying = false ∧ e.2.refs = 0 ∧ (e.2.commit = true → e.2.applied = false → ∀ b ∈ s.hth.journal.waiting, After.applied e.1 ∉ b.after))) ∧
    (((moving .releasing id).ns 1).begins.length ≠ 16) ∧
    (let s := { moving .acquiring id with gly := { mirror := [(3, { piece1 with owner := 1, gen := 4 })] } };
      Talks s ∧ (s.ns (leAt boundary1 0 4)).state = .acquiring ∧ boundary1.length = 0x50 + 16 * leAt boundary1 4 4 ∧ leAt boundary1 4 4 = 1 ∧ Tab.find s.gly.mirror (leAt boundary1 0x58 4) = some { piece1 with owner := 1, gen := 4 } ∧ 4 = leAt boundary1 0x5C 4) ∧
    (let s := moving .releasing fun e => { e with sent := true }; Hears s ∧ (s.ns 1).state = .releasing ∧ (s.ns 1).sent = true ∧ s.anv.handback = none ∧ s.pwr.entry = none) ∧
    (let s := { (moving .releasing fun e => { e with sent := true }) with anv := { taken := [1, 2], handback := some ⟨[1], false⟩ } };
      Hears s ∧ (s.ns 1).state = .releasing ∧ (s.ns 1).sent = true ∧ s.anv.handback = some ⟨[1], false⟩ ∧ (∃ n ∈ s.anv.taken, n ≠ 1) ∧ s.pwr.entry = none) ∧
    (let s := (moving .acquiring id).wr F.TIM_NOW_NS 1000000001; (s.ns 1).state = .acquiring ∧ (s.ns 1).moveAt + 1000000000 < s.now) ∧ ((moving .loc id).ns 1).state ≠ .releasing := by
  and_intros <;> decide +kernel

/-- A head in a mode whose partner has shown an edge, at 10 µs. -/
def edgeHead (m : Mode) : State :=
  let s := (linkHead m 2 2).wr F.TIM_NOW_NS 10000
  { s with anv := { s.anv with edgeSeen := true }, chs := { s.chs with ns := [(1, { state := .remote }), (2, { state := .loc }), (3, { state := .releasing })] } }

/-- A head in Takeover that has won the seat. -/
def wonHead (k : Takeover) : State :=
  let s := edgeHead .takeover
  { s with anv := { s.anv with takeover := some k, lost := true }, gmp := { seatWon := true }, chs := { s.chs with ns := [(1, { state := .heldNs, volume := 1 })] }, vols := [(1, { nsid := 1, state := .live })] }

/-- A Paired head whose partner stands by and whose takeover list names namespaces 2 and 1. -/
def takenHead : State :=
  let s := (linkHead .paired 2 2).wr F.ANV_PAIR_PEER_MODE 4
  { s with anv := { s.anv with taken := [2, 1] } }

theorem witness_TakeoverAndHandback :
    ((linkHead .paired 2 2).now < 0 + 2000 ∧ (linkHead .paired 2 2).anv.edgeSeen = false) ∧
    (let s := edgeHead .paired; 0 + 8000 ≤ s.now ∧ s.anv.edgeSeen = true ∧ s.anv.lost = false ∧ s.fm.mode = .paired ∧ s.on F.ANV_PAIR_PARKED = false ∧ s.anv.yielded = false ∧ s.pwr.state = .run ∧ s.pwr.entry = none ∧ s.stk.slots = [] ∧ s.mtx.outstanding = [] ∧ s.gly.own = [] ∧ (∀ e ∈ s.chs.ns, e.1 = 3 → e.2 = s.ns 3) ∧ (s.ns 3).state = .releasing ∧ (s.ns 3).sent = false) ∧
    (let s := (edgeHead .paired).wr F.TIM_NOW_NS 2000; let u := (s.wr F.ANV_BUNDLE_STATE0 0).wr F.ANV_BUNDLE_STATE1 0; 0 + 2000 ≤ u.now ∧ u.bundleState false ≠ 2 ∧ u.bundleState true ≠ 2) ∧
    (let s := edgeHead .joining; 0 + 8000 ≤ s.now ∧ s.anv.edgeSeen = true ∧ s.anv.lost = false ∧ s.fm.mode = .joining ∧ s.pwr.state = .run) ∧
    ((edgeHead .paired).anv.takeover = none ∧ (edgeHead .paired).gmp.seatWon = false) ∧
    (let s := wonHead ⟨0, 1, false, false, false⟩; s.anv.takeover = some ⟨0, 1, false, false, false⟩ ∧ s.gmp.seatWon = true ∧ 1 < F.ANV_TAKEOVER_LAST_CAUSE.span ∧ s.stk.slots = [] ∧ s.gly.own = [] ∧ s.gly.mirror = [] ∧ s.gly.missing = [] ∧ s.gly.galleyLost = false) ∧
    ((wonHead ⟨0, 0, false, true, false⟩).anv.takeover = some ⟨0, 0, false, true, false⟩) ∧
    ((edgeHead .paired).inMode [.paired, .solo, .takeover, .handback, .activation, .banked] = true) ∧ ((edgeHead .forming).fm.mode ≠ .joining ∧ (edgeHead .forming).serving = false) ∧
    (let s : State := { edgeHead .takeover with anv := { takeover := some ⟨0, 1, false, false, false⟩ } }; s.anv.takeover ≠ none ∧ s.gmp.seatWon = false) ∧
    (let s := edgeHead .paired; s.fm.mode ≠ .joining ∧ s.rd F.ANV_PAIR_PEER_MODE ≠ 3 ∧ (s.wr F.ANV_HANDBACK_BUSY 1).on F.ANV_HANDBACK_BUSY = true ∧ s.on F.ANV_HANDBACK_BUSY = false ∧ s.rd F.ANV_PAIR_PEER_MODE ≠ 4) ∧
    (takenHead.handbackRefusal = none ∧ 3 ∉ takenHead.anv.taken ∧ 1 ∈ takenHead.anv.taken ∧ takenHead.anv.taken ≠ []) := by
  and_intros <;> decide +kernel

/-- A Paired head in a strike. -/
def striking (waits : List (Nat × Nat)) : State :=
  let s := linkHead .paired 2 2
  { s with anv := { s.anv with strike := some { id := 5, waits := waits, picks := [(3, 4)] }, peerStrike := some 9 }, gly := { own := [(3, { piece1 with gen := 4, dataIn := true, mirrorAck := true, digest := 6 })], mirror := [(2, piece1)] } }

theorem witness_ProofStrikes :
    ((striking []).anv.strike ≠ none) ∧ (let s := linkHead .paired 2 2; Talks s ∧ s.paired = true ∧ s.anv.strike = none ∧ s.anv.strikeAt = none) ∧
    (let s := linkHead .solo 2 2; s.paired = false ∧ s.anv.strike = none ∧ (s.fm.forme.map (·.loadTest)).getD false = false) ∧
    (let s : State := { linkHead .paired 2 2 with anv := { strikeAt := some 0 } }; s.anv.strikeAt = some 0 ∧ 0 ≤ s.now) ∧ (let s : State := { linkHead .paired 2 2 with anv := { strikeAt := some 1 } }; s.anv.strikeAt = some 1 ∧ s.now < 1) ∧
    (bitOf 0x1F 0 = true ∧ bitOf 0x1F 3 = true ∧ bitOf 7 0 = true ∧ bitOf 7 1 = true ∧ bitOf 7 2 = true) ∧
    (∃ k p, Talks (striking [(1, 0), (4, 0)]) ∧ (striking [(1, 0), (4, 0)]).anv.strike = some k ∧ (1, 0) ∈ k.waits ∧ (4, 0) ∈ k.waits ∧ k.picks = [(3, 4)] ∧ Tab.find (striking [(1, 0), (4, 0)]).gly.own 3 = some p ∧ p.gen = 4 ∧ p.dataIn = true ∧ p.mirrorAck = true) ∧
    (let s := striking []; Talks s ∧ s.anv.peerStrike = some 9 ∧ Tab.find s.gly.mirror 2 = some piece1 ∧ Tab.find s.gly.mirror 8 = none ∧ (∀ p, Tab.find s.gly.mirror 8 = some p → p.gen ≠ 1 ∨ crc64 p.data ≠ p.digest)) ∧
    (∃ k p, (striking [(2, 0), (4, 0)]).anv.strike = some k ∧ (2, 0) ∈ k.waits ∧ (4, 0) ∈ k.waits ∧ k.picks = [(3, 4)] ∧ Tab.find (striking [(2, 0), (4, 0)]).gly.own 3 = some p ∧ p.gen = 4) ∧
    (∃ k, (striking [(3, 0), (4, 0)]).anv.strike = some k ∧ (3, 0) ∈ k.waits ∧ (4, 0) ∈ k.waits) ∧
    (∃ k, Talks (striking [(4, 0)]) ∧ (striking [(4, 0)]).paired = true ∧ (striking [(4, 0)]).anv.strike = some k ∧ k.waits = [(4, 0)] ∧ k.kats = [] ∧ k.monthly = false) ∧
    (∃ k, (striking [(6, 0)]).anv.strike = some k ∧ k.waits = [(6, 0)] ∧ (striking [(6, 0)]).on F.GLY_BELLOWS_STALE = true ∧ ∀ w ∈ k.waits, w.1 = 6 ∨ (striking [(6, 0)]).now < w.2 + 100000000) ∧
    (∃ k, (State.wr (striking [(1, 1), (4, 0)]) F.TIM_NOW_NS 100000000).anv.strike = some k ∧ k.waits = [(1, 1), (4, 0)] ∧ 0 + 100000000 ≤ (State.wr (striking [(1, 1), (4, 0)]) F.TIM_NOW_NS 100000000).now ∧ (State.wr (striking [(1, 1), (4, 0)]) F.TIM_NOW_NS 100000000).now < 1 + 100000000) ∧
    (let s := (headIn .forming).wr F.GLY_BELLOWS_STALE 0; s.on F.GLY_BELLOWS_STALE = false ∧ s.serving = false ∧ s.anv.strike = none) ∧
    (let s := striking []; Hears s ∧ (∀ k, s.anv.strike = some k → k.id ≠ 77) ∧ s.anv.peerStrike ≠ some 77 ∧ (∀ k, s.anv.strike = some k → ∀ w ∈ k.waits, w.1 ≠ 6)) :=
  ⟨by decide +kernel, by decide +kernel, by decide +kernel, by decide +kernel, by decide +kernel, by decide +kernel, ⟨_, _, by decide +kernel, by rfl, by decide +kernel, by decide +kernel, by decide +kernel, by rfl, by decide +kernel⟩,
   ⟨by decide +kernel, by decide +kernel, by decide +kernel, by decide +kernel, fun p h => by cases h⟩, ⟨_, _, by rfl, by decide +kernel, by decide +kernel, by decide +kernel, by rfl, by decide +kernel⟩, ⟨_, by rfl, by decide +kernel⟩,
   ⟨_, by decide +kernel, by decide +kernel, by rfl, by decide +kernel⟩, ⟨_, by rfl, by decide +kernel⟩, ⟨_, by rfl, by decide +kernel⟩, by decide +kernel,
   ⟨by decide +kernel, fun k h => by cases h; decide, by decide +kernel, fun k h => by cases h; decide⟩⟩

theorem witness_StepRunsFront : ({ pending := [Instr.anvPark, Instr.pllLock] } : State).pending = Instr.anvPark :: Instr.pllLock :: [] ∧ ({} : State).pending = [] ∧
    ∃ t, step { pending := [Instr.anvPark, Instr.pllLock] } = .next t ∧ t.pending = Instr.pllLock :: [] := ⟨rfl, rfl, _, rfl, by decide +kernel⟩

theorem witness_LegalKept : Legal State.reset ∧ ∃ t, step { State.reset with pending := [Instr.anvPark] } = .next t :=
  ⟨⟨by intro h; exact absurd h (by decide), List.Pairwise.nil, List.Pairwise.nil⟩, _, rfl⟩

theorem witness_Frames : (∃ t, exec Instr.anvPark State.reset = .next t) ∧ Part.chs ∉ touches Instr.anvPark ∧ Part.regs .gly ∉ touches Instr.anvPark := ⟨⟨_, rfl⟩, by decide, by decide⟩

/-- A Paired head with a volume of protection type 1 and a forwarded write of two blocks in slot 0 that waits for data under token 5. -/
def guardHead : State :=
  let s := fwdHead 65488 .write fun x => { x with need := 1040, token := some 5, cmd := { x.cmd with ranges := [(0, 2)] } }
  { s with stk := { s.stk with tokens := [(5, { slot := some 0, stop := 1040, gen := 2 })] }, chs := { s.chs with ns := [(1, { state := .loc, volume := 1 })] }, vols := [(1, { nsid := 1, state := .live, lbaf := 1, piType := 1, ext := true })]
           gly := { own := [(3, { piece1 with task := some 0 })] } }

/-- One block of zeros whose guard is wrong. -/
def badBlock : Bytes := zeros 512 ++ [1#8] ++ zeros 7

theorem witness_LinkGuardChecks :
    (∃ k x, Talks guardHead ∧ guardHead.portServes (65472 + 16) true = true ∧ Tab.get {} guardHead.stk.tokens 5 = k ∧ k.slot = some 0 ∧ k.again = false ∧ guardHead.task? 0 = some x ∧ x.ctx = 65472 + 16 ∧ x.fwdId = 7 ∧ x.cmd.op ≠ .fusedWrite ∧ k.next = 0 ∧ 0 + badBlock.length ≤ x.need ∧ x.need ≤ k.stop ∧
      linkFail (guardHead.volOf x.cmd.nsid) x (overlay x.data 0 badBlock) 0 (min (0 + badBlock.length) x.need) = some 0 ∧ x.complete = false ∧
      0 * (lbafData (guardHead.volOf x.cmd.nsid).lbaf + if (guardHead.volOf x.cmd.nsid).ext = true then lbafMeta (guardHead.volOf x.cmd.nsid).lbaf else 0) < x.need) ∧
    (let s := { guardHead with stk := { guardHead.stk with tokens := [(5, { slot := some 0, stop := 1040, gen := 2, again := true })] } }; (Tab.get ({} : Token) s.stk.tokens 5).again = true ∧ (Tab.get ({} : Token) s.stk.tokens 5).next < 520) ∧
    (∃ p, Tab.find guardHead.gly.own 3 = some p ∧ p.repl = none ∧ p.task = some 0) :=
  ⟨⟨_, _, by decide +kernel, by decide +kernel, by rfl, by decide +kernel, by decide +kernel, by rfl, by decide +kernel⟩, by decide +kernel, ⟨_, by rfl, by decide +kernel⟩⟩

theorem witness_StaleTransferTags :
    (let s : State := { tcpHead with stk := { tcpHead.stk with slots := [(0, { ctx := 0, seq := 0, cmd := { cid := 1, op := .write, nsid := 1 }, arrival := 0, state := .stamped, need := 512 })] } }
     ∃ x, s.task? 0 = some x ∧ x.state = .stamped ∧ x.complete = false ∧ x.token = none ∧ x.cmd.inCapsule = false ∧ (s.ctx x.ctx).transport = .tcp ∧ isInbound x.ctx = false ∧ s.stk.freshTag < 65536) ∧
    ((tcpHead.conn 5).live = true ∧ (tcpHead.conn 5).transport = .tcp ∧ tcpHead.portServes (tcpHead.conn 5).ctx true = true ∧ (Tab.get ({} : Token) tcpHead.stk.tokens 9).slot = none) ∧ (Hears tokenHead ∧ tokenHead.portServes (65472 + 16) true = true ∧ (Tab.get ({} : Token) tokenHead.stk.tokens 5).gen ≠ 1) :=
  ⟨⟨_, by rfl, by decide +kernel⟩, by decide +kernel⟩

end Sys2Proof.Tests
end

namespace Sys2Proof.Machine

/-! ## What the shared operations leave alone -/

/-- A state that only sent something, and changed what the head keeps about its media and its modules (Hearth and Gymo). -/
def Posted (s t : State) : Prop := ∃ out hth gmp, t = { s with outbox := s.outbox ++ out, hth := hth, gmp := gmp }

/-- What work on commands, records and grains keeps: Foreman, Anvil with its registers, the volume records, the state of every namespace and of every context. -/
structure Quiet (s t : State) : Prop where
  fm : t.fm = s.fm
  anv : t.anv = s.anv
  vols : t.vols = s.vols
  ns : ∀ n, (t.ns n).state = (s.ns n).state
  ctx : ∀ c, (t.ctx c).state = (s.ctx c).state
  regs : ∀ f : Field, f.inBlock .anv → t.rd f = s.rd f

/-- What retiring a channel, a restored galley and the settling of pieces keep: the mode, the forme and the state of Joining. -/
structure Steady (s t : State) : Prop where
  mode : t.fm.mode = s.fm.mode
  forme : t.fm.forme = s.fm.forme
  join : t.anv.join = s.anv.join

section
variable {s t u : State}

/-- A branch of either kind keeps what both branches keep. -/
theorem keeps_ite {R : State → State → Prop} {c : Prop} [Decidable c] (h : R s t) (k : R s u) : R s (if c then t else u) := by
  split <;> assumption

/-- A run over a list keeps what each of its steps keeps. -/
theorem keeps_foldl {R : State → State → Prop} {α : Type} {f : State → α → State} {l : List α} (hf : ∀ u a, R s u → R s (f u a)) (h : R s t) :
    R s (l.foldl f t) :=
  List.foldlRecOn (motive := R s) l f h fun u hu a _ => hf u a hu

/-! ### Messages and commands sent -/

theorem Posted.refl : Posted s s := ⟨[], s.hth, s.gmp, by simp⟩

theorem Posted.trans (h : Posted s t) (k : Posted t u) : Posted s u := by
  obtain ⟨out, hth, gmp, rfl⟩ := h
  obtain ⟨out', hth', gmp', rfl⟩ := k
  exact ⟨out ++ out', hth', gmp', by simp⟩

theorem Posted.set_hth {x : Hearth} (h : Posted s t) : Posted s { t with hth := x } := h.trans ⟨[], x, t.gmp, by simp⟩

theorem Posted.set_gmp {x : Gymo} (h : Posted s t) : Posted s { t with gmp := x } := h.trans ⟨[], t.hth, x, by simp⟩

theorem Posted.sendAll (h : Posted s t) (os : List Out) : Posted s (t.sendAll os) := h.trans ⟨os, t.hth, t.gmp, rfl⟩

theorem Posted.send (h : Posted s t) (o : Out) : Posted s (t.send o) := h.sendAll [o]

theorem Posted.anvil {ty : AnvType} {chan : Nat} {args : List Nat} {data : Bytes} (h : Posted s t) : Posted s (t.anvil ty chan args data) :=
  keeps_ite h (keeps_ite (h.send _) h)

theorem Posted.ringState {sort key : Nat} (h : Posted s t) : Posted s (t.ringState sort key) := h.anvil

theorem Posted.sendBatch {b : Batch} (h : Posted s t) : Posted s (t.sendBatch b) := keeps_ite h.anvil h.anvil.anvil

theorem Posted.sendWaiting (h : Posted s t) : Posted s t.sendWaiting :=
  keeps_ite h (keeps_foldl (fun _ _ k => k.sendBatch) h).set_hth

theorem Posted.sifRecord {sheet stripe epoch type d head agreed : Nat} (h : Posted s t) : Posted s (t.sifRecord sheet stripe epoch type d head agreed) :=
  keeps_ite h.set_hth.anvil h.set_hth

theorem Posted.mirrorPiece {d : Nat} {p : Piece} (h : Posted s t) : Posted s (t.mirrorPiece d p) := (h.sendAll _).anvil

theorem Posted.sendControl (h : Posted s t) : Posted s t.sendControl := by
  have ring {α : Type} {l : List α} {sort key : α → Nat} {u : State} (k : Posted s u) : Posted s (l.foldl (fun s a => s.ringState (sort a) (key a)) u) :=
    keeps_foldl (fun _ _ k => k.ringState) k
  have batches : Posted s (t.control.ring.foldl State.sendBatch t).sendWaiting := (keeps_foldl (fun _ _ k => k.sendBatch) h).sendWaiting
  exact ring (ring (ring (ring (ring (ring (ring (ring (ring (keeps_foldl (fun _ _ k => k.sifRecord) batches)))))))))

/-- Sending the backlog starts mirroring, and does nothing else but send (Table 16.5 step 3). -/
theorem sendBacklog_posted (s : State) : Posted { s with gly := { s.gly with mirroring := true } } s.sendBacklog := by
  unfold State.sendBacklog
  have one (l : List (Nat × Piece)) (u : State) (k : Posted { s with gly := { s.gly with mirroring := true } } u) :
      Posted { s with gly := { s.gly with mirroring := true } } (l.foldl (fun (s : State) (e : Nat × Piece) => if e.2.commit then (s.mirrorPiece e.1 e.2).anvil .commit pairChan [e.1, e.2.gen] else s.mirrorPiece e.1 e.2) u) :=
    keeps_foldl (fun _ _ k => keeps_ite k.mirrorPiece.anvil k.mirrorPiece) k
  exact (keeps_ite (one _ _ (one _ _ .refl)) (one _ _ .refl)).sendControl

/-! ### GMP commands -/

theorem gmpTag_eq {tag : Nat} (h : t.gmpTag = some (tag, u)) : ∃ g, u = { t with gmp := g } := by
  unfold State.gmpTag at h
  split at h
  · cases h; exact ⟨_, rfl⟩
  · split at h <;> cases h
    exact ⟨_, rfl⟩

theorem Posted.gmpSend {m : Nat} {c : GmpCmd} {data : Bytes} {use : GmpUse} {media : MediaResult} (h : Posted s t) : Posted s (t.gmpSend m c data use media) := by
  unfold State.gmpSend
  refine keeps_ite h ?_
  split
  · rename_i slot tag v _ hv
    obtain ⟨g, rfl⟩ := gmpTag_eq hv
    exact keeps_ite (h.set_gmp.set_gmp.send _) (h.set_gmp.set_gmp.send _).set_gmp.set_gmp
  · exact h

theorem Posted.unfenceAll (h : Posted s t) : Posted s t.unfenceAll := keeps_foldl (fun _ _ k => k.gmpSend) h

theorem Posted.raiseSeats (h : Posted s t) : Posted s t.raiseSeats :=
  keeps_foldl (fun _ _ k => keeps_foldl (fun _ _ k => k.gmpSend) k) h

theorem Posted.sendChunk {sheet stripe member : Nat} {chunk : Bytes} (h : Posted s t) : Posted s (t.sendChunk sheet stripe member chunk) := by
  unfold State.sendChunk
  split
  · exact h
  · exact keeps_ite h h.gmpSend

end

section
variable {s t u : State}

/-! ### Quiet work: the updates of one part -/

theorem Quiet.refl : Quiet s s := ⟨rfl, rfl, rfl, fun _ => rfl, fun _ => rfl, fun _ _ => rfl⟩

theorem Quiet.trans (h : Quiet s t) (k : Quiet t u) : Quiet s u :=
  ⟨k.fm.trans h.fm, k.anv.trans h.anv, k.vols.trans h.vols, fun n => (k.ns n).trans (h.ns n), fun c => (k.ctx c).trans (h.ctx c), fun f hf => (k.regs f hf).trans (h.regs f hf)⟩

/-- An update that leaves alone what a quiet state is read from. -/
theorem Quiet.update (h : Quiet s t) (fm : u.fm = t.fm := by rfl) (anv : u.anv = t.anv := by rfl) (vols : u.vols = t.vols := by rfl)
    (ns : u.chs.ns = t.chs.ns := by rfl) (ctxs : u.stk.ctxs = t.stk.ctxs := by rfl) (flds : u.flds = t.flds := by rfl) : Quiet s u :=
  h.trans ⟨fm, anv, vols, fun n => by unfold State.ns; rw [ns], fun c => by unfold State.ctx; rw [ctxs], fun f _ => State.rd_congr flds f⟩

theorem Quiet.set_gly {x : Galley} (h : Quiet s t) : Quiet s { t with gly := x } := h.update
theorem Quiet.set_mtx {x : Matrix} (h : Quiet s t) : Quiet s { t with mtx := x } := h.update
theorem Quiet.set_tmp {x : Temper} (h : Quiet s t) : Quiet s { t with tmp := x } := h.update
theorem Quiet.set_imp {x : Imposition} (h : Quiet s t) : Quiet s { t with imp := x } := h.update
theorem Quiet.set_hth {x : Hearth} (h : Quiet s t) : Quiet s { t with hth := x } := h.update
theorem Quiet.set_gmp {x : Gymo} (h : Quiet s t) : Quiet s { t with gmp := x } := h.update
theorem Quiet.set_chs {x : Chase} (h : Quiet s t) (ns : x.ns = t.chs.ns := by rfl) : Quiet s { t with chs := x } := h.update (ns := ns)
theorem Quiet.set_stk {x : Stick} (h : Quiet s t) (ctxs : x.ctxs = t.stk.ctxs := by rfl) : Quiet s { t with stk := x } := h.update (ctxs := ctxs)

theorem Quiet.posted (h : Quiet s t) (k : Posted t u) : Quiet s u := by
  obtain ⟨out, hth, gmp, rfl⟩ := k
  exact h.update

theorem Field.key_ne_of_inBlock {f g : Field} (hf : f.inBlock .anv) (hg : g.key / 2 ^ 25 ≠ 0x026) : f.key ≠ g.key :=
  fun e => hg (e ▸ hf)

theorem Quiet.wr {f : Field} {v : Nat} (h : Quiet s t) (hf : f.key / 2 ^ 25 ≠ 0x026 := by decide) : Quiet s (t.wr f v) :=
  h.trans ⟨rfl, rfl, rfl, fun _ => rfl, fun _ => rfl, fun _ hg => t.rd_wr_ne v (Field.key_ne_of_inBlock hg hf)⟩

theorem Quiet.raise {f : Field} {m : Nat} (h : Quiet s t) (hf : f.key / 2 ^ 25 ≠ 0x026 := by decide) : Quiet s (t.raise f m) := h.wr hf

theorem Quiet.inc {f : Field} {n : Nat} (h : Quiet s t) (hf : f.key / 2 ^ 25 ≠ 0x026 := by decide) : Quiet s (t.inc f n) := h.wr hf

theorem Quiet.anvil {ty : AnvType} {chan : Nat} {args : List Nat} {data : Bytes} (h : Quiet s t) : Quiet s (t.anvil ty chan args data) :=
  h.posted Posted.refl.anvil

theorem Quiet.logRec {src : Block} {sev : Nat} {e : EventName} {st : Status} {ch : Chan} {args : List Nat} (h : Quiet s t) :
    Quiet s (t.logRec src sev e st ch args) :=
  h.trans ⟨t.logRec_fm .., t.logRec_anv .., t.logRec_vols .., fun _ => by simp [State.ns], fun _ => by simp [State.ctx], fun f hf =>
    t.rd_logRec _ _ _ _ _ _ f (Field.key_ne_of_inBlock hf (by decide)) (Field.key_ne_of_inBlock hf (by decide)) (Field.key_ne_of_inBlock hf (by decide))⟩

theorem Quiet.alarm {src : Block} {e : EventName} {st : Status} {args : List Nat} (h : Quiet s t) : Quiet s (t.alarm src e st args) := h.logRec

theorem Quiet.note {src : Block} {e : EventName} {st : Status} {args : List Nat} (h : Quiet s t) : Quiet s (t.note src e st args) := h.logRec

theorem Quiet.setCtx {c : Nat} {v : Ctx} (h : Quiet s t) (hv : v.state = (t.ctx c).state) : Quiet s (t.setCtx c v) := by
  refine h.trans ⟨rfl, rfl, rfl, fun _ => rfl, fun d => ?_, fun _ _ => rfl⟩
  by_cases e : d = c
  · subst e; simpa [State.ctx, State.setCtx] using hv
  · simp [State.ctx, State.setCtx, Tab.get_set_ne _ _ _ e]

theorem Quiet.modCtx {c : Nat} {f : Ctx → Ctx} (h : Quiet s t) (hf : ∀ x, (f x).state = x.state := by intro; rfl) : Quiet s (t.modCtx c f) :=
  h.setCtx (hf _)

theorem Quiet.modNs {n : Nat} {f : NsEntry → NsEntry} (h : Quiet s t) (hf : ∀ x, (f x).state = x.state := by intro; rfl) : Quiet s (t.modNs n f) := by
  refine h.trans ⟨rfl, rfl, rfl, fun m => ?_, fun _ => rfl, fun _ _ => rfl⟩
  by_cases e : m = n
  · subst e; simp [State.ns, State.modNs, Tab.modify, hf]
  · simp [State.ns, State.modNs, Tab.modify, Tab.get_set_ne _ _ _ e]

theorem Quiet.setTask {n : Nat} {x : Task} (h : Quiet s t) : Quiet s (t.setTask n x) := h.set_stk

theorem Quiet.modTask {n : Nat} {f : Task → Task} (h : Quiet s t) : Quiet s (t.modTask n f) := by
  unfold State.modTask
  split
  · exact h
  · exact h.setTask

theorem Quiet.dropTask {n : Nat} (h : Quiet s t) : Quiet s (t.dropTask n) := h.set_stk

theorem Quiet.setHalf {b : Bool} {v : Half} (h : Quiet s t) : Quiet s (t.setHalf b v) := h.set_mtx

theorem Quiet.modGrain {g : Nat} {f : Grain → Grain} (h : Quiet s t) : Quiet s (t.modGrain g f) := h.setHalf

theorem Quiet.modSheet {id : Nat} {f : Sheet → Sheet} (h : Quiet s t) : Quiet s (t.modSheet id f) := h.set_hth

theorem Quiet.deadUnits {id units : Nat} (h : Quiet s t) : Quiet s (t.deadUnits id units) := h.modSheet

theorem Quiet.setPlate {m p : Nat} {x : Plate} (h : Quiet s t) : Quiet s (t.setPlate m p x) := h.set_hth

/-! ### Quiet work: records of the map journal -/

/-- The journal records that free a grain, settle a stripe that was lost, or give a sheet, a plate or a key: none of them changes a volume record. -/
def JRec.sparesVolumes : JRec → Bool
  | .free _ | .lost _ _ | .sheet _ _ _ _ | .plate _ _ _ | .key _ _ => true
  | _ => false

theorem Quiet.applyRec {seq : Nat} {r : JRec} (h : Quiet s t) (hr : r.sparesVolumes = true) : Quiet s (t.applyRec seq r) := by
  cases r <;> try contradiction
  case free => exact h.deadUnits.modGrain
  case lost => exact h.set_imp
  case sheet => exact keeps_ite h.set_hth h.modSheet
  case plate => exact h.setPlate
  case key => exact h.set_tmp

theorem Quiet.journal {recs : List JRec} {after : List After} (h : Quiet s t) (hr : ∀ r ∈ recs, r.sparesVolumes = true) : Quiet s (t.journal recs after) := by
  have applied (q : Nat) : Quiet s (recs.foldl (State.applyRec q) t) :=
    List.foldlRecOn (motive := Quiet s) recs _ h fun u hu r mem => hu.applyRec (hr r mem)
  refine keeps_ite h (Quiet.posted ?_ Posted.refl.sendWaiting)
  exact (keeps_ite (applied _).raise (applied _)).set_hth

theorem Quiet.sendQueries (h : Quiet s t) : Quiet s t.sendQueries :=
  keeps_foldl (fun _ _ k => keeps_ite k k.modCtx.set_mtx.anvil) h

theorem Quiet.query {q : Query} (h : Quiet s t) : Quiet s (t.query q) := h.set_mtx.sendQueries

theorem Quiet.sendDelta {r : JRec} (h : Quiet s t) : Quiet s (t.sendDelta r) := by
  cases r
  case indexIns => exact keeps_ite h.query h
  case indexDel => exact keeps_ite h.query h
  all_goals exact h

theorem Quiet.mtxJournal {recs : List JRec} {after : List After} (h : Quiet s t) (hr : ∀ r ∈ recs, r.sparesVolumes = true) : Quiet s (t.mtxJournal recs after) :=
  keeps_foldl (fun _ _ k => k.sendDelta) (h.journal hr)

/-! ### Quiet work: grains and pieces -/

theorem Quiet.freeLost (h : Quiet s t) : Quiet s t.freeLost :=
  keeps_foldl (fun _ _ k => keeps_ite (k.journal (by simp [JRec.sparesVolumes])) k) h

theorem Quiet.freeIfDead {g : Nat} (h : Quiet s t) : Quiet s (t.freeIfDead g) := by
  have freed : Quiet s (t.mtxJournal [.free g] [.freed g]).freeLost := (h.mtxJournal (by simp [JRec.sparesVolumes])).freeLost
  unfold State.freeIfDead
  split
  · exact h
  · refine keeps_ite h ?_
    split
    · exact h.set_hth
    · dsimp only
      split
      · exact freed.setHalf
      · exact freed

theorem Quiet.unpinPiece {g head piece : Nat} (h : Quiet s t) : Quiet s (t.unpinPiece g head piece) := h.modGrain

theorem Quiet.unrefine {d : Nat} {p : Piece} (h : Quiet s t) : Quiet s (t.unrefine d p) :=
  keeps_foldl (fun _ _ k => keeps_ite (keeps_ite k.unpinPiece.modGrain k.unpinPiece).freeIfDead k.query) h

theorem Quiet.dropPiece {d : Nat} (h : Quiet s t) : Quiet s (t.dropPiece d) := h.set_gly

theorem Quiet.discardPiece {d : Nat} (h : Quiet s t) : Quiet s (t.discardPiece d) := by
  unfold State.discardPiece
  split
  · exact h
  · exact (keeps_ite h h.unrefine).dropPiece

/-! ### Quiet work: commands in flight -/

theorem Quiet.freeToken {n : Nat} (h : Quiet s t) : Quiet s (t.freeToken n) := by
  unfold State.freeToken
  split
  · exact h
  · split
    · exact h
    · exact h.set_stk.modCtx.setTask

theorem Quiet.freeLock {k : Nat} (h : Quiet s t) : Quiet s (t.freeLock k) := by
  unfold State.freeLock
  split
  · exact h
  · exact h.set_chs

theorem Quiet.takeLock {slot stamp nsid : Nat} {m : LockMode} {foreign : Bool} {r : Nat × Nat} (h : Quiet s t) : Quiet s (t.takeLock slot stamp nsid m foreign r) := by
  unfold State.takeLock
  dsimp only
  split
  · exact h
  · exact keeps_ite h.set_chs.wr h.set_chs

theorem Quiet.wakeStamped (h : Quiet s t) : Quiet s t.wakeStamped := h.set_stk

theorem Quiet.release {n : Nat} (h : Quiet s t) : Quiet s (t.release n) := by
  unfold State.release
  split
  · exact h
  · have freed : Quiet s ((t.locksOf n).foldl State.freeLock t) := keeps_foldl (fun _ _ k => k.freeLock) h
    exact (keeps_ite freed.modNs.setTask freed).wakeStamped

theorem Quiet.markDone {n : Nat} {r : Result} (h : Quiet s t) : Quiet s (t.markDone n r) := h.modTask.set_stk

theorem Quiet.endForward {n : Nat} {r : Result} (h : Quiet s t) : Quiet s (t.endForward n r) := by
  unfold State.endForward
  split
  · exact h
  · dsimp only
    split
    · exact h.dropTask.modCtx.modTask
    · exact h.dropTask.modCtx.anvil.anvil

theorem Quiet.finish {n : Nat} {r : Result} (h : Quiet s t) : Quiet s (t.finish n r) := by
  unfold State.finish
  split
  · exact h
  · rename_i x _
    have discarded : Quiet s (x.pieces.foldl (fun s d => match Tab.find s.gly.own d with | some p => if p.commit then s else s.discardPiece d | none => s) (t.freeToken n)) := by
      refine keeps_foldl (fun u d k => ?_) h.freeToken
      split
      · exact keeps_ite k k.discardPiece
      · exact k
    exact keeps_ite discarded.release.markDone.endForward discarded.release.markDone

theorem Quiet.finishFused {n : Nat} {r rw : Result} (h : Quiet s t) : Quiet s (t.finishFused n r rw) := by
  unfold State.finishFused
  split
  · exact h
  · split
    · exact h.finish
    · exact h.finish.finish

theorem Quiet.guardNote (h : Quiet s t) : Quiet s t.guardNote := by
  unfold State.guardNote
  split
  · exact keeps_ite h h.set_gly.note
  · exact h

theorem Quiet.guardHold {n : Nat} (h : Quiet s t) : Quiet s (t.guardHold n) :=
  keeps_ite h.modTask h.modTask.set_stk.guardNote

theorem Quiet.shareState {sort key : Nat} (h : Quiet s t) : Quiet s (t.shareState sort key) := keeps_ite h.anvil h

theorem Quiet.stampMark (h : Quiet s t) : Quiet s t.stampMark := keeps_ite h.set_chs.shareState h

/-- Giving out the next forward number. -/
theorem Quiet.nextFwd {id : Nat} (h : Quiet s t) : Quiet s { t with chs := { t.chs with nextFwd := id } } := h.set_chs

theorem Quiet.flushAll {n : Nat} {x : Task} (h : Quiet s t) : Quiet s (t.flushAll n x) :=
  keeps_ite h.setTask (keeps_ite h.wr.stampMark.nextFwd.setTask.inc.modCtx.anvil h.wr.stampMark.setTask)

theorem Quiet.forward {n : Nat} (h : Quiet s t) : Quiet s (t.forward n) := by
  unfold State.forward
  split
  · exact h
  · refine keeps_ite h.setTask ?_
    dsimp only
    split
    · exact h.nextFwd.modCtx.setTask.inc.anvil
    · split
      · exact h.nextFwd.modCtx.setTask.inc.modTask.anvil
      · exact h.nextFwd.modCtx.setTask.inc.modTask

theorem Quiet.stamp {n : Nat} (h : Quiet s t) : Quiet s (t.stamp n) := by
  unfold State.stamp
  split
  · exact h
  · rename_i x _
    extract_lets st s₁ s₂ s₃ s₄ s₅ s₆ s₇
    have stamped : Quiet s s₃ := h.wr.stampMark.modNs.setTask
    have locked : Quiet s s₄ := by
      unfold s₄
      split
      · exact keeps_foldl (fun _ _ k => k.takeLock) stamped
      · exact stamped
    have counted : Quiet s s₅ := keeps_ite locked.inc locked
    have fused : Quiet s s₆ := by
      unfold s₆
      split
      · exact counted.modTask
      · exact counted
    split
    · split
      · exact fused.modTask.modTask
      · exact fused.modTask
    · exact fused

theorem Quiet.handOver {n : Nat} (h : Quiet s t) : Quiet s (t.handOver n) := by
  unfold State.handOver
  split
  · exact h
  · refine keeps_ite h (keeps_ite h (keeps_ite h (keeps_ite h (keeps_ite h.flushAll ?_))))
    split
    · exact h.finishFused
    · exact h.setTask
    · exact keeps_ite (keeps_ite h.finishFused h.forward) (keeps_ite h.finishFused (keeps_ite h.finishFused (keeps_ite h.finishFused
        (keeps_ite h.guardHold (keeps_ite h.setTask.raise.set_chs h.set_chs.stamp)))))

end

/-- What an evaluation of Table 6.4 keeps besides what quiet work keeps: the task slots, the contexts, and what the last STATUS of the partner said. -/
structure Evaluated (s t : State) : Prop where
  quiet : Quiet s t
  slots : t.stk.slots = s.stk.slots
  ctxs : t.stk.ctxs = s.stk.ctxs
  peer : t.gly.peer = s.gly.peer
  lastStatus : t.gly.lastStatus = s.gly.lastStatus

section
variable {s t u : State}

/-! ### The rows of Table 6.4 -/

theorem Evaluated.refl : Evaluated s s := ⟨.refl, rfl, rfl, rfl, rfl⟩

theorem Evaluated.wr {f : Field} {v : Nat} (h : Evaluated s t) (hf : f.key / 2 ^ 25 ≠ 0x026 := by decide) : Evaluated s (t.wr f v) :=
  ⟨h.quiet.wr hf, h.slots, h.ctxs, h.peer, h.lastStatus⟩

theorem Evaluated.raise {f : Field} {m : Nat} (h : Evaluated s t) (hf : f.key / 2 ^ 25 ≠ 0x026 := by decide) : Evaluated s (t.raise f m) := h.wr hf

theorem Evaluated.set_gly {x : Galley} (h : Evaluated s t) (peer : x.peer = t.gly.peer := by rfl) (last : x.lastStatus = t.gly.lastStatus := by rfl) :
    Evaluated s { t with gly := x } := ⟨h.quiet.set_gly, h.slots, h.ctxs, peer.trans h.peer, last.trans h.lastStatus⟩

theorem Evaluated.logRec {src : Block} {sev : Nat} {e : EventName} {st : Status} {ch : Chan} {args : List Nat} (h : Evaluated s t) :
    Evaluated s (t.logRec src sev e st ch args) :=
  ⟨h.quiet.logRec, by simpa using h.slots, by simpa using h.ctxs, by simpa using h.peer, by simpa using h.lastStatus⟩

theorem Evaluated.smartSet {k : Nat} {b : Bool} (h : Evaluated s t) : Evaluated s (t.smartSet k b) := by
  have noted : Evaluated s { t with stk := { t.stk with smart := setBits t.stk.smart k k (bit b) } } :=
    ⟨h.quiet.set_stk, h.slots, h.ctxs, h.peer, h.lastStatus⟩
  exact keeps_ite h (keeps_ite (keeps_foldl (fun _ _ k => ⟨k.quiet.posted (.send .refl _), k.slots, k.ctxs, k.peer, k.lastStatus⟩) noted) noted)

theorem Evaluated.showUnprot (h : Evaluated s t) : Evaluated s t.showUnprot := keeps_ite h h.wr.raise.smartSet.logRec

theorem Evaluated.galleyEval (h : Evaluated s t) : Evaluated s t.galleyEval := by
  unfold State.galleyEval
  extract_lets s₁ margin row want was _ _ _ s₂ held _ s₃
  have h₁ : Evaluated s s₁ := h.wr.wr.wr
  have h₂ : Evaluated s s₂ := by
    refine keeps_ite h₁.set_gly ?_
    split
    · exact h₁
    · exact keeps_ite h₁.set_gly (keeps_ite h₁.set_gly h₁)
  have h₃ : Evaluated s s₃ := keeps_ite h₂ (keeps_ite h₂.wr.logRec h₂.wr)
  exact keeps_ite h₁.wr.showUnprot h₃.showUnprot

/-! ### Nonces after Joining (R236) -/

theorem Quiet.setCtr {k : Nat} {c : NonceCtr} (h : Quiet s t) : Quiet s (t.setCtr k c) := h.set_tmp

theorem Quiet.setKey {k : Nat} {r : KeyRec} (h : Quiet s t) : Quiet s (t.setKey k r) := h.journal (by simp [JRec.sparesVolumes])

theorem Quiet.raiseEpoch {k : Nat} {r : KeyRec} (h : Quiet s t) : Quiet s (t.raiseEpoch k r) := keeps_ite h.setCtr h.setKey.setCtr.raise

theorem Quiet.nonceResume {marks : List (Nat × Nat × Nat)} (h : Quiet s t) : Quiet s (t.nonceResume marks) := by
  refine keeps_foldl (fun u k q => keeps_ite q ?_) h
  split
  · exact q.raiseEpoch
  · exact keeps_ite q q.setCtr

end

section
variable {s t u : State}

/-! ### Steady work: the updates of one part -/

theorem Steady.refl : Steady s s := ⟨rfl, rfl, rfl⟩

theorem Steady.trans (h : Steady s t) (k : Steady t u) : Steady s u :=
  ⟨k.mode.trans h.mode, k.forme.trans h.forme, k.join.trans h.join⟩

theorem Steady.quiet (h : Steady s t) (k : Quiet t u) : Steady s u :=
  h.trans ⟨congrArg Foreman.mode k.fm, congrArg Foreman.forme k.fm, congrArg Anvil.join k.anv⟩

theorem Steady.posted (h : Steady s t) (k : Posted t u) : Steady s u := h.quiet (Quiet.refl.posted k)

theorem Steady.set_flt {x : Faults} (h : Steady s t) : Steady s { t with flt := x } := h.trans ⟨rfl, rfl, rfl⟩
theorem Steady.set_stk {x : Stick} (h : Steady s t) : Steady s { t with stk := x } := h.trans ⟨rfl, rfl, rfl⟩
theorem Steady.set_chs {x : Chase} (h : Steady s t) : Steady s { t with chs := x } := h.trans ⟨rfl, rfl, rfl⟩
theorem Steady.set_gly {x : Galley} (h : Steady s t) : Steady s { t with gly := x } := h.trans ⟨rfl, rfl, rfl⟩
theorem Steady.set_mtx {x : Matrix} (h : Steady s t) : Steady s { t with mtx := x } := h.trans ⟨rfl, rfl, rfl⟩
theorem Steady.set_imp {x : Imposition} (h : Steady s t) : Steady s { t with imp := x } := h.trans ⟨rfl, rfl, rfl⟩
theorem Steady.set_hth {x : Hearth} (h : Steady s t) : Steady s { t with hth := x } := h.trans ⟨rfl, rfl, rfl⟩
theorem Steady.set_gmp {x : Gymo} (h : Steady s t) : Steady s { t with gmp := x } := h.trans ⟨rfl, rfl, rfl⟩
theorem Steady.set_ste {x : Stereotype} (h : Steady s t) : Steady s { t with ste := x } := h.trans ⟨rfl, rfl, rfl⟩
theorem Steady.set_pwr {x : Power} (h : Steady s t) : Steady s { t with pwr := x } := h.trans ⟨rfl, rfl, rfl⟩
theorem Steady.set_vols {x : Tab Volume} (h : Steady s t) : Steady s { t with vols := x } := h.trans ⟨rfl, rfl, rfl⟩
theorem Steady.set_lost {x : List LostExtent} (h : Steady s t) : Steady s { t with lost := x } := h.trans ⟨rfl, rfl, rfl⟩
theorem Steady.set_fresh {x : Nat} (h : Steady s t) : Steady s { t with fresh := x } := h.trans ⟨rfl, rfl, rfl⟩

theorem Steady.set_fm {x : Foreman} (h : Steady s t) (mode : x.mode = t.fm.mode := by rfl) (forme : x.forme = t.fm.forme := by rfl) :
    Steady s { t with fm := x } := h.trans ⟨mode, forme, rfl⟩

theorem Steady.set_anv {x : Anvil} (h : Steady s t) (join : x.join = t.anv.join := by rfl) : Steady s { t with anv := x } :=
  h.trans ⟨rfl, rfl, join⟩

theorem Steady.wr {f : Field} {v : Nat} (h : Steady s t) : Steady s (t.wr f v) := h.trans ⟨rfl, rfl, rfl⟩
theorem Steady.raise {f : Field} {m : Nat} (h : Steady s t) : Steady s (t.raise f m) := h.wr
theorem Steady.inc {f : Field} {n : Nat} (h : Steady s t) : Steady s (t.inc f n) := h.wr
theorem Steady.incHeld {f : Field} {n : Nat} (h : Steady s t) : Steady s (t.incHeld f n) := h.wr
theorem Steady.send {o : Out} (h : Steady s t) : Steady s (t.send o) := h.trans ⟨rfl, rfl, rfl⟩
theorem Steady.modCtx {c : Nat} {f : Ctx → Ctx} (h : Steady s t) : Steady s (t.modCtx c f) := h.set_stk
theorem Steady.modConn {c : Nat} {f : Conn → Conn} (h : Steady s t) : Steady s (t.modConn c f) := h.set_stk
theorem Steady.modCtrl {c : Nat} {f : Ctrl → Ctrl} (h : Steady s t) : Steady s (t.modCtrl c f) := h.set_stk
theorem Steady.setTask {n : Nat} {x : Task} (h : Steady s t) : Steady s (t.setTask n x) := h.set_stk
theorem Steady.dropTask {n : Nat} (h : Steady s t) : Steady s (t.dropTask n) := h.set_stk
theorem Steady.setHalf {b : Bool} {v : Half} (h : Steady s t) : Steady s (t.setHalf b v) := h.set_mtx
theorem Steady.modGrain {g : Nat} {f : Grain → Grain} (h : Steady s t) : Steady s (t.modGrain g f) := h.set_mtx
theorem Steady.modSheet {id : Nat} {f : Sheet → Sheet} (h : Steady s t) : Steady s (t.modSheet id f) := h.set_hth
theorem Steady.modModule {m : Nat} {f : Mod → Mod} (h : Steady s t) : Steady s (t.modModule m f) := h.set_gmp
theorem Steady.setPiece {d : Nat} {p : Piece} (h : Steady s t) : Steady s (t.setPiece d p) := h.set_gly
theorem Steady.modBundle {b : Bool} {f : Bundle → Bundle} (h : Steady s t) : Steady s (t.modBundle b f) := by
  cases b <;> exact h.set_anv

theorem Steady.anvil {ty : AnvType} {chan : Nat} {args : List Nat} {data : Bytes} (h : Steady s t) : Steady s (t.anvil ty chan args data) := h.quiet Quiet.refl.anvil
theorem Steady.ringState {sort key : Nat} (h : Steady s t) : Steady s (t.ringState sort key) := h.anvil
theorem Steady.shareState {sort key : Nat} (h : Steady s t) : Steady s (t.shareState sort key) := keeps_ite h.anvil h
theorem Steady.sifRecord {sheet stripe epoch type d head agreed : Nat} (h : Steady s t) : Steady s (t.sifRecord sheet stripe epoch type d head agreed) :=
  h.posted Posted.refl.sifRecord
theorem Steady.sendChunk {sheet stripe member : Nat} {chunk : Bytes} (h : Steady s t) : Steady s (t.sendChunk sheet stripe member chunk) :=
  h.posted Posted.refl.sendChunk
theorem Steady.logRec {src : Block} {sev : Nat} {e : EventName} {st : Status} {ch : Chan} {args : List Nat} (h : Steady s t) :
    Steady s (t.logRec src sev e st ch args) := h.quiet Quiet.refl.logRec
theorem Steady.alarm {src : Block} {e : EventName} {st : Status} {args : List Nat} (h : Steady s t) : Steady s (t.alarm src e st args) := h.logRec
theorem Steady.modTask {n : Nat} {f : Task → Task} (h : Steady s t) : Steady s (t.modTask n f) := h.quiet Quiet.refl.modTask
theorem Steady.freeToken {n : Nat} (h : Steady s t) : Steady s (t.freeToken n) := h.quiet Quiet.refl.freeToken
theorem Steady.finish {n : Nat} {r : Result} (h : Steady s t) : Steady s (t.finish n r) := h.quiet Quiet.refl.finish
theorem Steady.discardPiece {d : Nat} (h : Steady s t) : Steady s (t.discardPiece d) := h.quiet Quiet.refl.discardPiece

theorem Steady.journal {recs : List JRec} {after : List After} (h : Steady s t) (hr : ∀ r ∈ recs, r.sparesVolumes = true) : Steady s (t.journal recs after) :=
  h.quiet (Quiet.refl.journal hr)

/-! ### Steady work: controllers and contexts drained -/

theorem Steady.drainDrop {cause n : Nat} (h : Steady s t) : Steady s (t.drainDrop cause n) :=
  keeps_ite h.finish (keeps_ite h.finish h.finish.dropTask)

theorem Steady.cancelFwd {n chan : Nat} {x : Task} {post other : Option Result} (h : Steady s t) : Steady s (t.cancelFwd n x chan post other) := by
  unfold State.cancelFwd
  dsimp only
  split
  · exact h.setTask.freeToken.modTask.anvil.raise
  · exact h.setTask.anvil.raise

theorem Steady.drainTask {cause n : Nat} (h : Steady s t) : Steady s (t.drainTask cause n) := by
  unfold State.drainTask
  split
  · exact h
  · extract_lets other slots freed quiet silent
    have dropped (u : State) (k : Steady s u) : Steady s (quiet u) := keeps_foldl (fun _ _ k => k.drainDrop) k.inc
    have marked (b : Bool) (u : State) (k : Steady s u) : Steady s (silent b u) := keeps_foldl (fun _ _ k => k.modTask) k
    have free : Steady s freed := keeps_foldl (fun _ _ k => k.freeToken) h
    refine keeps_ite h ?_
    split
    · exact keeps_ite free (keeps_foldl (fun _ _ k => k.dropTask) free)
    · exact dropped _ free
    · exact dropped _ free.set_chs
    · exact free.cancelFwd
    · exact marked _ _ free
    · exact keeps_ite (marked _ _ (keeps_ite free.inc free)) (dropped _ free)

theorem Steady.drainCtx {cause c : Nat} {ev : DrainEvent} (h : Steady s t) : Steady s (t.drainCtx cause ev c) :=
  keeps_ite h (keeps_foldl (fun _ _ k => k.drainTask) h.modCtx.set_stk)

theorem Steady.resetCtrl {cause c : Nat} {ev : DrainEvent} (h : Steady s t) : Steady s (t.resetCtrl cause ev c) :=
  keeps_foldl (fun _ _ k => k.drainCtx) h.modCtrl

theorem Steady.endAssociation {c : Nat} (h : Steady s t) : Steady s (t.endAssociation c) :=
  keeps_ite h (keeps_foldl (fun _ _ k => k.modConn.send) h).resetCtrl

theorem Steady.endConn {c : Nat} (h : Steady s t) : Steady s (t.endConn c) :=
  keeps_ite h (keeps_ite h.modConn.send h.endAssociation)

theorem Steady.lportDown {p k : Nat} (h : Steady s t) : Steady s (t.lportDown p k) :=
  keeps_foldl (fun _ _ k => k.endConn) h.wr.raise

/-! ### Steady work: sheets and rebuilds -/

theorem Steady.asyncAll {e : AsyncEvent} (h : Steady s t) : Steady s (t.asyncAll e) := keeps_foldl (fun _ _ k => k.send) h

theorem Steady.smartSet {k : Nat} {b : Bool} (h : Steady s t) : Steady s (t.smartSet k b) :=
  keeps_ite h (keeps_ite h.set_stk.asyncAll h.set_stk)

theorem Steady.rebuildAgain {id : Nat} (h : Steady s t) : Steady s (t.rebuildAgain id) := by
  unfold State.rebuildAgain
  split
  · exact keeps_ite h.set_imp h
  · exact h

theorem Steady.showRebuild (h : Steady s t) : Steady s t.showRebuild :=
  keeps_ite h.wr.wr.wr.wr.wr.raise h.wr.wr.wr.wr.wr

theorem Steady.abandonSpares {id : Nat} {bad : Nat × Nat → Bool} (h : Steady s t) : Steady s (t.abandonSpares id bad) :=
  keeps_ite h (h.journal (List.forall_mem_map.2 fun _ _ => rfl)).modSheet.rebuildAgain

theorem Steady.admitStripes (h : Steady s t) : Steady s t.admitStripes :=
  keeps_foldl (fun _ _ k => keeps_ite k.sifRecord.set_hth k) h

theorem Steady.closeStripe {id : Nat} (h : Steady s t) : Steady s (t.closeStripe id) := by
  unfold State.closeStripe
  dsimp only
  split
  · exact h
  · exact h.modSheet.set_hth.admitStripes

theorem Steady.closeSheet {id : Nat} (h : Steady s t) : Steady s (t.closeSheet id) :=
  keeps_ite (h.closeStripe.journal (by simp [JRec.sparesVolumes])) h.closeStripe

theorem Steady.memberGone {id member : Nat} (h : Steady s t) : Steady s (t.memberGone id member) :=
  keeps_ite h (keeps_ite h.modSheet.rebuildAgain.closeSheet h.modSheet.rebuildAgain).showRebuild

theorem Steady.moduleGone {m : Nat} (h : Steady s t) : Steady s (t.moduleGone m) := keeps_foldl (fun _ _ k => k.memberGone) h

theorem Steady.dropSpares {m : Nat} (h : Steady s t) : Steady s (t.dropSpares m) := keeps_foldl (fun _ _ k => k.abandonSpares) h

theorem Steady.ladderEval (h : Steady s t) : Steady s t.ladderEval := by
  unfold State.ladderEval
  extract_lets was row fill spare s₁ low s₂ _ s₃ s₄ s₅
  have h₂ : Steady s s₂ := keeps_ite h.wr.wr.wr.raise h.wr.wr.wr
  have h₃ : Steady s s₃ := h₂.set_hth.smartSet.smartSet
  have h₄ : Steady s s₄ := keeps_ite h₃.raise.logRec.asyncAll h₃
  have h₅ : Steady s s₅ := keeps_ite h₄.raise.asyncAll h₄
  exact keeps_ite h₅.raise.alarm h₅

/-! ### Steady work: what follows when a channel retires (R381, R383) -/

theorem Steady.galleyEval (h : Steady s t) : Steady s t.galleyEval := h.quiet Evaluated.refl.galleyEval.quiet

theorem Steady.halfTo {b : Bool} {st : HalfState} (h : Steady s t) : Steady s (t.halfTo b st) := keeps_ite h h.setHalf.raise

theorem Steady.handOff {b : Bool} (h : Steady s t) : Steady s (t.handOff b) := h.set_mtx.anvil.setHalf.halfTo

theorem Steady.leaveMoved (h : Steady s t) : Steady s t.leaveMoved := by
  unfold State.leaveMoved
  extract_lets own s₁ s₂ s₃
  have h₁ : Steady s s₁ := keeps_ite h.handOff h
  have h₂ : Steady s s₂ := keeps_foldl (fun _ _ k => k.send) h₁
  have h₃ : Steady s s₃ := keeps_ite h₂.wr h₂
  exact h₃.set_pwr.wr

theorem Steady.leave {why : Leave} {byTimer : Bool} (h : Steady s t) : Steady s (t.leave why byTimer) := by
  unfold State.leave
  extract_lets _ s₁ s₂
  have h₂ : Steady s s₂ := keeps_ite h.set_pwr.shareState.wr.wr h.set_pwr.shareState
  exact keeps_ite h₂.leaveMoved h₂

theorem Steady.listLost {nsid slba nlb cause : Nat} (h : Steady s t) : Steady s (t.listLost nsid slba nlb cause) :=
  keeps_ite h.set_lost h.set_lost.incHeld.alarm

theorem Steady.showRetired {c : Chan} (h : Steady s t) : Steady s (t.showRetired c) := by
  unfold State.showRetired
  split
  · exact h.raise
  · exact h

theorem Steady.ethRetire {i : Nat} (h : Steady s t) : Steady s (t.ethRetire i) := keeps_ite h.raise.lportDown h.raise

theorem Steady.frontRetire {i : Nat} (h : Steady s t) : Steady s (t.frontRetire i) :=
  keeps_ite h (keeps_ite h.wr.raise (keeps_foldl (fun _ _ k => k.resetCtrl) h.wr.raise.wr.wr))

theorem Steady.moduleRetire {m : Nat} (h : Steady s t) : Steady s (t.moduleRetire m) := h.modModule.alarm.dropSpares.moduleGone.ladderEval

theorem Steady.bundleDown {b : Bool} (h : Steady s t) : Steady s (t.bundleDown b) := by
  unfold State.bundleDown
  extract_lets s₁ s₂ both s₃
  have h₂ : Steady s s₂ := h.wr.modBundle.raise.inc.wr.logRec
  have h₃ : Steady s s₃ := keeps_ite h₂ (keeps_foldl (fun _ _ k => k.modCtx) h₂)
  exact keeps_ite h (keeps_ite h₃.set_anv h₃)

theorem Steady.unbindLane {kind lane : Nat} (h : Steady s t) : Steady s (t.unbindLane kind lane) := by
  unfold State.unbindLane
  split
  · exact h
  · split
    · exact h
    · dsimp only
      split
      · exact h.set_fm.logRec
      · exact keeps_ite h.set_fm.logRec (keeps_ite h.set_fm.logRec h.set_fm)

theorem Steady.vaultFigures (h : Steady s t) : Steady s t.vaultFigures := keeps_ite h.wr.raise.wr h.wr.raise

theorem Steady.vaultRetire (h : Steady s t) : Steady s t.vaultRetire :=
  (keeps_ite h.vaultFigures.set_gly.alarm h.vaultFigures.set_gly).galleyEval

theorem Steady.smithRetire {p : Nat} (h : Steady s t) : Steady s (t.smithRetire p) := keeps_ite h.set_fm h

theorem Steady.rankRetire {gib : Nat} {bad : List (Nat × Bytes)} (h : Steady s t) : Steady s (t.rankRetire gib bad) := by
  unfold State.rankRetire
  extract_lets s₁
  have h₁ : Steady s s₁ := by
    refine keeps_foldl (fun u b k => ?_) h
    split
    · exact k
    · exact keeps_ite k.setPiece k.listLost.discardPiece
  exact keeps_ite h₁.alarm.leave h₁.set_fm

theorem Steady.retireEffect {c : Chan} {gib : Nat} {bad : List (Nat × Bytes)} (h : Steady s t) : Steady s (t.retireEffect c gib bad) := by
  unfold State.retireEffect
  split
  · exact h.ethRetire
  · exact h.frontRetire
  · exact h.moduleRetire
  · exact h.bundleDown.wr
  · exact h.rankRetire
  iterate 5 next => exact h.unbindLane
  · exact h.vaultRetire
  · exact h.smithRetire
  · exact h

theorem Steady.takeScrapCopy (h : Steady s t) : Steady s t.takeScrapCopy :=
  keeps_ite h (keeps_foldl (fun _ _ k => k.showRetired.retireEffect) h.set_flt)

end

section
variable {s t u : State}

/-- A run over a list keeps in its second part what each of its steps keeps. -/
theorem keeps_foldl_snd {R : State → State → Prop} {α β : Type} {f : β × State → α → β × State} {l : List α} {p : β × State}
    (hf : ∀ q a, R s q.2 → R s (f q a).2) (h : R s p.2) : R s (l.foldl f p).2 :=
  List.foldlRecOn (motive := fun q => R s q.2) l f h fun q hq a _ => hf q a hq

/-! ### Steady work: pieces and stripes settled at the end of Joining (R142, R143, R352) -/

theorem Steady.modNs {n : Nat} {f : NsEntry → NsEntry} (h : Steady s t) : Steady s (t.modNs n f) := h.set_chs

theorem Steady.nsFromVolumes {f : Volume → NsState} (h : Steady s t) : Steady s (t.nsFromVolumes f) := keeps_foldl (fun _ _ k => k.modNs) h

theorem Steady.stripeDone {r : OpenRec} (h : Steady s t) : Steady s (t.stripeDone r) := h.modSheet.modSheet

theorem Steady.settleStripe {r : OpenRec} (h : Steady s t) : Steady s (t.settleStripe r) := by
  unfold State.settleStripe
  extract_lets ms agree unwritten spoiled mask done bodies s₁ s₂ s₃ s₄
  have ended (u : State) (k : Steady s u) : Steady s (done u) := k.inc.sifRecord.stripeDone
  have h₁ : Steady s s₁ := keeps_foldl (fun _ _ k => k.sendChunk) h
  have h₂ : Steady s s₂ := keeps_ite h₁ h₁.inc.set_hth
  have h₃ : Steady s s₃ := keeps_foldl (fun _ _ k => k.sendChunk) h
  exact keeps_ite (ended _ h) (keeps_ite (ended _ h₂) h₃.sifRecord.inc.raise.stripeDone)

theorem Steady.listSort {g addr units : Nat} {live : Bool} (h : Steady s t) : Steady s (t.listSort g addr units live) := keeps_ite h h.modSheet

theorem Steady.listScanned {vol g : Nat} (h : Steady s t) : Steady s (t.listScanned vol g) := keeps_ite h h.listLost

theorem Steady.scanSort {blind : Bool} {scanned : List Nat} {id : Nat} {x : Nat × Bytes} (h : Steady s t) : Steady s (t.scanSort blind scanned id x).2 := by
  unfold State.scanSort
  extract_lets b gid e addr units setIt
  have placed (u : State) (k : Steady s u) : Steady s (setIt u) := k.modGrain.setHalf.listSort
  split
  · dsimp only
    split
    · exact keeps_ite (placed t h).set_vols.listScanned (placed t h).set_vols
    · exact placed t h
  · split
    · exact placed _ (keeps_ite h.modSheet h)
    · exact h.listSort

theorem Steady.auditStart (h : Steady s t) : Steady s t.auditStart := keeps_ite h h.set_hth

theorem Steady.tagScan {blind : Bool} (h : Steady s t) : Steady s (t.tagScan blind) := by
  unfold State.tagScan
  extract_lets opens byEpoch s₁
  have h₁ : Steady s s₁ := keeps_foldl (fun _ _ k => k.settleStripe) h
  split
  rename_i s₂ e
  have h₂ : Steady s s₂ := by
    rw [show s₂ = _ from (congrArg Prod.snd e).symm]
    refine keeps_foldl_snd (fun u r k => ?_) h₁
    dsimp only
    split
    · exact k
    · exact keeps_foldl_snd (fun _ _ k => k.scanSort) k
  extract_lets c s₃ _ _ s₄ own _ s₅
  have h₃ : Steady s s₃ := h₂.wr
  have h₄ : Steady s s₄ := h₃.trans ⟨rfl, rfl, rfl⟩
  have h₅ : Steady s s₅ := h₄.setHalf
  exact h₅.auditStart.raise.logRec

theorem Steady.settlePieces {copies : Tab Piece} (h : Steady s t) : Steady s (t.settlePieces copies) := by
  unfold State.settlePieces
  extract_lets kept gone back lost own own' s₁ _ s₂ s₃ blind _ s₄ s₅
  have h₁ : Steady s s₁ := keeps_foldl (fun _ _ k => k.anvil) h
  have h₂ : Steady s s₂ := h₁.set_gly
  have h₃ : Steady s s₃ := keeps_ite h₂ h₂.alarm
  have h₄ : Steady s s₄ := h₃.set_gly
  have h₅ : Steady s s₅ := keeps_foldl (fun _ _ k => k.listLost) h₄
  exact keeps_ite h₄.raise.alarm.tagScan (keeps_ite h₄ h₅.raise.alarm.tagScan)

theorem Steady.setSess {k : Nat} {e : Session} (h : Steady s t) : Steady s (t.setSess k e) := h.set_ste

theorem Steady.sendHello {k : Nat} {ty : ReplType} {v : Nat} (h : Steady s t) : Steady s (t.sendHello k ty v) :=
  h.set_fresh.set_fresh.set_fresh.setSess.setSess.send

theorem Steady.resumeSessions {vols : List Nat} (h : Steady s t) : Steady s (t.resumeSessions vols) :=
  keeps_foldl (fun _ _ k => keeps_ite k.set_ste.setSess.ringState k.set_ste.setSess.ringState.setSess.sendHello) h

theorem Steady.freeInflight {b : Bool} (h : Steady s t) : Steady s (t.freeInflight b) :=
  keeps_foldl (fun _ _ k => k.quiet (Quiet.refl.mtxJournal (by simp [JRec.sparesVolumes]))) h

end

/-! ## The end of Joining (Table 16.5 step 6) -/

/-- What the head notes when Joining ends: the pair epoch of the head in service, and when its first strike is due. -/
def State.joinEnds (s : State) : State :=
  let h := (s.fm.forme.map (·.strikeHours)).getD 24 * 3600000000000
  let s := s.wr F.GMP_PAIR_EPOCH_EPOCH (max (s.rd F.GMP_PAIR_EPOCH_EPOCH) ((s.anv.join.peer.map (·.epoch)).getD 0))
  { s with gly := { s.gly with mirroring := false }, anv := { s.anv with strikeAt := some (s.now + h + s.head * (h / 2)), handback := none } }

/-- The head once it reports Paired, before the commands that waited for their namespace go on. -/
def State.reportPaired (s : State) : State := (s.joinEnds.openChannels.toMode .paired).galleyEval

/-- Opens packet channel `k` of an Anvil pair, where its role has the pair use it (Table 4.9). -/
def State.openPairChannel (s : State) (k : Nat) : State :=
  let c := 65472 + k
  if channelRole c = 0 ∨ channelRole c = 1 ∨ channelRole c = 4 then (s.openChannel c).modCtx c fun x => { x with credits := 4096 }
  else s

section
variable {s t : State}

theorem pairUp_eq (h : s.bundleMask = 3) : s.pairUp = s.reportPaired.heldSlots.foldl State.handOver s.reportPaired := by
  unfold State.pairUp
  rw [if_neg fun away => away h]
  rfl

/-- A run over a list brings about `P` at an element that does so, where every step keeps both what that element asks for and `P`. -/
theorem foldl_reaches {α : Type} {f : State → α → State} {P Q : State → Prop} {a : α} (hit : ∀ u, Q u → P (f u a)) (keep : ∀ u b, P u → P (f u b))
    (ask : ∀ u b, Q u → Q (f u b)) {l : List α} (mem : a ∈ l) (h : Q s) : P (l.foldl f s) := by
  induction l generalizing s with
  | nil => cases mem
  | cons b rest ih =>
    rcases List.mem_cons.1 mem with rfl | later
    · exact List.foldlRecOn (motive := P) rest f (hit s h) fun u hu c _ => keep u c hu
    · exact ih later (ask s b h)

/-! ### Contexts and packet channels -/

theorem ctx_setCtx_ne (s : State) {c d : Nat} (v : Ctx) (h : d ≠ c) : (s.setCtx c v).ctx d = s.ctx d := Tab.get_set_ne _ _ _ h

theorem ctx_modCtx (s : State) (c : Nat) (f : Ctx → Ctx) : (s.modCtx c f).ctx c = f (s.ctx c) := Tab.get_set _ _ _ _

theorem ctx_modCtx_ne (s : State) {c d : Nat} (f : Ctx → Ctx) (h : d ≠ c) : (s.modCtx c f).ctx d = s.ctx d := ctx_setCtx_ne s _ h

theorem ctx_openChannel_ne (s : State) {c d : Nat} (h : d ≠ c) : (s.openChannel c).ctx d = s.ctx d := by
  unfold State.openChannel
  split
  · rfl
  · exact ctx_setCtx_ne s _ h

theorem openChannel_opens (s : State) (c : Nat) (h : (s.ctx c).state = .empty) : ((s.openChannel c).ctx c).state = .live := by
  simp [State.openChannel, State.ctx, State.setCtx] at h ⊢
  simp [h]

theorem openChannel_live (s : State) (c : Nat) (h : (s.ctx c).state = .live) : s.openChannel c = s := by
  simp [State.openChannel, h]

theorem ctx_openPairChannel_ne (s : State) {k c : Nat} (h : c ≠ 65472 + k) : (s.openPairChannel k).ctx c = s.ctx c := by
  unfold State.openPairChannel
  dsimp only
  split
  · rw [ctx_modCtx_ne _ _ h, ctx_openChannel_ne _ h]
  · rfl

/-- The first forwarding channel starts with 4,096 credits (R347). -/
theorem openChannels_credits (s : State) : (s.openChannels.ctx 65472).credits = 4096 := by
  have opened (u : State) : ((u.openPairChannel 0).ctx 65472).credits = 4096 := by simp [State.openPairChannel, channelRole, ctx_modCtx]
  refine foldl_reaches (P := fun u => (u.ctx 65472).credits = 4096) (Q := fun _ => True) (a := 0) (fun u _ => opened u) (fun u k h => ?_)
    (fun _ _ _ => trivial) (List.mem_range.2 (by decide)) trivial
  by_cases e : k = 0
  · exact e ▸ opened u
  · rw [ctx_openPairChannel_ne u (by omega)]; exact h

/-- The first inbound channel is live once it was empty. -/
theorem openChannels_opens (s : State) (h : (s.ctx 65488).state = .empty) : (s.openChannels.ctx 65488).state = .live := by
  have opened (u : State) (hu : (u.ctx 65488).state = .empty ∨ (u.ctx 65488).state = .live) : ((u.openPairChannel 16).ctx 65488).state = .live := by
    have role : channelRole 65488 = 1 := rfl
    rcases hu with empty | live
    · simpa [State.openPairChannel, role, ctx_modCtx] using openChannel_opens u _ empty
    · simpa [State.openPairChannel, role, ctx_modCtx, openChannel_live u _ live] using live
  refine foldl_reaches (P := fun u => (u.ctx 65488).state = .live) (Q := fun u => (u.ctx 65488).state = .empty ∨ (u.ctx 65488).state = .live) (a := 16)
    opened (fun u k hu => ?_) (fun u k hu => ?_) (List.mem_range.2 (by decide)) (.inl h)
  · by_cases e : k = 16
    · exact e ▸ opened u (.inr hu)
    · rw [ctx_openPairChannel_ne u (by omega)]; exact hu
  · by_cases e : k = 16
    · exact .inr (e ▸ opened u hu)
    · rw [ctx_openPairChannel_ne u (by omega)]; exact hu

/-- Opening the channels writes contexts and nothing else. -/
theorem openChannels_only_ctxs (s : State) : ∃ ctxs, s.openChannels = { s with stk := { s.stk with ctxs := ctxs } } := by
  refine List.foldlRecOn (motive := fun u : State => ∃ ctxs, u = { s with stk := { s.stk with ctxs := ctxs } }) _ _ ⟨s.stk.ctxs, rfl⟩ fun u hu k _ => ?_
  obtain ⟨ctxs, rfl⟩ := hu
  dsimp only
  split
  · unfold State.openChannel
    split
    · exact ⟨_, rfl⟩
    · exact ⟨_, rfl⟩
  · exact ⟨_, rfl⟩

/-! ### Namespaces that the volume records give a state -/

theorem ns_modNs (s : State) (n : Nat) (f : NsEntry → NsEntry) : (s.modNs n f).ns n = f (s.ns n) := Tab.get_set _ _ _ _

theorem ns_modNs_ne (s : State) {n m : Nat} (f : NsEntry → NsEntry) (h : m ≠ n) : (s.modNs n f).ns m = s.ns m := Tab.get_set_ne _ _ _ h

theorem nsFromVolumes_vols (s : State) (f : Volume → NsState) : (s.nsFromVolumes f).vols = s.vols :=
  List.foldlRecOn (motive := fun u : State => u.vols = s.vols) _ _ rfl fun _ hu _ _ => hu

/-- Every namespace with a live volume record is in the state given. -/
theorem nsFromVolumes_state (s : State) (st : NsState) {v : Nat × Volume} (mem : v ∈ s.vols) (live : v.2.state = .live) (some : v.2.nsid ≠ 0) :
    ((s.nsFromVolumes fun _ => st).ns v.2.nsid).state = st := by
  refine foldl_reaches (P := fun u => (u.ns v.2.nsid).state = st) (Q := fun _ => True) (a := v) (fun u _ => by rw [ns_modNs]) (fun u w hu => ?_)
    (fun _ _ _ => trivial) (List.mem_filter.2 ⟨mem, by simp [live, some]⟩) trivial
  by_cases e : v.2.nsid = w.2.nsid
  · rw [e, ns_modNs]
  · rw [ns_modNs_ne _ _ e]; exact hu

/-! ### What Paired leaves as it was -/

theorem toMode_pins (s : State) (m : Mode) (safe : Bool) : (s.toMode m safe).fm.pins = s.fm.pins := by
  simp only [State.toMode]
  repeat' split
  all_goals rfl

theorem pairUp_quiet (h : s.bundleMask = 3) : Quiet s.reportPaired s.pairUp := by
  rw [pairUp_eq h]
  exact keeps_foldl (fun _ _ k => k.handOver) .refl

theorem reportPaired_evaluated (s : State) : Evaluated (s.joinEnds.openChannels.toMode .paired) s.reportPaired := Evaluated.refl.galleyEval

theorem pairUp_mode (h : s.bundleMask = 3) : s.pairUp.fm.mode = .paired := by
  rw [(pairUp_quiet h).fm, (reportPaired_evaluated s).quiet.fm, State.toMode_mode]

theorem pairUp_pins (h : s.bundleMask = 3) : s.pairUp.fm.pins = s.fm.pins := by
  obtain ⟨ctxs, opened⟩ := openChannels_only_ctxs s.joinEnds
  rw [(pairUp_quiet h).fm, (reportPaired_evaluated s).quiet.fm, toMode_pins, opened]
  rfl

theorem pairUp_rd (h : s.bundleMask = 3) {f : Field} (hf : f.inBlock .anv) : s.pairUp.rd f = s.rd f := by
  obtain ⟨ctxs, opened⟩ := openChannels_only_ctxs s.joinEnds
  have ne {g : Field} (hg : g.key / 2 ^ 25 ≠ 0x026) : f.key ≠ g.key := Field.key_ne_of_inBlock hf hg
  rw [(pairUp_quiet h).regs f hf, (reportPaired_evaluated s).quiet.regs f hf, State.rd_toMode _ _ _ _ (ne (by decide)) (ne (by decide)) (ne (by decide)), opened]
  exact s.rd_wr_ne _ (ne (by decide))

theorem pairUp_vols (h : s.bundleMask = 3) : s.pairUp.vols = s.vols := by
  obtain ⟨ctxs, opened⟩ := openChannels_only_ctxs s.joinEnds
  rw [(pairUp_quiet h).vols, (reportPaired_evaluated s).quiet.vols, State.toMode_vols, opened]
  rfl

theorem pairUp_ns (h : s.bundleMask = 3) (n : Nat) : (s.pairUp.ns n).state = (s.ns n).state := by
  obtain ⟨ctxs, opened⟩ := openChannels_only_ctxs s.joinEnds
  rw [(pairUp_quiet h).ns, (reportPaired_evaluated s).quiet.ns]
  simp only [State.ns, State.toMode_chs, opened]
  rfl

theorem heldSlots_congr (h : t.stk.slots = s.stk.slots) : t.heldSlots = s.heldSlots := by
  unfold State.heldSlots; rw [h]

/-- With no command waiting, the first forwarding channel has its 4,096 credits when Joining has ended. -/
theorem pairUp_credits (h : s.bundleMask = 3) (idle : s.heldSlots = []) : (s.pairUp.ctx 65472).credits = 4096 := by
  obtain ⟨ctxs, opened⟩ := openChannels_only_ctxs s.joinEnds
  have none_held : s.reportPaired.heldSlots = [] := by
    rw [← idle]
    refine heldSlots_congr ?_
    rw [(reportPaired_evaluated s).slots, State.toMode_stk, opened]
    rfl
  rw [pairUp_eq h, none_held, List.foldl_nil, ← openChannels_credits s.joinEnds]
  unfold State.ctx
  rw [(reportPaired_evaluated s).ctxs, State.toMode_stk]

theorem pairUp_opens (h : s.bundleMask = 3) (empty : (s.ctx 65488).state = .empty) : (s.pairUp.ctx 65488).state = .live := by
  rw [(pairUp_quiet h).ctx, (reportPaired_evaluated s).quiet.ctx, ← openChannels_opens s.joinEnds empty]
  unfold State.ctx
  rw [State.toMode_stk]

end

/-! ## JOIN_BACKLOG_DONE (R142, R352, R236, R383) -/

/-- The head in service raises the seats, deasserts CLAIM_ACK_OUT and gives up the journal of the partner it had lost. -/
def State.giveUpClaim (s : State) : State :=
  let s := { s.raiseSeats with fm := { s.raiseSeats.fm with pins := { s.raiseSeats.fm.pins with claimAckOut := false } } }
  let s := { s.foldLost.2 with hth := { s.foldLost.2.hth with journal := { s.foldLost.2.hth.journal with image := s.foldLost.1 } } }
  s.wr F.ANV_TONGS_CLAIM_OUT 0

/-- Nonces go on above the marks that the heads exchanged. -/
def State.resumeNonces (s : State) : State :=
  let s := s.nonceResume (s.control.nonces ++ s.tmp.backMarks)
  { s with tmp := { s.tmp with backMarks := [] } }

/-- The joiner holds every namespace as Remote and stands by. -/
def State.joinerStandsBy (s : State) : State :=
  ((s.standBy.nsFromVolumes fun _ => .remote).setHalf (s.head == 1) { s.half (s.head == 1) with peerHolds := true }).resumeNonces.wr F.ANV_PAIR_STANDBY 1

/-- Two heads from Forming settle their pieces, own what their volume records name, and free the grains that were in flight. -/
def State.settleFromForming (s : State) : State :=
  let own := s.head == 1
  let s := (s.settlePieces s.anv.join.copies).nsFromVolumes fun v => if v.holder = s.head then .loc else .remote
  let s := s.resumeSessions (Tab.keysWhere s.vols fun _ v => v.state != .free && v.holder == s.head)
  s.resumeNonces.freeInflight own

/-- The partner's copies of the pieces are no longer needed. -/
def State.dropCopies (s : State) : State := { s with anv := { s.anv with join := { s.anv.join with copies := [] } } }

section
variable {s t : State}

theorem dropCopies_fm (s : State) : s.dropCopies.fm = s.fm := rfl

theorem execJoinBacklogDone_solo (j : s.joined1 = true) (m : s.fm.mode = .solo) : execJoinBacklogDone s = .next s.giveUpClaim.pairUp := by
  simp only [execJoinBacklogDone, j, m, Bool.not_true, Bool.false_eq_true, if_false, if_true]
  rfl

theorem execJoinBacklogDone_joining (j : s.joined1 = true) (m : s.fm.mode = .joining) : execJoinBacklogDone s =
    if s.takeScrapCopy.bothForming then
      .next s.takeScrapCopy.settleFromForming.pairUp.dropCopies
    else .next s.takeScrapCopy.joinerStandsBy.pairUp := by
  simp only [execJoinBacklogDone, j, m, Bool.not_true, Bool.false_eq_true, if_false, reduceCtorEq, ne_eq, not_true_eq_false]
  rfl

theorem bundleMask_congr (h : t.fm.forme = s.fm.forme) : t.bundleMask = s.bundleMask := by
  unfold State.bundleMask; rw [h]

theorem Steady.bothForming (h : Steady s t) : t.bothForming = s.bothForming := by
  unfold State.bothForming; rw [h.mode, h.join]

theorem Posted.gly (h : Posted s t) : t.gly = s.gly := by
  obtain ⟨out, hth, gmp, rfl⟩ := h; rfl

theorem Posted.fm (h : Posted s t) : t.fm = s.fm := by
  obtain ⟨out, hth, gmp, rfl⟩ := h; rfl

theorem Posted.stk (h : Posted s t) : t.stk = s.stk := by
  obtain ⟨out, hth, gmp, rfl⟩ := h; rfl

theorem foldLost_fm (s : State) : s.foldLost.2.fm = s.fm := by
  unfold State.foldLost
  dsimp only
  split <;> rfl

theorem foldLost_stk (s : State) : s.foldLost.2.stk = s.stk := by
  unfold State.foldLost
  dsimp only
  split <;> rfl

theorem giveUpClaim_fm (s : State) : s.giveUpClaim.fm = { s.fm with pins := { s.fm.pins with claimAckOut := false } } := by
  rw [← Posted.refl.raiseSeats.fm (s := s)]
  exact foldLost_fm _

theorem giveUpClaim_stk (s : State) : s.giveUpClaim.stk = s.stk := by
  rw [← Posted.refl.raiseSeats.stk (s := s)]
  exact foldLost_stk _

theorem Quiet.resumeNonces (h : Quiet s t) : Quiet s t.resumeNonces := h.nonceResume.set_tmp

/-- The end of Joining at the head in service. -/
theorem joinBacklogDone_serving (j : s.joined1 = true) (mask : s.bundleMask = 3) (m : s.fm.mode = .solo) :
    ∃ t, exec .joinBacklogDone s = .next t ∧ t.fm.mode = .paired ∧ t.on F.ANV_TONGS_CLAIM_OUT = false ∧ t.fm.pins.claimAckOut = false ∧
      (s.heldSlots = [] → (t.ctx 65472).credits = 4096) ∧ ((s.ctx 65488).state = .empty → (t.ctx 65488).state = .live) := by
  have mask' : s.giveUpClaim.bundleMask = 3 := by rw [bundleMask_congr (s := s) (by rw [giveUpClaim_fm])]; exact mask
  have claim : s.giveUpClaim.rd F.ANV_TONGS_CLAIM_OUT = 0 := by simp [State.giveUpClaim]
  refine ⟨s.giveUpClaim.pairUp, execJoinBacklogDone_solo j m, pairUp_mode mask', ?_, ?_, fun idle => ?_, fun empty => ?_⟩
  · rw [State.on, pairUp_rd mask' (by decide : _ = _), claim]; rfl
  · rw [pairUp_pins mask', giveUpClaim_fm]
  · exact pairUp_credits mask' ((heldSlots_congr (giveUpClaim_stk s ▸ rfl)).trans idle)
  · exact pairUp_opens mask' (by rw [State.ctx, giveUpClaim_stk]; exact empty)

theorem Steady.joinerStandsBy (h : Steady s t) : Steady s t.joinerStandsBy := by
  have standBy : Steady s t.standBy := h.trans ⟨rfl, rfl, rfl⟩
  exact (standBy.nsFromVolumes.setHalf.quiet Quiet.refl.resumeNonces).wr

/-- What follows the namespaces of the joiner becoming Remote is quiet but for ANV_PAIR.STANDBY. -/
theorem joinerStandsBy_quiet (s : State) : ∃ u, Quiet (s.standBy.nsFromVolumes fun _ => .remote) u ∧ s.joinerStandsBy = u.wr F.ANV_PAIR_STANDBY 1 :=
  ⟨_, Quiet.refl.setHalf.resumeNonces, rfl⟩

theorem joinerStandsBy_vols (s : State) : s.joinerStandsBy.vols = s.vols := by
  obtain ⟨u, quiet, eq⟩ := joinerStandsBy_quiet s
  rw [eq, State.wr_vols, quiet.vols, nsFromVolumes_vols]
  rfl

theorem joinerStandsBy_remote (s : State) {v : Nat × Volume} (mem : v ∈ s.vols) (live : v.2.state = .live) (named : v.2.nsid ≠ 0) :
    (s.joinerStandsBy.ns v.2.nsid).state = .remote := by
  obtain ⟨u, quiet, eq⟩ := joinerStandsBy_quiet s
  rw [eq]
  exact (quiet.ns _).trans (nsFromVolumes_state s.standBy .remote mem live named)

/-- The end of Joining at the head that stands by. -/
theorem joinBacklogDone_standingBy (j : s.joined1 = true) (mask : s.bundleMask = 3) (m : s.fm.mode = .joining) (both : s.bothForming = false) :
    ∃ t, exec .joinBacklogDone s = .next t ∧ t.fm.mode = .paired ∧ t.on F.ANV_PAIR_STANDBY = true ∧
      ∀ v ∈ t.vols, v.2.state = .live → v.2.nsid ≠ 0 → (t.ns v.2.nsid).state = .remote := by
  have scrap : Steady s s.takeScrapCopy := Steady.refl.takeScrapCopy
  have mask' : s.takeScrapCopy.joinerStandsBy.bundleMask = 3 := by rw [bundleMask_congr scrap.joinerStandsBy.forme]; exact mask
  have stands : s.takeScrapCopy.joinerStandsBy.rd F.ANV_PAIR_STANDBY = 1 := State.rd_wr_lt _ (by decide)
  refine ⟨s.takeScrapCopy.joinerStandsBy.pairUp, ?_, pairUp_mode mask', ?_, fun v mem live named => ?_⟩
  · rw [exec_joinBacklogDone, execJoinBacklogDone_joining j m, if_neg (by rw [scrap.bothForming, both]; decide)]
  · rw [State.on, pairUp_rd mask' (by decide : _ = _), stands]; rfl
  · rw [pairUp_vols mask', joinerStandsBy_vols] at mem
    rw [pairUp_ns mask']
    exact joinerStandsBy_remote _ mem live named

/-- The end of Joining of two heads that come from Forming. -/
theorem joinBacklogDone_fromForming (j : s.joined1 = true) (mask : s.bundleMask = 3) (m : s.fm.mode = .joining) (both : s.bothForming = true) :
    ∃ t, exec .joinBacklogDone s = .next t ∧ t.fm.mode = .paired ∧ t.anv.join.copies = [] := by
  have scrap : Steady s s.takeScrapCopy := Steady.refl.takeScrapCopy
  have settled : Steady s s.takeScrapCopy.settleFromForming :=
    (scrap.settlePieces.nsFromVolumes.resumeSessions.quiet Quiet.refl.resumeNonces).freeInflight
  have mask' : s.takeScrapCopy.settleFromForming.bundleMask = 3 := by rw [bundleMask_congr settled.forme]; exact mask
  refine ⟨_, (execJoinBacklogDone_joining j m).trans (if_pos (by rw [scrap.bothForming, both])), ?_, rfl⟩
  rw [dropCopies_fm, pairUp_mode mask']

theorem joinBacklogDone_unjoined (j : s.joined1 = false) : exec .joinBacklogDone s = .next s := by
  simp [execJoinBacklogDone, j]

theorem joinBacklogDone_elsewhere (joining : s.fm.mode ≠ .joining) (solo : s.fm.mode ≠ .solo) : exec .joinBacklogDone s = .next s := by
  simp [execJoinBacklogDone, joining, solo]

end

/-! ## HELLO and binding (R351, R424) -/

/-- What a step of the handshake keeps: what was sent, the mode, what HELLO told, what BIND_OFFER told, and the registers of Anvil but JOIN_STALL. -/
structure Handshake (s t : State) : Prop where
  sent : ∀ o ∈ s.outbox, o ∈ t.outbox
  mode : t.fm.mode = s.fm.mode
  lost : t.anv.lost = s.anv.lost
  peer : t.anv.join.peer = s.anv.join.peer
  version : t.anv.join.version = s.anv.join.version
  checked : t.anv.join.checked = s.anv.join.checked
  nonce : t.fm.hallmark.bind.peerNonce = s.fm.hallmark.bind.peerNonce
  has : t.fm.hallmark.bind.peerHas = s.fm.hallmark.bind.peerHas
  offered : s.fm.hallmark.bind.offered = true → t.fm.hallmark.bind.offered = true
  regs : ∀ f : Field, f.inBlock .anv → f.key ≠ F.ANV_INT_STATUS_JOIN_STALL.key → t.rd f = s.rd f

/-- The state in which a HELLO is answered: the partner has been seen, is not parked and counts as lost no more. -/
def State.greeted (s : State) : State :=
  let s := (Unheard s 1).partnerSeen.wr F.ANV_PAIR_PARKED 0
  { s with anv := { s.anv with lost := false } }

/-- The answer to a HELLO, where there is a version to name. -/
def State.answerHello (s : State) (v : Option Nat) : State :=
  match v with
  | some v => s.anvHello .helloAck v
  | none => s

/-- What the head records of a partner that matches. -/
def State.joinRecord (s : State) (h : HelloInfo) (v : Nat) : State :=
  ({ s with mtx := { s.mtx with partnerSlots := h.filterGib * 402653184 }, anv := { s.anv with join := { s.anv.join with peer := some h, version := some v, checked := true, stalled := none } } } : State).wr F.ANV_PAIR_VERSION (v / 256 * 16 + v % 256)

section
variable {s t u : State}

/-! ### What reaches the head, and what goes out -/

theorem hear_of_hears (h : Hears s) (type : Nat) (act : State → State) : s.hear type act = act (Unheard s type) := by
  unfold State.hear
  exact if_neg (by simp [h.1, h.2])

theorem hear_of_lost (h : s.anv.lost = true) {type : Nat} (act : State → State) (h1 : type ≠ 1) (h5 : type ≠ 5) : s.hear type act = Unheard s type := by
  unfold State.hear
  exact if_pos (by simp [h, h1, h5])

/-- HELLO and REJOIN are heard from a lost partner too (R357). -/
theorem hear_of_no_dump (h : s.gly.dump = none) {type : Nat} (act : State → State) (ht : type = 1 ∨ type = 5) : s.hear type act = act (Unheard s type) := by
  unfold State.hear
  exact if_neg (by rcases ht with rfl | rfl <;> simp [h])

theorem anvil_sends {ty : AnvType} (chan : Nat) (args : List Nat) (data : Bytes) (dump : s.gly.dump = none)
    (may : (s.on F.ANV_CTRL_ENABLE = true ∧ s.anv.lost = false) ∨ ty = .rejoin ∨ ty = .hello ∨ ty = .released) :
    s.anvil ty chan args data = s.send (.anv ty chan args data) := by
  unfold State.anvil
  rw [if_neg (by simp [dump]), if_pos]
  rcases may with ⟨on, lost⟩ | rfl | rfl | rfl
  · simp [on, lost]
  all_goals simp

theorem anvHello_sends {ty : AnvType} (v : Nat) (dump : s.gly.dump = none)
    (may : (s.on F.ANV_CTRL_ENABLE = true ∧ s.anv.lost = false) ∨ ty = .rejoin ∨ ty = .hello ∨ ty = .released) :
    ∃ args d, s.anvHello ty v = s.send (.anv ty pairChan args d) ∧ args.head? = some v :=
  ⟨_, _, anvil_sends _ _ _ dump may, rfl⟩

theorem Posted.anvHello {ty : AnvType} {v : Nat} (h : Posted s t) : Posted s (t.anvHello ty v) := h.anvil

theorem Posted.answerHello {v : Option Nat} (h : Posted s t) : Posted s (t.answerHello v) := by
  cases v
  · exact h
  · exact h.anvHello

/-! ### Steps of the handshake -/

theorem Handshake.refl : Handshake s s := ⟨fun _ => id, rfl, rfl, rfl, rfl, rfl, rfl, rfl, id, fun _ _ _ => rfl⟩

theorem Handshake.trans (h : Handshake s t) (k : Handshake t u) : Handshake s u :=
  ⟨fun o ho => k.sent o (h.sent o ho), k.mode.trans h.mode, k.lost.trans h.lost, k.peer.trans h.peer, k.version.trans h.version, k.checked.trans h.checked,
    k.nonce.trans h.nonce, k.has.trans h.has, k.offered ∘ h.offered, fun f hf hn => (k.regs f hf hn).trans (h.regs f hf hn)⟩

theorem Handshake.posted (h : Handshake s t) (k : Posted t u) : Handshake s u := by
  obtain ⟨out, hth, gmp, rfl⟩ := k
  exact h.trans ⟨fun o ho => List.mem_append_left _ ho, rfl, rfl, rfl, rfl, rfl, rfl, rfl, id, fun _ _ _ => rfl⟩

theorem Handshake.anvil {ty : AnvType} {chan : Nat} {args : List Nat} {data : Bytes} (h : Handshake s t) : Handshake s (t.anvil ty chan args data) :=
  h.posted Posted.refl.anvil

/-- A record sends what it sends behind what was sent. -/
theorem mem_logRec_outbox (s : State) (src : Block) (sev : Nat) (e : EventName) (st : Status) (ch : Chan) (args : List Nat) {o : Out} (h : o ∈ s.outbox) :
    o ∈ (s.logRec src sev e st ch args).outbox := by
  simp only [State.logRec]
  repeat' split
  all_goals simp [h]

theorem Handshake.alarm {src : Block} {e : EventName} {st : Status} {args : List Nat} (h : Handshake s t) : Handshake s (t.alarm src e st args) :=
  h.trans ⟨fun _ => mem_logRec_outbox t _ _ _ _ _ _, by simp, by simp, by simp, by simp, by simp, by simp, by simp, by simp, fun f hf _ => Quiet.refl.alarm.regs f hf⟩

theorem Handshake.joinStall {e : EventName} (h : Handshake s t) : Handshake s (t.joinStall e) := by
  refine keeps_ite h (Handshake.alarm (h.trans ?_))
  exact ⟨fun _ => id, rfl, rfl, rfl, rfl, rfl, rfl, rfl, id, fun f _ hn => State.rd_raise_ne _ _ hn⟩

theorem Handshake.bindProof (h : Handshake s t) : Handshake s t.bindProof := h.anvil

theorem Handshake.bindXfer (h : Handshake s t) : Handshake s t.bindXfer := h.anvil.bindProof

/-- An update of the pair record or of the own half of the binding exchange. -/
theorem Handshake.set_hallmark {x : Hallmark} (h : Handshake s t) (nonce : x.bind.peerNonce = t.fm.hallmark.bind.peerNonce := by rfl)
    (has : x.bind.peerHas = t.fm.hallmark.bind.peerHas := by rfl) (offered : t.fm.hallmark.bind.offered = true → x.bind.offered = true := by exact id) :
    Handshake s { t with fm := { t.fm with hallmark := x } } :=
  h.trans ⟨fun _ => id, rfl, rfl, rfl, rfl, rfl, nonce, has, offered, fun _ _ _ => rfl⟩

theorem Handshake.set_fresh {x : Nat} (h : Handshake s t) : Handshake s { t with fresh := x } :=
  h.trans ⟨fun _ => id, rfl, rfl, rfl, rfl, rfl, rfl, rfl, id, fun _ _ _ => rfl⟩

theorem Handshake.bindOffer (h : Handshake s t) : Handshake s t.bindOffer := keeps_ite h (h.set_fresh.set_hallmark (offered := fun _ => rfl)).anvil

theorem Handshake.bindGo (h : Handshake s t) : Handshake s t.bindGo := by
  refine keeps_ite h ?_
  split
  · exact h.bindProof
  · exact keeps_ite h.bindXfer h.joinStall
  · exact h
  · exact keeps_ite h h.set_fresh.set_hallmark.bindXfer

/-- Going on with Table 16.5 sends the backlog, and may discard what was restored. -/
theorem Handshake.joinAdvance (h : Handshake s t) : Handshake s t.joinAdvance := by
  unfold State.joinAdvance
  extract_lets _ _ s₁ stale _ s₂
  have h₁ : Handshake s s₁ := h.trans ⟨fun _ => id, rfl, rfl, rfl, rfl, rfl, rfl, rfl, id, fun _ _ _ => rfl⟩
  have h₂ : Handshake s s₂ := keeps_ite (h₁.trans ⟨fun _ => id, rfl, rfl, rfl, rfl, rfl, rfl, rfl, id, fun _ _ _ => rfl⟩) h₁
  have h₃ : Handshake s { s₂ with gly := { s₂.gly with mirroring := true } } := h₂.trans ⟨fun _ => id, rfl, rfl, rfl, rfl, rfl, rfl, rfl, id, fun _ _ _ => rfl⟩
  exact keeps_ite h (keeps_ite h₂ (h₃.posted (sendBacklog_posted s₂)))

end

section
variable {s t u : State}

/-! ### The checks of R351 -/

/-- The checks look at the forme and the head index alone. -/
theorem Posted.anv (h : Posted s t) : t.anv = s.anv := by
  obtain ⟨out, hth, gmp, rfl⟩ := h; rfl

theorem joinFault_congr (forme : t.fm.forme = s.fm.forme) (head : t.rd F.FOR_ID_HEAD = s.rd F.FOR_ID_HEAD) (h : HelloInfo) (v : Option Nat) :
    t.joinFault h v = s.joinFault h v := by
  have digest : t.pairDigest = s.pairDigest := by unfold State.pairDigest; rw [forme]
  have index : t.head = s.head := head
  have size : t.galleyGib = s.galleyGib := by unfold State.galleyGib; rw [forme]
  unfold State.joinFault
  rw [forme, digest, index, size, bundleMask_congr forme]

/-- A partner of another galley size is always at fault (R20). -/
theorem joinFault_of_galleyGib (h : HelloInfo) (v : Option Nat) (size : h.galleyGib ≠ s.galleyGib) : ∃ e, s.joinFault h v = some e := by
  cases v with
  | none => exact ⟨_, rfl⟩
  | some v =>
    simp only [State.joinFault, if_pos size]
    repeat' split
    all_goals exact ⟨_, rfl⟩

theorem joinCheck_of_fault {h : HelloInfo} {v : Option Nat} {e : EventName} (fault : s.joinFault h v = some e) : s.joinCheck h v = s.joinStall e := by
  unfold State.joinCheck; rw [fault]

/-- A match is recorded; what follows it is handshake. -/
theorem joinCheck_of_match {h : HelloInfo} {v : Nat} (fits : s.joinFault h (some v) = none) : Handshake (s.joinRecord h v) (s.joinCheck h (some v)) := by
  unfold State.joinCheck
  rw [fits]
  exact keeps_ite .refl (keeps_ite Handshake.refl.alarm .refl).bindOffer.bindGo

theorem joinStall_eq {e : EventName} (joining : s.fm.mode = .joining) (first : s.anv.join.stalled = none) :
    s.joinStall e = (({ s with anv := { s.anv with join := { s.anv.join with stalled := some s.now } } } : State).raise F.ANV_INT_STATUS_JOIN_STALL).alarm .anv e := by
  unfold State.joinStall
  exact if_neg (by simp [joining, first])

theorem joinStall_anv {e : EventName} (joining : s.fm.mode = .joining) (first : s.anv.join.stalled = none) :
    (s.joinStall e).anv = { s.anv with join := { s.anv.join with stalled := some s.now } } := by
  rw [joinStall_eq joining first, State.alarm_anv]; rfl

theorem joinStall_fm (s : State) (e : EventName) : (s.joinStall e).fm = s.fm := by
  unfold State.joinStall
  split
  · rfl
  · rw [State.alarm_fm]; rfl

theorem joinStall_shows {e : EventName} (joining : s.fm.mode = .joining) (first : s.anv.join.stalled = none) :
    (s.joinStall e).on F.ANV_INT_STATUS_JOIN_STALL = true := by
  rw [joinStall_eq joining first, State.on, State.rd_alarm _ _ _ _ _ _ (by decide) (by decide) (by decide), State.rd_raise_one _ rfl]; rfl

theorem joinStall_alarms {e : EventName} (joining : s.fm.mode = .joining) (first : s.anv.join.stalled = none) :
    (s.joinStall e).on F.FOR_INT_STATUS_ALARM = true := by
  rw [joinStall_eq joining first, State.on, State.rd_alarm_int]; rfl

/-- A stalled pair goes no further. -/
theorem joinAdvance_joinStall {e : EventName} (joining : s.fm.mode = .joining) (first : s.anv.join.stalled = none) : (s.joinStall e).joinAdvance = s.joinStall e := by
  unfold State.joinAdvance State.joined1
  exact if_pos (by simp [joinStall_anv joining first])

/-! ### HELLO -/

theorem execAnvHello_eq {h : HelloInfo} (dump : s.gly.dump = none) (run : s.pwr.state = .run) (mode : s.fm.mode = .joining ∨ s.fm.mode = .solo)
    (open_ : s.fm.pins.fenceOut = false) (turn : s.anv.join.checked = false ∨ s.fm.hallmark.prs ≠ none) :
    exec (.anvHello h) s = .next (((s.greeted.answerHello (chooseVersion h.version)).joinCheck h (chooseVersion h.version)).joinAdvance) := by
  have answered := Posted.answerHello (v := chooseVersion h.version) (Posted.refl (s := s.greeted))
  have waits : ((s.greeted.answerHello (chooseVersion h.version)).anv.join.checked && (s.greeted.answerHello (chooseVersion h.version)).fm.hallmark.prs.isNone &&
      (s.greeted.answerHello (chooseVersion h.version)).fm.hallmark.bind.peerHas) = false := by
    rw [answered.fm, answered.anv]
    rcases turn with first | bound
    · rw [show s.greeted.anv.join.checked = false from first]; rfl
    · rw [show s.greeted.fm.hallmark.prs.isNone = false by rw [Option.isNone_eq_false_iff, Option.isSome_iff_ne_none]; exact bound]; simp
  have awake : ¬ ((Unheard s 1).partnerSeen.wr F.ANV_PAIR_PARKED 0).pwr.state = .sleep := by
    rw [show ((Unheard s 1).partnerSeen.wr F.ANV_PAIR_PARKED 0).pwr = s.pwr from rfl, run]; decide
  have free : ¬ ((s.fm.mode ≠ .joining ∧ s.fm.mode ≠ .solo) ∨ s.fm.pins.fenceOut = true) := by
    rcases mode with m | m <;> simp [m, open_]
  rw [exec_anvHello, execAnvHello, hear_of_no_dump dump _ (.inl rfl)]
  exact congrArg Host.Outcome.next ((if_neg awake).trans ((if_neg free).trans (congrArg State.joinAdvance (if_neg (Bool.eq_false_iff.1 waits)))))

theorem rd_partnerSeen_ne (s : State) {f : Field} (h : f.key ≠ F.ANV_TONGS_ALIVE_OK.key) : s.partnerSeen.rd f = s.rd f := State.rd_wr_ne _ _ h

theorem rd_partnerSeen (s : State) : s.partnerSeen.rd F.ANV_TONGS_ALIVE_OK = 1 := State.rd_wr _ _ _

theorem rd_greeted (s : State) (f : Field) : s.greeted.rd f = ((Unheard s 1).partnerSeen.wr F.ANV_PAIR_PARKED 0).rd f := rfl

theorem rd_greeted_ne (s : State) {f : Field} (h : f.key ≠ F.ANV_TONGS_ALIVE_OK.key) (h' : f.key ≠ F.ANV_PAIR_PARKED.key) : s.greeted.rd f = s.rd f := by
  rw [rd_greeted, State.rd_wr_ne _ _ h', rd_partnerSeen_ne _ h]; rfl

theorem rd_joinRecord_ne (s : State) (h : HelloInfo) (v : Nat) {f : Field} (hf : f.key ≠ F.ANV_PAIR_VERSION.key) : (s.joinRecord h v).rd f = s.rd f :=
  State.rd_wr_ne _ _ hf

theorem Posted.rd (h : Posted s t) (f : Field) : t.rd f = s.rd f := by
  obtain ⟨out, hth, gmp, rfl⟩ := h; rfl

theorem joinFault_partnerSeen (s : State) (type : Nat) (h : HelloInfo) (v : Option Nat) : (Unheard s type).partnerSeen.joinFault h v = s.joinFault h v :=
  joinFault_congr (t := (Unheard s type).partnerSeen) (s := s) rfl (rd_partnerSeen_ne (f := F.FOR_ID_HEAD) (Unheard s type) (by decide)) h v

theorem joinFault_answerHello (s : State) (w : Option Nat) (h : HelloInfo) (v : Option Nat) : (s.greeted.answerHello w).joinFault h v = s.joinFault h v := by
  have answered := Posted.answerHello (v := w) (Posted.refl (s := s.greeted))
  have head : s.greeted.rd F.FOR_ID_HEAD = s.rd F.FOR_ID_HEAD := rd_greeted_ne s (by decide) (by decide)
  have forme : (s.greeted.answerHello w).fm.forme = s.greeted.fm.forme := congrArg Foreman.forme answered.fm
  exact joinFault_congr (t := s.greeted.answerHello w) (s := s) forme ((answered.rd _).trans head) h v

/-- A partner that matches gets its answer and is recorded. -/
theorem anvHello_match {h : HelloInfo} {v : Nat} (mode : s.fm.mode = .joining ∨ s.fm.mode = .solo) (run : s.pwr.state = .run) (open_ : s.fm.pins.fenceOut = false)
    (enable : s.on F.ANV_CTRL_ENABLE = true) (dump : s.gly.dump = none) (offer : chooseVersion h.version = some v) (fits : s.joinFault h (some v) = none)
    (turn : s.anv.join.checked = false ∨ s.fm.hallmark.prs ≠ none) :
    ∃ t args d, exec (.anvHello h) s = .next t ∧ .anv .helloAck pairChan args d ∈ t.outbox ∧ args.head? = some v ∧ t.anv.join.checked = true ∧ t.anv.join.peer = some h ∧
      t.anv.join.version = some v ∧ t.anv.lost = false ∧ t.rd F.ANV_PAIR_PARKED = 0 ∧ t.on F.ANV_TONGS_ALIVE_OK = true ∧
      t.rd F.ANV_PAIR_VERSION = (v / 256 * 16 + v % 256) % F.ANV_PAIR_VERSION.span := by
  have on : s.greeted.on F.ANV_CTRL_ENABLE = true := by rw [State.on, rd_greeted_ne s (by decide) (by decide)]; exact enable
  obtain ⟨args, d, sends, head⟩ := anvHello_sends (s := s.greeted) (ty := .helloAck) v dump (.inl ⟨on, rfl⟩)
  have answer : s.greeted.answerHello (some v) = s.greeted.send (.anv .helloAck pairChan args d) := sends
  have shakes : Handshake ((s.greeted.send (.anv .helloAck pairChan args d)).joinRecord h v) ((s.greeted.answerHello (some v)).joinCheck h (some v)).joinAdvance := by
    rw [← answer]
    exact (joinCheck_of_match ((joinFault_answerHello s _ h _).trans fits)).joinAdvance
  have parked : s.greeted.rd F.ANV_PAIR_PARKED = 0 := by rw [rd_greeted, State.rd_wr]; rfl
  have alive : s.greeted.rd F.ANV_TONGS_ALIVE_OK = 1 := by rw [rd_greeted, State.rd_wr_ne _ _ (by decide), rd_partnerSeen]
  refine ⟨_, args, d, ?_, shakes.sent _ ?_, head, shakes.checked, shakes.peer, shakes.version, shakes.lost, ?_, ?_, ?_⟩
  · rw [execAnvHello_eq dump run mode open_ turn, offer]
  · exact List.mem_append_right _ (List.mem_singleton.2 rfl)
  · rw [shakes.regs _ (by decide : _ = _) (by decide), rd_joinRecord_ne _ _ _ (by decide), State.rd_send, parked]
  · rw [State.on, shakes.regs _ (by decide : _ = _) (by decide), rd_joinRecord_ne _ _ _ (by decide), State.rd_send, alive]; rfl
  · rw [shakes.regs _ (by decide : _ = _) (by decide)]
    exact State.rd_wr _ _ _

/-- A sleeping head wakes for HELLO (R396). -/
theorem anvHello_wakes (h : HelloInfo) (asleep : s.pwr.state = .sleep) (dump : s.gly.dump = none) :
    exec (.anvHello h) s = .next (((Unheard s 1).partnerSeen.wr F.ANV_PAIR_PARKED 0).wakeSource 3 []) := by
  rw [exec_anvHello, execAnvHello, hear_of_no_dump dump _ (.inl rfl)]
  exact congrArg Host.Outcome.next (if_pos asleep)

/-- A head that has fenced off its partner answers no HELLO. -/
theorem anvHello_fenced (h : HelloInfo) (run : s.pwr.state = .run) (fence : s.fm.pins.fenceOut = true) (dump : s.gly.dump = none) :
    exec (.anvHello h) s = .next ((Unheard s 1).partnerSeen.wr F.ANV_PAIR_PARKED 0) := by
  rw [exec_anvHello, execAnvHello, hear_of_no_dump dump _ (.inl rfl)]
  have awake : ¬ ((Unheard s 1).partnerSeen.wr F.ANV_PAIR_PARKED 0).pwr.state = .sleep := by
    rw [show ((Unheard s 1).partnerSeen.wr F.ANV_PAIR_PARKED 0).pwr = s.pwr from rfl, run]; decide
  exact congrArg Host.Outcome.next ((if_neg awake).trans (if_pos (.inr fence)))

theorem execAnvHelloAck_eq {h : HelloInfo} (hears : Hears s) (joining : s.fm.mode = .joining) : exec (.anvHelloAck h) s =
    .next (((Unheard s 2).partnerSeen.joinCheck h (if h.version / 256 = 1 ∧ h.version ≤ anvilVersion then some h.version else none)).joinAdvance) := by
  rw [exec_anvHelloAck, execAnvHelloAck, hear_of_hears hears]
  exact congrArg Host.Outcome.next (if_neg fun away => away.1 joining)

/-- A mismatch in HELLO_ACK stops the pair (R351). -/
theorem anvHelloAck_mismatch {h : HelloInfo} {e : EventName} (joining : s.fm.mode = .joining) (hears : Hears s) (first : s.anv.join.stalled = none)
    (fault : s.joinFault h (if h.version / 256 = 1 ∧ h.version ≤ anvilVersion then some h.version else none) = some e) :
    exec (.anvHelloAck h) s = .next ((Unheard s 2).partnerSeen.joinStall e) := by
  rw [execAnvHelloAck_eq hears joining, joinCheck_of_fault ((joinFault_partnerSeen s 2 h _).trans fault), joinAdvance_joinStall (s := (Unheard s 2).partnerSeen) joining first]

/-- A mismatch in HELLO stops the pair (R351). -/
theorem anvHello_mismatch {h : HelloInfo} {e : EventName} (joining : s.fm.mode = .joining) (run : s.pwr.state = .run) (dump : s.gly.dump = none)
    (open_ : s.fm.pins.fenceOut = false) (turn : s.anv.join.checked = false ∨ s.fm.hallmark.prs ≠ none) (first : s.anv.join.stalled = none)
    (fault : s.joinFault h (chooseVersion h.version) = some e) :
    exec (.anvHello h) s = .next ((s.greeted.answerHello (chooseVersion h.version)).joinStall e) := by
  have answered := Posted.answerHello (v := chooseVersion h.version) (Posted.refl (s := s.greeted))
  rw [execAnvHello_eq dump run (.inl joining) open_ turn, joinCheck_of_fault ((joinFault_answerHello s _ h _).trans fault),
    joinAdvance_joinStall (answered.fm ▸ joining) (answered.anv ▸ first)]

/-- With a partner of another galley size the head stays in Joining, unjoined and with an alarm (R20). -/
theorem anvHello_galleySize {h : HelloInfo} (size : h.galleyGib ≠ s.galleyGib) (joining : s.fm.mode = .joining) (first : s.anv.join.stalled = none) (run : s.pwr.state = .run)
    (dump : s.gly.dump = none) (open_ : s.fm.pins.fenceOut = false) (turn : s.anv.join.checked = false ∨ s.fm.hallmark.prs ≠ none) :
    ∃ t, exec (.anvHello h) s = .next t ∧ t.fm.mode = .joining ∧ t.on F.FOR_INT_STATUS_ALARM = true ∧ t.anv.join.checked = s.anv.join.checked := by
  obtain ⟨e, fault⟩ := joinFault_of_galleyGib h (chooseVersion h.version) size
  have answered := Posted.answerHello (v := chooseVersion h.version) (Posted.refl (s := s.greeted))
  have mode : (s.greeted.answerHello (chooseVersion h.version)).fm.mode = .joining := answered.fm ▸ joining
  have fresh : (s.greeted.answerHello (chooseVersion h.version)).anv.join.stalled = none := answered.anv ▸ first
  refine ⟨_, anvHello_mismatch joining run dump open_ turn first fault, ?_, joinStall_alarms mode fresh, ?_⟩
  · rw [joinStall_fm]; exact mode
  · rw [joinStall_anv mode fresh, answered.anv]; rfl

theorem anvHelloAck_galleySize {h : HelloInfo} (size : h.galleyGib ≠ s.galleyGib) (joining : s.fm.mode = .joining) (first : s.anv.join.stalled = none) (hears : Hears s) :
    ∃ t, exec (.anvHelloAck h) s = .next t ∧ t.fm.mode = .joining ∧ t.on F.FOR_INT_STATUS_ALARM = true ∧ t.anv.join.checked = s.anv.join.checked := by
  obtain ⟨e, fault⟩ := joinFault_of_galleyGib h (if h.version / 256 = 1 ∧ h.version ≤ anvilVersion then some h.version else none) size
  refine ⟨_, anvHelloAck_mismatch joining hears first fault, ?_, joinStall_alarms (s := (Unheard s 2).partnerSeen) joining first, ?_⟩
  · rw [joinStall_fm]; exact joining
  · rw [joinStall_anv (s := (Unheard s 2).partnerSeen) joining first]; rfl

/-- What a head that a mismatch has stopped shows. -/
theorem anvHelloAck_stalls {h : HelloInfo} {e : EventName} (joining : s.fm.mode = .joining) (hears : Hears s) (first : s.anv.join.stalled = none)
    (fault : s.joinFault h (if h.version / 256 = 1 ∧ h.version ≤ anvilVersion then some h.version else none) = some e) :
    ∃ t, exec (.anvHelloAck h) s = .next t ∧ t.anv.join.stalled = some s.now ∧ t.on F.ANV_INT_STATUS_JOIN_STALL = true ∧ t.fm.mode = .joining ∧
      t.anv.join.checked = s.anv.join.checked := by
  have now : (Unheard s 2).partnerSeen.now = s.now := rd_partnerSeen_ne (f := F.TIM_NOW_NS) (Unheard s 2) (by decide)
  refine ⟨_, anvHelloAck_mismatch joining hears first fault, ?_, joinStall_shows (s := (Unheard s 2).partnerSeen) joining first, ?_, ?_⟩
  · rw [joinStall_anv (s := (Unheard s 2).partnerSeen) joining first, now]
  · rw [joinStall_fm]; exact joining
  · rw [joinStall_anv (s := (Unheard s 2).partnerSeen) joining first]; rfl

/-- HELLO_ACK with a version that this head has, from a partner that matches, is recorded. -/
theorem anvHelloAck_match {h : HelloInfo} (joining : s.fm.mode = .joining) (hears : Hears s) (major : h.version / 256 = 1) (minor : h.version ≤ anvilVersion)
    (fits : s.joinFault h (some h.version) = none) :
    ∃ t, exec (.anvHelloAck h) s = .next t ∧ t.anv.join.checked = true ∧ t.anv.join.version = some h.version ∧ t.anv.join.peer = some h := by
  have shakes := (joinCheck_of_match ((joinFault_partnerSeen s 2 h _).trans fits)).joinAdvance
  refine ⟨_, ?_, shakes.checked, shakes.version, shakes.peer⟩
  rw [execAnvHelloAck_eq hears joining, if_pos ⟨major, minor⟩]

theorem helloRetryTimer_sends (joining : s.fm.mode = .joining) (stalled : s.anv.join.stalled ≠ none) (dump : s.gly.dump = none) :
    ∃ t args d, exec .helloRetryTimer s = .next t ∧ t.outbox = s.outbox ++ [.anv .hello pairChan args d] ∧ args.head? = some anvilVersion := by
  obtain ⟨args, d, sends, head⟩ := anvHello_sends (s := s) (ty := .hello) anvilVersion dump (.inr (.inr (.inl rfl)))
  refine ⟨_, args, d, congrArg Host.Outcome.next ((if_pos ⟨joining, Option.isSome_iff_ne_none.2 stalled⟩).trans sends), rfl, head⟩

theorem helloRetryTimer_idle (going : s.anv.join.stalled = none) : exec .helloRetryTimer s = .next s :=
  congrArg Host.Outcome.next (if_neg (by simp [going]))

end

/-! ## STATUS and PARK (R142, R352, R358) -/

/-- What the work after a STATUS keeps of what it said. -/
structure Reported (s t : State) : Prop where
  peerMode : t.rd F.ANV_PAIR_PEER_MODE = s.rd F.ANV_PAIR_PEER_MODE
  alive : t.rd F.ANV_TONGS_ALIVE_OK = s.rd F.ANV_TONGS_ALIVE_OK
  peer : t.gly.peer = s.gly.peer
  lastStatus : t.gly.lastStatus = s.gly.lastStatus

section
variable {s t u : State}

theorem Reported.refl : Reported s s := ⟨rfl, rfl, rfl, rfl⟩

theorem Reported.trans (h : Reported s t) (k : Reported t u) : Reported s u :=
  ⟨k.peerMode.trans h.peerMode, k.alive.trans h.alive, k.peer.trans h.peer, k.lastStatus.trans h.lastStatus⟩

theorem Reported.update (h : Reported s t) (gly : u.gly = t.gly := by rfl) (flds : u.flds = t.flds := by rfl) : Reported s u :=
  h.trans ⟨State.rd_congr flds _, State.rd_congr flds _, congrArg Galley.peer gly, congrArg Galley.lastStatus gly⟩

theorem Reported.quiet (h : Reported s t) (k : Quiet t u) (peer : u.gly.peer = t.gly.peer) (last : u.gly.lastStatus = t.gly.lastStatus) : Reported s u :=
  h.trans ⟨k.regs _ (by decide : _ = _), k.regs _ (by decide : _ = _), peer, last⟩

theorem Reported.wr {f : Field} {v : Nat} (h : Reported s t) (mode : F.ANV_PAIR_PEER_MODE.key ≠ f.key := by decide) (alive : F.ANV_TONGS_ALIVE_OK.key ≠ f.key := by decide) :
    Reported s (t.wr f v) := h.trans ⟨State.rd_wr_ne _ _ mode, State.rd_wr_ne _ _ alive, rfl, rfl⟩

theorem Reported.raise {f : Field} (h : Reported s t) (mode : F.ANV_PAIR_PEER_MODE.key ≠ f.key := by decide) (alive : F.ANV_TONGS_ALIVE_OK.key ≠ f.key := by decide) :
    Reported s (t.raise f) := h.wr mode alive

theorem Reported.note {src : Block} {e : EventName} {st : Status} {args : List Nat} (h : Reported s t) : Reported s (t.note src e st args) :=
  h.quiet Quiet.refl.note (congrArg Galley.peer (State.logRec_gly ..)) (congrArg Galley.lastStatus (State.logRec_gly ..))

theorem Reported.posted (h : Reported s t) (k : Posted t u) : Reported s u := by
  obtain ⟨out, hth, gmp, rfl⟩ := k
  exact h.update

theorem applyRec_gly {r : JRec} (seq : Nat) (hr : r.sparesVolumes = true) : (t.applyRec seq r).gly = t.gly := by
  cases r <;> try contradiction
  case sheet id st m head =>
    simp only [State.applyRec]
    split <;> rfl
  all_goals rfl

theorem Reported.journal {recs : List JRec} (h : Reported s t) (hr : ∀ r ∈ recs, r.sparesVolumes = true) : Reported s (t.journal recs) := by
  have applied (q : Nat) : Reported s (recs.foldl (State.applyRec q) t) :=
    List.foldlRecOn (motive := Reported s) recs _ h fun u hu r mem =>
      hu.quiet (Quiet.refl.applyRec (hr r mem)) (congrArg Galley.peer (applyRec_gly q (hr r mem))) (congrArg Galley.lastStatus (applyRec_gly q (hr r mem)))
  refine keeps_ite h (Reported.posted ?_ Posted.refl.sendWaiting)
  exact Reported.update (keeps_ite ((applied _).raise (f := F.HTH_INT_STATUS_JOURNAL_FULL)) (applied _))

theorem Reported.toMode {m : Mode} {safe : Bool} (h : Reported s t) : Reported s (t.toMode m safe) := by
  unfold State.toMode
  extract_lets runs _ s₁ _ s₂
  have h₁ : Reported s s₁ := keeps_ite h.update h
  have h₂ : Reported s s₂ := h₁.update
  exact keeps_ite h h₂.wr.wr.raise

theorem Reported.galleyEval (h : Reported s t) : Reported s t.galleyEval :=
  h.quiet Evaluated.refl.galleyEval.quiet Evaluated.refl.galleyEval.peer Evaluated.refl.galleyEval.lastStatus

theorem Reported.correct {off : Int} (h : Reported s t) : Reported s (t.correct off) :=
  keeps_ite (Reported.update (t := t) h).wr.wr.raise (Reported.update (t := t) h).wr

theorem Reported.discipline {off : Int} {quality unc source : Nat} (h : Reported s t) : Reported s (t.discipline off quality unc source) := by
  unfold State.discipline
  extract_lets s₁ _ s₂
  have h₂ : Reported s s₂ := (Reported.correct h).update
  have h₃ : Reported s (s₂.setQuality quality) := keeps_ite h₂ h₂.wr.raise.note
  exact Reported.wr (keeps_ite h₃ h₃.wr.note)

theorem Reported.partnerTime {time quality unc : Nat} (h : Reported s t) : Reported s (t.partnerTime time quality unc) := keeps_ite h.discipline h

theorem Reported.mediaReturn (h : Reported s t) : Reported s t.mediaReturn := by
  unfold State.mediaReturn
  extract_lets ids s₁ lost body s₂ _ _ s₃ s₄
  have h₁ : Reported s s₁ := h.journal fun r mem => by
    obtain ⟨_, _, rfl⟩ := List.mem_map.1 mem
    rfl
  have h₂ : Reported s s₂ := h₁.posted Posted.refl.anvil
  have h₃ : Reported s s₃ := h₂.update
  exact keeps_ite h h₃.wr.wr.raise.toMode

theorem Reported.leaseEnd (h : Reported s t) : Reported s t.leaseEnd := by
  unfold State.leaseEnd
  extract_lets b kept s₁ stage _
  have h₁ : Reported s s₁ := keeps_ite h h.update
  exact keeps_ite h (Reported.raise h₁.update)

theorem Reported.actReturned {done : Bool} (h : Reported s t) : Reported s (t.actReturned done) := by
  have ended : Reported s { t with upd := { t.upd with act := .none, stage := .idle, initiator := false, formeOnly := false } } := h.update
  exact keeps_ite (keeps_ite ended.leaseEnd.raise ended.leaseEnd) h

/-- STATUS records what it says. -/
theorem anvStatus_records (mode flags e ereq ecov time q unc : Nat) (hears : Hears s) :
    ∃ t, exec (.anvStatus mode flags e ereq ecov time q unc) s = .next t ∧ t.rd F.ANV_PAIR_PEER_MODE = mode % F.ANV_PAIR_PEER_MODE.span ∧
      t.gly.peer = { e := if bitOf flags 1 then 0 else e, req := ereq, cov := ecov, seen := true } ∧ t.gly.lastStatus = s.now ∧ t.on F.ANV_TONGS_ALIVE_OK = true := by
  rw [exec_anvStatus, execAnvStatus, hear_of_hears hears]
  extract_lets was s₁ e' _ s₂ s₃
  have now : s₁.now = s.now := by
    unfold State.now s₁
    rw [State.rd_wr_ne _ _ (by decide), rd_partnerSeen_ne _ (by decide)]; rfl
  have mode' : s₂.rd F.ANV_PAIR_PEER_MODE = mode % F.ANV_PAIR_PEER_MODE.span := State.rd_wr _ _ _
  have alive : s₂.rd F.ANV_TONGS_ALIVE_OK = 1 := (State.rd_wr_ne _ _ (by decide)).trans (rd_partnerSeen _)
  have h₃ : Reported s₂ s₃ := keeps_ite Reported.refl.toMode .refl
  have kept : Reported s₂ (((s₃.galleyEval.partnerTime time q unc).mediaReturn).actReturned (was == 7 && mode != 7)) :=
    h₃.galleyEval.partnerTime.mediaReturn.actReturned
  refine ⟨_, rfl, kept.peerMode.trans mode', kept.peer, kept.lastStatus.trans now, ?_⟩
  rw [State.on, kept.alive, alive]; rfl

theorem anvPark_parks (hears : Hears s) : ∃ t, exec .anvPark s = .next t ∧ t.on F.ANV_PAIR_PARKED = true := by
  refine ⟨(Unheard s 4).wr F.ANV_PAIR_PARKED 1, ?_, ?_⟩
  · rw [exec_anvPark, execAnvPark, hear_of_hears hears]
  · rw [State.on, State.rd_wr]; rfl

end

section
variable {s t u : State}

/-! ## Messages of a partner counted lost (R357) -/

theorem lost_unheard (h : HelloInfo) (a b c d e f g i : Nat) (x y : Bytes) (has : Bool) (lost : s.anv.lost = true) :
    exec (.anvHelloAck h) s = .next (Unheard s 2) ∧ exec (.anvStatus a b c d e f g i) s = .next (Unheard s 3) ∧ exec .anvPark s = .next (Unheard s 4) ∧
      exec .anvReleased s = .next (Unheard s 6) ∧ exec (.anvBindOffer x has y) s = .next (Unheard s 7) ∧ exec (.anvBindXfer x) s = .next (Unheard s 8) ∧
      exec (.anvBindProof x) s = .next (Unheard s 9) := by
  have unheard {type : Nat} (act : State → State) (h1 : type ≠ 1) (h5 : type ≠ 5) : (.next (s.hear type act) : Out1) = .next (Unheard s type) :=
    congrArg Host.Outcome.next (hear_of_lost lost act h1 h5)
  exact ⟨unheard _ (by decide) (by decide), unheard _ (by decide) (by decide), unheard _ (by decide) (by decide), unheard _ (by decide) (by decide),
    unheard _ (by decide) (by decide), unheard _ (by decide) (by decide), unheard _ (by decide) (by decide)⟩

/-! ## REJOIN and RELEASED (R366, R367) -/

/-- A partner that rejoins counts as lost no more, and what the pair had exchanged is forgotten. -/
def State.welcomeBack (s : State) : State :=
  { s with anv := { s.anv with lost := false, join := {}, takeover := none } }.modPairBind fun _ => {}

/-- The head that gives its partner's modules back lifts the fence and says so. -/
theorem anvRejoin_releases {h : HelloInfo} (solo : s.fm.mode = .solo) (dump : s.gly.dump = none)
    (fits : s.joinFault { h with head := s.peer, galleyGib := s.galleyGib } (chooseVersion h.version) = none) :
    ∃ t, exec (.anvRejoin h) s = .next t ∧ t.anv.lost = false ∧ t.fm.pins.fenceOut = false ∧ t.on F.ANV_TONGS_FENCE_OUT = false ∧ t.anv.takeover = none ∧
      .anv .released pairChan [] [] ∈ t.outbox := by
  have head : (Unheard s 5).partnerSeen.head = s.head := rd_partnerSeen_ne (f := F.FOR_ID_HEAD) (Unheard s 5) (by decide)
  have peer : (Unheard s 5).partnerSeen.peer = s.peer := by unfold State.peer; rw [head]
  have fits' : (Unheard s 5).partnerSeen.joinFault { h with head := (Unheard s 5).partnerSeen.peer, galleyGib := (Unheard s 5).partnerSeen.galleyGib } (chooseVersion h.version) = none := by
    rw [joinFault_partnerSeen, peer]
    exact fits
  have opened := Posted.refl (s := (Unheard s 5).partnerSeen.welcomeBack.driveFence false).unfenceAll
  have sends : ((Unheard s 5).partnerSeen.welcomeBack.driveFence false).unfenceAll.anvil .released pairChan [] = _ :=
    anvil_sends pairChan [] [] (by rw [opened.gly]; exact dump) (.inr (.inr (.inr rfl)))
  have said := opened.send (.anv .released pairChan [] [])
  refine ⟨_, ?_, congrArg Anvil.lost said.anv, congrArg (fun x : Foreman => x.pins.fenceOut) said.fm, ?_, congrArg Anvil.takeover said.anv,
    List.mem_append_right _ (List.mem_singleton.2 rfl)⟩
  · rw [← sends, exec_anvRejoin, execAnvRejoin, hear_of_no_dump dump _ (.inr rfl)]
    refine congrArg Host.Outcome.next ((if_neg fun away => away solo).trans ?_)
    rw [fits']
    rfl
  · rw [State.on, said.rd, State.driveFence, State.rd_wr]; rfl

theorem anvRejoin_elsewhere (h : HelloInfo) (mode : s.fm.mode ≠ .solo) (dump : s.gly.dump = none) : exec (.anvRejoin h) s = .next (Unheard s 5).partnerSeen := by
  rw [exec_anvRejoin, execAnvRejoin, hear_of_no_dump dump _ (.inr rfl)]
  exact congrArg Host.Outcome.next (if_pos mode)

/-- A joiner that waited for RELEASED goes on with HELLO. -/
theorem anvReleased_greets (hears : Hears s) (waits : s.anv.rejoinWait = true) (joining : s.fm.mode = .joining) :
    ∃ t args d, exec .anvReleased s = .next t ∧ t.anv.rejoinWait = false ∧ .anv .hello pairChan args d ∈ t.outbox := by
  obtain ⟨args, d, sends, -⟩ := anvHello_sends (s := { Unheard s 6 with anv := { (Unheard s 6).anv with rejoinWait := false } }) (ty := .hello) anvilVersion hears.2
    (.inr (.inr (.inl rfl)))
  refine ⟨({ Unheard s 6 with anv := { (Unheard s 6).anv with rejoinWait := false } } : State).send (.anv .hello pairChan args d), args, d, ?_, rfl,
    List.mem_append_right _ (List.mem_singleton.2 rfl)⟩
  rw [exec_anvReleased, execAnvReleased, hear_of_hears hears, ← sends]
  exact congrArg Host.Outcome.next ((if_neg (by simp [waits])).trans (if_pos joining))

theorem anvReleased_idle (idle : s.anv.rejoinWait = false) : exec .anvReleased s = .next (Unheard s 6) := by
  rw [exec_anvReleased, execAnvReleased, State.hear]
  exact congrArg Host.Outcome.next (ite_eq_left_iff.2 fun _ => if_pos (by simp [idle]))

/-! ## Binding (R424) -/

theorem joinStall_hallmark (s : State) (e : EventName) : (s.joinStall e).fm.hallmark = s.fm.hallmark := by rw [joinStall_fm]

theorem joinAdvance_fm (s : State) : s.joinAdvance.fm = s.fm := by
  unfold State.joinAdvance
  extract_lets _ _ s₁ stale _ s₂
  have h₂ : s₂.fm = s.fm := by unfold s₂; split <;> rfl
  split
  · rfl
  · split
    · exact h₂
    · exact (sendBacklog_posted s₂).fm.trans h₂

theorem bindOffer_offered (s : State) : s.bindOffer.fm.hallmark.bind.offered = true := by
  unfold State.bindOffer
  split
  · assumption
  · exact congrArg (fun x : Foreman => x.hallmark.bind.offered) Posted.refl.anvil.fm

theorem anvBindOffer_stores (nonce cert : Bytes) (has : Bool) (hears : Hears s) (checked : s.anv.join.checked = true) (joining : s.fm.mode = .joining)
    (first : s.anv.join.stalled = none) :
    ∃ t, exec (.anvBindOffer nonce has cert) s = .next t ∧
      if Config.certValid cert then t.fm.hallmark.bind.peerNonce = nonce ∧ t.fm.hallmark.bind.peerHas = has ∧ t.fm.hallmark.bind.offered = true
      else t.on F.ANV_INT_STATUS_JOIN_STALL = true ∧ t.fm.hallmark = s.fm.hallmark := by
  have offers {x : State} (eq : (if Config.certValid cert then ((Unheard s 7).modPairBind fun b => { b with peerNonce := nonce, peerHas := has, peerCert := cert }).bindOffer.bindGo
      else (Unheard s 7).joinStall .bindFail) = x) : exec (.anvBindOffer nonce has cert) s = .next x := by
    rw [exec_anvBindOffer, execAnvBindOffer, hear_of_hears hears, ← eq]
    refine congrArg Host.Outcome.next ((if_neg (by simp [checked])).trans ?_)
    cases Config.certValid cert <;> rfl
  refine ⟨_, offers rfl, ?_⟩
  split
  · have shakes := (Handshake.refl (s := (Unheard s 7).modPairBind fun b => { b with peerNonce := nonce, peerHas := has, peerCert := cert })).bindOffer
    exact ⟨(shakes.bindGo).nonce, shakes.bindGo.has, Handshake.refl.bindGo.offered (bindOffer_offered _)⟩
  · exact ⟨joinStall_shows (s := Unheard s 7) joining first, joinStall_hallmark _ _⟩

/-- The pair record is taken from the message when it opens with the key of the exchange. -/
theorem anvBindXfer_stores (w : Bytes) (hears : Hears s) (unbound : s.fm.hallmark.prs = none) (offered : s.fm.hallmark.bind.offered = true)
    (nonce : s.fm.hallmark.bind.peerNonce ≠ []) (joining : s.fm.mode = .joining) (first : s.anv.join.stalled = none) :
    ∃ t, exec (.anvBindXfer w) s = .next t ∧ match aesUnwrap (s.xferKey s.fm.hallmark.bind.peerNonce s.fm.hallmark.bind.myNonce) w with
      | some p => t.fm.hallmark.prs = some p
      | none => t.on F.ANV_INT_STATUS_JOIN_STALL = true ∧ t.fm.hallmark.prs = none := by
  have takes : ¬ ((s.fm.hallmark.prs.isSome || !s.fm.hallmark.bind.offered || s.fm.hallmark.bind.peerNonce.isEmpty) = true) := by simp [unbound, offered, nonce]
  rw [exec_anvBindXfer, execAnvBindXfer, hear_of_hears hears]
  refine ⟨_, congrArg Host.Outcome.next (if_neg takes), ?_⟩
  have key : (Unheard s 8).xferKey s.fm.hallmark.bind.peerNonce s.fm.hallmark.bind.myNonce = s.xferKey s.fm.hallmark.bind.peerNonce s.fm.hallmark.bind.myNonce := rfl
  rw [key]
  cases aesUnwrap (s.xferKey s.fm.hallmark.bind.peerNonce s.fm.hallmark.bind.myNonce) w with
  | none => exact ⟨joinStall_shows (s := Unheard s 8) joining first, (congrArg Hallmark.prs (joinStall_hallmark (Unheard s 8) .bindFail)).trans unbound⟩
  | some p => exact congrArg (fun x : Foreman => x.hallmark.prs) (Posted.refl.anvil).fm

theorem anvBindXfer_bound (w : Bytes) (bound : s.fm.hallmark.prs ≠ none) : exec (.anvBindXfer w) s = .next (Unheard s 8) := by
  rw [exec_anvBindXfer, execAnvBindXfer, State.hear]
  exact congrArg Host.Outcome.next (ite_eq_left_iff.2 fun _ => if_pos (by simp [Option.isSome_iff_ne_none.2 bound]))

/-- A proof is accepted when it is made with the pair record that this head holds. -/
theorem anvBindProof_checks (mac p : Bytes) (hears : Hears s) (bound : s.fm.hallmark.prs = some p) (offered : s.fm.hallmark.bind.offered = true)
    (nonce : s.fm.hallmark.bind.peerNonce ≠ []) (joining : s.fm.mode = .joining) (first : s.anv.join.stalled = none) :
    ∃ t, exec (.anvBindProof mac) s = .next t ∧
      if mac = hmac384 p (s.fm.hallmark.bind.peerNonce ++ s.fm.hallmark.bind.myNonce) then t.fm.hallmark.bind.proven = true
      else t.on F.ANV_INT_STATUS_JOIN_STALL = true ∧ t.fm.hallmark = s.fm.hallmark := by
  have checks {x : State} (eq : (if mac = hmac384 p (s.fm.hallmark.bind.peerNonce ++ s.fm.hallmark.bind.myNonce) then
      ((Unheard s 9).modPairBind fun b => { b with proven := true }).joinAdvance else (Unheard s 9).joinStall .bindFail) = x) : exec (.anvBindProof mac) s = .next x := by
    rw [exec_anvBindProof, execAnvBindProof, hear_of_hears hears, ← eq]
    dsimp only
    rw [bound]
    exact congrArg Host.Outcome.next (if_neg (by simp [offered, nonce]))
  refine ⟨_, checks rfl, ?_⟩
  split
  · rw [joinAdvance_fm]; rfl
  · exact ⟨joinStall_shows (s := Unheard s 9) joining first, joinStall_hallmark _ _⟩

/-! ## START_ALONE_TIMER (R142, R367) -/

theorem Quiet.seatClaim {after : Option Nat} (h : Quiet s t) : Quiet s (t.seatClaim after) := by
  unfold State.seatClaim
  dsimp only
  split
  · exact h.set_gmp.posted Posted.refl.gmpSend
  · split
    · exact h.alarm.set_gmp.posted Posted.refl.gmpSend
    · exact h.set_gmp

theorem Quiet.fenceAndClaim (s : State) : Quiet (s.driveFence true) s.fenceAndClaim := (Quiet.refl (s := s.driveFence true)).set_gmp.seatClaim

/-- The head counts its partner lost and begins a takeover of its own accord. -/
def State.goesAlone (s : State) : State :=
  { s with anv := { s.anv with lost := true, join := {}, takeover := some { t0 := s.now, cause := 0, short := false, alone := true } } }

/-- A head that has seen nothing of its partner for 30 s starts alone. -/
theorem startAloneTimer_starts (joining : s.fm.mode = .joining) (free : s.anv.takeover = none) (waits : s.anv.rejoinWait = false) (down0 : s.bundleState false ≠ 2)
    (down1 : s.bundleState true ≠ 2) (unseen : s.anv.edgeSeen = false) (due : s.anv.joinedAt + 30000000000 ≤ s.now) :
    ∃ t, exec .startAloneTimer s = .next t ∧ t.anv.takeover = some { t0 := s.now, cause := 0, short := false, alone := true } ∧ t.anv.lost = true ∧
      t.fm.pins.fenceOut = true ∧ t.on F.ANV_TONGS_FENCE_OUT = true := by
  have claims : Quiet (s.goesAlone.driveFence true) s.startAlone := .fenceAndClaim _
  refine ⟨s.startAlone, ?_, congrArg Anvil.takeover claims.anv, congrArg Anvil.lost claims.anv, congrArg (fun x : Foreman => x.pins.fenceOut) claims.fm, ?_⟩
  · simp [execStartAloneTimer, joining, free, waits, down0, down1, unseen, due]
  · rw [State.on, claims.regs _ (by decide : _ = _), State.driveFence, State.rd_wr]; rfl

theorem startAloneTimer_elsewhere (away : s.fm.mode ≠ .joining) : exec .startAloneTimer s = .next s :=
  if_pos (.inl away)

end

/-- Settles O53: a clause is one of the lemmas above, about one instruction and one outcome. -/
theorem joiningAndStatus : Obligations.JoiningAndStatus := by
  unfold Obligations.JoiningAndStatus
  exact ⟨fun _ h a b c d e f g i x y has lost => lost_unheard h a b c d e f g i x y has lost,
    fun _ _ _ mode run open_ enable dump offer fits turn => anvHello_match mode run open_ enable dump offer fits turn,
    fun _ h asleep dump => anvHello_wakes h asleep dump,
    fun _ h run fence dump => anvHello_fenced h run fence dump,
    fun _ _ _ joining hears first fault => anvHelloAck_stalls joining hears first fault,
    fun _ _ size joining first => ⟨anvHelloAck_galleySize size joining first, anvHello_galleySize size joining first⟩,
    fun _ _ joining hears _ major minor fits => anvHelloAck_match joining hears major minor fits,
    fun _ joining stalled dump => helloRetryTimer_sends joining stalled dump,
    fun _ going => helloRetryTimer_idle going,
    fun _ mode flags e ereq ecov time q unc hears => anvStatus_records mode flags e ereq ecov time q unc hears,
    fun _ hears => anvPark_parks hears,
    fun _ _ solo dump fits => anvRejoin_releases solo dump fits,
    fun _ h mode dump => anvRejoin_elsewhere h mode dump,
    fun _ hears waits joining => anvReleased_greets hears waits joining,
    fun _ idle => anvReleased_idle idle,
    fun _ nonce cert has hears checked joining first => anvBindOffer_stores nonce cert has hears checked joining first,
    fun _ w hears unbound offered nonce joining first => anvBindXfer_stores w hears unbound offered nonce joining first,
    fun _ w bound => anvBindXfer_bound w bound,
    fun _ mac p hears bound offered nonce joining first => anvBindProof_checks mac p hears bound offered nonce joining first,
    fun _ joining free waits down0 down1 unseen due => startAloneTimer_starts joining free waits down0 down1 unseen due,
    fun _ away => ⟨startAloneTimer_elsewhere away, joinBacklogDone_elsewhere away⟩,
    fun _ joined mask solo => joinBacklogDone_serving joined mask solo,
    fun _ joined mask joining both => joinBacklogDone_standingBy joined mask joining both,
    fun _ joined mask joining both => joinBacklogDone_fromForming joined mask joining both,
    fun _ unjoined => joinBacklogDone_unjoined unjoined⟩

end Sys2Proof.Machine

namespace Sys2Proof.Machine

/-! ## Transfer tags (R62, R88, R89) -/

/-- The record of a token issued to the command `x` in slot `n`: whom the tag stands for, and the bytes it asks for. -/
def State.tokenRecord (s : State) (n : Nat) (x : Task) (tag : Nat) : Token :=
  { Tab.get ({} : Token) s.stk.tokens tag with slot := some n, conn := (s.ctx x.ctx).xportRef, cccid := x.cmd.cid, next := x.data.length, stop := x.need }

/-- The head once the command `x` in slot `n` has taken the next fresh tag; nothing has gone out yet. -/
def State.issueFresh (s : State) (n : Nat) (x : Task) : State :=
  let tag := s.stk.freshTag
  (({ s with stk := { s.stk with freshTag := tag + 1, tokens := Tab.put s.stk.tokens tag (s.tokenRecord n x tag) } } : State).setTask n { x with token := some tag }).modCtx x.ctx
    fun c => { c with tokensOut := c.tokensOut + 1 }

/-- From `s` to `t` data was dropped as stale: it was counted and recorded with status 0x0103, and no command, connection or piece changed (R62, R89). -/
def DropsStale (s t : State) : Prop :=
  t.stk = s.stk ∧ t.chs = s.chs ∧ t.gly = s.gly ∧ t.on F.STK_INT_STATUS_STALE = true ∧
    t.rd F.STK_STALE_CNT_COUNT = (s.rd F.STK_STALE_CNT_COUNT + 1) % F.STK_STALE_CNT_COUNT.span ∧ (Tab.find t.flt.log (t.flt.eventSeq % 65536)).map (·.status) = some 0x0103

section
variable {s : State}

/-! ### Issuing a token -/

theorem takeTag_fresh (fresh : s.stk.freshTag < 65536) : s.takeTag = some (s.stk.freshTag, { s with stk := { s.stk with freshTag := s.stk.freshTag + 1 } }) :=
  if_pos fresh

@[simp] theorem issueFresh_task (s : State) (n : Nat) (x : Task) : (s.issueFresh n x).task? n = some { x with token := some s.stk.freshTag } := Tab.find_put ..

@[simp] theorem issueFresh_token (s : State) (n : Nat) (x : Task) :
    Tab.get ({} : Token) (s.issueFresh n x).stk.tokens s.stk.freshTag = s.tokenRecord n x s.stk.freshTag := Tab.get_put ..

/-- A stamped command over NVMe/TCP that waits for data takes a fresh tag, and the R2T PDU names the tag and not its record (R62, R88). -/
theorem tokenIssue_sends_r2t {n : Nat} {x : Task} (task : s.task? n = some x) (stamped : x.state = .stamped) (going : x.complete = false) (untagged : x.token = none)
    (outside : x.cmd.inCapsule = false) (tcp : (s.ctx x.ctx).transport = .tcp) (own : isInbound x.ctx = false) (fresh : s.stk.freshTag < 65536) :
    exec (.tokenIssue n) s =
      .next ((s.issueFresh n x).send (.r2t (s.ctx x.ctx).xportRef s.stk.freshTag x.cmd.cid x.data.length (x.need - x.data.length))) := by
  simp [execTokenIssue, task, stamped, going, untagged, outside, tcp, own, takeTag_fresh fresh, State.issueFresh, State.tokenRecord]

/-! ### Stale data -/

@[simp] theorem State.logRec_eventSeq (s : State) (src : Block) (sev : Nat) (e : EventName) (st : Status) (ch : Chan) (args : List Nat) :
    (s.logRec src sev e st ch args).flt.eventSeq = s.flt.eventSeq + 1 := by
  simp only [State.logRec]
  repeat' split
  all_goals rfl

@[simp] theorem State.logRec_log (s : State) (src : Block) (sev : Nat) (e : EventName) (st : Status) (ch : Chan) (args : List Nat) :
    (s.logRec src sev e st ch args).flt.log = Tab.put s.flt.log ((s.flt.eventSeq + 1) % 65536)
      ⟨s.now, s.rd F.TIM_STATUS_QUALITY, sev, src.source, e, st, s.flt.eventSeq + 1, ch.kind, ch.index, args⟩ := by
  simp only [State.logRec]
  repeat' split
  all_goals rfl

/-- The newest record of the event log is the one just written, and carries its status (R385). -/
theorem note_status (s : State) (src : Block) (e : EventName) (st : Status) (args : List Nat) :
    (Tab.find (s.note src e st args).flt.log ((s.note src e st args).flt.eventSeq % 65536)).map (·.status) = some st := by
  simp [State.note]

theorem staleData_drops (s : State) : DropsStale s s.staleData := by
  refine ⟨State.note_stk .., State.note_chs .., State.note_gly .., ?_, ?_, note_status ..⟩
  · rw [State.on, State.staleData, State.rd_note, State.rd_raise_one _ rfl]; rfl
  · rw [State.staleData, State.rd_note, State.rd_raise_ne _ _ (by decide), State.rd_inc]

/-- An H2CData PDU under a tag that is free, or that another connection or CCCID holds, ends in the one stale branch (R62). -/
theorem h2cData_stale {conn ttag cid off : Nat} {data : Bytes} {last d : Bool} (live : (s.conn conn).live = true) (tcp : (s.conn conn).transport = .tcp)
    (serves : s.portServes (s.conn conn).ctx true = true) (short : data.length ≤ maxH2cData)
    (stale : let k := Tab.get ({} : Token) s.stk.tokens ttag; k.slot = none ∨ k.conn ≠ conn ∨ k.cccid ≠ cid) :
    exec (.h2cData conn ttag cid off data last true d) s = .next s.staleData := by
  rw [exec_h2cData]
  unfold execH2cData
  extract_lets c k
  rw [if_neg (by simp [c, live, tcp, serves]), if_neg (by simp), if_neg (Nat.not_lt.2 short)]
  split
  case h_1 => rfl
  case h_2 n held =>
    have other : k.conn ≠ conn ∨ k.cccid ≠ cid := stale.resolve_left (by simp [k, held])
    exact if_pos (.inr other)

/-- ANV_DATA under a tag that is free, or of another generation, ends as stale data (R89). -/
theorem anvData_stale {chan fwdId off tag gen : Nat} {data : Bytes} (hears : Hears s) (serves : s.portServes (chan + 16) true = true)
    (stale : let k := Tab.get ({} : Token) s.stk.tokens tag; k.slot = none ∨ k.gen ≠ gen) :
    exec (.anvData chan fwdId off tag gen data) s = .next (Unheard s 0x22).staleData := by
  rw [exec_anvData, execAnvData, if_neg (by simp [serves]), hear_of_hears hears]
  refine congrArg Host.Outcome.next ?_
  dsimp only
  split
  case h_1 => rfl
  case h_2 n held =>
    have other : (Tab.get ({} : Token) s.stk.tokens tag).gen ≠ gen := stale.resolve_left fun free => by simp [free] at held
    exact if_pos other

end

/-- Settles O60: the token's record is the one that was put, and every stale case ends in the one drop that counts and records it. -/
theorem staleTransferTags : Obligations.StaleTransferTags := by
  unfold Obligations.StaleTransferTags
  refine ⟨fun s n x task stamped going untagged outside tcp own fresh => ?_, fun s _ _ _ _ _ _ _ live tcp serves short stale => ?_,
    fun s _ _ _ _ _ _ hears serves stale => ?_⟩
  · exact ⟨_, tokenIssue_sends_r2t task stamped going untagged outside tcp own fresh, rfl, congrArg (Option.map (·.token)) (issueFresh_task s n x), by
      simp [State.tokenRecord]⟩
  · exact ⟨_, h2cData_stale live tcp serves short stale, staleData_drops s⟩
  · exact ⟨_, anvData_stale hears serves stale, staleData_drops (Unheard s 0x22)⟩

end Sys2Proof.Machine

namespace Sys2Proof.Machine

/-! ## The dump and what follows its seal (R137 to R140, R445, R446) -/

section
variable {s t : State} {d : Dump}

/-! ### The two dump sets -/

theorem dumpSet_congr (a : t.gly.setA = s.gly.setA) (b : t.gly.setB = s.gly.setB) (x : Bool) : t.dumpSet x = s.dumpSet x := by
  cases x
  · exact a
  · exact b

@[simp] theorem dumpSet_wr (s : State) (f : Field) (v : Nat) (x : Bool) : (s.wr f v).dumpSet x = s.dumpSet x := rfl
@[simp] theorem dumpSet_raise (s : State) (f : Field) (m : Nat) (x : Bool) : (s.raise f m).dumpSet x = s.dumpSet x := rfl
@[simp] theorem dumpSet_setDump (s : State) (x : Bool) (v : DumpSet) : (s.setDump x v).dumpSet x = v := by cases x <;> rfl

/-! ### The choice of the set (R140) -/

theorem dumpTarget_released (free : (s.dumpSet false).released = true ∨ (s.dumpSet true).released = true) : (s.dumpSet s.dumpTarget).released = true := by
  change s.gly.setA.released = true ∨ s.gly.setB.released = true at free
  cases a : s.gly.setA.released <;> cases b : s.gly.setB.released
  case false.false => simp [a, b] at free
  case false.true => simp [State.dumpTarget, State.dumpSet, a, b]
  case true.false => simp [State.dumpTarget, State.dumpSet, a, b]
  case true.true => simp only [State.dumpSet]; split <;> assumption

theorem dumpTarget_unreleased (a : (s.dumpSet false).released = false) (b : (s.dumpSet true).released = false) :
    s.dumpTarget = if (s.dumpSet false).sealed && (s.dumpSet true).sealed then decide ((s.dumpSet true).seq < (s.dumpSet false).seq) else (s.dumpSet false).sealed := by
  change s.gly.setA.released = false at a
  change s.gly.setB.released = false at b
  simp [State.dumpTarget, State.dumpSet, a, b]

theorem dumpTarget_unsealed (a : (s.dumpSet false).released = false) (b : (s.dumpSet true).released = false)
    (unsealed : (s.dumpSet false).sealed = false ∨ (s.dumpSet true).sealed = false) : (s.dumpSet s.dumpTarget).sealed = false := by
  cases sealedA : (s.dumpSet false).sealed
  · simp [dumpTarget_unreleased a b, sealedA]
  · have openB : (s.dumpSet true).sealed = false := unsealed.resolve_left (by simp [sealedA])
    simp [dumpTarget_unreleased a b, sealedA, openB]

theorem dumpTarget_older (a : (s.dumpSet false).released = false) (b : (s.dumpSet true).released = false)
    (sealedA : (s.dumpSet false).sealed = true) (sealedB : (s.dumpSet true).sealed = true) : (s.dumpSet s.dumpTarget).seq ≤ (s.dumpSet (!s.dumpTarget)).seq := by
  have target : s.dumpTarget = decide ((s.dumpSet true).seq < (s.dumpSet false).seq) := by simp [dumpTarget_unreleased a b, sealedA, sealedB]
  by_cases lower : (s.dumpSet true).seq < (s.dumpSet false).seq
  · simpa [target, lower] using Nat.le_of_lt lower
  · simpa only [target, lower, decide_false, Bool.not_false] using Nat.not_lt.1 lower

/-! ### The commitment -/

/-- A dump that is not skipped starts its record in the chosen set, under the next sequence, and leaves the other set alone (R138, R140). -/
theorem commitDump_starts (runs : s.dumpSkips = false) (thermal : Bool) : ∃ d, (s.commitDump thermal).gly.dump = some d ∧ d.setB = s.dumpTarget ∧
    ((s.commitDump thermal).dumpSet s.dumpTarget).written = true ∧ ((s.commitDump thermal).dumpSet s.dumpTarget).seq = s.gly.dumpSeq + 1 ∧
      (s.commitDump thermal).dumpSet (!s.dumpTarget) = s.dumpSet (!s.dumpTarget) := by
  generalize commit : s.commitDump thermal = t
  unfold State.commitDump at commit
  generalize s.dumpTarget = x at commit ⊢
  extract_lets skip b e p₁ g₁ p₂ p₃ fm pins p g mirror q at commit
  obtain ⟨seq, setA, setB⟩ : p.gly.dumpSeq = s.gly.dumpSeq ∧ p.gly.setA = s.gly.setA ∧ p.gly.setB = s.gly.setB := ⟨rfl, rfl, rfl⟩
  rw [if_neg (by simp [skip, runs])] at commit
  clear_value p
  split at commit
  extract_lets v at commit
  have chosen : t.dumpSet x = v := by subst commit; cases x <;> rfl
  have other : t.dumpSet (!x) = p.dumpSet (!x) := by subst commit; cases x <;> rfl
  exact ⟨_, congrArg (·.gly.dump) commit.symm, rfl, congrArg DumpSet.written chosen, (congrArg DumpSet.seq chosen).trans (congrArg (· + 1) seq),
    other.trans (dumpSet_congr setA setB _)⟩

theorem dumpCommit_commits {e : SupplyEvent} (supply : s.gly.supply = some e) (guarded : e.guard = true) (out : e.window = none) (due : e.commitAt ≤ s.now) :
    exec .dumpCommit s = .next (s.commitDump false) := by
  simp [execDumpCommit, supply, guarded, out, due]

/-! ### The phases (R138) -/

@[simp] theorem nextSegment_dumpSet (s : State) (d : Dump) (spent : Nat) (x : Bool) : (s.nextSegment d spent).dumpSet x = s.dumpSet x := by
  unfold State.nextSegment
  split
  · rfl
  · dsimp only; split <;> rfl

theorem nextSegment_seals (s : State) (spent : Nat) (done : d.left = []) : (s.nextSegment d spent).gly.dump = some { d with phase := 4 } := by
  simp [State.nextSegment, done]

theorem dumpPhase1_completes (spent : Nat) (dump : s.gly.dump = some d) (goes : d.skipped = false) (phase : d.phase = 1) :
    ∃ t, exec (.dumpPhaseComplete spent) s = .next t ∧ t.dumpSet d.setB = { s.dumpSet d.setB with phase1 := true } ∧ t.gly.dump = some { d with phase := 2 } := by
  have runs : ¬d.skipped = true := by simp [goes]
  refine ⟨_, by simp only [exec_dumpPhaseComplete, execDumpPhaseComplete, dump, if_neg runs, phase]; rfl, ?_, rfl⟩
  generalize d.setB = x
  cases x <;> rfl

theorem dumpPhase2_completes (spent : Nat) (dump : s.gly.dump = some d) (goes : d.skipped = false) (phase : d.phase = 2) :
    exec (.dumpPhaseComplete spent) s =
      .next (((s.setDump d.setB { s.dumpSet d.setB with phase2 := true }).raise F.GLY_DUMP_LAST_PHASES 2).nextSegment d spent) := by
  simp [execDumpPhaseComplete, dump, goes, phase]

theorem dumpSegment_completes (spent : Nat) (dump : s.gly.dump = some d) (goes : d.skipped = false) (phase : d.phase = 3) :
    ∃ t, exec (.dumpPhaseComplete spent) s = .next t ∧ t.dumpSet d.setB = { s.dumpSet d.setB with segments := (s.dumpSet d.setB).segments + 1 } := by
  refine ⟨_, by simp only [exec_dumpPhaseComplete, execDumpPhaseComplete, dump, goes, phase]; rfl, ?_⟩
  simp

/-! ### The seal (R138, R139) -/

/-- After the seal of a dump that heat did not cause, the head falls to Dark, is held in reset or reboots; the set is sealed, or left alone when the dump was skipped. -/
theorem dumpSeal_ends (spent : Nat) (warn rstLow : Bool) (dump : s.gly.dump = some d) (phase : d.phase = 4) (cool : d.thermal = false) :
    ∃ u : State, exec (.dumpSeal spent warn rstLow) s = .next (if warn then u.goDark else if rstLow then u.holdReset 1 else u.reboot 3) ∧
      u.dumpSet d.setB = (if d.skipped then s.dumpSet d.setB else { s.dumpSet d.setB with sealed := true }) ∧ u.upd = s.upd := by
  generalize run : exec (.dumpSeal spent warn rstLow) s = o
  rw [exec_dumpSeal] at run
  unfold execDumpSeal at run
  split at run
  case h_1 idle => simp [dump] at idle
  case h_2 d' found =>
  obtain rfl : d = d' := Option.some.inj (dump.symm.trans found)
  rw [if_neg (by simp [phase])] at run
  extract_lets fm pins p v u at run
  rw [if_neg (by simp [cool])] at run
  refine ⟨u, run.symm.trans (by cases warn <;> cases rstLow <;> rfl), ?_, by unfold u; split <;> rfl⟩
  unfold u
  split
  · rfl
  · simp only [dumpSet_wr, dumpSet_setDump]
    rfl

/-! ### Resets keep the dump sets (R145, R439, R446) -/

@[simp] theorem goDark_dumpSet (s : State) (x : Bool) : s.goDark.dumpSet x = s.dumpSet x := rfl

theorem note_upd (s : State) (src : Block) (e : EventName) (st : Status) (args : List Nat) : (s.note src e st args).upd = s.upd := by
  simp only [State.note, State.logRec, Nat.zero_lt_two, if_true]
  split <;> rfl

/-- Restoring main time writes registers, the clock and records of the time, and leaves the galley and the update unit alone (R404). -/
theorem timeRestore_keeps (s : State) : s.timeRestore.gly = s.gly ∧ s.timeRestore.upd = s.upd := by
  have quality (u : State) (q : Nat) : (u.setQuality q).gly = u.gly ∧ (u.setQuality q).upd = u.upd := by
    unfold State.setQuality
    split
    · exact ⟨rfl, rfl⟩
    · exact ⟨State.note_gly .., note_upd ..⟩
  have following (u : State) (f : Nat) : (u.setFollowing f).gly = u.gly ∧ (u.setFollowing f).upd = u.upd := by
    unfold State.setFollowing
    split
    · exact ⟨rfl, rfl⟩
    · exact ⟨State.note_gly .., note_upd ..⟩
  unfold State.timeRestore
  split
  · exact quality ..
  · exact ⟨(following ..).1.trans (quality ..).1, (following ..).2.trans (quality ..).2⟩

/-- The confirmation period does not run in Forming or Recovery, so that a change to either leaves the update unit alone (R416). -/
theorem toMode_upd (s : State) {m : Mode} (safe : Bool) (paired : m ≠ .paired) (solo : m ≠ .solo) : (s.toMode m safe).upd = s.upd := by
  simp [State.toMode, paired, solo, apply_ite State.upd]

theorem coreReset_dumpSet (s : State) (cause : Nat) (x : Bool) : (s.coreReset cause).dumpSet x = s.dumpSet x := by
  have kept (k : State) : (k.timeRestore.toMode .forming).gly = k.gly := (State.toMode_gly ..).trans (timeRestore_keeps k).1
  exact dumpSet_congr (congrArg Galley.setA (kept _)) (congrArg Galley.setB (kept _)) x

theorem coreReset_upd (s : State) (cause : Nat) : (s.coreReset cause).upd = (s.keep false).upd :=
  (toMode_upd _ _ (by decide) (by decide)).trans (timeRestore_keeps _).2

theorem coreReset_mode (s : State) (cause : Nat) : (s.coreReset cause).fm.mode = .forming := State.toMode_mode ..

/-- RESET_N and a supply that came back are recorded as they are, also where Recovery was asked for (R439). -/
theorem coreReset_cause (s : State) {cause : Nat} (named : cause = 1 ∨ cause = 3) : (s.coreReset cause).rd F.FOR_RESET_CAUSE_CAUSE = cause := by
  unfold State.coreReset
  rw [State.rd_incHeld_ne _ _ (by decide), State.rd_wr]
  rcases named with rfl | rfl <;> simp [F.FOR_RESET_CAUSE_CAUSE, Field.span]

/-- Without an activation pointer, and with Recovery not asked for, a head has no image to boot and goes to Recovery (R139, R415). -/
theorem boot_recovers (no0 : s.upd.ptr0 = none) (no1 : s.upd.ptr1 = none) (unasked : s.upd.recoverNext = false) :
    s.boot = ({ s with fm := { s.fm with powerUp := .released } } : State).enterRecovery := by
  simp [State.boot, unasked, State.bootLoop, State.chooseSlot, State.pointer, no0, no1]

theorem reboot_recovers (cause : Nat) (no0 : s.upd.ptr0 = none) (no1 : s.upd.ptr1 = none) (unasked : s.upd.recoverNext = false) :
    s.reboot cause = ({ s.coreReset cause with fm := { (s.coreReset cause).fm with powerUp := .released } } : State).enterRecovery := by
  have kept := coreReset_upd s cause
  exact boot_recovers ((congrArg Update.ptr0 kept).trans no0) ((congrArg Update.ptr1 kept).trans no1) ((congrArg Update.recoverNext kept).trans unasked)

/-! ### Where the end of the dump leads (R139, R445, R446) -/

theorem dumpSeal_dark (spent : Nat) (rstLow : Bool) (dump : s.gly.dump = some d) (phase : d.phase = 4) (goes : d.skipped = false) (cool : d.thermal = false) :
    ∃ t, exec (.dumpSeal spent true rstLow) s = .next t ∧ (t.dumpSet d.setB).sealed = true ∧ t.fm.mode = .dark ∧ t.gly.dump = none := by
  obtain ⟨u, ends, wrote, -⟩ := dumpSeal_ends spent true rstLow dump phase cool
  exact ⟨_, ends, by simp [wrote, goes], rfl, rfl⟩

theorem dumpSeal_resets (spent : Nat) (dump : s.gly.dump = some d) (phase : d.phase = 4) (goes : d.skipped = false) (cool : d.thermal = false) :
    ∃ t, exec (.dumpSeal spent false true) s = .next t ∧ (t.dumpSet d.setB).sealed = true ∧ t.fm.mode = .forming ∧ t.fm.powerUp = .mainOn ∧
      t.rd F.FOR_RESET_CAUSE_CAUSE = 1 := by
  obtain ⟨u, ends, wrote, -⟩ := dumpSeal_ends spent false true dump phase cool
  refine ⟨u.holdReset 1, ends, ?_, coreReset_mode u 1, rfl, coreReset_cause u (.inl rfl)⟩
  have held : (u.holdReset 1).dumpSet d.setB = u.dumpSet d.setB := coreReset_dumpSet u 1 _
  simp [held, wrote, goes]

theorem dumpSeal_recovers (spent : Nat) (dump : s.gly.dump = some d) (phase : d.phase = 4) (skips : d.skipped = true) (cool : d.thermal = false)
    (no0 : s.upd.ptr0 = none) (no1 : s.upd.ptr1 = none) (unasked : s.upd.recoverNext = false) :
    ∃ t, exec (.dumpSeal spent false false) s = .next t ∧ t.dumpSet d.setB = s.dumpSet d.setB ∧ t.fm.mode = .recovery ∧ t.rd F.FOR_RESET_CAUSE_CAUSE = 3 := by
  obtain ⟨u, ends, wrote, upd⟩ := dumpSeal_ends spent false false dump phase cool
  rw [← upd] at no0 no1 unasked
  refine ⟨u.reboot 3, ends, ?_, ?_, ?_⟩ <;> rw [reboot_recovers 3 no0 no1 unasked, State.enterRecovery]
  · have kept (k : State) : (k.toMode .recovery).dumpSet d.setB = k.dumpSet d.setB := by simp [State.dumpSet]
    exact (kept _).trans ((coreReset_dumpSet u 3 _).trans (by simp [wrote, skips]))
  · exact State.toMode_mode ..
  · exact (State.rd_toMode _ _ _ _ (by decide) (by decide) (by decide)).trans (coreReset_cause u (.inr rfl))

end

/-- Settles O16: the set that is chosen is the one the record starts in, each mark goes into that set, and every way on from the seal keeps both sets. -/
theorem dumpPhases : Obligations.DumpPhases := by
  unfold Obligations.DumpPhases
  refine ⟨fun s e supply guarded out due runs => ?_, fun s d spent dump goes phase => ?_, fun s d spent dump goes phase done => ?_,
    fun s d spent n rest dump goes phase _ => ?_, fun _ _ spent rstLow dump phase goes cool => dumpSeal_dark spent rstLow dump phase goes cool,
    fun _ _ spent dump phase goes cool => dumpSeal_resets spent dump phase goes cool,
    fun _ _ spent dump phase skips cool no0 no1 unasked => dumpSeal_recovers spent dump phase skips cool no0 no1 unasked⟩
  · obtain ⟨d, dump, target, written, seq, other⟩ := commitDump_starts runs false
    rw [← target] at written seq other
    exact ⟨_, d, dumpCommit_commits supply guarded out due, dump, written, seq, other, target ▸ dumpTarget_released, target ▸ dumpTarget_unsealed, target ▸ dumpTarget_older⟩
  · obtain ⟨t, completes, marked, next⟩ := dumpPhase1_completes spent dump goes phase
    exact ⟨t, completes, by simp [marked], next⟩
  · exact ⟨_, dumpPhase2_completes spent dump goes phase, by simp, nextSegment_seals _ spent done⟩
  · obtain ⟨t, completes, counted⟩ := dumpSegment_completes spent dump goes phase
    exact ⟨t, completes, by simp [counted]⟩

end Sys2Proof.Machine

namespace Sys2Proof.Machine

/-! ## The guard of forwarded data (R158) -/

/-- The command `x` in slot `n` waits for forwarded data under the tag of token `k`, and a forward of this ID on this channel brought it (R88, R348). -/
structure AwaitsForward (s : State) (chan fwdId tag n : Nat) (k : Token) (x : Task) : Prop where
  serves : s.portServes (chan + 16) true = true
  token : Tab.get ({} : Token) s.stk.tokens tag = k
  slot : k.slot = some n
  task : s.task? n = some x
  ctx : x.ctx = chan + 16
  fwd : x.fwdId = fwdId
  op : x.cmd.op ≠ .fusedWrite

/-- The bytes that a command keeps when, of the data that arrived at `off`, only what stands before `from_` is good. -/
def goodData (x : Task) (off from_ : Nat) (data : Bytes) : Bytes :=
  if from_ ≤ off then x.data.take from_ else overlay x.data off (data.take (from_ - off))

/-- A failure on the link is counted, and the token of the command waits for the bytes from `from_` on again (R158). -/
def State.markAgain (s : State) (tag : Nat) (k : Token) (from_ : Nat) : State :=
  let s := (s.inc F.PRF_INGEST_CNT_ANVIL).raise F.PRF_INT_STATUS_INGEST
  { s with stk := { s.stk with tokens := Tab.put s.stk.tokens tag { k with next := from_, again := true } } }

section
variable {s : State} {chan fwdId tag n off from_ : Nat} {data : Bytes} {k : Token} {x : Task}

theorem fwdBase_of_not_fusedWrite (s : State) (op : x.cmd.op ≠ .fusedWrite) : s.fwdBase x = 0 := if_neg op

theorem modTask_of_task (task : s.task? n = some x) (f : Task → Task) : s.modTask n f = s.setTask n (f x) := by
  simp [State.modTask, task]

/-! ### What asking again marks -/

@[simp] theorem markAgain_token (s : State) (tag : Nat) (k : Token) (from_ : Nat) :
    Tab.get ({} : Token) (s.markAgain tag k from_).stk.tokens tag = { k with next := from_, again := true } := Tab.get_put ..

theorem rd_markAgain (s : State) (tag : Nat) (k : Token) (from_ : Nat) {f : Field} (other : f.key ≠ F.PRF_INT_STATUS_INGEST.key) :
    (s.markAgain tag k from_).rd f = (s.inc F.PRF_INGEST_CNT_ANVIL).rd f := State.rd_raise_ne _ _ other

/-- The failure is counted in PRF_INGEST_CNT. -/
theorem markAgain_counts (s : State) (tag : Nat) (k : Token) (from_ : Nat) :
    (s.markAgain tag k from_).rd F.PRF_INGEST_CNT_ANVIL = (s.rd F.PRF_INGEST_CNT_ANVIL + 1) % F.PRF_INGEST_CNT_ANVIL.span :=
  (rd_markAgain s tag k from_ (by decide)).trans (State.rd_inc ..)

theorem markAgain_talks (talks : Talks s) : Talks (s.markAgain tag k from_) := by
  obtain ⟨enabled, alive, dump⟩ := talks
  refine ⟨?_, alive, dump⟩
  rw [State.on, rd_markAgain _ _ _ _ (by decide), State.rd_inc_ne _ _ (by decide)]
  exact enabled

/-! ### Data that is kept -/

/-- Data in order, short of the end of its command, goes into the command and moves its token on (R90). -/
theorem tokenData_in_order (task : s.task? n = some x) (token : Tab.get ({} : Token) s.stk.tokens tag = k) (next : k.next = off)
    (short : off + data.length < x.need) (asked : x.need ≤ k.stop) :
    s.tokenData tag n off data false = { s with stk := { s.stk with
      slots := Tab.put s.stk.slots n { x with data := overlay x.data off data }
      tokens := Tab.put s.stk.tokens tag { k with next := off + data.length } } } := by
  unfold State.tokenData
  rw [task]
  dsimp only
  rw [token, if_neg (by simp [next]), if_neg (by omega), if_neg (by omega), if_neg (by simp), if_neg (by omega)]
  rfl

/-- The good blocks before a bad one are kept, and nothing outside Stick changes. -/
theorem good_blocks_kept (data : Bytes) (task : s.task? n = some x) (token : Tab.get ({} : Token) s.stk.tokens tag = k) (next : k.next = off)
    (asked : x.need ≤ k.stop) (inside : from_ < x.need) :
    ∃ stk, (if from_ ≤ off then s.modTask n fun t => { t with data := t.data.take from_ } else s.tokenData tag n off (data.take (from_ - off)) false) =
      { s with stk := stk } ∧ Tab.find stk.slots n = some { x with data := goodData x off from_ data } := by
  unfold goodData
  split
  · exact ⟨_, modTask_of_task task _, Tab.find_put ..⟩
  · have short : off + (data.take (from_ - off)).length < x.need := by
      rw [List.length_take]; omega
    exact ⟨_, tokenData_in_order task token next short asked, Tab.find_put ..⟩

/-! ### ANV_DATA for a command that waits for it -/

/-- That a message leaves the inbox changes nothing of what a command waits for. -/
theorem AwaitsForward.unheard (waits : AwaitsForward s chan fwdId tag n k x) (type : Nat) : AwaitsForward (Unheard s type) chan fwdId tag n k x :=
  ⟨waits.serves, waits.token, waits.slot, waits.task, waits.ctx, waits.fwd, waits.op⟩

/-- The tag leads ANV_DATA to the slot of the command that waits. -/
theorem AwaitsForward.finds (waits : AwaitsForward s chan fwdId tag n k x) :
    (k.slot.filter fun m => (s.task? m).any fun t => t.ctx == chan + 16 && t.fwdId == fwdId) = some n := by
  simp [waits.slot, waits.task, waits.ctx, waits.fwd]

/-- Beyond the byte that was asked for again, data has no effect until that byte comes. -/
theorem anvData_beyond_asked (hears : Hears s) (waits : AwaitsForward s chan fwdId tag n k x) (again : k.again = true) (beyond : k.next < off) :
    exec (.anvData chan fwdId off tag k.gen data) s = .next (Unheard s 0x22) := by
  rw [exec_anvData, execAnvData, if_neg (by simp [waits.serves]), hear_of_hears hears]
  replace waits := waits.unheard 0x22
  generalize Unheard s 0x22 = u at waits ⊢
  simp only [waits.token, waits.finds, waits.task, fwdBase_of_not_fusedWrite _ waits.op]
  simp [again, beyond]

/-- A block whose guard fails on the link: the good blocks before it are kept, and the data from it on is asked for again (R158). -/
theorem anvData_bad_block {v : Volume} {i : Nat} (talks : Talks s) (waits : AwaitsForward s chan fwdId tag n k x) (fresh : k.again = false)
    (next : k.next = off) (asked : x.need ≤ k.stop) (vol : v = s.volOf x.cmd.nsid)
    (bad : linkFail v x (overlay x.data off data) off (min (off + data.length) x.need) = some i)
    (start : from_ = i * (lbafData v.lbaf + if v.ext = true then lbafMeta v.lbaf else 0)) (inside : from_ < x.need) :
    ∃ stk, Tab.find stk.slots n = some { x with data := goodData x off from_ data } ∧
      exec (.anvData chan fwdId off tag k.gen data) s =
        .next ((State.markAgain { Unheard s 0x22 with stk := stk } tag k from_).send (.anv .dataReq chan [fwdId, from_, x.need - from_, tag, k.gen] [])) := by
  rw [exec_anvData, execAnvData, if_neg (by simp [waits.serves]), hear_of_hears talks.2]
  replace talks : Talks (Unheard s 0x22) := talks
  replace vol : v = (Unheard s 0x22).volOf x.cmd.nsid := vol
  replace waits := waits.unheard 0x22
  generalize Unheard s 0x22 = u at talks vol waits ⊢
  obtain ⟨stk, kept, found⟩ := good_blocks_kept (s := { u with stk := { u.stk with tokens := Tab.put u.stk.tokens tag { k with again := false } } })
    data waits.task (Tab.get_put ..) next asked inside
  obtain ⟨enabled, alive, dump⟩ := markAgain_talks (s := { u with stk := stk }) (tag := tag) (k := k) (from_ := from_) talks
  refine ⟨stk, found, ?_⟩
  simp only [waits.token, waits.finds, waits.task, fwdBase_of_not_fusedWrite _ waits.op, fresh, ← vol, Nat.sub_zero, Nat.zero_add, bad, ← start, kept]
  rw [if_neg (by simp), if_neg (by simp)]
  exact congrArg Host.Outcome.next (anvil_sends chan _ [] dump (.inl ⟨enabled, alive⟩))

/-! ### PIECE_PUBLISH -/

/-- A command whose data is not complete is not published (R105, R158). -/
theorem publishTask_incomplete (task : s.task? n = some x) (going : x.complete = false) : s.publishTask n = s := by
  simp [State.publishTask, task, going]

/-- A piece of a command is published with its command only. -/
theorem piecePublish_incomplete {d : Nat} {p : Piece} (piece : Tab.find s.gly.own d = some p) (own : p.repl = none) (of : p.task = some n)
    (task : s.task? n = some x) (going : x.complete = false) : exec (.piecePublish d) s = .next s := by
  rw [exec_piecePublish, execPiecePublish]
  split
  · rfl
  · simp only [piece, own, of, publishTask_incomplete task going]

end

/-- Settles O59: a bad block keeps the good ones before it and marks its token for the rest, a marked token takes nothing beyond what it asked for, and publication looks at the whole command. -/
theorem linkGuardChecks : Obligations.LinkGuardChecks := by
  unfold Obligations.LinkGuardChecks
  refine ⟨fun s chan fwdId off tag n i from_ data k x v talks serves token slot fresh task ctx fwd op next _ asked vol bad start inside => ?_,
    fun s _ _ _ _ _ _ _ _ hears serves token slot again task ctx fwd op beyond => anvData_beyond_asked hears ⟨serves, token, slot, task, ctx, fwd, op⟩ again beyond,
    fun s _ _ _ _ piece own of task going => piecePublish_incomplete piece own of task going⟩
  obtain ⟨stk, found, ends⟩ := anvData_bad_block talks ⟨serves, token, slot, task, ctx, fwd, op⟩ fresh next asked vol bad start inside
  exact ⟨_, ends, congrArg (Option.map (·.state)) found, congrArg (Option.map (·.data)) found,
    congrArg Token.next (markAgain_token ..), congrArg Token.again (markAgain_token ..), markAgain_counts _ tag k from_, rfl⟩

end Sys2Proof.Machine

namespace Sys2Proof.Machine

/-! ## Power-up, boots, wakes and the loss of the standby supply (R400, R415, R445, R452, Table 22.3) -/

/-- What choosing and starting an image keeps: the mode, and how far the head has come in Table 22.3. -/
structure SameStage (s t : State) : Prop where
  mode : t.fm.mode = s.fm.mode
  powerUp : t.fm.powerUp = s.fm.powerUp

/-- Where a boot may leave the head: with the stage of power-up given, in Forming or in Recovery (R44, R419). -/
structure Booted (p : PowerUp) (t : State) : Prop where
  powerUp : t.fm.powerUp = p
  mode : t.fm.mode = .forming ∨ t.fm.mode = .recovery

/-- What the repairs of a wake keep: the power state, and the wake source that PWR_STATE shows. -/
structure SameWake (s t : State) : Prop where
  state : t.pwr.state = s.pwr.state
  source : t.rd F.PWR_STATE_LAST_WAKE = s.rd F.PWR_STATE_LAST_WAKE

section
variable {s t u : State}

/-! ### The stage of power-up -/

theorem SameStage.of_fm (h : t.fm = s.fm) : SameStage s t := ⟨congrArg Foreman.mode h, congrArg Foreman.powerUp h⟩

theorem SameStage.trans (h : SameStage s t) (k : SameStage t u) : SameStage s u := ⟨k.mode.trans h.mode, k.powerUp.trans h.powerUp⟩

theorem SameStage.fm (h : SameStage s t) (k : u.fm = t.fm) : SameStage s u := h.trans (.of_fm k)

theorem toMode_powerUp (s : State) (m : Mode) (safe : Bool) : (s.toMode m safe).fm.powerUp = s.fm.powerUp := by
  simp only [State.toMode]
  split
  · rfl
  · split <;> rfl

theorem setQuality_fm (s : State) (q : Nat) : (s.setQuality q).fm = s.fm := by
  unfold State.setQuality
  split
  · rfl
  · exact State.note_fm ..

theorem setFollowing_fm (s : State) (f : Nat) : (s.setFollowing f).fm = s.fm := by
  unfold State.setFollowing
  split
  · rfl
  · exact State.note_fm ..

theorem timeRestore_fm (s : State) : s.timeRestore.fm = s.fm := by
  unfold State.timeRestore
  split
  · exact setQuality_fm ..
  · exact (setFollowing_fm ..).trans (setQuality_fm ..)

theorem coreReset_powerUp (s : State) (cause : Nat) : (s.coreReset cause).fm.powerUp = s.fm.powerUp := by
  have kept (k : State) : (k.timeRestore.toMode .forming).fm.powerUp = k.fm.powerUp :=
    (toMode_powerUp ..).trans (congrArg Foreman.powerUp (timeRestore_fm k))
  exact kept _

/-! ### Booting (R415, R419) -/

theorem enterRecovery_booted (s : State) : Booted s.fm.powerUp s.enterRecovery := ⟨toMode_powerUp .., .inr (State.toMode_mode ..)⟩

/-- The choice of the slot writes the update unit alone. -/
theorem chooseSlot_fm (s : State) : s.chooseSlot.2.fm = s.fm := by
  unfold State.chooseSlot
  split
  · rfl
  · extract_lets _ s₁ _ p₁ _ p₂
    have idle : s₁.fm = s.fm := by unfold s₁; split <;> rfl
    split
    rename_i q s₂ pointer
    have trial : s₂.fm = s₁.fm := by
      split at pointer <;> cases pointer <;> rfl
    dsimp only
    repeat' split
    all_goals exact trial.trans idle

theorem SameStage.takeForme {f : Forme} (h : SameStage s t) : SameStage s (t.takeForme f) := by
  unfold State.takeForme
  extract_lets off _ s₁ s₂ s₃ s₄ s₅ s₆
  have taken : SameStage s s₃ := h.trans ⟨rfl, rfl⟩
  have refused : SameStage s s₄ := keeps_ite (taken.fm (State.alarm_fm ..)) taken
  have noted : SameStage s s₅ := keeps_ite (refused.fm (State.note_fm ..)) refused
  have addressed : SameStage s s₆ := keeps_ite (noted.trans ⟨rfl, rfl⟩) noted
  exact keeps_foldl (fun _ _ k => k.fm rfl) addressed

theorem startImage_stage (s : State) : SameStage s s.startImage.2 := by
  unfold State.startImage
  extract_lets b x c _ s₁ s₂ fw raw waits _ s₃
  have hashed : SameStage s s₁ := .of_fm rfl
  have shown : SameStage s s₂ := keeps_ite (hashed.fm (State.alarm_fm ..)) hashed
  have taken : SameStage s s₃ := shown.trans ⟨rfl, rfl⟩
  split
  · exact taken
  · exact SameStage.takeForme (keeps_ite (taken.fm rfl) taken)

/-- A head that boots in Forming stays there or enters Recovery: each failed trial is a reset into Forming (R415). -/
theorem bootLoop_booted (n : Nat) {s : State} (forming : s.fm.mode = .forming) : Booted s.fm.powerUp (s.bootLoop n) := by
  induction n generalizing s with
  | zero => exact enterRecovery_booted s
  | succ n ih =>
    have again {t : State} (h : SameStage s t) : Booted s.fm.powerUp ((t.coreReset 5).bootLoop n) := by
      have powerUp : (t.coreReset 5).fm.powerUp = s.fm.powerUp := (coreReset_powerUp ..).trans h.powerUp
      exact powerUp ▸ ih (coreReset_mode ..)
    have recovers {t : State} (h : SameStage s t) : Booted s.fm.powerUp t.enterRecovery := h.powerUp ▸ enterRecovery_booted t
    have chosen : SameStage s s.chooseSlot.2 := .of_fm (chooseSlot_fm s)
    unfold State.bootLoop
    split
    · rename_i choice
      rw [choice] at chosen
      exact recovers chosen
    · rename_i choice
      rw [choice] at chosen
      exact again chosen
    · rename_i t choice
      rw [choice] at chosen
      have started : SameStage s t.startImage.2 := chosen.trans (startImage_stage t)
      split
      · rename_i image
        rw [image] at started
        exact ⟨started.powerUp, .inl (started.mode.trans forming)⟩
      · rename_i image
        rw [image] at started
        extract_lets rejected
        have rejects : SameStage s rejected := started.fm (State.alarm_fm ..)
        split
        · exact again rejects
        · exact recovers rejects

theorem boot_booted (forming : s.fm.mode = .forming) : Booted .released s.boot := by
  unfold State.boot
  extract_lets _ released asked
  split
  · exact enterRecovery_booted { released with upd := { asked with recoverNext := false } }
  · exact bootLoop_booted 8 (s := released) forming

theorem release1_booted (asleep : s.fm.mode = .dark ∨ s.fm.mode = .forming) : Booted .released s.release1 := by
  unfold State.release1
  refine boot_booted ?_
  split
  case isTrue => rfl
  case isFalse lit => exact asleep.resolve_left lit

/-- Without an activation pointer, and with Recovery not asked for, the release of the core leads to Recovery (R415). -/
theorem release1_recovers (no0 : s.upd.ptr0 = none) (no1 : s.upd.ptr1 = none) (unasked : s.upd.recoverNext = false) :
    s.release1.fm.powerUp = .released ∧ s.release1.fm.mode = .recovery := by
  unfold State.release1
  extract_lets _ _ _ u
  have upd : u.upd = s.upd := by unfold u; split <;> rfl
  rw [boot_recovers (upd ▸ no0) (upd ▸ no1) (upd ▸ unasked)]
  exact ⟨toMode_powerUp .., State.toMode_mode ..⟩

/-! ### CORE_RESET_RELEASE and POWER_WARN_N_DEASSERT (R445) -/

theorem coreResetRelease_releases (on : s.fm.powerUp = .mainOn) :
    ∃ u : State, exec (.coreResetRelease false) s = .next u.release1 ∧ u.fm.mode = s.fm.mode ∧ u.upd = s.upd :=
  ⟨_, (if_neg fun off => off on).trans (if_neg Bool.false_ne_true), rfl, rfl⟩

theorem coreResetRelease_waits (on : s.fm.powerUp = .mainOn) :
    ∃ t, exec (.coreResetRelease true) s = .next t ∧ t.fm.powerUp = .heldByWarn ∧ t.fm.mode = s.fm.mode :=
  ⟨_, (if_neg fun off => off on).trans (if_pos rfl), rfl, rfl⟩

theorem powerWarnNDeassert_releases (held : s.fm.powerUp = .heldByWarn) :
    ∃ u : State, exec .powerWarnNDeassert s = .next u.release1 ∧ u.fm.mode = s.fm.mode :=
  ⟨_, if_pos held, rfl⟩

/-! ### Waking from Banked (R394 to R396) -/

theorem SameWake.refl : SameWake s s := ⟨rfl, rfl⟩

theorem SameWake.trans (h : SameWake s t) (k : SameWake t u) : SameWake s u := ⟨k.state.trans h.state, k.source.trans h.source⟩

theorem SameWake.fields (h : SameWake s t) (pwr : u.pwr.state = t.pwr.state) (flds : u.flds = t.flds) : SameWake s u :=
  h.trans ⟨pwr, State.rd_congr flds _⟩

theorem SameWake.wr {f : Field} {v : Nat} (h : SameWake s t) (other : F.PWR_STATE_LAST_WAKE.key ≠ f.key := by decide) : SameWake s (t.wr f v) :=
  h.trans ⟨rfl, State.rd_wr_ne _ _ other⟩

theorem SameWake.logRec {src : Block} {sev : Nat} {e : EventName} {st : Status} {ch : Chan} {args : List Nat} (h : SameWake s t) :
    SameWake s (t.logRec src sev e st ch args) :=
  h.trans ⟨congrArg Power.state (State.logRec_pwr ..), State.rd_logRec _ _ _ _ _ _ _ _ (by decide) (by decide) (by decide)⟩

theorem SameWake.toMode {m : Mode} {safe : Bool} (h : SameWake s t) : SameWake s (t.toMode m safe) :=
  h.trans ⟨congrArg Power.state (State.toMode_pwr ..), State.rd_toMode _ _ _ _ (by decide) (by decide) (by decide)⟩

theorem SameWake.setHalf {b : Bool} {v : Half} (h : SameWake s t) : SameWake s (t.setHalf b v) := h.fields rfl rfl

theorem SameWake.modModule {m : Nat} {f : Mod → Mod} (h : SameWake s t) : SameWake s (t.modModule m f) := h.fields rfl rfl

theorem SameWake.gmpSend {m : Nat} {c : GmpCmd} {data : Bytes} {use : GmpUse} {media : MediaResult} (h : SameWake s t) :
    SameWake s (t.gmpSend m c data use media) := by
  obtain ⟨_, _, _, sent⟩ : Posted t (t.gmpSend m c data use media) := Posted.refl.gmpSend
  rw [sent]
  exact h.fields rfl rfl

theorem SameWake.portsUp (h : SameWake s t) : SameWake s t.portsUp := SameWake.wr (h.fields rfl rfl)

theorem SameWake.setQuality {q : Nat} (h : SameWake s t) : SameWake s (t.setQuality q) :=
  keeps_ite h (SameWake.logRec (SameWake.wr (SameWake.wr h)))

theorem SameWake.setFollowing {f : Nat} (h : SameWake s t) : SameWake s (t.setFollowing f) :=
  keeps_ite h (SameWake.logRec (SameWake.wr h))

theorem SameWake.timeRestore (h : SameWake s t) : SameWake s t.timeRestore := by
  unfold State.timeRestore
  split
  · exact SameWake.setQuality (SameWake.wr (SameWake.wr (h.fields rfl rfl)))
  · extract_lets e d s₁ _ s₂ s₃
    have set : SameWake s s₁ := SameWake.wr h
    have runs : SameWake s s₂ := set.fields rfl rfl
    have rated : SameWake s s₃ := SameWake.wr (SameWake.wr runs)
    exact SameWake.wr rated.setQuality.setFollowing

/-- A bank that lost its content is rebuilt outside PWR (Table 18.4). -/
theorem SameWake.rebuildBank {k : Nat} (h : SameWake s t) : SameWake s (t.rebuildBank k) := by
  refine keeps_ite (h.fields rfl rfl) (keeps_ite ?_ (keeps_ite h.setHalf (keeps_ite ?_ (keeps_ite (h.fields rfl rfl) h))))
  · exact SameWake.wr (SameWake.wr (h.fields rfl rfl))
  · exact keeps_foldl (fun _ _ k => SameWake.gmpSend (SameWake.gmpSend (SameWake.modModule k))) h

theorem SameWake.retention {bad : List Nat} (h : SameWake s t) : SameWake s (t.retention bad) :=
  keeps_foldl (fun _ _ k => SameWake.rebuildBank (SameWake.logRec (SameWake.wr (SameWake.wr (SameWake.wr k))))) h

/-- A wake from Banked leads to Run and to Paired, and PWR_STATE names its source. -/
theorem wakeUp_banked (sleeps : s.pwr.state = .sleep) {code : Nat} (fits : code < F.PWR_STATE_LAST_WAKE.span) (bad : List Nat) :
    (s.wakeUp code bad).fm.mode = .paired ∧ (s.wakeUp code bad).pwr.state = .run ∧ (s.wakeUp code bad).rd F.PWR_STATE_LAST_WAKE = code := by
  generalize woken : s.wakeUp code bad = t
  unfold State.wakeUp at woken
  rw [if_neg (by simp [sleeps])] at woken
  extract_lets deep _ s₁ s₂ s₃ _ s₄ _ _ _ s₅ own _ _ _ _ _ due s₆ _ at woken
  rw [if_neg (by simp [deep, sleeps])] at woken
  have shown : s₂.rd F.PWR_STATE_LAST_WAKE = code := (State.rd_raise_ne _ _ (by decide)).trans (State.rd_wr_lt _ fits)
  have restored : SameWake s₂ s₃ := SameWake.refl.timeRestore.retention
  have spent : SameWake s₂ s₄ := restored.fields rfl rfl
  have up : SameWake s₂ s₅ := spent.portsUp.fields rfl rfl
  have listed : SameWake s₂ s₆ := up.fields rfl rfl
  have paired : SameWake s₂ t := woken ▸ listed.setHalf.toMode
  exact ⟨woken ▸ State.toMode_mode .., paired.state, paired.source.trans shown⟩

theorem wakeNLow_wakes (released : s.fm.powerUp = .released) (banked : s.fm.mode = .banked) (sleeps : s.pwr.state = .sleep) (bad : List Nat) :
    exec (.wakeNLow bad) s = .next (s.wakeUp 1 bad) := by
  simp [execWakeNLow, State.awake, State.wakeSource, released, banked, sleeps]

/-! ### The loss of the standby supply (R400) -/

/-- No register keeps its value in Dark, so that each reads at reset. -/
theorem goDark_rd (s : State) (f : Field) : s.goDark.rd f = f.reset := rfl

end

/-- Settles O12: each step of Table 22.3 waits for the one before it, a boot ends in Forming or Recovery by induction on its passes, and neither the repairs of a wake nor the fall to Dark touch what is claimed to stand. -/
theorem powerUpSequence : Obligations.PowerUpSequence := by
  unfold Obligations.PowerUpSequence
  refine ⟨fun s addr off => ?_, fun s addr on => ?_, fun s standby => ?_, fun s on asleep => ?_, fun s on unasked no0 no1 => ?_, fun s on => ?_,
    fun s held asleep => ?_, fun s bad waits => ?_, fun s bad released banked sleeps => ?_, fun s => ?_⟩
  · simp [execStandbySupplyUp, off]
  · simp [execStandbySupplyUp, on]
  · simp [execMainPwrEnAssert, standby]
  · obtain ⟨u, releases, mode, -⟩ := coreResetRelease_releases on
    have booted := release1_booted (mode ▸ asleep)
    exact ⟨_, releases, booted.powerUp, booted.mode⟩
  · obtain ⟨u, releases, -, upd⟩ := coreResetRelease_releases on
    exact ⟨_, releases, release1_recovers (upd ▸ no0) (upd ▸ no1) (upd ▸ unasked)⟩
  · exact coreResetRelease_waits on
  · obtain ⟨u, releases, mode⟩ := powerWarnNDeassert_releases held
    have booted := release1_booted (mode ▸ asleep)
    exact ⟨_, releases, booted.powerUp, booted.mode⟩
  · exact ⟨_, if_pos waits, rfl, rfl⟩
  · exact ⟨_, wakeNLow_wakes released banked sleeps bad, wakeUp_banked sleeps (by decide) bad⟩
  · exact ⟨_, rfl, rfl, rfl, goDark_rd s, rfl, rfl, rfl, rfl⟩

end Sys2Proof.Machine
